-- ==== Sys2Proof/Word.lean ====
section
/-! DEFINITION. The byte of the control link and the gauge link. All other quantities of the ZT-460 are
integers in the units of spec/00_scope.md ("All quantities are integers in the units above"). -/

namespace Sys2Proof

/-- One byte of a frame (R181, R90). -/
abbrev Byte := BitVec 8

end Sys2Proof
end

