-- ==== Sys2Proof/Config.lean ====
section
/-! DEFINITION. What the part fixes (R191, R154, R180) and the free values of the model. -/

namespace Sys2Proof.Config

/-- The ring holds at most 1,024 records (R154). -/
abbrev ringCapacity : Nat := 1024

/-- The reply queue holds at most 4 replies (R180). -/
abbrev replyCapacity : Nat := 4

/-- The largest payload of a frame (R181, R191). -/
abbrev maxPayload : Nat := 512

/-- FREE VALUE, DESIGN CHOICE (log 27): R154 gives the decimation counter the range 0 to 4,294,967,295 and no rule
says what it holds after a point offered at the largest value. Nothing constrains this constant; the state numbers
the values taken from it. -/
opaque decimationPastEnd : Nat → Nat

end Sys2Proof.Config
end

