-- ==== Sys2Proof/Syntax.lean ====
section
/-! DEFINITION. The commands the ZT-460 takes: one constructor per row of spec/opcode_table.json, with the row's
operands. What comes from outside with an event (the bridge result, a line's level, a reply's bytes, a request's tag
and payload) is an operand of the command (DESIGN CHOICE, log 38). -/

namespace Sys2Proof

/-- The four safety inputs, in the order of R178. -/
inductive SafetyInput
  | estop | guardOpen | upperLimit | lowerLimit
deriving DecidableEq, Repr

/-- A line level of R167: a closed contact reads INACTIVE, an open one ASSERTED. -/
inductive Level
  | asserted | inactive
deriving DecidableEq, Repr

/-- One value for each safety input. -/
structure PerInput (α : Type) where
  estop : α
  guardOpen : α
  upperLimit : α
  lowerLimit : α
deriving DecidableEq, Repr

/-- The raw levels of the four safety inputs at one sample (R168, R178). -/
abbrev SafetyLevels := PerInput Level

/-- An extensometer head, named by its position: FRONT has gauge-link address 1, REAR address 2. -/
inductive Head
  | front | rear
deriving DecidableEq, Repr

/-- What the part takes in when a bridge conversion completes (R68) and the point's lines are sampled: the bridge
result in counts before saturation, the readback converter's code (R59), DRIVE_READY (R45, R47) and DRIVE_FAULT
(R170). -/
structure Conversion where
  count : Int
  readback : Int
  driveReady : Bool
  driveFault : Bool
deriving DecidableEq, Repr

/-- The commands, one constructor per row of the opcode table. -/
inductive Instr
  | powerOnReset (raw : SafetyLevels)
  | restartTakesEffect (raw : SafetyLevels)
  | controlLinkByte (b : Byte) (stopBit : Bool)
  | interbyteTimeout
  | replySent (raw : SafetyLevels)
  | unknownKind (kind tag : Byte) (payload : List Byte)
  | identify (tag : Byte) (payload : List Byte)
  | status (tag : Byte) (payload : List Byte)
  | readCounters (tag : Byte) (payload : List Byte)
  | configureFrame (tag : Byte) (payload : List Byte)
  | configureClassifier (tag : Byte) (payload : List Byte)
  | configureHeads (tag : Byte) (payload : List Byte)
  | loadCalibration (tag : Byte) (payload : List Byte)
  | setSpecimen (tag : Byte) (payload : List Byte)
  | beginProgram (tag : Byte) (payload : List Byte)
  | programSegments (tag : Byte) (payload : List Byte)
  | readProgramState (tag : Byte) (payload : List Byte)
  | clearVisited (tag : Byte) (payload : List Byte)
  | setHoldPoints (tag : Byte) (payload : List Byte)
  | startTest (tag : Byte) (payload : List Byte)
  | pause (tag : Byte) (payload : List Byte)
  | resume (tag : Byte) (payload : List Byte)
  | abort (tag : Byte) (payload : List Byte)
  | enableDrive (tag : Byte) (payload : List Byte)
  | disableDrive (tag : Byte) (payload : List Byte)
  | move (tag : Byte) (payload : List Byte)
  | returnMove (tag : Byte) (payload : List Byte)
  | stopMove (tag : Byte) (payload : List Byte)
  | tare (tag : Byte) (payload : List Byte)
  | headCommand (tag : Byte) (payload : List Byte)
  | headStatus (tag : Byte) (payload : List Byte)
  | removeExtensometer (tag : Byte) (payload : List Byte)
  | readSamples (tag : Byte) (payload : List Byte)
  | release (tag : Byte) (payload : List Byte)
  | readResults (tag : Byte) (payload : List Byte)
  | queryAttention (tag : Byte) (payload : List Byte)
  | acknowledge (tag : Byte) (payload : List Byte)
  | setMask (tag : Byte) (payload : List Byte)
  | clearTrip (tag : Byte) (payload : List Byte)
  | restart (tag : Byte) (payload : List Byte)
  | conversionComplete (c : Conversion)
  | levelTimerExpiry
  | unrestTimerExpiry
  | downRangeCountReached
  | enableWaitExpiry (driveReady : Bool)
  | tareWaitTimeout
  | startTareTimeout
  | readbackMismatchLimit
  | paceDelayExpiry
  | safetyInputAsserted (i : SafetyInput)
  | safetyInputReleased (i : SafetyInput)
  | pollRoundDue
  | gaugeTransactionStart
  | gaugeReplyTimeout (began : Bool)
  | gaugeTransactionEnd (reply : List Byte)
  | headFailureCondition (h : Head)
  | failedPollLimit (h : Head)
  | confirmationPollDue
  | confirmationTimeout
  | encoderEdge (up : Bool)
  | resetHeld
  | safetyInputSample (raw : SafetyLevels)
deriving DecidableEq, Repr

end Sys2Proof
end

