-- ==== Sys2Proof/WellFormed.lean ====
section
/-! DEFINITION. Which commands the outside world can send: a request's payload fits a frame (R181), UNKNOWN_KIND
carries a kind that names no request (R184), a gauge-link reply is not longer than the longest reply of R92, and the
readback code fits its converter (section 10.8: +-10.5 V where +-10 V is code 131,071). -/

namespace Sys2Proof

/-- The kind codes of section 10.4. -/
def requestKinds : List Byte :=
  [0x01, 0x02, 0x03, 0x10, 0x11, 0x12, 0x13, 0x20, 0x21, 0x22, 0x23, 0x24, 0x25, 0x30, 0x31, 0x32, 0x33,
   0x40, 0x41, 0x42, 0x43, 0x44, 0x50, 0x58, 0x59, 0x5A, 0x60, 0x61, 0x68, 0x70, 0x71, 0x72, 0x73, 0x7F]

/-- A payload of at most 512 bytes (R181). -/
def payloadFits (p : List Byte) : Bool := p.length ≤ Config.maxPayload

/-- The longest gauge-link reply is IDENTIFY's: 3 header bytes, 23 payload bytes, 2 check bytes (R92). -/
def longestGaugeReply : Nat := 28

/-- The largest readback code: +-10.5 V where code 131,071 is +-10 V (R58, section 10.8). -/
def maxReadback : Nat := 137625

/-- Well-formed commands. -/
def Instr.wf : Instr → Bool
  | .powerOnReset _ => true
  | .restartTakesEffect _ => true
  | .controlLinkByte _ _ => true
  | .interbyteTimeout => true
  | .replySent _ => true
  | .unknownKind k _ p => !(requestKinds.contains k) && payloadFits p
  | .identify _ p => payloadFits p
  | .status _ p => payloadFits p
  | .readCounters _ p => payloadFits p
  | .configureFrame _ p => payloadFits p
  | .configureClassifier _ p => payloadFits p
  | .configureHeads _ p => payloadFits p
  | .loadCalibration _ p => payloadFits p
  | .setSpecimen _ p => payloadFits p
  | .beginProgram _ p => payloadFits p
  | .programSegments _ p => payloadFits p
  | .readProgramState _ p => payloadFits p
  | .clearVisited _ p => payloadFits p
  | .setHoldPoints _ p => payloadFits p
  | .startTest _ p => payloadFits p
  | .pause _ p => payloadFits p
  | .resume _ p => payloadFits p
  | .abort _ p => payloadFits p
  | .enableDrive _ p => payloadFits p
  | .disableDrive _ p => payloadFits p
  | .move _ p => payloadFits p
  | .returnMove _ p => payloadFits p
  | .stopMove _ p => payloadFits p
  | .tare _ p => payloadFits p
  | .headCommand _ p => payloadFits p
  | .headStatus _ p => payloadFits p
  | .removeExtensometer _ p => payloadFits p
  | .readSamples _ p => payloadFits p
  | .release _ p => payloadFits p
  | .readResults _ p => payloadFits p
  | .queryAttention _ p => payloadFits p
  | .acknowledge _ p => payloadFits p
  | .setMask _ p => payloadFits p
  | .clearTrip _ p => payloadFits p
  | .restart _ p => payloadFits p
  | .conversionComplete c => c.readback.natAbs ≤ maxReadback
  | .levelTimerExpiry => true
  | .unrestTimerExpiry => true
  | .downRangeCountReached => true
  | .enableWaitExpiry _ => true
  | .tareWaitTimeout => true
  | .startTareTimeout => true
  | .readbackMismatchLimit => true
  | .paceDelayExpiry => true
  | .safetyInputAsserted _ => true
  | .safetyInputReleased _ => true
  | .pollRoundDue => true
  | .gaugeTransactionStart => true
  | .gaugeReplyTimeout _ => true
  | .gaugeTransactionEnd r => r.length ≤ longestGaugeReply
  | .headFailureCondition _ => true
  | .failedPollLimit _ => true
  | .confirmationPollDue => true
  | .confirmationTimeout => true
  | .encoderEdge _ => true
  | .resetHeld => true
  | .safetyInputSample _ => true

end Sys2Proof
end

