-- ==== Sys2Proof/Machine/State.lean ====
section
/-! DEFINITION. The state of the ZT-460, block by block, as the records of spec/ give it (R19, R42, R67, R89, R108,
R132, R154, R167, R180), and its value after reset. Constructors stand in the order in which the chapters list them,
so that R196's numbering "from 0 in the order in which its values are listed" is the constructor's index. -/

namespace Sys2Proof.Machine

/-- One value for each head. -/
structure PerHead (α : Type) where
  front : α
  rear : α
deriving DecidableEq, Repr

/-! ### Control Link Interface (R180, R181, R186, R190) -/

/-- The receiver states of R181. -/
inductive Receiver
  | hunt | length | body | check
deriving DecidableEq, Repr

/-- A reply decided and not yet fully sent (R184): the request's tag, the reply's kind, and its payload, whose first
byte is the status. -/
structure Reply where
  kind : Byte
  tag : Byte
  payload : List Byte
deriving DecidableEq, Repr

/-- The eight attention sources (section 10.5), in order of their codes 1 to 8. -/
inductive Source
  | trip | testEnd | held | result | headState | headCmdDone | samples | notice
deriving DecidableEq, Repr

/-- A set of attention sources, each held at most once. -/
structure SourceSet where
  trip : Bool
  testEnd : Bool
  held : Bool
  result : Bool
  headState : Bool
  headCmdDone : Bool
  samples : Bool
  notice : Bool
deriving DecidableEq, Repr

/-- The notice kinds (R190), in the order of the notice set's bits. -/
inductive Notice
  | restarted | following | slip | rangeChanged | limitStop | driveNotReady | moveDone | tareDone
  | liftUnconfirmed | headLost | thinning
deriving DecidableEq, Repr

/-- The notice set, each kind held at most once. -/
structure NoticeSet where
  restarted : Bool
  following : Bool
  slip : Bool
  rangeChanged : Bool
  limitStop : Bool
  driveNotReady : Bool
  moveDone : Bool
  tareDone : Bool
  liftUnconfirmed : Bool
  headLost : Bool
  thinning : Bool
deriving DecidableEq, Repr

/-- The link counters of R180. -/
structure LinkCounters where
  framesTaken : Nat
  repliesSent : Nat
  badChecks : Nat
  framingErrors : Nat
  oversizeFrames : Nat
  timeouts : Nat
  overruns : Nat
  unknownKinds : Nat
deriving DecidableEq, Repr

/-- The interface record of R180. -/
structure Cli where
  receiver : Receiver
  partialFrame : Option (List Byte)
  replies : List Reply
  restartPending : Bool
  pending : SourceSet
  mask : SourceSet
  notices : NoticeSet
  counters : LinkCounters
deriving DecidableEq, Repr

/-! ### The measured point (00_scope.md, R79, R80) -/

/-- Where a point's strain comes from, numbered as the sample record numbers it (R196). -/
inductive StrainSource
  | none | extensometer | estimated | frozen
deriving DecidableEq, Repr

/-- The point flags, in the order of the sample record's bits (R196). -/
structure PointFlags where
  substituted : Bool
  carried : Bool
  oneSided : Bool
  estimated : Bool
  frozen : Bool
  noStrain : Bool
  rangeChange : Bool
  overrange : Bool
  held : Bool
  thinned : Bool
deriving DecidableEq, Repr

/-- A measured point: index, travel (0.1 um), force (0.1 N), stress (0.01 MPa), strain (ue) with its source, flags;
and the position (0.1 um) the Drive Loop gives it (R49). -/
structure Point where
  index : Nat
  position : Int
  travel : Int
  force : Int
  stress : Int
  strain : Int
  source : StrainSource
  flags : PointFlags
deriving DecidableEq, Repr

/-! ### Test Sequencer (chapter 1, R19) -/

/-- The sequencer states (R12, R19). -/
inductive SeqState
  | empty | loading | ready | starting | running | held | ending | ended
deriving DecidableEq, Repr

/-- The held reasons (R19). -/
inductive HeldReason
  | paused | holdPoint | onEnd | slip | limit | liftUnconfirmed
deriving DecidableEq, Repr

/-- The end reasons (R19). -/
inductive EndReason
  | complete | fracture | aborted | tripped | startFailed
deriving DecidableEq, Repr

/-- The start-failure causes (R19, R25). -/
inductive StartCause
  | tareNotSettled | zeroUnconfirmed | headLeft
deriving DecidableEq, Repr

/-- The start steps (R19). -/
inductive StartStep
  | tare | zero | entry
deriving DecidableEq, Repr

/-- The control modes (R4). -/
inductive ControlMode
  | positionRate | strainRate | stressRate | dwell
deriving DecidableEq, Repr

/-- The end-condition kinds (R5). -/
inductive CondKind
  | forceAbove | stressAbove | strainAbove | travelAbove | timeElapsed | yieldDetected | yieldEnded
  | maxPassed | loadSettled
deriving DecidableEq, Repr

/-- The on-end actions (R6). -/
inductive OnEnd
  | next | hold | endTest
deriving DecidableEq, Repr

/-- The slip actions (section 1.3, R35). -/
inductive SlipAction
  | carryOn | hold | abort
deriving DecidableEq, Repr

/-- The specimen record (section 1.2). -/
structure Specimen where
  id : List Byte
  area : Nat
  gaugeLength : Nat
  parallelLength : Nat
  nominalModulus : Option Nat
  heatId : Option (List Byte)
deriving DecidableEq, Repr

/-- The plan header (section 1.3). -/
structure PlanHeader where
  offsetStrain : Nat
  sigmaLo : Nat
  sigmaHi : Nat
  nMin : Nat
  eMin : Nat
  eMax : Nat
  fallback : Bool
  yieldDrop : Nat
  yieldSearchLimit : Nat
  yieldSpanLimit : Nat
  transientSkip : Nat
  maxPassedDrop : Nat
  fractureFraction : Nat
  abruptFraction : Nat
  fractureArmForce : Nat
  removalStrain : Nat
  protectStrain : Nat
  windowLength : Nat
  decimation : Nat
  tareAtStart : Bool
  zeroAtStart : Bool
  headsRequired : Nat
  slipAction : SlipAction
  allowNominal : Bool
deriving DecidableEq, Repr

/-- One end condition of a segment (section 1.4); the threshold is absent where its marker says so. -/
structure EndCondition where
  kind : CondKind
  threshold : Option Int
deriving DecidableEq, Repr

/-- A segment record (section 1.4). -/
structure Segment where
  mode : ControlMode
  rate : Int
  conditions : List EndCondition
  onEnd : OnEnd
deriving DecidableEq, Repr

/-- The load record (section 1.5). The next expected index is the number of segments received, and the remaining count
the total count less it. -/
structure LoadRecord where
  total : Nat
  header : PlanHeader
  segments : List Segment
deriving DecidableEq, Repr

/-- A loaded, validated program (R9, R13). -/
structure Program where
  header : PlanHeader
  segments : List Segment
deriving DecidableEq, Repr

/-- The last load outcome (section 1.5). -/
inductive LoadOutcome
  | none | valid | invalid (index : Nat)
deriving DecidableEq, Repr

/-- The program records of R18 and the run record of R19. `startTareCount` is the count of the start-time tare wait
(R22); `resumeEntry` is the segment that a taken Resume enters on the next point (R34, log 15). -/
structure Tsq where
  state : SeqState
  specimen : Option Specimen
  load : Option LoadRecord
  program : Option Program
  lastLoad : LoadOutcome
  visited : BitVec 16
  holdPoints : BitVec 16
  heldReason : Option HeldReason
  heldAt : Option Nat
  pendingEnd : Option EndReason
  endReason : Option EndReason
  startCause : Option StartCause
  currentSegment : Option Nat
  segmentTime : Nat
  startStep : Option StartStep
  startTareCount : Nat
  resumeEntry : Option Nat
deriving DecidableEq, Repr

/-! ### Drive Loop (R42, section 3.3) -/

/-- The drive states (section 3.1). -/
inductive DriveState
  | disabled | enabling | idle | running | holding | stopping | moving | tripped
deriving DecidableEq, Repr

/-- The move outcomes (R42). -/
inductive MoveOutcome
  | reached | stopped | limit | tripped
deriving DecidableEq, Repr

/-- The frame configuration (section 3.3). -/
structure FrameConfig where
  encoderScale : Nat
  maxSpeed : Nat
  fullScaleSpeed : Nat
  maxAccel : Nat
  stopDecel : Nat
  kp : Nat
  ks : Nat
  kf : Nat
  followPosition : Nat
  followStrain : Nat
  followStress : Nat
  softMin : Int
  softMax : Int
  capacity : Nat
  overloadLimit : Nat
  quietThreshold : Nat
  slopeThreshold : Nat
deriving DecidableEq, Repr

/-- The drive record of R42. `moveSpeed` is the speed the move in flight was given (R60); `readyLevel` is DRIVE_READY
as last sampled (R66); `captureZero` says that no point has been formed since a Start Test was accepted (R49). -/
structure Drl where
  state : DriveState
  velocity : Int
  dacCode : Int
  mode : Option ControlMode
  rate : Int
  setpoint : Int
  remainder : Int
  frozen : Bool
  encoder : BitVec 48
  travelZero : Option (BitVec 48)
  captureZero : Bool
  moveTarget : Option Int
  moveSpeed : Nat
  moveOutcome : Option MoveOutcome
  enableWait : Nat
  mismatches : Nat
  readyLevel : Bool
  frame : FrameConfig
deriving DecidableEq, Repr

/-! ### Force Unit (R67, R88) -/

/-- The load ranges (section 4.3), A of the largest full scale. -/
inductive Range
  | a | b | c | d
deriving DecidableEq, Repr

/-- One value for each range. -/
structure PerRange (α : Type) where
  a : α
  b : α
  c : α
  d : α
deriving DecidableEq, Repr

/-- A breakpoint of a calibration table (section 4.4). -/
structure Breakpoint where
  count : Int
  force : Int
deriving DecidableEq, Repr

/-- The tare outcomes (R67). -/
inductive TareOutcome
  | none | pending | ok | notSettled
deriving DecidableEq, Repr

/-- The classifier states, in the order of R67. Chapter 4 lists them in two orders (R67: QUIET, LEVEL, RISING, FALLING,
ERRATIC; the table of R82: QUIET, ERRATIC, RISING, FALLING, LEVEL), so that R196 leaves their numbers open: that the
byte of Status (R192) and of Read Counters (R193) numbers them by R67 is a DESIGN CHOICE (log 52). -/
inductive Classifier
  | quiet | level | rising | falling | erratic
deriving DecidableEq, Repr

/-- A timer of section 4.8: settings P and C, prescale remaining, ticks remaining. -/
structure Timer where
  p : Nat
  c : Nat
  prescale : Nat
  ticks : Nat
deriving DecidableEq, Repr

/-- The force record of R67 and the counts of R88. A range without a loaded table is on its nominal line, and its
nominal flag is set (R74). -/
structure Fcu where
  range : Range
  tables : PerRange (Option (List Breakpoint))
  tareOffset : Int
  tareOutcome : TareOutcome
  tareWait : Option Nat
  rawCount : Int
  calForce : Int
  force : Int
  discardPending : Bool
  downCount : Nat
  nextIndex : Nat
  classifier : Classifier
  history : List Int
  slope : Int
  signChanges : Nat
  levelTimer : Timer
  unrestTimer : Timer
  settled : Bool
  unrestEvents : Nat
  rangeChanges : Nat
deriving DecidableEq, Repr

/-! ### Gauge Link Controller (R89) -/

/-- The kinds of head command (R116): CLAMP, LIFT and ZERO go as COMMAND, IDENTIFY as its own operation. -/
inductive HeadCmd
  | clamp | lift | zero | identify
deriving DecidableEq, Repr

/-- The four operations of section 5.3. -/
inductive GaugeOp
  | poll | read | command (k : HeadCmd) | identify
deriving DecidableEq, Repr

/-- What a transaction was sent for (R89). -/
inductive TxSource
  | round | stream | slot
deriving DecidableEq, Repr

/-- The current transaction (R89). -/
structure Transaction where
  head : Head
  op : GaugeOp
  source : TxSource
  startTime : Nat
deriving DecidableEq, Repr

/-- The origin of a slot command (R89). -/
inductive Origin
  | computer | exm
deriving DecidableEq, Repr

/-- The phase of a slot command (R89). -/
inductive Phase
  | linkWait | onLink | confirming
deriving DecidableEq, Repr

/-- The slot command (R89). `timeLeft` is the confirmation time left, in points (log 6). -/
structure SlotCommand where
  head : Head
  kind : HeadCmd
  origin : Origin
  phase : Phase
  timeLeft : Nat
  pollDue : Bool
deriving DecidableEq, Repr

/-- An entry of the waiting list (R89). -/
structure WaitingCmd where
  head : Head
  kind : HeadCmd
deriving DecidableEq, Repr

/-- The outcomes of a slot command (R102). -/
inductive SlotOutcome
  | confirmed | unconfirmed | failed
deriving DecidableEq, Repr

/-- The last failure kind of a head (R89). -/
inductive FailureKind
  | none | noReply | truncated | badCheck
deriving DecidableEq, Repr

/-- The last command of a head (R89). -/
structure LastCommand where
  kind : HeadCmd
  origin : Origin
  outcome : SlotOutcome
deriving DecidableEq, Repr

/-- The per-head fields of R89. -/
structure GlcHead where
  limit : Nat
  consecutive : Nat
  total : Nat
  lastFailure : FailureKind
  lastCommand : Option LastCommand
deriving DecidableEq, Repr

/-- The link counters of R89 and R107. -/
structure GaugeCounters where
  poll : Nat
  read : Nat
  command : Nat
  identify : Nat
  noReply : Nat
  truncated : Nat
  badCheck : Nat
deriving DecidableEq, Repr

/-- The controller record of R89. The link is IN_TRANSACTION exactly while `current` is present, and the command slot
BUSY exactly while `slot` is. `request` is the request last driven on the link (R90). -/
structure Glc where
  current : Option Transaction
  pollClock : Nat
  roundList : List Head
  lastStreamed : Option Head
  lastFromSlot : Bool
  slot : Option SlotCommand
  waiting : List WaitingCmd
  heads : PerHead GlcHead
  counters : GaugeCounters
  request : List Byte
deriving DecidableEq, Repr

/-! ### Extensometer Manager (R108) -/

/-- The head states (R108). -/
inductive HeadState
  | absent | present | clamping | clamped | measuring | lifting | lost
deriving DecidableEq, Repr

/-- The arms of a head, numbered as R92 codes them. -/
inductive Arms
  | lifted | clamped | moving
deriving DecidableEq, Repr

/-- The status of a head (R94). -/
structure HeadStatus where
  arms : Arms
  seated : Bool
  zeroed : Bool
deriving DecidableEq, Repr

/-- The identity of a head (R97). -/
structure Identity where
  kind : Byte
  gaugeLength : Nat
  travelRange : Nat
  serial : List Byte
deriving DecidableEq, Repr

/-- The freshness of a head's newest value (R118). -/
inductive Freshness
  | fresh | carried | substituted
deriving DecidableEq, Repr

/-- A head entry (R108). `readOk` and `readFailed` say whether a READ of the head ended SUCCESS, or in a failure,
since the previous point was formed (R118). -/
structure HeadEntry where
  configured : Bool
  state : HeadState
  identity : Option Identity
  latest : Option HeadStatus
  zeroed : Bool
  lastGood : Int
  freshness : Freshness
  failedPolls : Nat
  testHead : Bool
  readOk : Bool
  readFailed : Bool
deriving DecidableEq, Repr

/-- The kind of a transfer ratio (R123). -/
inductive RatioKind
  | window | nominal
deriving DecidableEq, Repr

/-- The transfer ratio (R123). -/
structure TransferRatio where
  kind : RatioKind
  strainH : Int
  travelH : Int
  deltaStrain : Int
  deltaTravel : Int
deriving DecidableEq, Repr

/-- The removal states (R108). -/
inductive Removal
  | idle | watching | deferred | handedOver | closed
deriving DecidableEq, Repr

/-- The removal triggers (R108). -/
inductive Trigger
  | strain | necking | request | headLost
deriving DecidableEq, Repr

/-- The manager's record (R108). A window entry is (travel, strain). `liftHolds` says of a head in the lift watch that
its LIFT was asked for in the present test, so that its outcome can hold that test (R129). `zeroAsked` is the head whose
ZERO the present start waits for (R23, R117). -/
structure Exm where
  heads : PerHead HeadEntry
  source : StrainSource
  window : List (Int × Int)
  ratio : Option TransferRatio
  frozenStrain : Option Int
  removal : Removal
  trigger : Option Trigger
  handoverPoint : Option Nat
  liftWatch : PerHead Bool
  liftHolds : PerHead Bool
  zeroAsked : Option Head
deriving DecidableEq, Repr

/-! ### Evaluation Unit (R132, R150) -/

/-- The evaluation phases, in their forward order (R133). -/
inductive EvalPhase
  | waiting | elastic | yielding | hardening | necking | fractured
deriving DecidableEq, Repr

/-- The absence reasons (R150), in the order of their codes 1 to 10. -/
inductive Absence
  | notRequested | notReached | continuousYielding | transientOnly | fitFailed | modulusOutOfRange
  | tooFewPoints | extensometerRemoved | fracturedFirst | testAborted
deriving DecidableEq, Repr

/-- The fit status (R132), with its failure reason when FAILED. -/
inductive FitStatus
  | collecting | done | failed (reason : Absence) | notRequested
deriving DecidableEq, Repr

/-- The exact fit sums (R136). -/
structure FitSums where
  n : Nat
  x : Int
  y : Int
  xx : Int
  xy : Int
deriving DecidableEq, Repr

/-- The elastic line (R132). -/
structure ElasticLine where
  e : Int
  x0 : Int
  fallback : Bool
deriving DecidableEq, Repr

/-- The search states (R132). -/
inductive SearchState
  | notOpen | opened | closed
deriving DecidableEq, Repr

/-- The search previous (R132): plastic strain and stress of the last evaluated search point. -/
structure SearchPrev where
  d : Int
  stress : Int
deriving DecidableEq, Repr

/-- The yield tracker (R132). -/
structure YieldTracker where
  rehStrain : Int
  count : Nat
  candidate : Option Point
deriving DecidableEq, Repr

/-- A characteristic field of the result record (R150). -/
inductive Field
  | opened
  | fixed (value : Int) (index : Nat)
  | absent (reason : Absence)
deriving DecidableEq, Repr

/-- The result record (R150). `fitCount`, `fallbackUsed` belong to E, `fmax` to Rm, `sourceOfA` to A. -/
structure ResultRecord where
  e : Field
  x0 : Field
  rp : Field
  reh : Field
  rel : Field
  rm : Field
  ag : Field
  fractureForce : Field
  a : Field
  fitCount : Nat
  fallbackUsed : Bool
  fmax : Int
  sourceOfA : StrainSource
  endReason : Option EndReason
  slipCount : Nat
deriving DecidableEq, Repr

/-- The evaluation record (R132). -/
structure Evu where
  phase : EvalPhase
  fit : FitStatus
  sums : FitSums
  line : Option ElasticLine
  search : SearchState
  searchPrev : Option SearchPrev
  smax : Option Point
  tracker : Option YieldTracker
  fmax : Option Point
  maxPassedArmed : Bool
  fractureArmed : Bool
  prev : Option Point
  result : Option ResultRecord
deriving DecidableEq, Repr

/-! ### Sample Store (R154) -/

/-- The record kinds, in the order of the sample record's codes (R196). -/
inductive RecordKind
  | point | segmentStart | testStart | reh | rel | rp | fmax | handover | fracture | testEnd
deriving DecidableEq, Repr

/-- A record of the ring (section 8.2). -/
structure SampleRecord where
  seq : Nat
  kind : RecordKind
  segment : Option Nat
  point : Point
deriving DecidableEq, Repr

/-- The pacing states (R154). -/
inductive Pacing
  | waiting | counting | raised
deriving DecidableEq, Repr

/-- The store record of R154 and the counts of R166. -/
structure Sms where
  ring : List SampleRecord
  newest : Nat
  releaseMark : Nat
  recording : Bool
  decimation : Nat
  thinning : Nat
  thinnedPending : Bool
  pointsNotStored : Nat
  pacing : Pacing
  storedSinceRaise : Nat
  delayCount : Nat
  paceCount : Nat
  paceDelay : Nat
  recordsStored : Nat
  totalNotStored : Nat
  segStartsNotStored : Nat
deriving DecidableEq, Repr

/-! ### Limit Monitor (R167) -/

/-- The trip causes (chapter 9). -/
inductive TripCause
  | estop | guardOpen | upperLimit | lowerLimit | driveFault | overload | commandReadback | driveReadyLost
deriving DecidableEq, Repr

/-- What the monitor holds for one safety input (R167). -/
structure SafetyLine where
  level : Level
  count : Nat
  latch : Bool
deriving DecidableEq, Repr

/-- The trip states (R167). -/
inductive TripState
  | clear | latched
deriving DecidableEq, Repr

/-- The point of the trip (R173). -/
structure TripPoint where
  index : Nat
  force : Int
  travel : Int
deriving DecidableEq, Repr

/-- The trip record (R173). The further causes are a set: bit i stands for the cause listed i-th. -/
structure TripRecord where
  first : TripCause
  point : Option TripPoint
  further : BitVec 8
deriving DecidableEq, Repr

/-- The limit record of R167. -/
structure Lmu where
  inputs : PerInput SafetyLine
  driveFault : Level
  overloadCount : Nat
  trip : TripState
  record : Option TripRecord
  trips : Nat
  softMin : Int
  softMax : Int
  overloadLimit : Nat
deriving DecidableEq, Repr

/-! ### The machine -/

/-- The state of the part: its nine blocks, the latest measured point, whether RESET_N holds it in reset, and, of the
model's own, the clock in points since reset (log 6), the number of free values taken (log 27) and the queue of
commands that wait, first in, first out. -/
structure State where
  cli : Cli
  tsq : Tsq
  drl : Drl
  fcu : Fcu
  glc : Glc
  exm : Exm
  evu : Evu
  sms : Sms
  lmu : Lmu
  latestPoint : Option Point
  inReset : Bool
  clock : Nat
  freeCount : Nat
  pending : List Instr
deriving DecidableEq, Repr

/-- The reasons a step can stop with a fault. There are none: the manual gives every command an effect or a reply. -/
inductive Fault
deriving DecidableEq, Repr

/-- The reasons a step can be refused. -/
inductive Refusal
  /-- Raised by an arm of `exec` whose command has no meaning yet; safe. No arm raises it. -/
  | notModelled (mnemonic : String)
deriving DecidableEq, Repr

/-! ### Reset values -/

/-- The empty set of sources. -/
def SourceSet.empty : SourceSet := ⟨false, false, false, false, false, false, false, false⟩

/-- The empty notice set. -/
def NoticeSet.empty : NoticeSet := ⟨false, false, false, false, false, false, false, false, false, false, false⟩

/-- No flag set. -/
def PointFlags.empty : PointFlags := ⟨false, false, false, false, false, false, false, false, false, false⟩

/-- R180, R195: NOTICE pending and RESTARTED in the notice set. -/
def Cli.reset : Cli where
  receiver := .hunt
  partialFrame := none
  replies := []
  restartPending := false
  pending := { SourceSet.empty with notice := true }
  mask := .empty
  notices := { NoticeSet.empty with restarted := true }
  counters := ⟨0, 0, 0, 0, 0, 0, 0, 0⟩

/-- R18, R19. -/
def Tsq.reset : Tsq where
  state := .empty
  specimen := none
  load := none
  program := none
  lastLoad := .none
  visited := 0
  holdPoints := 0
  heldReason := none
  heldAt := none
  pendingEnd := none
  endReason := none
  startCause := none
  currentSegment := none
  segmentTime := 0
  startStep := none
  startTareCount := 0
  resumeEntry := none

/-- The defaults of section 3.3. -/
def FrameConfig.default : FrameConfig where
  encoderScale := 100
  maxSpeed := 0
  fullScaleSpeed := 200000
  maxAccel := 100000
  stopDecel := 400000
  kp := 256
  ks := 64
  kf := 64
  followPosition := 0
  followStrain := 0
  followStress := 0
  softMin := -2147483648
  softMax := 2147483647
  capacity := 10000
  overloadLimit := 11000
  quietThreshold := 50
  slopeThreshold := 20

/-- R42. -/
def Drl.reset : Drl where
  state := .disabled
  velocity := 0
  dacCode := 0
  mode := none
  rate := 0
  setpoint := 0
  remainder := 0
  frozen := false
  encoder := 0
  travelZero := none
  captureZero := false
  moveTarget := none
  moveSpeed := 0
  moveOutcome := none
  enableWait := 0
  mismatches := 0
  readyLevel := false
  frame := .default

/-- R67, R88. -/
def Fcu.reset : Fcu where
  range := .a
  tables := ⟨none, none, none, none⟩
  tareOffset := 0
  tareOutcome := .none
  tareWait := none
  rawCount := 0
  calForce := 0
  force := 0
  discardPending := false
  downCount := 0
  nextIndex := 0
  classifier := .quiet
  history := []
  slope := 0
  signChanges := 0
  levelTimer := ⟨20, 100, 20, 100⟩
  unrestTimer := ⟨20, 100, 20, 100⟩
  settled := false
  unrestEvents := 0
  rangeChanges := 0

/-- R89, one head. -/
def GlcHead.reset : GlcHead := ⟨8, 0, 0, .none, none⟩

/-- R89. -/
def Glc.reset : Glc where
  current := none
  pollClock := 0
  roundList := []
  lastStreamed := none
  lastFromSlot := false
  slot := none
  waiting := []
  heads := ⟨.reset, .reset⟩
  counters := ⟨0, 0, 0, 0, 0, 0, 0⟩
  request := []

/-- R108, one head entry. -/
def HeadEntry.reset : HeadEntry where
  configured := false
  state := .absent
  identity := none
  latest := none
  zeroed := false
  lastGood := 0
  freshness := .carried
  failedPolls := 0
  testHead := false
  readOk := false
  readFailed := false

/-- R108. -/
def Exm.reset : Exm where
  heads := ⟨.reset, .reset⟩
  source := .none
  window := []
  ratio := none
  frozenStrain := none
  removal := .idle
  trigger := none
  handoverPoint := none
  liftWatch := ⟨false, false⟩
  liftHolds := ⟨false, false⟩
  zeroAsked := none

/-- R132. -/
def Evu.reset : Evu where
  phase := .waiting
  fit := .notRequested
  sums := ⟨0, 0, 0, 0, 0⟩
  line := none
  search := .notOpen
  searchPrev := none
  smax := none
  tracker := none
  fmax := none
  maxPassedArmed := false
  fractureArmed := false
  prev := none
  result := none

/-- R154, R166. -/
def Sms.reset : Sms where
  ring := []
  newest := 0
  releaseMark := 0
  recording := false
  decimation := 0
  thinning := 0
  thinnedPending := false
  pointsNotStored := 0
  pacing := .waiting
  storedSinceRaise := 0
  delayCount := 0
  paceCount := 32
  paceDelay := 100
  recordsStored := 0
  totalNotStored := 0
  segStartsNotStored := 0

/-- One safety input just after a reset that sampled it at `l` (R178), before its cause is taken. -/
def SafetyLine.reset (l : Level) : SafetyLine := ⟨l, 0, false⟩

/-- R167, before R178 acts on the inputs sampled asserted. -/
def Lmu.reset (raw : SafetyLevels) : Lmu where
  inputs := ⟨.reset raw.estop, .reset raw.guardOpen, .reset raw.upperLimit, .reset raw.lowerLimit⟩
  driveFault := .inactive
  overloadCount := 0
  trip := .clear
  record := none
  trips := 0
  softMin := FrameConfig.default.softMin
  softMax := FrameConfig.default.softMax
  overloadLimit := FrameConfig.default.overloadLimit

/-- Every block at its reset values, with the raw safety levels sampled at the reset, before R178 latches a trip for
an input sampled asserted. The queue is the sender's and is given. -/
def State.resetValues (raw : SafetyLevels) (queue : List Instr) : State where
  cli := .reset
  tsq := .reset
  drl := .reset
  fcu := .reset
  glc := .reset
  exm := .reset
  evu := .reset
  sms := .reset
  lmu := .reset raw
  latestPoint := none
  inReset := false
  clock := 0
  freeCount := 0
  pending := queue

/-- All four safety contacts closed. -/
def safeLevels : SafetyLevels := ⟨.inactive, .inactive, .inactive, .inactive⟩

/-- The machine right after a reset that found all four safety contacts closed (DESIGN CHOICE, log 9; R178 gives the
state for every other sample, see `resetPart`), with an empty queue. -/
def State.reset : State := State.resetValues safeLevels []

end Sys2Proof.Machine
end

