-- ==== Sys2Proof/Machine/Ops.lean ====
section
/-! DEFINITION. The operations every block shares: the arithmetic of spec/00_scope.md, the 16-bit checks of R182 and
R90, big-endian bytes (R196), access to one head, range or safety input, and the update of one block of the state. -/

namespace Sys2Proof.Machine

/-! ### Arithmetic (00_scope.md, "Arithmetic and rounding") -/

/-- Division to the nearest integer, halves away from zero. -/
def divRound (a b : Int) : Int :=
  let q : Int := ((2 * a.natAbs + b.natAbs) / (2 * b.natAbs) : Nat)
  if decide (a < 0) = decide (b < 0) then q else -q

/-- `x` limited to the range `lo` to `hi`. -/
def clampTo (lo hi x : Int) : Int := max lo (min hi x)

/-- The signed 32-bit range (R49). -/
def clamp32 (x : Int) : Int := clampTo (-2147483648) 2147483647 x

/-- A count that stops at `top`. -/
def satSucc (top n : Nat) : Nat := if n < top then n + 1 else top

/-- The largest value of a 32-bit count. -/
def max32 : Nat := 4294967295

/-- The largest value of a 16-bit count. -/
def max16 : Nat := 65535

/-- The bits of the integer square root, from bit `k - 1` down to bit 0. -/
def isqrtFrom (n : Nat) : Nat → Nat → Nat
  | 0, r => r
  | k + 1, r => if (r + 2 ^ k) * (r + 2 ^ k) ≤ n then isqrtFrom n k (r + 2 ^ k) else isqrtFrom n k r

/-- The integer square root, rounded down (R62); exact for every `n` below 2 ^ 80, more than R62 can form. -/
def isqrt (n : Nat) : Nat := isqrtFrom n 40 0

/-- The number that moves `c` towards `target` by at most `step`. -/
def stepTowards (step c target : Int) : Int := c + clampTo (-step) step (target - c)

/-! ### Checks (R182, R90) -/

/-- `k` bit steps of a CRC with polynomial 1021h, most significant bit first. -/
def crcBits : Nat → BitVec 16 → BitVec 16
  | 0, c => c
  | k + 1, c => crcBits k (if c.msb then (c <<< 1) ^^^ 0x1021#16 else c <<< 1)

/-- One byte of the check. -/
def crcByte (c : BitVec 16) (b : Byte) : BitVec 16 := crcBits 8 (c ^^^ (b.setWidth 16 <<< 8))

/-- The check over a list of bytes from an initial value: FFFFh on the control link (R182), 0000h on the gauge link
(R90). -/
def crc (init : BitVec 16) (bs : List Byte) : BitVec 16 := bs.foldl crcByte init

/-! ### Bytes, most significant first (section 10.7) -/

/-- One byte of the value `n`. -/
def u8 (n : Nat) : List Byte := [BitVec.ofNat 8 n]

/-- Two bytes. -/
def u16 (n : Nat) : List Byte := [BitVec.ofNat 8 (n / 256), BitVec.ofNat 8 n]

/-- Four bytes. -/
def u32 (n : Nat) : List Byte :=
  [BitVec.ofNat 8 (n / 16777216), BitVec.ofNat 8 (n / 65536), BitVec.ofNat 8 (n / 256), BitVec.ofNat 8 n]

/-- Four bytes of a signed value in two's complement. -/
def i32 (x : Int) : List Byte := u32 (BitVec.ofInt 32 x).toNat

/-- A yes-or-no field (R196). -/
def yn (b : Bool) : List Byte := u8 b.toNat

/-- A field of `size` bytes that may be absent (R192, R196): presence byte, then its place, zeros when absent. -/
def opt {α : Type} (size : Nat) (enc : α → List Byte) : Option α → List Byte
  | none => u8 0 ++ List.replicate size 0
  | some x => u8 1 ++ enc x

/-- A text (R196): its length and 16 bytes padded with 00h. -/
def text (t : List Byte) : List Byte :=
  u8 t.length ++ t.take 16 ++ List.replicate (16 - t.length) 0

/-- The unsigned value of bytes, most significant first. -/
def ofBytes (bs : List Byte) : Nat := bs.foldl (fun n b => n * 256 + b.toNat) 0

/-- The signed value of four bytes. -/
def ofBytesSigned (bs : List Byte) : Int := (BitVec.ofNat 32 (ofBytes bs)).toInt

/-! ### One head, one range, one safety input -/

def PerHead.get {α : Type} (t : PerHead α) : Head → α
  | .front => t.front
  | .rear => t.rear

def PerHead.set {α : Type} (t : PerHead α) (h : Head) (x : α) : PerHead α :=
  match h with
  | .front => { t with front := x }
  | .rear => { t with rear := x }

def PerHead.modify {α : Type} (t : PerHead α) (h : Head) (f : α → α) : PerHead α := t.set h (f (t.get h))

/-- The same change for both heads. -/
def PerHead.map {α : Type} (t : PerHead α) (f : α → α) : PerHead α := ⟨f t.front, f t.rear⟩

/-- How many heads meet `p`. -/
def PerHead.count {α : Type} (t : PerHead α) (p : α → Bool) : Nat := (p t.front).toNat + (p t.rear).toNat

/-- Bytes for FRONT and then for REAR (R196). -/
def PerHead.bytes {α : Type} (t : PerHead α) (enc : α → List Byte) : List Byte := enc t.front ++ enc t.rear

/-- The gauge-link address of a head. -/
def headAddress : Head → Nat
  | .front => 1
  | .rear => 2

def PerRange.get {α : Type} (t : PerRange α) : Range → α
  | .a => t.a
  | .b => t.b
  | .c => t.c
  | .d => t.d

def PerRange.set {α : Type} (t : PerRange α) (r : Range) (x : α) : PerRange α :=
  match r with
  | .a => { t with a := x }
  | .b => { t with b := x }
  | .c => { t with c := x }
  | .d => { t with d := x }

def PerInputGet {α : Type} (t : PerInput α) : SafetyInput → α
  | .estop => t.estop
  | .guardOpen => t.guardOpen
  | .upperLimit => t.upperLimit
  | .lowerLimit => t.lowerLimit

def PerInputSet {α : Type} (t : PerInput α) (i : SafetyInput) (x : α) : PerInput α :=
  match i with
  | .estop => { t with estop := x }
  | .guardOpen => { t with guardOpen := x }
  | .upperLimit => { t with upperLimit := x }
  | .lowerLimit => { t with lowerLimit := x }

/-- The cause a safety input brings (R169). -/
def safetyCause : SafetyInput → TripCause
  | .estop => .estop
  | .guardOpen => .guardOpen
  | .upperLimit => .upperLimit
  | .lowerLimit => .lowerLimit

/-! ### One block of the state -/

def State.onCli (f : Cli → Cli) (s : State) : State := { s with cli := f s.cli }
def State.onTsq (f : Tsq → Tsq) (s : State) : State := { s with tsq := f s.tsq }
def State.onDrl (f : Drl → Drl) (s : State) : State := { s with drl := f s.drl }
def State.onFcu (f : Fcu → Fcu) (s : State) : State := { s with fcu := f s.fcu }
def State.onGlc (f : Glc → Glc) (s : State) : State := { s with glc := f s.glc }
def State.onExm (f : Exm → Exm) (s : State) : State := { s with exm := f s.exm }
def State.onEvu (f : Evu → Evu) (s : State) : State := { s with evu := f s.evu }
def State.onSms (f : Sms → Sms) (s : State) : State := { s with sms := f s.sms }
def State.onLmu (f : Lmu → Lmu) (s : State) : State := { s with lmu := f s.lmu }

/-- The point whose fields are all 0: what the latest point's fields read before any point has been formed
(DESIGN CHOICE, log 10). -/
def Point.zero : Point := ⟨0, 0, 0, 0, 0, 0, .none, .empty⟩

/-- The latest measured point formed. -/
def State.latest (s : State) : Point := s.latestPoint.getD .zero

/-- The sequencer is in STARTING, RUNNING, HELD or ENDING: the states of the lock (R17). -/
def SeqState.inTest : SeqState → Bool
  | .starting | .running | .held | .ending => true
  | .empty | .loading | .ready | .ended => false

/-- A test is in progress (R17). -/
def State.inTest (s : State) : Bool := s.tsq.state.inTest

/-- A plan header of zeros, read where no program is loaded: no rule reads the header then (log 34). -/
def PlanHeader.zero : PlanHeader where
  offsetStrain := 0
  sigmaLo := 0
  sigmaHi := 0
  nMin := 0
  eMin := 0
  eMax := 0
  fallback := false
  yieldDrop := 0
  yieldSearchLimit := 0
  yieldSpanLimit := 0
  transientSkip := 0
  maxPassedDrop := 0
  fractureFraction := 0
  abruptFraction := 0
  fractureArmForce := 0
  removalStrain := 0
  protectStrain := 0
  windowLength := 0
  decimation := 0
  tareAtStart := false
  zeroAtStart := false
  headsRequired := 0
  slipAction := .carryOn
  allowNominal := false

/-- The plan header of the loaded program (section 1.3). -/
def State.header (s : State) : PlanHeader :=
  match s.tsq.program with
  | some p => p.header
  | none => .zero

/-- The segments of the loaded program. -/
def State.segments (s : State) : List Segment :=
  match s.tsq.program with
  | some p => p.segments
  | none => []

/-- A0 of the specimen record, 0 while it is absent (R2). -/
def State.area (s : State) : Nat :=
  match s.tsq.specimen with
  | some p => p.area
  | none => 0

/-- Le of the specimen record. -/
def State.gaugeLength (s : State) : Nat :=
  match s.tsq.specimen with
  | some p => p.gaugeLength
  | none => 0

/-- Lc of the specimen record. -/
def State.parallelLength (s : State) : Nat :=
  match s.tsq.specimen with
  | some p => p.parallelLength
  | none => 0

/-- DRIVE_ENABLE is on in these drive states (table of section 3.1). -/
def DriveState.enabled : DriveState → Bool
  | .disabled | .tripped => false
  | .enabling | .idle | .running | .holding | .stopping | .moving => true

/-- The DRIVE_ENABLE line: low in reset (R195, section 10.8). -/
def State.driveEnable (s : State) : Bool := !s.inReset && s.drl.state.enabled

/-- The effect of a command on a part that is not held in reset. While RESET_N holds the part in reset nothing but a
completed reset has an effect (R195, section 10.8; DEDUCED, log 8). -/
def live (f : State → State) (s : State) : Host.Outcome State Fault Refusal :=
  if s.inReset then .next s else .next (f s)

end Sys2Proof.Machine
end

