-- ==== Sys2Proof/Machine/Flags.lean ====
section
/-! DEFINITION. Attention sources, the ATTN line, notices and point flags (R186, R190, R80), and the bytes of their
sets (section 10.7). -/

namespace Sys2Proof.Machine

/-- A source joins a set; one already in it stays once (R186). -/
def SourceSet.add (p : SourceSet) : Source → SourceSet
  | .trip => { p with trip := true }
  | .testEnd => { p with testEnd := true }
  | .held => { p with held := true }
  | .result => { p with result := true }
  | .headState => { p with headState := true }
  | .headCmdDone => { p with headCmdDone := true }
  | .samples => { p with samples := true }
  | .notice => { p with notice := true }

/-- A source leaves a set (R186). -/
def SourceSet.remove (p : SourceSet) : Source → SourceSet
  | .trip => { p with trip := false }
  | .testEnd => { p with testEnd := false }
  | .held => { p with held := false }
  | .result => { p with result := false }
  | .headState => { p with headState := false }
  | .headCmdDone => { p with headCmdDone := false }
  | .samples => { p with samples := false }
  | .notice => { p with notice := false }

/-- Whether a source is in a set. -/
def SourceSet.has (p : SourceSet) : Source → Bool
  | .trip => p.trip
  | .testEnd => p.testEnd
  | .held => p.held
  | .result => p.result
  | .headState => p.headState
  | .headCmdDone => p.headCmdDone
  | .samples => p.samples
  | .notice => p.notice

/-- A kind joins the notice set (R190). -/
def NoticeSet.add (p : NoticeSet) : Notice → NoticeSet
  | .restarted => { p with restarted := true }
  | .following => { p with following := true }
  | .slip => { p with slip := true }
  | .rangeChanged => { p with rangeChanged := true }
  | .limitStop => { p with limitStop := true }
  | .driveNotReady => { p with driveNotReady := true }
  | .moveDone => { p with moveDone := true }
  | .tareDone => { p with tareDone := true }
  | .liftUnconfirmed => { p with liftUnconfirmed := true }
  | .headLost => { p with headLost := true }
  | .thinning => { p with thinning := true }

/-- Whether a kind is in the notice set. -/
def NoticeSet.has (p : NoticeSet) : Notice → Bool
  | .restarted => p.restarted
  | .following => p.following
  | .slip => p.slip
  | .rangeChanged => p.rangeChanged
  | .limitStop => p.limitStop
  | .driveNotReady => p.driveNotReady
  | .moveDone => p.moveDone
  | .tareDone => p.tareDone
  | .liftUnconfirmed => p.liftUnconfirmed
  | .headLost => p.headLost
  | .thinning => p.thinning

/-- A source is raised (R186). -/
def raise (k : Source) (s : State) : State :=
  s.onCli fun c => { c with pending := c.pending.add k }

/-- A source is cleared (R186). -/
def clearSource (k : Source) (s : State) : State :=
  s.onCli fun c => { c with pending := c.pending.remove k }

/-- A block adds a notice kind, and NOTICE is raised (R190). -/
def addNotice (n : Notice) (s : State) : State :=
  s.onCli fun c => { c with notices := c.notices.add n, pending := c.pending.add .notice }

/-- The eight sources in order of priority, code 1 first (section 10.5). -/
def Source.all : List Source := [.trip, .testEnd, .held, .result, .headState, .headCmdDone, .samples, .notice]

/-- The code of a source, 1 to 8. -/
def Source.code (k : Source) : Nat := k.ctorIdx + 1

/-- The source a code names (R189). -/
def Source.ofCode (n : Nat) : Option Source := if n = 0 then none else Source.all[n - 1]?

/-- A source is pending and not masked. -/
def Cli.calls (c : Cli) (k : Source) : Bool := c.pending.has k && !c.mask.has k

/-- The ATTN line is asserted while a source is pending and not masked (R186); released while the part is held in
reset (section 10.8). -/
def State.attn (s : State) : Bool := !s.inReset && Source.all.any s.cli.calls

/-- The highest-priority source that is pending and not masked, or 0 (R188). -/
def highestSource (c : Cli) : Nat :=
  match Source.all.find? c.calls with
  | some k => k.code
  | none => 0

/-- The value of a list of bits, bit 0 first. -/
def bitsValue : List Bool → Nat
  | [] => 0
  | b :: bs => b.toNat + 2 * bitsValue bs

/-- The attention set byte: source c in bit c - 1. -/
def SourceSet.byte (p : SourceSet) : Nat := bitsValue (Source.all.map p.has)

/-- The set a byte holds (R187). -/
def SourceSet.ofByte (b : Byte) : SourceSet where
  trip := b.getLsbD 0
  testEnd := b.getLsbD 1
  held := b.getLsbD 2
  result := b.getLsbD 3
  headState := b.getLsbD 4
  headCmdDone := b.getLsbD 5
  samples := b.getLsbD 6
  notice := b.getLsbD 7

/-- The notice kinds in the order of their bits (section 10.7). -/
def Notice.all : List Notice :=
  [.restarted, .following, .slip, .rangeChanged, .limitStop, .driveNotReady, .moveDone, .tareDone,
   .liftUnconfirmed, .headLost, .thinning]

/-- The value of the two notice set bytes. -/
def NoticeSet.value (p : NoticeSet) : Nat := bitsValue (Notice.all.map p.has)

/-- The value of the two flag bytes of a sample record (section 10.7). -/
def PointFlags.value (f : PointFlags) : Nat :=
  bitsValue [f.substituted, f.carried, f.oneSided, f.estimated, f.frozen, f.noStrain, f.rangeChange, f.overrange,
    f.held, f.thinned]

/-- The strain flags alone (R131): six members, bits 0 to 5, so that their set takes one byte (R196). -/
def PointFlags.strainOnly (f : PointFlags) : PointFlags :=
  { f with rangeChange := false, overrange := false, held := false, thinned := false }

/-- RANGE_CHANGE and OVERRANGE alone (R87). -/
def PointFlags.rangeOnly (f : PointFlags) : PointFlags :=
  { PointFlags.empty with rangeChange := f.rangeChange, overrange := f.overrange }

end Sys2Proof.Machine
end

