-- ==== Sys2Proof/Machine/Store.lean ====
section
/-! DEFINITION. The Sample Store's operations (chapter 8): storing a record, thinning, decimation, marks, pacing,
release. -/

namespace Sys2Proof.Machine

/-- The sequence number that follows `x` (R155). -/
def nextSeq (x : Nat) : Nat := if x = max32 then 1 else x + 1

/-- The free slots of the ring (R154). -/
def Sms.free (m : Sms) : Nat := Config.ringCapacity - m.ring.length

/-- The records of the ring from sequence number `x` onward (R162); empty when `x` is not in the ring. -/
def fromSeq (x : Nat) (ring : List SampleRecord) : List SampleRecord := ring.dropWhile fun r => r.seq ≠ x

/-- `x` is the number of a record in the ring (R155). -/
def inRing (x : Nat) (ring : List SampleRecord) : Bool := ring.any fun r => r.seq = x

/-- Entry into RAISED: SAMPLES is set pending and both pacing counts return to 0 (R164). -/
def pacingRaise (s : State) : State :=
  raise .samples (s.onSms fun m => { m with pacing := .raised, storedSinceRaise := 0, delayCount := 0 })

/-- A record stored while COUNTING with `n` records since the last raise (R164). -/
def pacingCount (mark : Bool) (n : Nat) (s : State) : State :=
  let s := s.onSms fun m => { m with pacing := .counting, storedSinceRaise := n }
  if mark || s.sms.paceCount ≤ n then pacingRaise s else s

/-- The pacing of one stored record; `mark` says it is a guaranteed mark (R164). -/
def pacingStored (mark : Bool) (s : State) : State :=
  match s.sms.pacing with
  | .waiting => pacingCount mark 1 (s.onSms fun m => { m with delayCount := 0 })
  | .counting => pacingCount mark (s.sms.storedSinceRaise + 1) s
  | .raised => s

/-- The pacing of one measured point (R164). -/
def pacingPoint (s : State) : State :=
  match s.sms.pacing with
  | .counting =>
    if 2 * s.sms.paceDelay ≤ s.sms.delayCount + 1 then pacingRaise s
    else s.onSms fun m => { m with delayCount := m.delayCount + 1 }
  | .waiting | .raised => s

/-- A record joins the ring at its newest end with the next sequence number, with THINNED added while it is pending
(R155, R156, R160). -/
def Sms.join (kind : RecordKind) (segment : Option Nat) (p : Point) (m : Sms) : Sms :=
  { m with
    ring := m.ring ++ [{ seq := nextSeq m.newest, kind := kind, segment := segment,
                         point := { p with flags := { p.flags with thinned := p.flags.thinned || m.thinnedPending } } }]
    newest := nextSeq m.newest
    thinnedPending := false
    recordsStored := satSucc max32 m.recordsStored }

/-- A record is stored, and the pacing takes it (R155, R160, R164). -/
def storeRecord (mark : Bool) (kind : RecordKind) (segment : Option Nat) (p : Point) (s : State) : State :=
  pacingStored mark (s.onSms (Sms.join kind segment p))

/-- Recording after a guaranteed mark of this kind (R157). -/
def recordingAfter (kind : RecordKind) (before : Bool) : Bool :=
  match kind with
  | .testStart => true
  | .testEnd => false
  | .point | .segmentStart | .reh | .rel | .rp | .fmax | .handover | .fracture => before

/-- A guaranteed mark is stored when it is handed, at every thinning level (R161), and moves `recording` (R157). -/
def storeMark (kind : RecordKind) (p : Point) (s : State) : State :=
  storeRecord true kind none p (s.onSms fun m => { m with recording := recordingAfter kind m.recording })

/-- The thinning level after a decision on `free` slots (R159). -/
def thinningAfter (free level : Nat) : Nat :=
  if free ≤ 16 ∧ level < 2 then 2
  else if 17 ≤ free ∧ free ≤ 255 ∧ level = 0 then 1
  else if 512 ≤ free ∧ 0 < level then 0
  else level

/-- The thinning level is decided anew, and each rise adds THINNING (R159). -/
def decideThinning (s : State) : State :=
  let after := thinningAfter s.sms.free s.sms.thinning
  let s' := s.onSms fun m => { m with thinning := after }
  if s.sms.thinning < after then addNotice .thinning s' else s'

/-- A decimation number is selected at a thinning level (R158). -/
def selectedAt (n level number : Nat) : Bool :=
  match level with
  | 0 => number % n == 0
  | 1 => number % (2 * n) == 0
  | _ => false

/-- A SEGMENT_START is handed to the store: stored at level 0, at level 1 if its number is a multiple of 2N, and let
go otherwise (R160). -/
def offerSegmentStart (idx : Nat) (p : Point) (s : State) : State :=
  let s := decideThinning s
  if s.sms.thinning = 0 || (s.sms.thinning = 1 && selectedAt s.header.decimation 1 s.sms.decimation) then
    storeRecord false .segmentStart (some idx) p s
  else s.onSms fun m =>
    { m with thinnedPending := true, segStartsNotStored := satSucc max32 m.segStartsNotStored }

/-- The decimation counter grows by 1 (R158); past its largest value it holds a free value (log 27). -/
def countOffered (s : State) : State :=
  if s.sms.decimation < max32 then s.onSms fun m => { m with decimation := m.decimation + 1 }
  else { s.onSms (fun m => { m with decimation := Config.decimationPastEnd s.freeCount % (max32 + 1) }) with
         freeCount := s.freeCount + 1 }

/-- The decision on an offered point's POINT record (R160). -/
def decidePoint (number : Nat) (p : Point) (s : State) : State :=
  let s := decideThinning s
  if selectedAt s.header.decimation s.sms.thinning number then storeRecord false .point none p s
  else if selectedAt s.header.decimation 0 number then s.onSms fun m =>
    { m with thinnedPending := true, pointsNotStored := satSucc max32 m.pointsNotStored
             totalNotStored := satSucc max32 m.totalNotStored }
  else s

/-- A measured point is offered to the store while it records (R157, R158, R160). -/
def offerPoint (p : Point) (s : State) : State :=
  if s.sms.recording then decidePoint s.sms.decimation p (countOffered s) else s

/-- The acceptance of a Start Test (R158, R160). -/
def storeTestAccepted (s : State) : State :=
  s.onSms fun m => { m with decimation := 0, pointsNotStored := 0, thinnedPending := false }

/-- The pacing after an accepted Release (R165). Both counts return to 0 in WAITING too (DESIGN CHOICE, log 47). -/
def releasePacing (s : State) : State :=
  let empty := s.sms.releaseMark == s.sms.newest
  clearSource .samples (s.onSms fun m =>
    { m with pacing := if empty then .waiting else .counting, storedSinceRaise := 0, delayCount := 0 })

/-- The records through `r` leave the ring (R163); a Release at the release mark takes out nothing. -/
def Sms.releaseThrough (r : Nat) (m : Sms) : Sms :=
  { m with ring := if r = m.releaseMark then m.ring else (fromSeq r m.ring).drop 1, releaseMark := r }

/-- An accepted Release: records out, non-zero pace settings in, thinning decided, pacing reset (R163). -/
def releaseRecords (r count delay : Nat) (s : State) : State :=
  releasePacing (decideThinning (s.onSms fun m =>
    { m.releaseThrough r with
      paceCount := if count = 0 then m.paceCount else count
      paceDelay := if delay = 0 then m.paceDelay else delay }))

end Sys2Proof.Machine
end

