-- ==== Sys2Proof/Machine/Gauge.lean ====
section
/-! DEFINITION. The command slot and the waiting list of the Gauge Link Controller (section 5.5), its arbiter
(section 5.4), the requests it drives and the replies it accepts (section 5.2). -/

namespace Sys2Proof.Machine

/-- A command of this head and kind stands in the slot or in the waiting list (R101). -/
def Glc.stands (h : Head) (k : HeadCmd) (g : Glc) : Bool :=
  (match g.slot with
   | some c => c.head = h && c.kind = k
   | none => false) || g.waiting.any fun w => w.head = h && w.kind = k

/-- A command enters the slot in phase LINK_WAIT (R101). -/
def Glc.enter (h : Head) (k : HeadCmd) (o : Origin) (g : Glc) : Glc :=
  { g with slot := some ⟨h, k, o, .linkWait, 0, false⟩ }

/-- A command of the Extensometer Manager: already asked for, or into a FREE slot, or onto the waiting list (R101). -/
def Glc.ask (h : Head) (k : HeadCmd) (g : Glc) : Glc :=
  if g.stands h k then g
  else match g.slot with
    | none => g.enter h k .exm
    | some _ => { g with waiting := g.waiting ++ [⟨h, k⟩] }

/-- The Extensometer Manager asks for a command (R101). -/
def askCommand (h : Head) (k : HeadCmd) (s : State) : State := s.onGlc (Glc.ask h k)

/-- Entries of the waiting list are withdrawn, without a transaction and without an outcome (R104). -/
def Glc.withdraw (p : WaitingCmd → Bool) (g : Glc) : Glc := { g with waiting := g.waiting.filter fun w => !p w }

/-- The slot is set FREE, and the oldest waiting entry moves in (R101, R103). -/
def Glc.freeSlot (g : Glc) : Glc :=
  match g.waiting with
  | [] => { g with slot := none }
  | w :: rest => ({ g with waiting := rest } : Glc).enter w.head w.kind .exm

/-! ### The arbiter (R99, R100, R130) -/

/-- A head wants stream reads (R100). -/
def wantsStream (s : State) (h : Head) : Bool :=
  let e := s.exm.heads.get h
  e.configured && (e.state = .clamped || e.state = .measuring)

/-- The head of the stream read that the arbiter would choose (R100). Where both want one and none has been streamed
yet, FRONT goes first (DESIGN CHOICE, log 43). -/
def streamChoice (s : State) : Option Head :=
  match wantsStream s .front, wantsStream s .rear with
  | true, true => if s.glc.lastStreamed = some .front then some .rear else some .front
  | true, false => some .front
  | false, true => some .rear
  | false, false => none

/-- The operation of a slot command's own transaction (R101). -/
def HeadCmd.op : HeadCmd → GaugeOp
  | .identify => .identify
  | .clamp => .command .clamp
  | .lift => .command .lift
  | .zero => .command .zero

/-- The slot's wanted transaction (R99): the command in LINK_WAIT, except a LIFT while the strain source is
EXTENSOMETER (R130), or a due confirmation poll. -/
def slotChoice (s : State) : Option (Head × GaugeOp) :=
  match s.glc.slot with
  | none => none
  | some c =>
    match c.phase with
    | .linkWait => if c.kind = .lift ∧ s.exm.source = .extensometer then none else some (c.head, c.kind.op)
    | .onLink => none
    | .confirming => if c.pollDue then some (c.head, .poll) else none

/-- The next transaction, by the order of R99. -/
def nextTransaction (s : State) : Option (Head × GaugeOp × TxSource) :=
  match s.glc.roundList with
  | h :: _ => some (h, .poll, .round)
  | [] =>
    match slotChoice s, s.glc.lastFromSlot, streamChoice s with
    | some (h, o), false, _ => some (h, o, .slot)
    | _, _, some h => some (h, .read, .stream)
    | some (h, o), true, none => some (h, o, .slot)
    | none, _, none => none

/-! ### Requests and replies (R90, R92) -/

/-- The code of an operation (R92). -/
def GaugeOp.code : GaugeOp → Nat
  | .poll => 1
  | .read => 2
  | .command _ => 3
  | .identify => 4

/-- The code of a command kind on the link (R92): 0 CLAMP, 1 LIFT, 2 ZERO. -/
def HeadCmd.linkCode : HeadCmd → Nat
  | .clamp => 0
  | .lift => 1
  | .zero => 2
  | .identify => 3

/-- The payload of a request (R92). -/
def GaugeOp.payload : GaugeOp → List Byte
  | .poll => []
  | .read => []
  | .command k => u8 k.linkCode
  | .identify => []

/-- The fixed payload length of a reply (R92). -/
def GaugeOp.replyLength : GaugeOp → Nat
  | .poll => 3
  | .read => 7
  | .command _ => 1
  | .identify => 23

/-- A message on the link: address, operation code, payload length, payload, check (R90). -/
def gaugeMessage (h : Head) (o : GaugeOp) (payload : List Byte) : List Byte :=
  let body := u8 (headAddress h) ++ u8 o.code ++ u8 payload.length ++ payload
  body ++ u16 (crc 0 body).toNat

/-- The request of a transaction. -/
def gaugeRequest (h : Head) (o : GaugeOp) : List Byte := gaugeMessage h o o.payload

/-- What a successful reply hands to the manager (R93): a status, an extension with a status, an acknowledgement, an
identity. -/
inductive TxData
  | status (st : HeadStatus)
  | extension (x : Int) (st : HeadStatus)
  | ack (k : HeadCmd)
  | identity (i : Identity)
deriving DecidableEq, Repr

/-- How a transaction ended (R91). -/
inductive TxResult
  | success (d : TxData)
  | failure (k : FailureKind)
deriving DecidableEq, Repr

/-- The arms a code names (R92). -/
def armsOf (b : Byte) : Option Arms :=
  if b = 0 then some .lifted else if b = 1 then some .clamped else if b = 2 then some .moving else none

/-- A yes-or-no field of a reply (R92). -/
def ynOf (b : Byte) : Option Bool :=
  if b = 0 then some false else if b = 1 then some true else none

/-- The status in three payload bytes (R92, R94). -/
def statusOf (bs : List Byte) : Option HeadStatus :=
  match bs with
  | [a, b, c] => do some ⟨← armsOf a, ← ynOf b, ← ynOf c⟩
  | _ => none

/-- A printable character (section 1.2, R97). -/
def printable (b : Byte) : Bool := 0x20 ≤ b.toNat && b.toNat ≤ 0x7E

/-- The serial text in sixteen bytes: 1 to 16 characters from 20h to 7Eh, padded with 00h (R97). -/
def serialOf (bs : List Byte) : Option (List Byte) :=
  let t := bs.takeWhile fun b => b ≠ 0
  if 1 ≤ t.length ∧ t.all printable ∧ (bs.drop t.length).all (fun b => b = 0) then some t else none

/-- The identity in twenty-three payload bytes, with the ranges of R97. -/
def identityOf (bs : List Byte) : Option Identity :=
  match bs with
  | k :: rest =>
    let le := ofBytes (rest.take 2)
    let tr := ofBytes ((rest.drop 2).take 4)
    if 1000 ≤ le ∧ le ≤ 20000 ∧ 1 ≤ tr ∧ tr ≤ 2000000000 then do some ⟨k, le, tr, ← serialOf (rest.drop 6)⟩
    else none
  | [] => none

/-- The data of an accepted reply's payload (R92, R94 to R97). -/
def replyData (o : GaugeOp) (bs : List Byte) : Option TxData :=
  match o with
  | .poll => (statusOf bs).map .status
  | .read => (statusOf (bs.drop 4)).map (.extension (ofBytesSigned (bs.take 4)))
  | .command k => if bs = u8 k.linkCode then some (.ack k) else none
  | .identify => (identityOf bs).map .identity

/-- The length of a complete reply: three header bytes, the payload, two check bytes (R92). -/
def GaugeOp.messageLength (o : GaugeOp) : Nat := o.replyLength + 5

/-- The acceptance of a complete reply (R92): the check, the address, the operation code, the payload length and every
coded field; anything else is BAD_CHECK. -/
def acceptReply (h : Head) (o : GaugeOp) (bs : List Byte) : TxResult :=
  let body := bs.take (o.replyLength + 3)
  let payload := body.drop 3
  if bs.drop (o.replyLength + 3) = u16 (crc 0 body).toNat ∧
     body.take 3 = u8 (headAddress h) ++ u8 o.code ++ u8 o.replyLength then
    match replyData o payload with
    | some d => .success d
    | none => .failure .badCheck
  else .failure .badCheck

end Sys2Proof.Machine
end

