-- ==== Sys2Proof/Machine/Heads.lean ====
section
/-! DEFINITION. The Extensometer Manager's own operations (chapter 6): head states, the strain of a point, the
handover window and the estimate from travel, handover, freeze at fracture, recovery lifts, the end of a test. -/

namespace Sys2Proof.Machine

/-! ### Head entries -/

/-- One head's entry is changed. -/
def onHead (h : Head) (f : HeadEntry → HeadEntry) (s : State) : State :=
  s.onExm fun m => { m with heads := m.heads.modify h f }

/-- The failed-poll count is kept in these states (R112). -/
def HeadState.countsPolls : HeadState → Bool
  | .present | .clamping | .clamped => true
  | .absent | .measuring | .lifting | .lost => false

/-- An entry in the state `st`; in the states that keep no failed-poll count the count stays 0 (R112). -/
def HeadEntry.enter (st : HeadState) (e : HeadEntry) : HeadEntry :=
  { e with state := st, failedPolls := if st.countsPolls then e.failedPolls else 0 }

/-- A head's state becomes `st`; every change raises HEAD_STATE (R110). -/
def setHeadState (h : Head) (st : HeadState) (s : State) : State :=
  if (s.exm.heads.get h).state = st then s else raise .headState (onHead h (HeadEntry.enter st) s)

/-- A head is put in the lift watch, for the present test, or taken out of it (R129). -/
def setWatch (h : Head) (b : Bool) (s : State) : State :=
  s.onExm fun m => { m with liftWatch := m.liftWatch.set h b, liftHolds := m.liftHolds.set h b }

/-- A LIFT is asked for with origin EXM and watched (R127, R128, R129). -/
def askWatchedLift (h : Head) (s : State) : State := setWatch h true (askCommand h .lift s)

/-- A head in one of these states is asked to lift. -/
def askLiftIf (p : HeadState → Bool) (h : Head) (s : State) : State :=
  if p (s.exm.heads.get h).state then askWatchedLift h s else s

/-- A PRESENT head whose latest status shows its arms other than LIFTED, with no LIFT of it asked for, while the
strain source is not EXTENSOMETER (R114). -/
def needsRecovery (h : Head) (s : State) : Bool :=
  let e := s.exm.heads.get h
  (e.state = .present) && s.exm.source ≠ .extensometer && !s.glc.stands h .lift &&
    (match e.latest with
     | some st => st.arms ≠ .lifted
     | none => false)

/-- The recovery lift of R114, watched when it is asked for during a test (R129). -/
def recoveryLift (h : Head) (s : State) : State :=
  if needsRecovery h s then
    if s.inTest then askWatchedLift h s else askCommand h .lift s
  else s

/-- The recovery lifts asked for when the strain source leaves EXTENSOMETER (R114). -/
def recoverBoth (s : State) : State := recoveryLift .rear (recoveryLift .front s)

/-- Entries of the waiting list are withdrawn (R104); a head whose LIFT is withdrawn leaves the lift watch, since no
outcome can come (DEDUCED, log 23). -/
def withdrawWaiting (p : WaitingCmd → Bool) (s : State) : State :=
  let gone := fun h => s.glc.waiting.any fun w => p w && w.head = h && w.kind = .lift
  (s.onGlc (Glc.withdraw p)).onExm fun m =>
    { m with liftWatch := ⟨m.liftWatch.front && !gone .front, m.liftWatch.rear && !gone .rear⟩
             liftHolds := ⟨m.liftHolds.front && !gone .front, m.liftHolds.rear && !gone .rear⟩ }

/-! ### The strain of a point (R118 to R123) -/

/-- A head's newest value is judged (R118), and a new interval begins. -/
def HeadEntry.judge (e : HeadEntry) : HeadEntry :=
  if e.configured then
    { e with
      freshness := if e.readOk then .fresh else if e.readFailed then .substituted else .carried
      readOk := false
      readFailed := false }
  else e

/-- Both heads are judged at the formation of a point (R118). -/
def judgeHeads (s : State) : State := s.onExm fun m => { m with heads := m.heads.map HeadEntry.judge }

/-- The range of a strain (00_scope.md, R119). -/
def clampStrain (x : Int) : Int := clampTo (-2000000) 2000000 x

/-- The strain of one head (R119). -/
def strainOne (le : Nat) (e : HeadEntry) : Int := clampStrain (divRound (e.lastGood * 1000) le)

/-- The strain of two heads, one rounding at the division (R119). -/
def strainTwo (le : Nat) (f r : HeadEntry) : Int :=
  clampStrain (divRound ((f.lastGood + r.lastGood) * 1000) (2 * le))

/-- STRAIN_SUBSTITUTED or STRAIN_CARRIED as a value that is not fresh was judged (R119). -/
def heldFlags (substituted : Bool) : PointFlags :=
  { PointFlags.empty with substituted := substituted, carried := !substituted }

/-- The strain and flags of a point from one measuring head (R119); `two` says that the test has two test heads. -/
def oneHeadStrain (le : Nat) (two : Bool) (e : HeadEntry) : Int × PointFlags :=
  match e.freshness with
  | .fresh => (strainOne le e, { PointFlags.empty with oneSided := two })
  | .substituted => (strainOne le e, { heldFlags true with oneSided := two })
  | .carried => (strainOne le e, { heldFlags false with oneSided := two })

/-- The strain and flags of a point from two measuring heads (R119). -/
def twoHeadStrain (le : Nat) (f r : HeadEntry) : Int × PointFlags :=
  match f.freshness, r.freshness with
  | .fresh, .fresh => (strainTwo le f r, PointFlags.empty)
  | .fresh, .carried => (strainOne le f, { PointFlags.empty with oneSided := true })
  | .fresh, .substituted => (strainOne le f, { PointFlags.empty with oneSided := true })
  | .carried, .fresh => (strainOne le r, { PointFlags.empty with oneSided := true })
  | .substituted, .fresh => (strainOne le r, { PointFlags.empty with oneSided := true })
  | .carried, .carried => (strainTwo le f r, heldFlags false)
  | .carried, .substituted => (strainTwo le f r, heldFlags true)
  | .substituted, .carried => (strainTwo le f r, heldFlags true)
  | .substituted, .substituted => (strainTwo le f r, heldFlags true)

/-- The strain of a point while the source is EXTENSOMETER (R119). With no head MEASURING, which R121 excludes, the
point carries no strain (log 34). -/
def extensometerStrain (s : State) : Int × PointFlags :=
  let f := s.exm.heads.front
  let r := s.exm.heads.rear
  let two := f.testHead && r.testHead
  match decide (f.state = .measuring), decide (r.state = .measuring) with
  | true, true => twoHeadStrain s.gaugeLength f r
  | true, false => oneHeadStrain s.gaugeLength two f
  | false, true => oneHeadStrain s.gaugeLength two r
  | false, false => (0, { PointFlags.empty with noStrain := true })

/-- The estimate from travel (R123). -/
def estimatedStrain (lc : Nat) (ratio : Option TransferRatio) (travel : Int) : Int :=
  match ratio with
  | some q =>
    match q.kind with
    | .window => clampStrain (q.strainH + divRound ((travel - q.travelH) * q.deltaStrain) q.deltaTravel)
    | .nominal => clampStrain (q.strainH + divRound ((travel - q.travelH) * 10000) lc)
  | none => clampStrain (divRound (travel * 10000) lc)

/-- The strain and the strain flags of a point of the given travel, by the strain source (R120). -/
def strainOf (s : State) (travel : Int) : Int × PointFlags :=
  match s.exm.source with
  | .none => (0, { PointFlags.empty with noStrain := true })
  | .extensometer => extensometerStrain s
  | .estimated =>
    (estimatedStrain s.parallelLength s.exm.ratio travel, { PointFlags.empty with estimated := true })
  | .frozen => (s.exm.frozenStrain.getD 0, { PointFlags.empty with frozen := true })

/-- The pair joins the window at its newest end; with `w` entries already held, the oldest leaves (R122). -/
def pushWindow (w : Nat) (x : Int × Int) (q : List (Int × Int)) : List (Int × Int) :=
  (if w ≤ q.length then q.drop (q.length + 1 - w) else q) ++ [x]

/-- A point with fresh extensometer strain joins the window (R122). -/
def windowEntry (p : Point) (s : State) : State :=
  if p.source = .extensometer && !p.flags.substituted && !p.flags.carried && !p.flags.noStrain then
    s.onExm fun m => { m with window := pushWindow s.header.windowLength (p.travel, p.strain) m.window }
  else s

/-! ### Handover, fracture, end of test (R121, R123, R124, R127, R117) -/

/-- The transfer ratio formed from a window (R123). -/
def formRatio (q : List (Int × Int)) : TransferRatio :=
  match q.head?, q.getLast? with
  | some (t0, e0), some (t1, e1) =>
    { kind := if 2 ≤ q.length ∧ 1000 ≤ t1 - t0 ∧ 0 < e1 - e0 then .window else .nominal
      strainH := e1, travelH := t1, deltaStrain := e1 - e0, deltaTravel := t1 - t0 }
  | _, _ => ⟨.nominal, 0, 0, 0, 0⟩

/-- The handover of R127, in its order, on the latest point formed: ratio, source ESTIMATED, HANDED_OVER, HANDOVER
mark, LIFTs of the MEASURING heads; then the recovery lifts of R114 (that they come after: DESIGN CHOICE, log 44). -/
def handover (t : Trigger) (s : State) : State :=
  let p := s.latest
  let s := s.onExm fun m =>
    { m with ratio := some (formRatio m.window), source := .estimated, removal := .handedOver
             trigger := some t, handoverPoint := some p.index }
  let s := storeMark .handover p s
  let s := askLiftIf (· = .measuring) .rear (askLiftIf (· = .measuring) .front s)
  recoverBoth s

/-- The freeze at fracture (R124): source FROZEN, removal CLOSED, LIFTs of the heads CLAMPED or MEASURING; then the
recovery lifts of R114 if the source was EXTENSOMETER (that they come after: DESIGN CHOICE, log 44). -/
def fractureFreeze (p : Point) (s : State) : State :=
  let wasExt := s.exm.source = .extensometer
  let s := s.onExm fun m =>
    { m with source := .frozen, frozenStrain := some p.strain
             removal := if m.removal = .watching ∨ m.removal = .deferred then .closed else m.removal }
  let lifts := fun st : HeadState => st = .clamped || st = .measuring
  let s := askLiftIf lifts .rear (askLiftIf lifts .front s)
  if wasExt then recoverBoth s else s

/-- A head at the end of a test: MEASURING goes to CLAMPED (R117). -/
def headTestEnd (h : Head) (s : State) : State :=
  if (s.exm.heads.get h).state = .measuring then setHeadState h .clamped s else s

/-- The end of a test in the Extensometer Manager (R117). The lift watch keeps its heads, whose outcomes hold no later
test (R129). A ZERO of this block that still waits is withdrawn (R104); the recovery lifts of R114 follow if the source
was EXTENSOMETER. -/
def extTestEnd (s : State) : State :=
  let wasExt := s.exm.source = .extensometer
  let s := headTestEnd .rear (headTestEnd .front s)
  let s := s.onExm fun m =>
    { m with source := .none, frozenStrain := none, removal := .idle, zeroAsked := none
             liftHolds := ⟨false, false⟩
             heads := m.heads.map fun e => { e with testHead := false } }
  let s := withdrawWaiting (fun w => w.kind = .zero) s
  if wasExt then recoverBoth s else s

/-- The acceptance of a Start Test in the Extensometer Manager (R21, R117): the CLAMPED heads become the test's heads,
the window is emptied, and what the last test left readable is cleared. -/
def extTestAccepted (s : State) : State :=
  s.onExm fun m =>
    { m with heads := m.heads.map fun e => { e with testHead := e.state = .clamped }
             window := [], ratio := none, frozenStrain := none, trigger := none, handoverPoint := none
             source := .none }

/-- A test's head goes from CLAMPED to MEASURING at the entry point (R24, R117). -/
def headTestEntry (h : Head) (s : State) : State :=
  if (s.exm.heads.get h).testHead && (s.exm.heads.get h).state = .clamped then setHeadState h .measuring s else s

/-- The entry point in the Extensometer Manager (R117): heads to MEASURING; then EXTENSOMETER and WATCHING, with the
waiting LIFTs withdrawn (R130), or, without heads, ESTIMATED with a NOMINAL ratio of the empty window and CLOSED. -/
def extTestEntry (s : State) : State :=
  let s := headTestEntry .rear (headTestEntry .front s)
  if 0 < s.exm.heads.count (fun e => e.state = .measuring) then
    withdrawWaiting (fun w => w.kind = .lift)
      (s.onExm fun m => { m with source := .extensometer, removal := .watching })
  else
    s.onExm fun m => { m with source := .estimated, ratio := some (formRatio []), removal := .closed }

/-! ### Removal (R125, R126) -/

/-- The proof stress is unresolved (R126, R141): it was asked for and Rp is neither fixed nor closed absent. -/
def proofUnresolved (s : State) : Bool :=
  0 < s.header.offsetStrain &&
    (match s.evu.result with
     | some r => r.rp = .opened
     | none => false)

/-- An evaluation that holds back a removal is still open (R126). -/
def evaluationOpen (s : State) : Bool := proofUnresolved s || s.evu.phase = .yielding

/-- The trigger a point gives while the removal state is WATCHING (R125). -/
def removalTrigger (p : Point) (s : State) : Option Trigger :=
  if 0 < s.header.removalStrain ∧ (s.header.removalStrain : Int) ≤ p.strain then some .strain
  else if s.evu.phase = .necking then some .necking
  else none

/-- The removal check of a point taken in RUNNING, HELD or ENDING, after the Evaluation Unit has taken it (R125,
R126). -/
def removalCheck (p : Point) (s : State) : State :=
  match s.exm.removal with
  | .watching =>
    match removalTrigger p s with
    | some t =>
      if p.strain < s.header.protectStrain ∧ evaluationOpen s then
        s.onExm fun m => { m with removal := .deferred, trigger := some t }
      else handover t s
    | none => s
  | .deferred =>
    if (s.header.protectStrain : Int) ≤ p.strain ∨ ¬ evaluationOpen s then
      handover (s.exm.trigger.getD .strain) s
    else s
  | .idle | .handedOver | .closed => s

end Sys2Proof.Machine
end

