-- ==== Sys2Proof/Machine/Evaluation.lean ====
section
/-! DEFINITION. The Evaluation Unit (chapter 7): the ten steps of R135 on its own record, then their effects on the
rest of the part. -/

namespace Sys2Proof.Machine

/-! ### Fields of the result record (R150) -/

/-- A field leaves OPEN once: a field that is not OPEN keeps what it holds (R150). -/
def Field.fix (v : Int) (i : Nat) : Field → Field
  | .opened => .fixed v i
  | .fixed v' i' => .fixed v' i'
  | .absent r => .absent r

/-- A field still OPEN is closed absent with a reason (R150). -/
def Field.close (r : Absence) : Field → Field
  | .opened => .absent r
  | .fixed v i => .fixed v i
  | .absent r' => .absent r'

/-- The result record opened at the acceptance of a Start Test (R134). Fit point count 0, fallback used no and source
for A NONE are what Read Results sends until E or A is fixed (R153; DESIGN CHOICE, log 46). -/
def ResultRecord.fresh : ResultRecord where
  e := .opened
  x0 := .opened
  rp := .opened
  reh := .opened
  rel := .opened
  rm := .opened
  ag := .opened
  fractureForce := .opened
  a := .opened
  fitCount := 0
  fallbackUsed := false
  fmax := 0
  sourceOfA := .none
  endReason := none
  slipCount := 0

/-- The nine characteristic fields, in the order of the Read Results layout. -/
def ResultRecord.fields (r : ResultRecord) : List Field :=
  [r.e, r.x0, r.rp, r.reh, r.rel, r.rm, r.ag, r.fractureForce, r.a]

/-- How many fields are still OPEN. -/
def ResultRecord.openCount (r : ResultRecord) : Nat := (r.fields.filter (· = .opened)).length

/-- The result record is changed. -/
def Evu.onResult (f : ResultRecord → ResultRecord) (e : Evu) : Evu := { e with result := e.result.map f }

/-! ### What the evaluation of a point reads and makes -/

/-- What the evaluation of a point reads beside its own record: the plan header, A0, the nominal modulus, the
classifier state after the point, whether the sequencer is in RUNNING or HELD (R146), whether a handover has been
taken in this test (R148), the point's unrest event, and the point. -/
structure EvalInput where
  header : PlanHeader
  area : Nat
  nominal : Option Nat
  classifier : Classifier
  fractureTested : Bool
  handedOver : Bool
  unrest : Bool
  point : Point
deriving DecidableEq, Repr

/-- What the evaluation of a point makes: the record, the marks handed to the Sample Store in order (R135), whether
fracture was detected on the point, whether a slip was counted on it. -/
structure EvalOut where
  evu : Evu
  marks : List (RecordKind × Point)
  fractured : Bool
  slip : Bool
deriving DecidableEq, Repr

/-- The record of an `EvalOut` is changed. -/
def EvalOut.on (f : Evu → Evu) (o : EvalOut) : EvalOut := { o with evu := f o.evu }

/-- A mark is handed to the Sample Store after those handed before it. -/
def EvalOut.mark (k : RecordKind) (p : Point) (o : EvalOut) : EvalOut := { o with marks := o.marks ++ [(k, p)] }

/-! ### The modulus fit (R136 to R138) -/

/-- The elastic line becomes present, and E and x0 are fixed at point `i` (R137, R138). -/
def fixLine (l : ElasticLine) (i : Nat) (e : Evu) : Evu :=
  { e with line := some l }.onResult fun r =>
    { r with e := r.e.fix l.e i, x0 := r.x0.fix l.x0 i, fitCount := e.sums.n, fallbackUsed := l.fallback }

/-- The offset search opens when p is greater than 0 (R139). -/
def openSearch (hd : PlanHeader) (e : Evu) : Evu :=
  if 0 < hd.offsetStrain then { e with search := .opened, searchPrev := none } else e

/-- The intercept of the fallback: the mean strain less the elastic strain of the mean stress, 0 with no point
(R138). -/
def fallbackIntercept (s : FitSums) (modulus : Int) : Int :=
  if s.n = 0 then 0 else divRound (s.x * modulus - s.y * 10000) (s.n * modulus)

/-- The fallback modulus, if the plan header and the specimen record allow one (R138). -/
def fallbackModulus (hd : PlanHeader) (nominal : Option Nat) : Option Nat :=
  if hd.fallback then nominal else none

/-- The fit fails at point `i` (R138): the fallback, which opens the search unless the failure is
EXTENSOMETER_REMOVED, or E, x0 and a requested Rp closed absent with the reason. -/
def failFit (hd : PlanHeader) (nominal : Option Nat) (reason : Absence) (i : Nat) (e : Evu) : Evu :=
  let e := { e with fit := .failed reason }
  match fallbackModulus hd nominal with
  | some m =>
    let e := fixLine ⟨m, fallbackIntercept e.sums m, true⟩ i e
    if reason = .extensometerRemoved then e else openSearch hd e
  | none =>
    e.onResult fun r =>
      { r with e := r.e.close reason, x0 := r.x0.close reason
               rp := if 0 < hd.offsetStrain then r.rp.close reason else r.rp }

/-- N of R137. -/
def FitSums.num (s : FitSums) : Int := s.n * s.xy - s.x * s.y

/-- D of R137. -/
def FitSums.den (s : FitSums) : Int := s.n * s.xx - s.x * s.x

/-- The fitted modulus E = 10,000 x N / D (R137). -/
def FitSums.modulus (s : FitSums) : Int := divRound (10000 * s.num) s.den

/-- The fitted intercept x0 = (Sx x N - Sy x D) / (n x N) (R137). -/
def FitSums.intercept (s : FitSums) : Int := divRound (s.x * s.num - s.y * s.den) (s.n * s.num)

/-- The fit window closes at point `i` and the fit is computed from the sums (R137). -/
def closeFit (hd : PlanHeader) (nominal : Option Nat) (i : Nat) (e : Evu) : Evu :=
  let q := e.sums
  if q.n < hd.nMin then failFit hd nominal .tooFewPoints i e
  else if q.den ≤ 0 ∨ q.num ≤ 0 then failFit hd nominal .fitFailed i e
  else if q.modulus < hd.eMin ∨ (hd.eMax : Int) < q.modulus then failFit hd nominal .modulusOutOfRange i e
  else openSearch hd (fixLine ⟨q.modulus, q.intercept, false⟩ i { e with fit := .done })

/-- A point measured with the extensometer, received fresh and not at a range change (R136, R139). -/
def freshExtensometer (p : Point) : Bool :=
  p.source = .extensometer && !p.flags.rangeChange && !p.flags.substituted && !p.flags.carried

/-- A point joins the fit sums, unless n would pass 65,535 (R136). -/
def FitSums.join (p : Point) (s : FitSums) : FitSums :=
  if s.n < max16 then
    { n := s.n + 1, x := s.x + p.strain, y := s.y + p.stress, xx := s.xx + p.strain * p.strain
      xy := s.xy + p.strain * p.stress }
  else s

/-- Step 6: the modulus fit window (R136, R137). -/
def stepFit (x : EvalInput) (o : EvalOut) : EvalOut :=
  if o.evu.fit = .collecting then
    if (x.header.sigmaHi : Int) < x.point.stress ∨ o.evu.phase ≠ .elastic then
      o.on (closeFit x.header x.nominal x.point.index)
    else if freshExtensometer x.point = true ∧ (x.header.sigmaLo : Int) ≤ x.point.stress then
      o.on fun e => { e with sums := e.sums.join x.point }
    else o
  else o

/-! ### Step 1: the strain-source check (R148) -/

/-- The point is the first evaluated point whose source is not EXTENSOMETER after the extensometer strain of this test
has ended (R148; the case without an evaluated point before it: log 25). -/
def extensometerEnds (x : EvalInput) (e : Evu) : Bool :=
  x.point.source ≠ .extensometer &&
    (match e.prev with
     | some q => q.source = .extensometer
     | none => x.handedOver)

/-- What closes when the extensometer strain ends (R148). -/
def closeExtensometer (x : EvalInput) (e : Evu) : Evu :=
  let e :=
    if e.fit = .collecting then
      (failFit x.header x.nominal .extensometerRemoved x.point.index e).onResult fun r =>
        { r with rp := if 0 < x.header.offsetStrain then r.rp.close .extensometerRemoved else r.rp }
    else e
  let e :=
    if e.search = .opened then
      { e with search := .closed }.onResult fun r => { r with rp := r.rp.close .extensometerRemoved }
    else e
  if e.phase = .yielding then
    { e with tracker := none, phase := .hardening }.onResult fun r =>
      { r with rel := r.rel.close .extensometerRemoved }
  else e

/-- Step 1 of R135. -/
def stepSource (x : EvalInput) (o : EvalOut) : EvalOut :=
  if extensometerEnds x o.evu then o.on (closeExtensometer x) else o

/-! ### Maximum force, Rm and Ag (R144, R145) -/

/-- Rm is still to be fixed. -/
def Evu.rmOpen (e : Evu) : Bool :=
  match e.result with
  | some r => r.rm = .opened
  | none => false

/-- Step 2: the Fmax tracker (R144). -/
def stepFmax (x : EvalInput) (o : EvalOut) : EvalOut :=
  if o.evu.rmOpen then
    match o.evu.fmax with
    | none => o.on fun e => { e with fmax := some x.point }
    | some q => if q.force < x.point.force then o.on fun e => { e with fmax := some x.point } else o
  else o

/-- The Fmax point (R144); after step 2 it is present while Rm is open. -/
def Evu.fmaxPoint (e : Evu) : Point := e.fmax.getD .zero

/-- A share of Fmax in per mille, rounded at its division (R145, R146). -/
def shareOfFmax (e : Evu) (perMille : Nat) : Int := divRound (e.fmaxPoint.force * perMille) 1000

/-- The elastic strain of a stress: y x 10,000 / E (00_scope.md). -/
def elasticStrain (y modulus : Int) : Int := divRound (y * 10000) modulus

/-- Rm, the FMAX mark and Ag (R145). -/
def fixMaximum (x : EvalInput) (o : EvalOut) : EvalOut :=
  let f := o.evu.fmaxPoint
  let rm := divRound (f.force * 1000) x.area
  let o := o.on fun e => e.onResult fun r => { r with rm := r.rm.fix rm f.index, fmax := f.force }
  let o := o.mark .fmax f
  o.on fun e => e.onResult fun r =>
    { r with ag :=
        match e.line with
        | some l => r.ag.fix (f.strain - elasticStrain rm l.e) f.index
        | none => r.ag.close .fitFailed }

/-- Max-passed armed becomes yes again on the first point in HARDENING whose force is at least the ReH point's
(R145). -/
def rearm (x : EvalInput) (e : Evu) : Evu :=
  match e.smax with
  | some q =>
    if e.maxPassedArmed = false ∧ e.phase = .hardening ∧ q.force ≤ x.point.force then { e with maxPassedArmed := true } else e
  | none => e

/-- The point passes the maximum (R145). -/
def passesMaximum (x : EvalInput) (e : Evu) : Bool :=
  e.maxPassedArmed &&
    (e.phase = .hardening || (e.phase = .elastic && x.header.yieldDrop = 0)) &&
    x.point.force ≤ e.fmaxPoint.force - shareOfFmax e x.header.maxPassedDrop

/-- Step 5: the max-passed test, which may move the phase to NECKING (R145). -/
def stepMaxPassed (x : EvalInput) (o : EvalOut) : EvalOut :=
  let o := o.on (rearm x)
  if passesMaximum x o.evu then o.on fun e => { e with phase := .necking } else o

/-- Step 8: the effects of a max passed found in step 5 (R145): NECKING with Rm still open. -/
def stepMaxEffects (x : EvalInput) (o : EvalOut) : EvalOut :=
  if o.evu.phase = .necking ∧ o.evu.rmOpen = true then fixMaximum x o else o

/-! ### Fracture (R146, R147) -/

/-- Fracture detection is armed on the first point at the arm force (R146). -/
def armFracture (x : EvalInput) (e : Evu) : Evu :=
  if (x.header.fractureArmForce : Int) ≤ x.point.force then { e with fractureArmed := true } else e

/-- The point is the fracture point (R146). -/
def isFracture (x : EvalInput) (e : Evu) : Bool :=
  x.fractureTested && e.fractureArmed && e.phase ≠ .fractured &&
    (x.point.force < shareOfFmax e x.header.fractureFraction ||
     (match e.prev with
      | some q => shareOfFmax e x.header.abruptFraction ≤ q.force - x.point.force
      | none => false))

/-- The effects of fracture, in the order of R147. The previous point is present (R146); without one, which R146
excludes, the point itself stands for it (log 34). -/
def fractureEffects (x : EvalInput) (o : EvalOut) : EvalOut :=
  let o := if o.evu.fit = .collecting then o.on (closeFit x.header x.nominal x.point.index) else o
  let o := if o.evu.rmOpen then fixMaximum x o else o
  let o := o.on fun e =>
    if e.search = .opened then
      { e with search := .closed }.onResult fun r => { r with rp := r.rp.close .fracturedFirst }
    else e
  let o := o.on fun e => e.onResult fun r =>
    if r.reh = .opened then { r with reh := r.reh.close .fracturedFirst, rel := r.rel.close .fracturedFirst }
    else if e.phase = .yielding then { r with rel := r.rel.close .fracturedFirst }
    else r
  let q := o.evu.prev.getD x.point
  let o := o.on fun e => e.onResult fun r =>
    { r with
      fractureForce := r.fractureForce.fix q.force q.index
      a := match e.line with
        | some l => r.a.fix (q.strain - elasticStrain q.stress l.e) q.index
        | none => r.a.close .fitFailed
      sourceOfA := q.source }
  let o := o.mark .fracture q
  { o.on (fun e => { e with phase := .fractured, tracker := none }) with fractured := true }

/-! ### Upper and lower yield (R142, R143) -/

/-- The point becomes Smax when Smax is absent or its stress exceeds it (R142). -/
def trackSmax (p : Point) (e : Evu) : Evu :=
  match e.smax with
  | none => { e with smax := some p }
  | some q => if q.stress < p.stress then { e with smax := some p } else e

/-- The upper yield is detected on the point (R142). -/
def detectsYield (x : EvalInput) (q : Point) : Bool :=
  x.point.stress ≤ q.stress - x.header.yieldDrop && (x.classifier = .falling || x.classifier = .erratic)

/-- The point counts as a yield-phase point, and beyond the transient skip as a candidate for ReL (R143). -/
def yieldPoint (x : EvalInput) (t : YieldTracker) : YieldTracker :=
  let n := t.count + 1
  let better : Bool := match t.candidate with
    | none => true
    | some q => x.point.stress < q.stress
  { t with
    count := n
    candidate := if x.header.transientSkip < n ∧ x.point.flags.rangeChange = false ∧ better = true then some x.point
                 else t.candidate }

/-- The upper yield with Smax at `q`: ReH, the REH mark, YIELDING, and the detection point as the first yield-phase
point (R142, R143). -/
def upperYield (x : EvalInput) (q : Point) (o : EvalOut) : EvalOut :=
  (o.on fun e =>
    { e with phase := .yielding, maxPassedArmed := false
             tracker := some (yieldPoint x ⟨q.strain, 0, none⟩) }.onResult fun r =>
      { r with reh := r.reh.fix q.stress q.index }).mark .reh q

/-- The elastic-stage work with yield evaluation on (R142). -/
def elasticYield (x : EvalInput) (o : EvalOut) : EvalOut :=
  let o := o.on (trackSmax x.point)
  let q := o.evu.smax.getD x.point
  if detectsYield x q then upperYield x q o
  else if (x.header.yieldSearchLimit : Int) < x.point.strain then
    o.on fun e => { e with phase := .hardening }.onResult fun r =>
      { r with reh := r.reh.close .continuousYielding, rel := r.rel.close .continuousYielding }
  else o

/-- The point ends the yield phase: its stress is at least ReH, or its strain at least the ReH point's strain plus
the yield span limit (R143). -/
def endsYield (x : EvalInput) (e : Evu) (t : YieldTracker) : Bool :=
  (match e.smax with
   | some q => q.stress ≤ x.point.stress
   | none => false) || t.rehStrain + x.header.yieldSpanLimit ≤ x.point.strain

/-- The end of the yield phase: ReL from the candidate with its mark, or TRANSIENT_ONLY (R143). -/
def endYield (t : YieldTracker) (o : EvalOut) : EvalOut :=
  let o := o.on fun e => { e with phase := .hardening, tracker := none }
  match t.candidate with
  | some q => (o.on fun e => e.onResult fun r => { r with rel := r.rel.fix q.stress q.index }).mark .rel q
  | none => o.on fun e => e.onResult fun r => { r with rel := r.rel.close .transientOnly }

/-- Step 4: the elastic-stage and yield-phase work (R142, R143). -/
def stepYield (x : EvalInput) (o : EvalOut) : EvalOut :=
  match o.evu.phase with
  | .elastic =>
    if 0 < x.header.yieldDrop then elasticYield x o
    else if (x.header.sigmaHi : Int) < x.point.stress then o.on fun e => { e with phase := .hardening }
    else o
  | .yielding =>
    match o.evu.tracker with
    | some t =>
      if endsYield x o.evu t then endYield t o
      else o.on fun e => { e with tracker := some (yieldPoint x t) }
    | none => o
  | .waiting | .hardening | .necking | .fractured => o

/-! ### Proof stress (R139, R140) -/

/-- The point is a search point (R139). -/
def isSearchPoint (x : EvalInput) (e : Evu) : Bool :=
  freshExtensometer x.point &&
    (match e.result with
     | some r =>
       (match r.rm with
        | .fixed v _ => x.point.stress ≤ v
        | .opened => true
        | .absent _ => true)
     | none => true)

/-- The plastic strain d = x - x0 - e of a point (R139). -/
def plasticStrain (l : ElasticLine) (p : Point) : Int := p.strain - l.x0 - elasticStrain p.stress l.e

/-- The proof stress at the crossing (R140). -/
def proofStress (offset : Int) (prev : Option SearchPrev) (d y : Int) : Int :=
  match prev with
  | some q => q.stress + divRound ((y - q.stress) * (offset - q.d)) (d - q.d)
  | none => y

/-- The crossing: Rp fixed, search CLOSED, RP mark (R140). The search previous keeps its last pair once the search is
CLOSED, here as in every other closing; nothing reads it then (DESIGN CHOICE, log 51). -/
def crossing (x : EvalInput) (d : Int) (o : EvalOut) : EvalOut :=
  let rp := proofStress x.header.offsetStrain o.evu.searchPrev d x.point.stress
  (o.on fun e => { e with search := .closed }.onResult fun r =>
    { r with rp := r.rp.fix rp x.point.index }).mark .rp x.point

/-- Step 7: the offset search (R139, R140). -/
def stepSearch (x : EvalInput) (o : EvalOut) : EvalOut :=
  if o.evu.search = .opened ∧ isSearchPoint x o.evu = true then
    match o.evu.line with
    | some l =>
      let d := plasticStrain l x.point
      if d < x.header.offsetStrain then o.on fun e => { e with searchPrev := some ⟨d, x.point.stress⟩ }
      else crossing x d o
    | none => o
  else o

/-! ### Slip and the whole point (R149, R135) -/

/-- Step 9: a slip is counted for an unrest event while the phase is ELASTIC (R149). -/
def stepSlip (x : EvalInput) (o : EvalOut) : EvalOut :=
  if x.unrest = true ∧ o.evu.phase = .elastic then
    { o.on (fun e => e.onResult fun r => { r with slipCount := satSucc max16 r.slipCount }) with slip := true }
  else o

/-- Step 10: the point becomes the previous point. -/
def stepPrev (x : EvalInput) (o : EvalOut) : EvalOut := o.on fun e => { e with prev := some x.point }

/-- The steps of R135 after the fracture test. -/
def unbrokenSteps (x : EvalInput) (o : EvalOut) : EvalOut :=
  stepPrev x (stepSlip x (stepMaxEffects x (stepSearch x (stepFit x (stepMaxPassed x (stepYield x o))))))

/-- The evaluation of one point (R135). In FRACTURED nothing more is evaluated (R133). -/
def evaluate (x : EvalInput) (e : Evu) : EvalOut :=
  let o : EvalOut := ⟨e, [], false, false⟩
  if e.phase = .fractured then o
  else
    let o := stepFmax x (stepSource x o)
    let o := o.on (armFracture x)
    if isFracture x o.evu then fractureEffects x o else unbrokenSteps x o

/-! ### The Evaluation Unit on the state -/

/-- The marks of a point are handed to the Sample Store in order (R135). -/
def handMarks : List (RecordKind × Point) → State → State
  | [], s => s
  | (k, p) :: rest, s => handMarks rest (storeMark k p s)

/-- The number of OPEN fields of the result record held. -/
def Evu.openCount (e : Evu) : Nat :=
  match e.result with
  | some r => r.openCount
  | none => 0

/-- What an evaluated point does outside the record: marks, RESULT if a field left OPEN (R152), SLIP (R149). -/
def applyEval (o : EvalOut) (s : State) : State :=
  let before := s.evu.openCount
  let s := handMarks o.marks (s.onEvu fun _ => o.evu)
  let s := if o.evu.openCount < before then raise .result s else s
  if o.slip then addNotice .slip s else s

/-- What the evaluation reads on a point. -/
def State.evalInput (s : State) (unrest : Bool) (p : Point) : EvalInput where
  header := s.header
  area := s.area
  nominal := s.tsq.specimen.bind (·.nominalModulus)
  classifier := s.fcu.classifier
  fractureTested := s.tsq.state = .running || s.tsq.state = .held
  handedOver := s.exm.removal = .handedOver
  unrest := unrest
  point := p

/-- The Evaluation Unit evaluates points taken in RUNNING, HELD or ENDING (R133). -/
def SeqState.evaluated : SeqState → Bool
  | .running | .held | .ending => true
  | .empty | .loading | .ready | .starting | .ended => false

/-- The acceptance of a Start Test in the Evaluation Unit (R134). -/
def evalTestAccepted (s : State) : State := s.onEvu fun _ => { Evu.reset with result := some .fresh }

/-- The entry point in the Evaluation Unit (R134); `measuring` says that at least one head goes to MEASURING. -/
def evalEntry (measuring : Bool) (p : Point) (s : State) : State :=
  let hd := s.header
  let nominal := s.tsq.specimen.bind (·.nominalModulus)
  s.onEvu fun e =>
    let e := { e with phase := .elastic, maxPassedArmed := true
                      fit := if measuring then .collecting else .notRequested }
    let e := e.onResult fun r => if hd.offsetStrain = 0 then { r with rp := r.rp.close .notRequested } else r
    let e := e.onResult fun r =>
      if hd.yieldDrop = 0 then { r with reh := r.reh.close .notRequested, rel := r.rel.close .notRequested } else r
    if measuring then e
    else match fallbackModulus hd nominal with
      | some m => fixLine ⟨m, fallbackIntercept e.sums m, true⟩ p.index e
      | none => e.onResult fun r => { r with e := r.e.close .notRequested, x0 := r.x0.close .notRequested }

/-- The absence reason of fields still open when a test ends (R151). A test that ends FRACTURE leaves none open. -/
def EndReason.absence : EndReason → Absence
  | .complete => .notReached
  | .fracture => .fracturedFirst
  | .aborted => .testAborted
  | .tripped => .testAborted
  | .startFailed => .testAborted

/-- Every characteristic field still OPEN is closed absent (R151). -/
def ResultRecord.closeAll (why : Absence) (r : ResultRecord) : ResultRecord :=
  { r with
    e := r.e.close why, x0 := r.x0.close why, rp := r.rp.close why, reh := r.reh.close why
    rel := r.rel.close why, rm := r.rm.close why, ag := r.ag.close why
    fractureForce := r.fractureForce.close why, a := r.a.close why }

/-- Entry into ENDED in the Evaluation Unit (R151): a fit still COLLECTING fails, with the fallback; then every open
field, the search and the yield tracker close. E and x0 of that fallback carry the latest point's index (DESIGN
CHOICE, log 45). -/
def evalTestEnd (why : EndReason) (s : State) : State :=
  let hd := s.header
  let nominal := s.tsq.specimen.bind (·.nominalModulus)
  let i := s.latest.index
  s.onEvu fun e =>
    let e := if e.fit = .collecting then failFit hd nominal why.absence i e else e
    { e with tracker := none, search := if e.search = SearchState.opened then SearchState.closed else e.search }.onResult fun r =>
      { r.closeAll why.absence with endReason := some why }

end Sys2Proof.Machine
end

