-- ==== Sys2Proof/Machine/DriveOps.lean ====
section
/-! DEFINITION. The Drive Loop's operations on its own record (chapter 3): the command and the DAC, position, hold and
stop, bumpless transfer, freeze, ramp, control law, limits, deceleration, move profile, readback. -/

namespace Sys2Proof.Machine

/-- The DAC code of a command (R58). -/
def dacOf (v : Int) (fullScale : Nat) : Int := divRound (v * 131071) fullScale

/-- A command is written to the DAC and kept (R53, R58). -/
def Drl.write (v : Int) (d : Drl) : Drl := { d with velocity := v, dacCode := dacOf v d.frame.fullScaleSpeed }

/-- Entry into a state whose command is 0: command 0 is written at once (R43). -/
def Drl.rest (st : DriveState) (d : Drl) : Drl := { d with state := st, velocity := 0, dacCode := 0 }

/-- A hold request: RUNNING or IDLE goes to HOLDING with command 0 (R57). -/
def Drl.hold (d : Drl) : Drl :=
  match d.state with
  | .running | .idle => d.rest .holding
  | .disabled | .enabling | .holding | .stopping | .moving | .tripped => d

/-- STOPPING is entered; with command 0 the drive goes to IDLE at once (R57). -/
def Drl.enterStopping (d : Drl) : Drl :=
  if d.velocity = 0 then d.rest .idle else { d with state := .stopping }

/-- A stop request (R57): RUNNING to STOPPING, HOLDING to IDLE at once; STOPPING and IDLE stand. -/
def Drl.stop (d : Drl) : Drl :=
  match d.state with
  | .running => d.enterStopping
  | .holding => d.rest .idle
  | .disabled | .enabling | .idle | .stopping | .moving | .tripped => d

/-- The quantity a control mode follows, on a point (R4). -/
def ControlMode.quantity (m : ControlMode) (p : Point) : Int :=
  match m with
  | .positionRate => p.position
  | .dwell => p.position
  | .strainRate => p.strain
  | .stressRate => p.stress

/-- The drive state after a transfer: RUNNING from IDLE or HOLDING (R55). -/
def DriveState.afterTransfer : DriveState → DriveState
  | .idle | .holding | .running => .running
  | .disabled => .disabled
  | .enabling => .enabling
  | .stopping => .stopping
  | .moving => .moving
  | .tripped => .tripped

/-- The bumpless transfer at a segment entry (R55): mode and rate, setpoint from the point's measured value,
remainder 0, the command kept. -/
def Drl.transfer (m : ControlMode) (rate : Int) (p : Point) (d : Drl) : Drl :=
  { d with mode := some m, rate := rate, setpoint := m.quantity p, remainder := 0
           state := d.state.afterTransfer }

/-- The transfer at a Resume into the same segment (R55): mode and rate are kept. -/
def Drl.retransfer (p : Point) (d : Drl) : Drl :=
  match d.mode with
  | some m => d.transfer m d.rate p
  | none => { d with state := d.state.afterTransfer }

/-- The end of a test (R57): the control mode becomes absent and the frozen flag is cleared. -/
def Drl.testEnd (d : Drl) : Drl := { d with mode := none, frozen := false }

/-- A trip in the Drive Loop (R65): command 0, TRIPPED; a move in flight ends TRIPPED (a move already being stopped
keeps its outcome, log 22). -/
def Drl.trip (d : Drl) : Drl :=
  { d.rest .tripped with
    moveTarget := none
    moveOutcome := if d.state = .moving then some .tripped else d.moveOutcome }

/-! ### Position (R49) -/

/-- The position a count stands for: count x scale / 100, rounded, limited to the signed 32-bit range. -/
def positionOf (count : BitVec 48) (scale : Nat) : Int := clamp32 (divRound (count.toInt * scale) 100)

/-- The position of a point formed now. -/
def Drl.position (d : Drl) : Int := positionOf d.encoder d.frame.encoderScale

/-- The travel of a point formed now: against the travel zero, or the position while it is absent. -/
def Drl.travel (d : Drl) : Int :=
  match d.travelZero with
  | some z => clamp32 (d.position - positionOf z d.frame.encoderScale)
  | none => d.position

/-! ### The control law (R50 to R54) -/

/-- The follow limit of a mode (R54). -/
def FrameConfig.followLimit (f : FrameConfig) : ControlMode → Nat
  | .positionRate => f.followPosition
  | .dwell => f.followPosition
  | .strainRate => f.followStrain
  | .stressRate => f.followStress

/-- The frozen flag after the decision of R54. -/
def frozenAfter (limit : Nat) (error : Int) (before : Bool) : Bool :=
  if limit = 0 then false
  else if before then decide (limit < 2 * error.natAbs)
  else decide (limit < error.natAbs)

/-- The ramp of R50: the rate joins the remainder, whole two-thousandths join the setpoint. -/
def Drl.ramp (d : Drl) : Drl :=
  if d.frozen then d
  else { d with setpoint := d.setpoint + (d.remainder + d.rate).tdiv 2000
                remainder := (d.remainder + d.rate).tmod 2000 }

/-- The target command of the mode (R51, R52). -/
def Drl.target (m : ControlMode) (p : Point) (d : Drl) : Int :=
  match m with
  | .positionRate => d.rate + ((d.frame.kp : Int) * (d.setpoint - p.position)).tdiv 256
  | .dwell => d.rate + ((d.frame.kp : Int) * (d.setpoint - p.position)).tdiv 256
  | .strainRate => d.velocity + ((d.frame.ks : Int) * (d.setpoint - p.strain)).tdiv 256
  | .stressRate => d.velocity + ((d.frame.kf : Int) * (d.setpoint - p.stress)).tdiv 256

/-- The command clamped to the configured maximum speed (R53, R62). -/
def clampSpeed (f : FrameConfig) (v : Int) : Int := clampTo (-(f.maxSpeed : Int)) f.maxSpeed v

/-- The acceleration step of a point: amax / 2,000, rounded (R53). -/
def FrameConfig.accelStep (f : FrameConfig) : Int := divRound f.maxAccel 2000

/-- The deceleration step of a point: stop deceleration / 2,000, rounded (R57). -/
def FrameConfig.decelStep (f : FrameConfig) : Int := divRound f.stopDecel 2000

/-- The command formed from a target: limited in its change, then clamped (R53). -/
def Drl.formed (target : Int) (d : Drl) : Int :=
  clampSpeed d.frame (stepTowards d.frame.accelStep d.velocity target)

/-- The strain setpoint is transferred on the first estimated point of a handover in STRAIN_RATE (R56). -/
def transfersStrain (first : Bool) (m : ControlMode) : Bool := first && m = .strainRate

/-- The transfer of the strain setpoint (R56). -/
def Drl.strainTransfer (p : Point) (d : Drl) : Drl := { d with setpoint := p.strain, remainder := 0 }

/-! ### Deceleration and the move profile (R57, R62) -/

/-- The command after one deceleration step: its magnitude falls without passing 0 (R57). -/
def decelerated (step v : Int) : Int := if v < 0 then min 0 (v + step) else max 0 (v - step)

/-- One point of STOPPING (R57): at command 0 the drive goes to IDLE. -/
def Drl.decelerate (d : Drl) : Drl :=
  let v := decelerated d.frame.decelStep d.velocity
  if v = 0 then d.rest .idle else { d.write v with state := .stopping }

/-- The wanted command of a move at a distance from its target (R62): the smaller of the move's speed and the braking
speed, with the sign of the distance. -/
def wantedCommand (f : FrameConfig) (speed : Nat) (distance : Int) : Int :=
  let v : Int := (min speed (isqrt (2 * f.stopDecel * distance.natAbs)) : Nat)
  if distance < 0 then -v else v

/-- The magnitude of the command falls without a change of sign (R62). -/
def fallsOnly (c w : Int) : Bool := w.natAbs < c.natAbs && (w = 0 || decide (c < 0) = decide (w < 0))

/-- The command of a move (R62): the change limited by amax, or by the stop deceleration where the magnitude falls
without a change of sign; then clamped. -/
def Drl.moveCommand (distance : Int) (d : Drl) : Int :=
  let w := wantedCommand d.frame d.moveSpeed distance
  let step := if fallsOnly d.velocity w then d.frame.decelStep else d.frame.accelStep
  clampSpeed d.frame (stepTowards step d.velocity w)

/-- A soft travel limit is reached by a formed command (R64). -/
def limitReached (lo hi position v : Int) : Bool := (hi ≤ position && 0 < v) || (position ≤ lo && v < 0)

/-- A readback mismatch: more than 2 % of full scale between readback and the command held (R59). -/
def readbackMismatch (fullScale : Nat) (code held : Int) : Bool :=
  decide ((fullScale : Int) < ((divRound (code * fullScale) 131071 - held).natAbs : Int) * 50)

end Sys2Proof.Machine
end

