-- ==== Sys2Proof/Machine/Sequencer.lean ====
section
/-! DEFINITION. The Test Sequencer (chapter 2): holding and ending a test, segments and their end conditions, the
starting steps, and what it does on a point. -/

namespace Sys2Proof.Machine

/-! ### Ending a test (R38, R39, R40) -/

/-- Entry into ENDED (R39), with the start-failure cause for START_FAILED. -/
def enterEnded (why : EndReason) (cause : Option StartCause) (s : State) : State :=
  let p := s.latest
  let s := s.onTsq fun t =>
    { t with state := .ended, endReason := some why, startCause := cause, currentSegment := none
             segmentTime := 0, heldReason := none, heldAt := none, pendingEnd := none, startStep := none
             startTareCount := 0, resumeEntry := none }
  let s := evalTestEnd why (s.onDrl Drl.testEnd)
  raise .testEnd (storeMark .testEnd p (extTestEnd s))

/-- A failed start: STARTING straight to ENDED (R25). -/
def failStart (cause : StartCause) (s : State) : State := enterEnded .startFailed (some cause) s

/-- Entry into ENDING (R38): the drive is asked to stop, and if it stands IDLE the test is ENDED at once. -/
def enterEnding (why : EndReason) (s : State) : State :=
  let s := s.onTsq fun t =>
    { t with state := .ending, pendingEnd := some why, heldReason := none, heldAt := none, resumeEntry := none }
  let s := s.onDrl Drl.stop
  if s.drl.state = .idle then enterEnded why none s else s

/-- The Drive Loop reports IDLE after STOPPING (R57): a move completes its notice (R63); a test in ENDING is ENDED with
its pending end reason (R38). -/
def reportIdle (s : State) : State :=
  match s.drl.moveTarget with
  | some _ => addNotice .moveDone (s.onDrl fun d => { d with moveTarget := none })
  | none =>
    match s.tsq.state, s.tsq.pendingEnd with
    | .ending, some why => enterEnded why none s
    | _, _ => s

/-! ### Holding a test (R31, R35) -/

/-- Entry into HELD (R31): the reason, the held-at index for HOLD_POINT, the drive's hold except for LIMIT, and the
HELD source. -/
def enterHeld (why : HeldReason) (heldAt : Option Nat) (s : State) : State :=
  let s := s.onTsq fun t =>
    { t with state := .held, heldReason := some why, heldAt := heldAt, startStep := none, resumeEntry := none }
  raise .held (if why = .limit then s else s.onDrl Drl.hold)

/-- A hold cause holds a RUNNING test and changes nothing in any other state (R31). -/
def holdCause (why : HeldReason) (s : State) : State :=
  if s.tsq.state = .running then enterHeld why none s else s

/-- The slip action of the plan header (R35). -/
def slipAction (s : State) : State :=
  match s.header.slipAction, s.tsq.state with
  | .hold, .running => enterHeld .slip none s
  | .abort, .running => enterEnding .aborted s
  | .abort, .held => enterEnding .aborted s
  | _, _ => s

/-! ### Segments (R27 to R30) -/

/-- Index `i` is in a set of segment indices. -/
def inSet (x : BitVec 16) (i : Nat) : Bool := x.getLsbD i

/-- Index `i` joins a set of segment indices. -/
def joinSet (x : BitVec 16) (i : Nat) : BitVec 16 := x ||| BitVec.ofNat 16 (2 ^ i)

/-- The segment is entered on the current point (R27). -/
def enterSegment (i : Nat) (p : Point) (s : State) : State :=
  let s := s.onTsq fun t =>
    { t with state := .running, visited := joinSet t.visited i, currentSegment := some i, segmentTime := 0
             heldReason := none, heldAt := none, startStep := none, resumeEntry := none }
  let s := match s.segments[i]? with
    | some g => s.onDrl (Drl.transfer g.mode g.rate p)
    | none => s
  offerSegmentStart i p s

/-- The Test Sequencer is about to enter a segment: the hold-point set is consulted first (R16, R27). -/
def reachSegment (i : Nat) (p : Point) (s : State) : State :=
  if inSet s.tsq.holdPoints i then enterHeld .holdPoint (some i) s else enterSegment i p s

/-- `i` is the last segment of the program (R30). -/
def isLast (i : Nat) (s : State) : Bool := s.segments.length ≤ i + 1

/-- The threshold test of a condition that takes one (R5). -/
def atOrAbove (x : Int) : Option Int → Bool
  | some t => t ≤ x
  | none => false

/-- An end condition is met on a point, with the segment's running time in points and the evaluation phase and settled
flag as the point has left them (R5, R28, R29). -/
def conditionMet (c : EndCondition) (p : Point) (time : Nat) (phase : EvalPhase) (settled : Bool) : Bool :=
  match c.kind with
  | .forceAbove => atOrAbove p.force c.threshold
  | .stressAbove => atOrAbove p.stress c.threshold
  | .strainAbove => atOrAbove p.strain c.threshold
  | .travelAbove => atOrAbove p.travel c.threshold
  | .timeElapsed =>
    match c.threshold with
    | some t => 2 * t ≤ time
    | none => false
  | .yieldDetected => EvalPhase.yielding.ctorIdx ≤ phase.ctorIdx
  | .yieldEnded => EvalPhase.hardening.ctorIdx ≤ phase.ctorIdx
  | .maxPassed => EvalPhase.necking.ctorIdx ≤ phase.ctorIdx
  | .loadSettled => settled

/-- The segment in force ends with its first met condition, in list order (R29). -/
def segmentEnds (g : Segment) (p : Point) (s : State) : Bool :=
  g.conditions.any fun c => conditionMet c p s.tsq.segmentTime s.evu.phase s.fcu.settled

/-- The on-end action of segment `i` (R30). -/
def onEndAction (i : Nat) (a : OnEnd) (p : Point) (s : State) : State :=
  match a with
  | .next => if isLast i s then enterEnding .complete s else reachSegment (i + 1) p s
  | .hold => enterHeld .onEnd none s
  | .endTest => enterEnding .complete s

/-- A point that the sequencer takes in RUNNING adds 1 to the segment time before its end conditions are checked
(R28). The fracture point is taken in RUNNING and counts; a point on which a LIMIT hold or the slip action has already
taken the test out of RUNNING does not (DEDUCED, log 48). -/
def countSegmentTime (s : State) : State := s.onTsq fun t => { t with segmentTime := t.segmentTime + 1 }

/-- The end conditions on a RUNNING point that is neither the entry point nor the fracture point (R29). -/
def runningPoint (p : Point) (s : State) : State :=
  match s.tsq.currentSegment with
  | none => s
  | some i =>
    match s.segments[i]? with
    | none => s
    | some g => if segmentEnds g p s then onEndAction i g.onEnd p s else s

/-! ### The starting steps (R21 to R25) -/

/-- The tare offset becomes the latest calibrated force (R22, R77, R78). -/
def takeTare (s : State) : State :=
  s.onFcu fun f => { f with tareOffset := f.calForce, tareOutcome := .ok }

/-- The start step changes. -/
def setStartStep (x : StartStep) (s : State) : State := s.onTsq fun t => { t with startStep := some x }

/-- A ZERO of a head is asked for in the present start (R23, R117). -/
def askZero (h : Head) (s : State) : State :=
  (askCommand h .zero s).onExm fun m => { m with zeroAsked := some h }

/-- The start step becomes ZERO (R23): the first test head's ZERO is asked for, or the step is done at once. -/
def beginZero (s : State) : State :=
  if s.header.zeroAtStart ∧ s.exm.heads.front.testHead then askZero .front (setStartStep .zero s)
  else if s.header.zeroAtStart ∧ s.exm.heads.rear.testHead then askZero .rear (setStartStep .zero s)
  else setStartStep .entry s

/-- The start step TARE on a point that is not its first (R22). -/
def waitTare (s : State) : State :=
  if s.fcu.settled then beginZero (takeTare s)
  else if 20000 ≤ s.tsq.startTareCount + 1 then
    failStart .tareNotSettled (s.onFcu fun f => { f with tareOutcome := .notSettled })
  else s.onTsq fun t => { t with startTareCount := t.startTareCount + 1 }

/-- The first point after acceptance (R21, R22): the start step becomes TARE, and is done at once when no tare is asked
or the load is settled. -/
def beginTare (s : State) : State :=
  let s := s.onTsq fun t => { t with startStep := some .tare, startTareCount := 0 }
  if s.header.tareAtStart then
    if s.fcu.settled then beginZero (takeTare s) else s
  else beginZero s

/-- The outcome CONFIRMED of the ZERO the present start waits for (R23): the zeroed flag, then the next head's ZERO or
the step ENTRY. -/
def zeroConfirmed (h : Head) (s : State) : State :=
  let s := onHead h (fun e => { e with zeroed := true }) s
  if h = .front ∧ s.exm.heads.rear.testHead then askZero .rear s
  else setStartStep .entry (s.onExm fun m => { m with zeroAsked := none })

/-- The outcome of a ZERO reaches the Test Sequencer when the present start waits for it (R23, R25, R117). -/
def zeroOutcome (h : Head) (o : SlotOutcome) (s : State) : State :=
  if s.exm.zeroAsked = some h ∧ s.tsq.state = .starting then
    match o with
    | .confirmed => zeroConfirmed h s
    | .unconfirmed => failStart .zeroUnconfirmed s
    | .failed => failStart .zeroUnconfirmed s
  else s

/-- The entry point of a test (R24): heads, source, phase, TEST_START, and segment 0 is reached. -/
def testEntry (p : Point) (s : State) : State :=
  let s := extTestEntry s
  let s := evalEntry (0 < s.exm.heads.count (fun e => e.state = .measuring)) p s
  let s := storeMark .testStart p s
  reachSegment 0 p (s.onTsq fun t => { t with startStep := none })

/-- A point taken in STARTING. -/
def startingPoint (p : Point) (s : State) : State :=
  match s.tsq.startStep with
  | none => beginTare s
  | some .tare => waitTare s
  | some .zero => s
  | some .entry => testEntry p s

/-! ### A point (R29, R37, R34) -/

/-- A point taken in HELD: a taken Resume enters its segment on it (R34). -/
def heldPoint (p : Point) (s : State) : State :=
  match s.tsq.resumeEntry with
  | some i => enterSegment i p s
  | none => s

/-- A point taken in RUNNING: the segment time counts it (R28), then fracture ends the test (R37) or the end conditions
are checked (R29). -/
def runningTaken (fractured : Bool) (p : Point) (s : State) : State :=
  let s := countSegmentTime s
  if fractured then enterEnding .fracture s else runningPoint p s

/-- The Test Sequencer takes a point, after the Evaluation Unit and the Extensometer Manager. A fracture point ends a
RUNNING or HELD test FRACTURE (R37). -/
def sequencerPoint (fractured : Bool) (p : Point) (s : State) : State :=
  match s.tsq.state with
  | .starting => startingPoint p s
  | .running => runningTaken fractured p s
  | .held => if fractured then enterEnding .fracture s else heldPoint p s
  | .empty | .loading | .ready | .ending | .ended => s

end Sys2Proof.Machine
end

