-- ==== Sys2Proof/Machine/Limits.lean ====
section
/-! DEFINITION. The Limit Monitor (chapter 9): the trip logic, the safety inputs, the checks on a point, Clear Trip, and
the reset of the whole part (R178, R195). -/

namespace Sys2Proof.Machine

/-! ### The trip logic (R173, R174) -/

/-- The trip causes in order. -/
def TripCause.all : List TripCause :=
  [.estop, .guardOpen, .upperLimit, .lowerLimit, .driveFault, .overload, .commandReadback, .driveReadyLost]

/-- The set that holds one cause. -/
def TripCause.bit (c : TripCause) : BitVec 8 := BitVec.ofNat 8 (2 ^ c.ctorIdx)

/-- A cause joins the further causes of a record unless it is the first cause (R173). -/
def TripRecord.join (c : TripCause) (r : TripRecord) : TripRecord :=
  if c = r.first then r else { r with further := r.further ||| c.bit }

/-- The trip in the Drive Loop (R65): a move in flight or being stopped adds MOVE_DONE (R63). -/
def driveTrip (s : State) : State :=
  let moved := s.drl.moveTarget.isSome
  let s := s.onDrl Drl.trip
  if moved then addNotice .moveDone s else s

/-- The point of a trip that latches now (R173). -/
def State.tripPoint (s : State) : Option TripPoint := s.latestPoint.map fun p => ⟨p.index, p.force, p.travel⟩

/-- The record of a trip that latches now (R173). -/
def latchTrip (c : TripCause) (s : State) : State :=
  s.onLmu fun m => { m with trip := .latched, record := some ⟨c, s.tripPoint, 0⟩, trips := satSucc max16 m.trips }

/-- A newly latched trip is handed on: Drive Loop, Test Sequencer, TRIP (R174). -/
def handTrip (s : State) : State :=
  let s := driveTrip s
  raise .trip (if s.inTest then enterEnded .tripped none s else s)

/-- The trip logic takes a cause (R173, R174). -/
def takeCause (c : TripCause) (s : State) : State :=
  match s.lmu.trip with
  | .clear => handTrip (latchTrip c s)
  | .latched => s.onLmu fun m => { m with record := m.record.map (TripRecord.join c) }

/-! ### The safety inputs (R168, R169) -/

/-- One safety input's line is changed. -/
def onInput (i : SafetyInput) (f : SafetyLine → SafetyLine) (s : State) : State :=
  s.onLmu fun m => { m with inputs := PerInputSet m.inputs i (f (PerInputGet m.inputs i)) }

/-- The debounced level changes to ASSERTED: level, count 0, latch, and the input's cause (R168, R169). -/
def inputAsserted (i : SafetyInput) (s : State) : State :=
  takeCause (safetyCause i) (onInput i (fun l => { l with level := .asserted, count := 0, latch := true }) s)

/-- The debounced level changes to INACTIVE: level and count 0; the latch stands (R168, R169). -/
def inputReleased (i : SafetyInput) (s : State) : State :=
  onInput i (fun l => { l with level := .inactive, count := 0 }) s

/-- One input at one sample (R168): the count falls to 0, grows, or, at 20, the level changes. -/
def sampleInput (i : SafetyInput) (raw : Level) (s : State) : State :=
  let l := PerInputGet s.lmu.inputs i
  if raw = l.level then onInput i (fun l => { l with count := 0 }) s
  else if l.count + 1 < 20 then onInput i (fun l => { l with count := l.count + 1 }) s
  else
    match raw with
    | .asserted => inputAsserted i s
    | .inactive => inputReleased i s

/-- The four inputs at one sample, each on its own (R168). Of two that go to ASSERTED on one sample the first of ESTOP,
GUARD_OPEN, UPPER_LIMIT, LOWER_LIMIT is taken first (DESIGN CHOICE, log 13: section 9.4 leaves it open). -/
def sampleInputs (raw : SafetyLevels) (s : State) : State :=
  sampleInput .lowerLimit raw.lowerLimit
    (sampleInput .upperLimit raw.upperLimit
      (sampleInput .guardOpen raw.guardOpen
        (sampleInput .estop raw.estop s)))

/-! ### On a point (R170, R171) -/

/-- The limits of the frame configuration are taken, from the next measured point on (R48, R167). -/
def takeLimits (s : State) : State :=
  s.onLmu fun m =>
    { m with softMin := s.drl.frame.softMin, softMax := s.drl.frame.softMax
             overloadLimit := s.drl.frame.overloadLimit }

/-- DRIVE_FAULT on a point (R170). -/
def driveFaultPoint (fault : Bool) (s : State) : State :=
  let s := s.onLmu fun m => { m with driveFault := if fault then .asserted else .inactive }
  if fault then takeCause .driveFault s else s

/-- The overload check on a point (R171). -/
def overloadPoint (p : Point) (s : State) : State :=
  if s.lmu.overloadLimit < p.force.natAbs then
    if s.lmu.overloadCount = 0 then s.onLmu fun m => { m with overloadCount := 1 }
    else takeCause .overload s
  else s.onLmu fun m => { m with overloadCount := 0 }

/-- The Limit Monitor takes a point: DRIVE_FAULT, then overload (the order of the two is a DESIGN CHOICE, log 13). -/
def limitPoint (fault : Bool) (p : Point) (s : State) : State := overloadPoint p (driveFaultPoint fault s)

/-! ### Clear Trip (R176) -/

/-- The safety inputs in the order of R178. -/
def allInputs : List SafetyInput := [.estop, .guardOpen, .upperLimit, .lowerLimit]

/-- A latched input is still ASSERTED (R176). -/
def SafetyLine.blocks (l : SafetyLine) : Bool := l.latch && l.level = .asserted

/-- The set of latched inputs still ASSERTED (R176), as its byte. -/
def blockingInputs (m : Lmu) : Nat := bitsValue (allInputs.map fun i => (PerInputGet m.inputs i).blocks)

/-- Every latch is cleared. -/
def clearLatches (p : PerInput SafetyLine) : PerInput SafetyLine where
  estop := { p.estop with latch := false }
  guardOpen := { p.guardOpen with latch := false }
  upperLimit := { p.upperLimit with latch := false }
  lowerLimit := { p.lowerLimit with latch := false }

/-- The effects of an accepted Clear Trip (R176). -/
def clearTripEffects (s : State) : State :=
  let s := s.onLmu fun m =>
    { m with inputs := clearLatches m.inputs, overloadCount := 0, trip := .clear }
  clearSource .trip (s.onDrl (Drl.rest .disabled))

/-! ### Reset (R178, R194, R195) -/

/-- One input found asserted at the reset: its latch and its cause, at once (R178). -/
def resetInput (i : SafetyInput) (s : State) : State :=
  if (PerInputGet s.lmu.inputs i).level = .asserted then
    takeCause (safetyCause i) (onInput i (fun l => { l with latch := true }) s)
  else s

/-- The reset of the part with the raw levels sampled at it (R178, R195): every block at its reset values, then the
inputs found asserted, in the order of R178. The queue is kept. -/
def resetPart (raw : SafetyLevels) (s : State) : State :=
  resetInput .lowerLimit (resetInput .upperLimit (resetInput .guardOpen (resetInput .estop
    (State.resetValues raw s.pending))))

end Sys2Proof.Machine
end

