-- ==== Sys2Proof/Machine/Force.lean ====
section
/-! DEFINITION. The Force Unit (chapter 4): ranges, calibration, tare, the formation of a measured point, the
classifier and the timers. -/

namespace Sys2Proof.Machine

/-! ### Ranges and calibration (R69 to R74) -/

/-- The divisor of a range's full scale (section 4.3). -/
def Range.divisor : Range → Int
  | .a => 1
  | .b => 5
  | .c => 25
  | .d => 125

/-- The full scale of a range, rounded to the nearest 0.1 N (R74). -/
def fullScale (capacity : Nat) (r : Range) : Int := divRound capacity r.divisor

/-- The range of next larger full scale; A stands. -/
def Range.up : Range → Range
  | .a => .a
  | .b => .a
  | .c => .b
  | .d => .c

/-- The range of next smaller full scale; D stands. -/
def Range.down : Range → Range
  | .a => .b
  | .b => .c
  | .c => .d
  | .d => .d

/-- The pair of breakpoints whose line serves a count (R73): the first pair whose upper count is not below it, or the
last pair. -/
def pairFor (count : Int) : List Breakpoint → Option (Breakpoint × Breakpoint)
  | [] => none
  | [_] => none
  | [b1, b2] => some (b1, b2)
  | b1 :: b2 :: b3 :: rest => if count ≤ b2.count then some (b1, b2) else pairFor count (b2 :: b3 :: rest)

/-- The line through two breakpoints (R73). -/
def lineForce (count : Int) (b1 b2 : Breakpoint) : Int :=
  b1.force + divRound ((count - b1.count) * (b2.force - b1.force)) (b2.count - b1.count)

/-- The largest force magnitude (R73). -/
def clampForce (x : Int) : Int := clampTo (-20000000) 20000000 x

/-- The calibrated force of a used count in a range (R73, R74). -/
def calibrated (capacity : Nat) (r : Range) (table : Option (List Breakpoint)) (count : Int) : Int :=
  match table with
  | none => clampForce (divRound (count * fullScale capacity r) 8000000)
  | some t =>
    match pairFor count t with
    | some (b1, b2) => clampForce (lineForce count b1 b2)
    | none => clampForce (divRound (count * fullScale capacity r) 8000000)

/-- The saturated conversion result (R68). -/
def saturate (x : Int) : Int := clampTo (-8388607) 8388607 x

/-- How a completed conversion is taken: used, discarded (R70), or an overrange in ranges B to D (R69). -/
inductive Use
  | used | discarded | overrange
deriving DecidableEq, Repr

/-- The use of a completed conversion (R69, R70). -/
def Fcu.use (raw : Int) (f : Fcu) : Use :=
  if f.discardPending then .discarded
  else if f.range ≠ .a ∧ 8300000 ≤ raw.natAbs then .overrange
  else .used

/-- The effects of a range change (R70). -/
def rangeChange (r : Range) (s : State) : State :=
  addNotice .rangeChanged (s.onFcu fun f =>
    { f with range := r, discardPending := true, history := [], slope := 0, downCount := 0
             rangeChanges := satSucc max16 f.rangeChanges })

/-- The values a point takes from its conversion (R70, R73): raw count, calibrated force, force, discard pending. -/
def Fcu.convert (capacity : Nat) (raw : Int) (f : Fcu) : Fcu :=
  match f.use raw with
  | .used =>
    let c := calibrated capacity f.range (f.tables.get f.range) raw
    { f with rawCount := raw, calForce := c, force := clampForce (c - f.tareOffset) }
  | .discarded => { f with discardPending := false }
  | .overrange => f

/-- Down-ranging is taken in these sequencer states (R72). -/
def State.mayRangeDown (s : State) : Bool := !s.inTest

/-- The down-range count of a used conversion (R72). -/
def Fcu.countDown (raw : Int) (f : Fcu) : Fcu :=
  if f.range ≠ .d ∧ raw.natAbs < 1200000 then { f with downCount := f.downCount + 1 } else { f with downCount := 0 }

/-- The range logic once the point has been formed and classified (R69, R72); `use` and `raw` are the conversion's. -/
def rangeLogic (u : Use) (raw : Int) (s : State) : State :=
  match u with
  | .discarded => s
  | .overrange => rangeChange s.fcu.range.up s
  | .used =>
    if s.fcu.range ≠ .a ∧ 7200000 < raw.natAbs then rangeChange s.fcu.range.up s
    else if s.mayRangeDown then
      let s := s.onFcu (Fcu.countDown raw)
      if 200 ≤ s.fcu.downCount then rangeChange s.fcu.range.down s else s
    else s.onFcu fun f => { f with downCount := 0 }

/-! ### The classifier (R81, R82) -/

/-- The point-to-point differences of a list of forces, oldest first. -/
def differences : List Int → List Int
  | [] => []
  | [_] => []
  | a :: b :: rest => (b - a) :: differences (b :: rest)

/-- The sign changes along nonzero differences. -/
def signChanges : List Int → Nat
  | [] => 0
  | [_] => 0
  | a :: b :: rest => (if decide (a < 0) = decide (b < 0) then 0 else 1) + signChanges (b :: rest)

/-- The sign-change count of a history and a point's force (R81): differences of 0 are passed over. -/
def signChangeCount (history : List Int) (force : Int) : Nat :=
  signChanges ((differences (history ++ [force])).filter (· ≠ 0))

/-- The classifier's decision, in the order of R82. -/
def classify (quiet slopeLimit : Nat) (force slope : Int) (changes : Nat) : Classifier :=
  if force.natAbs < quiet then .quiet
  else if 8 ≤ changes ∧ slope.natAbs ≤ 4 * slopeLimit then .erratic
  else if (slopeLimit : Int) < slope then .rising
  else if slope < -(slopeLimit : Int) then .falling
  else .level

/-- The classifier takes the force of a used conversion (R81, R82). -/
def Fcu.classifyPoint (quiet slopeLimit : Nat) (f : Fcu) : Fcu :=
  match f.history with
  | oldest :: rest =>
    if 16 ≤ f.history.length then
      let slope := f.force - oldest
      let n := signChangeCount f.history f.force
      { f with slope := slope, signChanges := n, classifier := classify quiet slopeLimit f.force slope n
               history := rest ++ [f.force] }
    else { f with history := f.history ++ [f.force] }
  | [] => { f with history := [f.force] }

/-! ### The timers (R83 to R85) -/

/-- A timer is reloaded (R83). -/
def Timer.reload (t : Timer) : Timer := { t with prescale := t.p, ticks := t.c }

/-- A timer counts one point; the flag says that it expired, and then it is reloaded (R83). -/
def Timer.count (t : Timer) : Timer × Bool :=
  if 2 ≤ t.prescale then ({ t with prescale := t.prescale - 1 }, false)
  else if 2 ≤ t.ticks then ({ t with prescale := t.p, ticks := t.ticks - 1 }, false)
  else (t.reload, true)

/-- The level timer runs in LEVEL and QUIET (R84). -/
def Classifier.steady : Classifier → Bool
  | .quiet | .level => true
  | .rising | .falling | .erratic => false

/-- The unrest timer runs in FALLING and ERRATIC (R85). -/
def Classifier.restless : Classifier → Bool
  | .falling | .erratic => true
  | .quiet | .level | .rising => false

/-- The level timer and the settled flag on a point, from the state before the point to the state on it (R84). -/
def Fcu.levelPoint (before : Classifier) (f : Fcu) : Fcu :=
  if f.classifier.steady then
    if before.steady then
      { f with levelTimer := f.levelTimer.count.1, settled := f.settled || f.levelTimer.count.2 }
    else { f with levelTimer := f.levelTimer.reload }
  else if before.steady then { f with settled := false }
  else f

/-- The unrest timer on a point (R85). -/
def Fcu.unrestPoint (before : Classifier) (f : Fcu) : Fcu :=
  if f.classifier.restless then
    { f with unrestTimer := f.unrestTimer.count.1
             unrestEvents := if f.unrestTimer.count.2 then satSucc max16 f.unrestEvents else f.unrestEvents }
  else if before.restless then { f with unrestTimer := f.unrestTimer.reload }
  else f

/-- The unrest timer expires on the point (R85). -/
def Fcu.unrestExpires (f : Fcu) : Bool := f.classifier.restless && f.unrestTimer.count.2

/-! ### The tare wait (R78) -/

/-- The tare wait closes with the offset taken (R78). -/
def closeTareWait (s : State) : State :=
  addNotice .tareDone ((takeTare s).onFcu fun f => { f with tareWait := none })

/-- The tare wait closes unsettled (R78). -/
def tareWaitOut (s : State) : State :=
  addNotice .tareDone (s.onFcu fun f => { f with tareWait := none, tareOutcome := .notSettled })

/-- The tare wait on a point, after the classifier and the timers (R78). -/
def tareWaitPoint (s : State) : State :=
  match s.fcu.tareWait with
  | none => s
  | some n =>
    if s.fcu.settled then closeTareWait s
    else if 20000 ≤ n + 1 then tareWaitOut s
    else s.onFcu fun f => { f with tareWait := some (n + 1) }

/-! ### Forming the point (R79, R80) -/

/-- The stress of a force (00_scope.md, R79): 0 while the specimen record is absent (R2). -/
def stressOf (area : Nat) (force : Int) : Int := if area = 0 then 0 else divRound (force * 1000) area

/-- The flags of a point: its strain flags, RANGE_CHANGE, OVERRANGE and HELD (R80). -/
def pointFlags (strain : PointFlags) (u : Use) (range : Range) (raw : Int) (held : Bool) : PointFlags :=
  { strain with
    rangeChange := u ≠ .used
    overrange := u = .used && range = .a && 8300000 ≤ raw.natAbs
    held := held }

/-- The first point after the acceptance of a Start Test captures the travel zero, whatever has become of the test
since (R21, R49). -/
def captureTravelZero (s : State) : State :=
  if s.drl.captureZero then
    s.onDrl fun d => { d with travelZero := some d.encoder, captureZero := false }
  else s

/-- The point that a conversion forms (R79), from the Force Unit's record after the conversion. -/
def makePoint (u : Use) (raw : Int) (s : State) : Point :=
  let st := strainOf s s.drl.travel
  { index := s.fcu.nextIndex
    position := s.drl.position
    travel := s.drl.travel
    force := s.fcu.force
    stress := stressOf s.area s.fcu.force
    strain := st.1
    source := s.exm.source
    flags := pointFlags st.2 u s.fcu.range raw (s.tsq.state = .held) }

/-- The next point index wraps from 4,294,967,295 to 0 (R79). -/
def nextIndex (i : Nat) : Nat := if i = max32 then 0 else i + 1

/-- The classifier and both timers act on the point (R80 to R85); a point that carries RANGE_CHANGE is not
classified. -/
def Fcu.signalPoint (quiet slopeLimit : Nat) (u : Use) (f : Fcu) : Fcu :=
  let g := if u = .used then f.classifyPoint quiet slopeLimit else f
  (g.levelPoint f.classifier).unrestPoint f.classifier

/-- The unrest event of the point, if any (R85). -/
def Fcu.unrestEvent (quiet slopeLimit : Nat) (u : Use) (f : Fcu) : Bool :=
  let g := if u = .used then f.classifyPoint quiet slopeLimit else f
  (g.levelPoint f.classifier).unrestExpires

/-- A point formed, with the unrest event that goes to the Evaluation Unit with it (R80). -/
structure Formed where
  state : State
  point : Point
  unrest : Bool

/-- The Force Unit forms the point of a completed conversion (R68 to R85): travel zero, strain judged, the point and
the window, classifier and timers, tare wait, and then the range logic. -/
def formPoint (count : Int) (s : State) : Formed :=
  let raw := saturate count
  let u := s.fcu.use raw
  let s := judgeHeads (captureTravelZero s)
  let s := s.onFcu (Fcu.convert s.drl.frame.capacity raw)
  let p := makePoint u raw s
  let s := windowEntry p { s.onFcu (fun f => { f with nextIndex := nextIndex f.nextIndex }) with latestPoint := some p }
  let quiet := s.drl.frame.quietThreshold
  let slope := s.drl.frame.slopeThreshold
  let unrest := s.fcu.unrestEvent quiet slope u
  let s := tareWaitPoint (s.onFcu (Fcu.signalPoint quiet slope u))
  ⟨rangeLogic u raw s, p, unrest⟩

end Sys2Proof.Machine
end

