-- ==== Sys2Proof/Machine/Drive.lean ====
section
/-! DEFINITION. The Drive Loop on a measured point (chapter 3): DRIVE_READY, the readback check, and the work of each
drive state. -/

namespace Sys2Proof.Machine

/-! ### Reports to the Limit Monitor (R47, R59) -/

/-- DRIVE_READY is watched in these drive states (R47). -/
def DriveState.watchesReady : DriveState → Bool
  | .idle | .running | .holding | .stopping | .moving => true
  | .disabled | .enabling | .tripped => false

/-- DRIVE_READY sampled on a point; its loss is reported (R47, R172). It is sampled in every drive state, DISABLED and
TRIPPED among them, so that R66 has a level to report (DEDUCED, log 50). -/
def readyPoint (ready : Bool) (s : State) : State :=
  let s := s.onDrl fun d => { d with readyLevel := ready }
  if s.drl.state.watchesReady && !ready then takeCause .driveReadyLost s else s

/-- A fourth consecutive mismatch is reported, and the count returns to 0 (R59). -/
def reportReadback (s : State) : State :=
  takeCause .commandReadback (s.onDrl fun d => { d with mismatches := 0 })

/-- The readback check of a point against the command the DAC held when it was sampled (R59). -/
def readbackPoint (code held : Int) (s : State) : State :=
  if readbackMismatch s.drl.frame.fullScaleSpeed code held then
    if 4 ≤ s.drl.mismatches + 1 then reportReadback s
    else s.onDrl fun d => { d with mismatches := d.mismatches + 1 }
  else s.onDrl fun d => { d with mismatches := 0 }

/-! ### The drive states (R45, R50 to R57, R62, R64) -/

/-- The wait for DRIVE_READY runs out: DISABLED with DRIVE_NOT_READY (R45). -/
def enableWaitOut (s : State) : State := addNotice .driveNotReady (s.onDrl (Drl.rest .disabled))

/-- A point in ENABLING (R45); DRIVE_READY sampled on the last point is taken first. -/
def enablingPoint (ready : Bool) (s : State) : State :=
  let s := s.onDrl fun d => { d with enableWait := d.enableWait + 1 }
  if ready then s.onDrl (Drl.rest .idle)
  else if 1000 ≤ s.drl.enableWait then enableWaitOut s
  else s

/-- The effects common to every soft-limit stop (R64): LIMIT_STOP and the first deceleration step from the command
written on the previous point. -/
def softStop (s : State) : State := addNotice .limitStop (s.onDrl Drl.decelerate)

/-- The Drive Loop reports IDLE if it stands there (R57). -/
def reportIfIdle (s : State) : State := if s.drl.state = .idle then reportIdle s else s

/-- The freeze decision of a point (R54): FOLLOWING joins the notice set when the flag becomes set. -/
def freezePoint (m : ControlMode) (p : Point) (s : State) : State :=
  let after := frozenAfter (s.drl.frame.followLimit m) (s.drl.setpoint - m.quantity p) s.drl.frozen
  let s' := s.onDrl fun d => { d with frozen := after }
  if after && !s.drl.frozen then addNotice .following s' else s'

/-- The setpoint of a point in RUNNING: freeze and ramp (R54, R50). On a point that transfers the strain setpoint the
ramp does not act, so that the law finds an error of 0 (R56; DEDUCED, log 41). -/
def setpointPoint (first : Bool) (m : ControlMode) (p : Point) (s : State) : State :=
  if transfersStrain first m then freezePoint m p (s.onDrl (Drl.strainTransfer p))
  else (freezePoint m p s).onDrl Drl.ramp

/-- A point in RUNNING: setpoint, law, limits, soft-limit check, write (R50 to R56, R64). -/
def runningDrive (first : Bool) (p : Point) (s : State) : State :=
  match s.drl.mode with
  | none => s
  | some m =>
    let s := setpointPoint first m p s
    let v := s.drl.formed (s.drl.target m p)
    if limitReached s.lmu.softMin s.lmu.softMax p.position v then
      reportIfIdle (holdCause .limit (softStop s))
    else s.onDrl (Drl.write v)

/-- A point in STOPPING (R57). -/
def stoppingDrive (s : State) : State := reportIfIdle (s.onDrl Drl.decelerate)

/-- A move reaches its target (R62). -/
def moveReached (s : State) : State :=
  addNotice .moveDone (s.onDrl fun d =>
    { d.rest .idle with moveTarget := none, moveOutcome := some .reached })

/-- A point in MOVING (R62, R64). -/
def movingDrive (p : Point) (s : State) : State :=
  match s.drl.moveTarget with
  | none => s
  | some t =>
    if (t - p.position).natAbs ≤ 10 then moveReached s
    else
      let v := s.drl.moveCommand (t - p.position)
      if limitReached s.lmu.softMin s.lmu.softMax p.position v then
        reportIfIdle (softStop (s.onDrl fun d => { d with moveOutcome := some .limit }))
      else s.onDrl (Drl.write v)

/-- The Drive Loop's state work on a point. -/
def drivePointWork (ready first : Bool) (p : Point) (s : State) : State :=
  match s.drl.state with
  | .enabling => enablingPoint ready s
  | .running => runningDrive first p s
  | .stopping => stoppingDrive s
  | .moving => movingDrive p s
  | .disabled | .idle | .holding | .tripped => s

/-- The Drive Loop takes a point, first of all consumers (R80): DRIVE_READY, readback (the order of the two is a DESIGN
CHOICE, log 13), then the work of its state. `held` is the command the DAC held when the readback was sampled. -/
def drivePoint (held : Int) (c : Conversion) (first : Bool) (p : Point) (s : State) : State :=
  drivePointWork c.driveReady first p (readbackPoint c.readback held (readyPoint c.driveReady s))

end Sys2Proof.Machine
end

