-- ==== Sys2Proof/Machine/Completion.lean ====
section
/-! DEFINITION. The completion of a gauge-link transaction (R93) and what it brings: failure counts (R105), the result
and the failure condition in the Extensometer Manager (R111 to R115), the command slot (R102, R103), the outcome of a
command (R113, R117, R129). -/

namespace Sys2Proof.Machine

/-! ### Head states with what hangs on them -/

/-- A test's head that has left CLAMPED ends the start (R25). -/
def headLeftCheck (h : Head) (before : HeadState) (s : State) : State :=
  if s.tsq.state = .starting && (s.exm.heads.get h).testHead && before = .clamped &&
      (s.exm.heads.get h).state ≠ .clamped then
    failStart .headLeft s
  else s

/-- No head is MEASURING any longer while the source is EXTENSOMETER and the test goes on: the forced handover (R121).
-/
def forcedHandoverCheck (before : HeadState) (s : State) : State :=
  if before = .measuring && s.exm.source = .extensometer && s.inTest &&
      s.exm.heads.count (fun e => e.state = .measuring) = 0 then
    handover .headLost s
  else s

/-- A head goes to a state in the course of a completion, with what follows from its leaving CLAMPED (R25) or
MEASURING (R121). -/
def headGoes (h : Head) (st : HeadState) (s : State) : State :=
  let before := (s.exm.heads.get h).state
  forcedHandoverCheck before (headLeftCheck h before (setHeadState h st s))

/-! ### Results in the Extensometer Manager (R111 to R114) -/

/-- The state a status takes a head to (R112 to R114). -/
def statusTarget (st : HeadStatus) : HeadState → Option HeadState
  | .clamping => if st.arms = .clamped ∧ st.seated then some .clamped else none
  | .clamped => if st.arms = .lifted then some .present else none
  | .lifting => if st.arms = .lifted then some .present else none
  | .absent => none
  | .present => none
  | .measuring => none
  | .lost => none

/-- A successful POLL or READ brings a status (R112): latest status and zeroed flag replaced, the failed-poll count 0,
the state moved, and the recovery lift asked for if the status calls for it (R114). -/
def takeStatus (h : Head) (st : HeadStatus) (s : State) : State :=
  let s := onHead h (fun e => { e with latest := some st, zeroed := st.zeroed, failedPolls := 0 }) s
  let s := match statusTarget st (s.exm.heads.get h).state with
    | some x => headGoes h x s
    | none => s
  recoveryLift h s

/-- A head that answers a POLL while ABSENT or LOST is to be identified (R111). -/
def askIdentify (h : Head) (s : State) : State :=
  let st := (s.exm.heads.get h).state
  if st = .absent ∨ st = .lost then askCommand h .identify s else s

/-- The state an acknowledged command takes a head to (R113, R114); a ZERO changes none (R117). -/
def ackTarget (k : HeadCmd) (st : HeadState) : Option HeadState :=
  match k with
  | .clamp => if st = .present then some .clamping else none
  | .lift => if st = .present ∨ st = .clamping ∨ st = .clamped ∨ st = .measuring then some .lifting else none
  | .zero => none
  | .identify => none

/-- The acknowledgement of a COMMAND (R113, R114). -/
def takeAck (h : Head) (k : HeadCmd) (s : State) : State :=
  let s := onHead h (fun e => { e with failedPolls := 0 }) s
  match ackTarget k (s.exm.heads.get h).state with
  | some x => headGoes h x s
  | none => s

/-- A successful IDENTIFY (R111): the identity is replaced, and an ABSENT or LOST head goes to PRESENT. -/
def takeIdentity (h : Head) (i : Identity) (s : State) : State :=
  let s := onHead h (fun e => { e with identity := some i, failedPolls := 0 }) s
  let st := (s.exm.heads.get h).state
  if st = .absent ∨ st = .lost then recoveryLift h (headGoes h .present s) else s

/-- A third failed POLL in a row takes the head to ABSENT (R112): identity, latest status and zeroed flag are cleared,
and the count becomes 0. -/
def pollsLost (h : Head) (s : State) : State :=
  headGoes h .absent (onHead h (fun e =>
    { e with identity := none, latest := none, zeroed := false, failedPolls := 0 }) s)

/-- A failed POLL (R112). -/
def pollFailed (h : Head) (s : State) : State :=
  if (s.exm.heads.get h).state.countsPolls then
    if 3 ≤ (s.exm.heads.get h).failedPolls + 1 then pollsLost h s
    else onHead h (fun e => { e with failedPolls := e.failedPolls + 1 }) s
  else s

/-- The result of a transaction in the Extensometer Manager, which takes none for an unconfigured head (R109). -/
def takeResult (t : Transaction) (r : TxResult) (s : State) : State :=
  if (s.exm.heads.get t.head).configured then
    match r with
    | .success (.status st) => takeStatus t.head st (askIdentify t.head s)
    | .success (.extension x st) =>
      takeStatus t.head st (onHead t.head (fun e => { e with lastGood := x, readOk := true }) s)
    | .success (.ack k) => takeAck t.head k s
    | .success (.identity i) => takeIdentity t.head i s
    | .failure _ =>
      match t.op with
      | .poll => pollFailed t.head s
      | .read => onHead t.head (fun e => { e with readFailed := true }) s
      | .command _ => s
      | .identify => s
  else s

/-- The failure condition of a head (R115). -/
def failureCondition (h : Head) (s : State) : State :=
  let st := (s.exm.heads.get h).state
  if st = .measuring ∨ st = .lifting then headGoes h .lost (addNotice .headLost s) else s

/-! ### The outcome of a slot command (R113, R117, R129) -/

/-- A watched LIFT has ended UNCONFIRMED or FAILED (R129): the notice, and the hold of the test it was asked for in. A
LIFT of a test that has ended adds the notice alone and holds no later test (log 35). -/
def liftMissed (holds : Bool) (s : State) : State :=
  let s := addNotice .liftUnconfirmed s
  if holds then holdCause .liftUnconfirmed s else s

/-- The outcome of a LIFT (R129). -/
def liftOutcome (h : Head) (o : SlotOutcome) (s : State) : State :=
  if s.exm.liftWatch.get h then
    let holds := s.exm.liftHolds.get h
    let s := setWatch h false s
    match o with
    | .confirmed => s
    | .unconfirmed => liftMissed holds s
    | .failed => liftMissed holds s
  else s

/-- The outcome of a CLAMP (R113): UNCONFIRMED takes a head still CLAMPING back to PRESENT. -/
def clampOutcome (h : Head) (o : SlotOutcome) (s : State) : State :=
  if o = .unconfirmed ∧ (s.exm.heads.get h).state = .clamping then recoveryLift h (headGoes h .present s) else s

/-- The outcome of a slot command in the Extensometer Manager. -/
def takeOutcome (h : Head) (k : HeadCmd) (o : SlotOutcome) (s : State) : State :=
  match k with
  | .clamp => clampOutcome h o s
  | .lift => liftOutcome h o s
  | .zero => zeroOutcome h o s
  | .identify => s

/-- The slot command is freed with an outcome, in the order of R103: last command, outcome to the manager,
HEAD_CMD_DONE for a computer's command, slot FREE and the oldest waiting entry in. -/
def freeCommand (c : SlotCommand) (o : SlotOutcome) (s : State) : State :=
  let s := s.onGlc fun g =>
    { g with heads := g.heads.modify c.head fun x => { x with lastCommand := some ⟨c.kind, c.origin, o⟩ } }
  let s := takeOutcome c.head c.kind o s
  let s := if c.origin = .computer then raise .headCmdDone s else s
  s.onGlc Glc.freeSlot

/-! ### Completion (R93, R102, R105) -/

/-- A status confirms a command (R102). -/
def confirms (k : HeadCmd) (st : HeadStatus) : Bool :=
  match k with
  | .clamp => st.arms = .clamped && st.seated
  | .lift => st.arms = .lifted
  | .zero => st.zeroed
  | .identify => false

/-- The status a successful result carries (R95). -/
def TxResult.status : TxResult → Option HeadStatus
  | .success (.status st) => some st
  | .success (.extension _ st) => some st
  | .success (.ack _) => none
  | .success (.identity _) => none
  | .failure _ => none

/-- The confirmation time: 2,000 ms, in points (R102, log 6). -/
def confirmationPoints : Nat := 4000

/-- The end of the slot command's own transaction (R102). -/
def slotTransactionEnd (c : SlotCommand) (r : TxResult) (s : State) : State :=
  match r with
  | .failure _ => freeCommand c .failed s
  | .success _ =>
    if c.kind = .identify then freeCommand c .confirmed s
    else s.onGlc fun g =>
      { g with slot := some { c with phase := .confirming, timeLeft := confirmationPoints, pollDue := false } }

/-- The slot, third in the completion (R93): its own transaction's end, a failure condition of the head being
confirmed (R103), or a status that confirms (R102). -/
def slotCompletion (t : Transaction) (r : TxResult) (signalled : Bool) (s : State) : State :=
  match s.glc.slot with
  | none => s
  | some c =>
    match c.phase with
    | .linkWait => s
    | .onLink => if t.source = .slot then slotTransactionEnd c r s else s
    | .confirming =>
      if t.head = c.head then
        if signalled then freeCommand c .unconfirmed s
        else match r.status with
          | some st => if confirms c.kind st then freeCommand c .confirmed s else s
          | none => s
      else s

/-- The failure counts of a head after a transaction (R105). -/
def GlcHead.after (r : TxResult) (x : GlcHead) : GlcHead :=
  match r with
  | .success _ => { x with consecutive := 0 }
  | .failure k =>
    { x with
      consecutive := if x.limit ≤ x.consecutive + 1 then 0 else x.consecutive + 1
      total := satSucc max16 x.total
      lastFailure := k }

/-- The transaction's end signals the head's failure condition (R105). -/
def GlcHead.signals (r : TxResult) (x : GlcHead) : Bool :=
  match r with
  | .success _ => false
  | .failure _ => x.limit ≤ x.consecutive + 1

/-- The link counters when a transaction of an operation starts (R107: transactions started; log 17). -/
def GaugeCounters.started (o : GaugeOp) (c : GaugeCounters) : GaugeCounters :=
  match o with
  | .poll => { c with poll := satSucc max32 c.poll }
  | .read => { c with read := satSucc max32 c.read }
  | .command _ => { c with command := satSucc max32 c.command }
  | .identify => { c with identify := satSucc max32 c.identify }

/-- The link counters when a transaction has ended: its failure, if any, by kind (R93, R107; log 17). -/
def GaugeCounters.after (r : TxResult) (c : GaugeCounters) : GaugeCounters :=
  match r with
  | .success _ => c
  | .failure .none => c
  | .failure .noReply => { c with noReply := satSucc max32 c.noReply }
  | .failure .truncated => { c with truncated := satSucc max32 c.truncated }
  | .failure .badCheck => { c with badCheck := satSucc max32 c.badCheck }

/-- The completion of a transaction, in the order of R93. -/
def completeTransaction (t : Transaction) (r : TxResult) (s : State) : State :=
  let signalled := (s.glc.heads.get t.head).signals r
  let s := s.onGlc fun g => { g with current := none, heads := g.heads.modify t.head (GlcHead.after r) }
  let s := takeResult t r s
  let s := if signalled then failureCondition t.head s else s
  let s := slotCompletion t r signalled s
  s.onGlc fun g => { g with counters := g.counters.after r, lastFromSlot := t.source = .slot }

/-- The chosen transaction starts (R98 to R102): a POLL leaves the round list, the slot command goes ON_LINK or its
confirmation poll is taken, the last streamed head is noted, the start is counted (R107), and the request is driven. -/
def startTransaction (h : Head) (o : GaugeOp) (src : TxSource) (s : State) : State :=
  let g := s.glc
  let g : Glc :=
    match src with
    | .round => { g with roundList := g.roundList.drop 1 }
    | .stream => { g with lastStreamed := some h }
    | .slot =>
      { g with slot := g.slot.map fun c =>
          match c.phase with
          | .linkWait => { c with phase := .onLink }
          | .onLink => c
          | .confirming => { c with pollDue := false } }
  s.onGlc fun _ =>
    { g with current := some ⟨h, o, src, s.clock⟩, request := gaugeRequest h o, counters := g.counters.started o }

end Sys2Proof.Machine
end

