-- ==== Sys2Proof/Machine/Point.lean ====
section
/-! DEFINITION. The point path: what a completed conversion brings in every block (R68, R80). -/

namespace Sys2Proof.Machine

/-- The link's clocks fall by one point (log 6): the poll clock (R98) and the confirmation time left (R102). -/
def tickClocks (s : State) : State :=
  ({ s with clock := s.clock + 1 } : State).onGlc fun g =>
    { g with pollClock := g.pollClock - 1
             slot := g.slot.map fun c => { c with timeLeft := c.timeLeft - 1 } }

/-- The Evaluation Unit takes a point in RUNNING, HELD or ENDING (R133); the flag says that fracture was detected on
it. The slip action follows on the same point (R35, R149). -/
def evaluationPoint (unrest : Bool) (p : Point) (s : State) : State × Bool :=
  if s.tsq.state.evaluated then
    let o := evaluate (s.evalInput unrest p) s.evu
    let s := applyEval o s
    (if o.slip then slipAction s else s, o.fractured)
  else (s, false)

/-- The Extensometer Manager takes a point after the Evaluation Unit: the freeze at fracture (R124), or the removal
check in RUNNING, HELD or ENDING (R125). -/
def managerPoint (fractured : Bool) (p : Point) (s : State) : State :=
  if fractured then fractureFreeze p s
  else if s.tsq.state.evaluated then removalCheck p s
  else s

/-- The consumers of a point in order: pacing (log 14), Drive Loop, Evaluation Unit, Extensometer
Manager, Test Sequencer, Limit Monitor, Sample Store (R80, R157; DESIGN CHOICE where the rules leave the order open,
log 11). -/
def consumePoint (held : Int) (c : Conversion) (first : Bool) (f : Formed) : State :=
  let p := f.point
  let s := drivePoint held c first p (pacingPoint f.state)
  let e := evaluationPoint f.unrest p s
  let s := sequencerPoint e.2 p (managerPoint e.2 p e.1)
  offerPoint p (limitPoint c.driveFault p s)

/-- The point is the first whose strain source is ESTIMATED after a handover; a test without heads, ESTIMATED from its
entry point, makes none (R56, R117). -/
def firstEstimated (p : Point) (s : State) : Bool :=
  p.source = .estimated && s.latest.source ≠ .estimated && s.exm.removal = .handedOver

/-- A completed conversion (R68): clocks and limits, the point, and its consumers. -/
def conversion (c : Conversion) (s : State) : State :=
  let f := formPoint c.count (takeLimits (tickClocks s))
  consumePoint s.drl.velocity c (firstEstimated f.point s) f

end Sys2Proof.Machine
end

