-- ==== Sys2Proof/Machine/Operands.lean ====
section
/-! DEFINITION. The payloads of the requests (R196): every field of every request is read here, once. -/

namespace Sys2Proof.Machine

/-! ### Enumerations, numbered from 0 in the order of their chapters (R196) -/

/-- The value that a code names in an enumeration. -/
def enumAt {α : Type} (xs : List α) (b : Byte) : Option α := xs[b.toNat]?

def headOf (b : Byte) : Option Head := enumAt [.front, .rear] b
def headCmdOf (b : Byte) : Option HeadCmd := enumAt [.clamp, .lift, .zero, .identify] b
def rangeOf (b : Byte) : Option Range := enumAt [.a, .b, .c, .d] b
def controlModeOf (b : Byte) : Option ControlMode := enumAt [.positionRate, .strainRate, .stressRate, .dwell] b
def onEndOf (b : Byte) : Option OnEnd := enumAt [.next, .hold, .endTest] b
def slipActionOf (b : Byte) : Option SlipAction := enumAt [.carryOn, .hold, .abort] b

def condKindOf (b : Byte) : Option CondKind :=
  enumAt [.forceAbove, .stressAbove, .strainAbove, .travelAbove, .timeElapsed, .yieldDetected, .yieldEnded,
    .maxPassed, .loadSettled] b

/-! ### Fields at an offset -/

/-- The byte at an offset, 0 past the end. -/
def byteAt (p : List Byte) (i : Nat) : Byte := p.getD i 0

/-- The unsigned four-byte value at an offset. -/
def natAt (p : List Byte) (i : Nat) : Nat := ofBytes ((p.drop i).take 4)

/-- The signed four-byte value at an offset. -/
def intAt (p : List Byte) (i : Nat) : Int := ofBytesSigned ((p.drop i).take 4)

/-- The yes-or-no field at an offset. -/
def ynAt (p : List Byte) (i : Nat) : Option Bool := ynOf (byteAt p i)

/-- A text at an offset (R196): its declared length and the characters that length covers. -/
def textAt (p : List Byte) (i : Nat) : Nat × List Byte :=
  ((byteAt p i).toNat, ((p.drop (i + 1)).take 16).take (byteAt p i).toNat)

/-! ### The specimen record (R3): 52 bytes -/

/-- The length of a Set Specimen payload: id 17, A0, Le, Lc 4 each, nominal modulus 1 + 4, heat id 1 + 17. -/
def specimenLength : Nat := 52

/-- The specimen record of a Set Specimen payload; none where a presence marker is undefined (log 20) or a text is
longer than 16 characters. Padding is not read (log 54). -/
def specimenOf (p : List Byte) : Option Specimen := do
  let hasNominal ← ynAt p 29
  let hasHeat ← ynAt p 34
  let id := textAt p 0
  let heat := textAt p 35
  if 16 < id.1 ∨ (hasHeat = true ∧ 16 < heat.1) then none
  else some ({ id := id.2, area := natAt p 17, gaugeLength := natAt p 21, parallelLength := natAt p 25
               nominalModulus := if hasNominal then some (natAt p 30) else none
               heatId := if hasHeat then some heat.2 else none } : Specimen)

/-- The ranges of section 1.2, checked by R3. -/
def Specimen.inRange (x : Specimen) : Bool :=
  1 ≤ x.id.length && x.id.length ≤ 16 && x.id.all printable &&
  100 ≤ x.area && x.area ≤ 5000000 &&
  1000 ≤ x.gaugeLength && x.gaugeLength ≤ 20000 &&
  1000 ≤ x.parallelLength && x.parallelLength ≤ 20000 && x.gaugeLength ≤ x.parallelLength &&
  (match x.nominalModulus with
   | some m => 1000 ≤ m && m ≤ 1000000
   | none => true) &&
  (match x.heatId with
   | some t => t.length ≤ 16 && t.all printable
   | none => true)

/-! ### The plan header and Begin Program (R7) -/

/-- The length of a plan header: 19 four-byte fields and 5 one-byte fields, in the order of section 1.3. -/
def headerLength : Nat := 81

/-- The plan header at the start of a payload; none where a yes-or-no field or the slip action holds an undefined
code (R7). -/
def headerOf (p : List Byte) : Option PlanHeader := do
  let fallback ← ynAt p 24
  let tareAtStart ← ynAt p 73
  let zeroAtStart ← ynAt p 74
  let slip ← slipActionOf (byteAt p 79)
  let allowNominal ← ynAt p 80
  some
    { offsetStrain := natAt p 0
      sigmaLo := natAt p 4
      sigmaHi := natAt p 8
      nMin := natAt p 12
      eMin := natAt p 16
      eMax := natAt p 20
      fallback := fallback
      yieldDrop := natAt p 25
      yieldSearchLimit := natAt p 29
      yieldSpanLimit := natAt p 33
      transientSkip := natAt p 37
      maxPassedDrop := natAt p 41
      fractureFraction := natAt p 45
      abruptFraction := natAt p 49
      fractureArmForce := natAt p 53
      removalStrain := natAt p 57
      protectStrain := natAt p 61
      windowLength := natAt p 65
      decimation := natAt p 69
      tareAtStart := tareAtStart
      zeroAtStart := zeroAtStart
      headsRequired := natAt p 75
      slipAction := slip
      allowNominal := allowNominal }

/-- The length of a Begin Program payload: the header and the total count, 4 bytes (log 18). -/
def beginLength : Nat := headerLength + 4

/-! ### Segment records (R8, section 10.7): 25 bytes each -/

/-- One end-condition entry of 6 bytes; none where the kind or the threshold marker is undefined (R8, log 20). -/
def conditionOf (p : List Byte) : Option EndCondition := do
  let kind ← condKindOf (byteAt p 0)
  let marked ← ynAt p 1
  some ⟨kind, if marked then some (intAt p 2) else none⟩

/-- The segment record in 25 bytes: control mode, rate, condition count, three entries of which the declared count are
read, on-end action; none where a code is undefined or the condition count is outside 1 to 3 (R8). -/
def segmentOf (p : List Byte) : Option Segment := do
  let mode ← controlModeOf (byteAt p 0)
  let n := (byteAt p 5).toNat
  let conditions ← ((List.range 3).take n).mapM fun k => conditionOf ((p.drop (6 + 6 * k)).take 6)
  let action ← onEndOf (byteAt p 24)
  if 1 ≤ n ∧ n ≤ 3 then some ⟨mode, intAt p 1, conditions, action⟩ else none

/-- The segment records of a Program Segments payload, from its third byte on. -/
def segmentsOf (n : Nat) (p : List Byte) : Option (List Segment) :=
  (List.range n).mapM fun k => segmentOf ((p.drop (2 + 25 * k)).take 25)

/-! ### The frame configuration (R48): 17 fields of 4 bytes -/

/-- The length of a Configure Frame payload. -/
def frameLength : Nat := 68

/-- The frame configuration of a payload, in the order of section 3.3. -/
def frameOf (p : List Byte) : FrameConfig where
  encoderScale := natAt p 0
  maxSpeed := natAt p 4
  fullScaleSpeed := natAt p 8
  maxAccel := natAt p 12
  stopDecel := natAt p 16
  kp := natAt p 20
  ks := natAt p 24
  kf := natAt p 28
  followPosition := natAt p 32
  followStrain := natAt p 36
  followStress := natAt p 40
  softMin := intAt p 44
  softMax := intAt p 48
  capacity := natAt p 52
  overloadLimit := natAt p 56
  quietThreshold := natAt p 60
  slopeThreshold := natAt p 64

/-- The ranges of section 3.3, checked by R48. -/
def FrameConfig.inRange (f : FrameConfig) : Bool :=
  1 ≤ f.encoderScale && f.encoderScale ≤ 100000 &&
  f.maxSpeed ≤ 200000 && f.maxSpeed ≤ f.fullScaleSpeed &&
  1000 ≤ f.fullScaleSpeed && f.fullScaleSpeed ≤ 400000 &&
  1000 ≤ f.maxAccel && f.maxAccel ≤ 400000000 &&
  1000 ≤ f.stopDecel && f.stopDecel ≤ 400000000 &&
  f.kp ≤ 65535 && f.ks ≤ 65535 && f.kf ≤ 65535 &&
  f.followPosition ≤ 10000000 && f.followStrain ≤ 2000000 && f.followStress ≤ 1000000 &&
  f.softMin < f.softMax &&
  10000 ≤ f.capacity && f.capacity ≤ 20000000 &&
  1 ≤ f.overloadLimit && (f.overloadLimit : Int) ≤ divRound (f.capacity * 110) 100 &&
  f.quietThreshold ≤ f.capacity &&
  1 ≤ f.slopeThreshold && f.slopeThreshold ≤ f.capacity

/-! ### Load Calibration (R75) -/

/-- The breakpoints of a payload, from its third byte on. -/
def breakpointsOf (n : Nat) (p : List Byte) : List Breakpoint :=
  (List.range n).map fun k => ⟨intAt p (2 + 8 * k), intAt p (6 + 8 * k)⟩

/-- The counts are strictly increasing from each breakpoint to the next (R75). -/
def strictlyIncreasing : List Breakpoint → Bool
  | [] => true
  | [_] => true
  | b1 :: b2 :: rest => b1.count < b2.count && strictlyIncreasing (b2 :: rest)

/-- The checks of R75 on a table. -/
def tableInRange (t : List Breakpoint) : Bool :=
  2 ≤ t.length && t.length ≤ 12 &&
  t.all (fun b => b.count.natAbs ≤ 8388607 && b.force.natAbs ≤ 20000000) && strictlyIncreasing t

end Sys2Proof.Machine
end

