-- ==== Sys2Proof/Machine/Layout.lean ====
section
/-! DEFINITION. Status codes (R185) and the reply fields of every request, in the layouts of section 10.7 (R196):
every enumeration is one byte, numbered from 0 in the order of its chapter, unless the section gives its codes. -/

namespace Sys2Proof.Machine

/-! ### Status codes and answers (R185) -/

/-- The status codes of R185, 00h to 10h in order. -/
inductive Status
  | ok | accepted | busy | unknownKind | badLength | outOfRange | wrongState | locked | outOfSequence
  | invalidProgram | notConfigured | notSettled | stillActive | storeFull | gaugeMismatch | headsNotReady
  | calNominal
deriving DecidableEq, Repr

/-- The byte of a status. -/
def Status.byte (x : Status) : Byte := BitVec.ofNat 8 x.ctorIdx

/-- What the owning block decides on a request (R184): the status, the fields that follow it in the reply, and the
state the decision leaves. -/
structure Answer where
  status : Status
  fields : List Byte
  state : State
deriving DecidableEq, Repr

/-- The payload of the reply: the status byte and the fields that follow it (R184). -/
def Answer.payload (a : Answer) : List Byte := a.status.byte :: a.fields

/-- A refusal that changes no state and carries no further field (R185). -/
def refuse (x : Status) (s : State) : Answer := ⟨x, [], s⟩

/-- An answer OK without further fields. -/
def answerOk (s : State) : Answer := ⟨.ok, [], s⟩

/-- An answer ACCEPTED without further fields. -/
def answerAccepted (s : State) : Answer := ⟨.accepted, [], s⟩

/-- A request with an empty payload: any other length is refused BAD_LENGTH. -/
def withEmpty (p : List Byte) (s : State) (a : Answer) : Answer :=
  match p with
  | [] => a
  | _ :: _ => refuse .badLength s

/-- A request that reads and changes nothing: OK with its fields. -/
def readOnly (p : List Byte) (fields : State → List Byte) (s : State) : Answer :=
  withEmpty p s ⟨.ok, fields s, s⟩

/-! ### Single fields -/

/-- An enumeration's byte. -/
def enumByte (code : Nat) : List Byte := u8 code

/-- A set of segment indices (R196): two bytes, index i in bit i. -/
def indexSet (x : BitVec 16) : List Byte := u16 x.toNat

/-- An end reason (section 10.7): COMPLETE 1 to START_FAILED 5. -/
def EndReason.code (x : EndReason) : Nat := x.ctorIdx + 1

/-- An absence reason (section 10.7), 1 to 10. -/
def Absence.code (x : Absence) : Nat := x.ctorIdx + 1

/-- The tare outcome (R185, R192). -/
def TareOutcome.code : TareOutcome → Nat
  | .ok => 0x00
  | .pending => 0x01
  | .notSettled => 0x0B
  | .none => 0xFF

/-- The fit status (section 10.7). -/
def FitStatus.code (x : FitStatus) : Nat :=
  match x with
  | .collecting => 0
  | .done => 1
  | .failed _ => 2
  | .notRequested => 3

/-- The fit failure reason; 0 unless FAILED (section 10.7). -/
def FitStatus.reasonCode : FitStatus → Nat
  | .collecting => 0
  | .done => 0
  | .failed r => r.code
  | .notRequested => 0

/-! ### Attention (R188, R192) -/

/-- The pending set, the mask and the notice set, as Query Attention gives them. -/
def attentionGroup (c : Cli) : List Byte := u8 c.pending.byte ++ u8 c.mask.byte ++ u16 c.notices.value

/-- The fields of Query Attention (R188). -/
def queryFields (s : State) : List Byte := u8 (highestSource s.cli) ++ attentionGroup s.cli

/-! ### Identify (R191) -/

/-- "Zeltris", padded with 00h to 8 bytes. -/
def familyText : List Byte := [0x5A, 0x65, 0x6C, 0x74, 0x72, 0x69, 0x73, 0x00]

/-- "ZT-460", padded with 00h to 8 bytes. -/
def partText : List Byte := [0x5A, 0x54, 0x2D, 0x34, 0x36, 0x30, 0x00, 0x00]

/-- The fields of Identify (R191). -/
def identifyFields : List Byte :=
  familyText ++ partText ++ u32 1 ++ u32 1 ++ u32 Config.maxPayload ++ u32 Config.ringCapacity ++ u32 2 ++ u32 500

/-! ### Status (R192) -/

/-- The sequencer group (R41). -/
def sequencerGroup (s : State) : List Byte :=
  let t := s.tsq
  enumByte t.state.ctorIdx ++ opt 1 (fun x => enumByte x.ctorIdx) t.heldReason ++ opt 1 u8 t.heldAt ++
  opt 1 (fun x => enumByte x.code) t.pendingEnd ++ opt 1 (fun x => enumByte x.ctorIdx) t.startStep ++
  opt 1 u8 t.currentSegment ++ u32 t.segmentTime ++ opt 1 (fun x => enumByte x.code) t.endReason ++
  opt 1 (fun x => enumByte x.ctorIdx) t.startCause ++ enumByte s.fcu.tareOutcome.code

/-- The drive group (R66). The lines DRIVE_READY and DRIVE_ENABLE are sent as 1 asserted, 0 not (DESIGN CHOICE,
log 19). -/
def driveGroup (s : State) : List Byte :=
  let d := s.drl
  enumByte d.state.ctorIdx ++ opt 1 (fun x => enumByte x.ctorIdx) d.mode ++
  i32 (if d.mode.isSome then d.setpoint else 0) ++ yn d.frozen ++ i32 d.velocity ++
  i32 s.latest.position ++ i32 s.latest.travel ++ yn d.travelZero.isSome ++ opt 4 i32 d.moveTarget ++
  opt 1 (fun x => enumByte x.ctorIdx) d.moveOutcome ++ yn d.readyLevel ++ yn s.driveEnable ++ u32 d.mismatches

/-- One value for each range, A to D. -/
def PerRange.bytes {α : Type} (t : PerRange α) (enc : α → List Byte) : List Byte :=
  enc t.a ++ enc t.b ++ enc t.c ++ enc t.d

/-- The ranges, A to D. -/
def allRanges : PerRange Range := ⟨.a, .b, .c, .d⟩

/-- The force group (R87). The settled flag and the nominal flags are sent as 1 set, 0 clear (DESIGN CHOICE, log 19). -/
def forceGroup (s : State) : List Byte :=
  let f := s.fcu
  enumByte f.range.ctorIdx ++ allRanges.bytes (fun r => i32 (fullScale s.drl.frame.capacity r)) ++
  f.tables.bytes (fun t => yn t.isNone) ++ i32 f.rawCount ++ i32 f.calForce ++ i32 s.latest.force ++
  i32 s.latest.stress ++ u16 s.latest.flags.rangeOnly.value ++ i32 f.tareOffset ++ enumByte f.tareOutcome.code ++
  opt 4 u32 f.tareWait ++ yn f.settled ++ enumByte f.classifier.ctorIdx

/-- The evaluation group (R192). -/
def evaluationGroup (e : Evu) : List Byte :=
  enumByte e.phase.ctorIdx ++ enumByte e.fit.code ++ enumByte e.fit.reasonCode ++ u16 e.sums.n ++
  enumByte e.search.ctorIdx

/-- The store group (R166). -/
def storeGroup (m : Sms) : List Byte :=
  u32 m.free ++ u32 m.newest ++ u32 m.releaseMark ++ yn m.recording ++ u32 m.thinning ++ u32 m.pointsNotStored ++
  enumByte m.pacing.ctorIdx ++ u32 m.paceCount ++ u32 m.paceDelay

/-- One safety input: its debounced level and, beside it, its latch as 1 set, 0 clear (R179; the coding and the order
within an input are a DESIGN CHOICE, log 19). -/
def SafetyLine.bytes (l : SafetyLine) : List Byte := enumByte l.level.ctorIdx ++ yn l.latch

/-- One value for each safety input, in the order of R196. -/
def inputBytes {α : Type} (t : PerInput α) (enc : α → List Byte) : List Byte :=
  enc t.estop ++ enc t.guardOpen ++ enc t.upperLimit ++ enc t.lowerLimit

/-- The point of a trip (R173). -/
def TripPoint.bytes (x : TripPoint) : List Byte := u32 x.index ++ i32 x.force ++ i32 x.travel

/-- A trip record: first cause, point, further causes (R179). -/
def TripRecord.bytes (x : TripRecord) : List Byte :=
  enumByte x.first.ctorIdx ++ opt 12 TripPoint.bytes x.point ++ u8 x.further.toNat

/-- The limit group (R179), level and latch input by input (DESIGN CHOICE, log 19). -/
def limitGroup (m : Lmu) : List Byte :=
  enumByte m.trip.ctorIdx ++ opt 15 TripRecord.bytes m.record ++ inputBytes m.inputs SafetyLine.bytes ++
  enumByte m.driveFault.ctorIdx ++ u32 m.overloadCount ++ i32 m.softMin ++ i32 m.softMax ++ u32 m.overloadLimit

/-- The fields of Status (R192). -/
def statusFields (s : State) : List Byte :=
  attentionGroup s.cli ++ sequencerGroup s ++ driveGroup s ++ forceGroup s ++ evaluationGroup s.evu ++
  storeGroup s.sms ++ limitGroup s.lmu

/-! ### Read Counters (R193) -/

/-- The link counters of the interface (R180). -/
def LinkCounters.bytes (c : LinkCounters) : List Byte :=
  u32 c.framesTaken ++ u32 c.repliesSent ++ u32 c.badChecks ++ u32 c.framingErrors ++ u32 c.oversizeFrames ++
  u32 c.timeouts ++ u32 c.overruns ++ u32 c.unknownKinds

/-- A timer: settings, remaining counts, running or not (R88). -/
def Timer.bytes (t : Timer) (running : Bool) : List Byte :=
  u32 t.p ++ u32 t.c ++ u32 t.prescale ++ u32 t.ticks ++ yn running

/-- The snapshot of the Force Unit (R88). The settled flag is sent as 1 set, 0 clear (DESIGN CHOICE, log 19). -/
def forceSnapshot (f : Fcu) : List Byte :=
  enumByte f.classifier.ctorIdx ++ u32 f.history.length ++ i32 f.slope ++ u32 f.signChanges ++
  f.levelTimer.bytes f.classifier.steady ++ f.unrestTimer.bytes f.classifier.restless ++ yn f.settled ++
  u32 f.unrestEvents ++ u32 f.rangeChanges

/-- The gauge link's counters (R107). -/
def GaugeCounters.bytes (c : GaugeCounters) : List Byte :=
  u32 c.poll ++ u32 c.read ++ u32 c.command ++ u32 c.identify ++ u32 c.noReply ++ u32 c.truncated ++ u32 c.badCheck

/-- The fields of Read Counters (R193). -/
def counterFields (s : State) : List Byte :=
  s.cli.counters.bytes ++ forceSnapshot s.fcu ++ s.glc.counters.bytes ++
  u32 s.sms.recordsStored ++ u32 s.sms.totalNotStored ++ u32 s.sms.segStartsNotStored ++ u32 s.lmu.trips

/-! ### Read Program State (R12) -/

/-- The total count: of the load in progress or of the loaded program, 0 in EMPTY. -/
def Tsq.totalCount (t : Tsq) : Nat :=
  match t.load, t.program with
  | some l, _ => l.total
  | none, some p => p.segments.length
  | none, none => 0

/-- The next expected index: in LOADING the number of segments received, else the total count (R12). -/
def Tsq.nextExpected (t : Tsq) : Nat :=
  match t.load with
  | some l => l.segments.length
  | none => t.totalCount

/-- The segments still expected: 0 outside LOADING (R12). -/
def Tsq.remaining (t : Tsq) : Nat := t.totalCount - t.nextExpected

/-- The last load outcome with the failing index of INVALID. -/
def LoadOutcome.bytes : LoadOutcome → List Byte
  | .none => enumByte 0 ++ opt 1 u8 (Option.none : Option Nat)
  | .valid => enumByte 1 ++ opt 1 u8 (Option.none : Option Nat)
  | .invalid i => enumByte 2 ++ opt 1 u8 (some i)

/-- Whether a specimen record is present, its id, and its heat or coil id (R12). -/
def specimenBytes (x : Option Specimen) : List Byte :=
  opt 17 (fun y => text y.id) x ++ opt 17 text (x.bind (·.heatId))

/-- The fields of Read Program State (R12). -/
def programFields (s : State) : List Byte :=
  let t := s.tsq
  enumByte t.state.ctorIdx ++ opt 1 u8 t.currentSegment ++ u32 t.totalCount ++ u8 t.nextExpected ++
  u32 t.remaining ++ t.lastLoad.bytes ++ indexSet t.visited ++ indexSet t.holdPoints ++ specimenBytes t.specimen

/-! ### Head Status (R131, R107) -/

/-- A status of a head (R131). -/
def HeadStatus.bytes (x : HeadStatus) : List Byte := enumByte x.arms.ctorIdx ++ yn x.seated ++ yn x.zeroed

/-- An identity (R131). -/
def Identity.bytes (x : Identity) : List Byte :=
  [x.kind] ++ u32 x.gaugeLength ++ u32 x.travelRange ++ text x.serial

/-- A transfer ratio (R131). -/
def TransferRatio.bytes (x : TransferRatio) : List Byte :=
  enumByte x.kind.ctorIdx ++ i32 x.strainH ++ i32 x.travelH ++ i32 x.deltaStrain ++ i32 x.deltaTravel

/-- The code of a strain source (section 10.7): 0 NONE to 3 FROZEN. -/
def StrainSource.code (x : StrainSource) : Nat := x.ctorIdx

/-- The Extensometer Manager's fields of Head Status (R131), each line of the rule's table once for FRONT and once for
REAR where it is given per head (log 19). -/
def managerFields (s : State) : List Byte :=
  let m := s.exm
  m.heads.bytes (fun e => yn e.configured ++ enumByte e.state.ctorIdx ++ yn e.testHead) ++
  m.heads.bytes (fun e => opt 26 Identity.bytes e.identity) ++
  m.heads.bytes (fun e => opt 3 HeadStatus.bytes e.latest) ++
  m.heads.bytes (fun e => yn e.zeroed ++ i32 e.lastGood ++ enumByte e.freshness.ctorIdx ++ u32 e.failedPolls) ++
  enumByte m.source.code ++ i32 s.latest.strain ++ u8 s.latest.flags.strainOnly.value ++
  enumByte m.removal.ctorIdx ++ opt 1 (fun x => enumByte x.ctorIdx) m.trigger ++ opt 4 u32 m.handoverPoint ++
  u32 m.window.length ++ opt 17 TransferRatio.bytes m.ratio ++ opt 4 i32 m.frozenStrain ++
  u8 (bitsValue [m.liftWatch.front, m.liftWatch.rear])

/-- The confirmation time left, in milliseconds (log 6), present in CONFIRMING. -/
def SlotCommand.confirmationLeft (c : SlotCommand) : Option Nat :=
  match c.phase with
  | .linkWait => none
  | .onLink => none
  | .confirming => some ((c.timeLeft + 1) / 2)

/-- A slot command (R107). -/
def SlotCommand.bytes (c : SlotCommand) : List Byte :=
  enumByte c.head.ctorIdx ++ enumByte c.kind.ctorIdx ++ enumByte c.origin.ctorIdx ++ enumByte c.phase.ctorIdx ++
  opt 4 u32 c.confirmationLeft

/-- A last command (R107). -/
def LastCommand.bytes (c : LastCommand) : List Byte :=
  enumByte c.kind.ctorIdx ++ enumByte c.origin.ctorIdx ++ enumByte c.outcome.ctorIdx

/-- The Gauge Link Controller's fields of Head Status (R107); the slot's FREE or BUSY is the presence byte of its
command (log 19). -/
def slotFields (g : Glc) : List Byte :=
  opt 9 SlotCommand.bytes g.slot ++ u32 g.waiting.length ++
  g.heads.bytes (fun x => opt 3 LastCommand.bytes x.lastCommand) ++
  g.heads.bytes (fun x => u32 x.limit ++ u32 x.consecutive ++ u32 x.total) ++
  g.heads.bytes (fun x => enumByte x.lastFailure.ctorIdx)

/-- The fields of Head Status (R131). -/
def headStatusFields (s : State) : List Byte := managerFields s ++ slotFields s.glc

/-! ### Read Samples and Read Results (section 10.7) -/

/-- The segment index byte of a sample record; FFh when absent. -/
def segmentByte : Option Nat → List Byte
  | some i => u8 i
  | none => u8 0xFF

/-- A sample record: 25 bytes (section 10.7). -/
def SampleRecord.bytes (x : SampleRecord) : List Byte :=
  enumByte x.kind.ctorIdx ++ segmentByte x.segment ++ u32 x.point.index ++ i32 x.point.travel ++ i32 x.point.force ++
  i32 x.point.stress ++ i32 x.point.strain ++ enumByte x.point.source.code ++ u16 x.point.flags.value

/-- One 10-byte entry of the result record (section 10.7). -/
def Field.bytes : Field → List Byte
  | .opened => u8 0 ++ u8 0 ++ i32 0 ++ u32 0
  | .fixed v i => u8 1 ++ u8 0 ++ i32 v ++ u32 i
  | .absent r => u8 2 ++ u8 r.code ++ i32 0 ++ u32 0

/-- Fmax as reported: 0 unless Rm is PRESENT (section 10.7). -/
def ResultRecord.reportedFmax (r : ResultRecord) : Int :=
  match r.rm with
  | .opened => 0
  | .fixed _ _ => r.fmax
  | .absent _ => 0

/-- The end reason as the result record gives it: 0 while it is open. -/
def endReasonCode : Option EndReason → Nat
  | none => 0
  | some x => x.code

/-- The fields of Read Results after the status: 107 bytes (section 10.7). -/
def resultFields (e : Evu) (r : ResultRecord) : List Byte :=
  u8 (endReasonCode r.endReason) ++ u16 r.slipCount ++ evaluationGroup e ++
  r.e.bytes ++ r.x0.bytes ++ r.rp.bytes ++ r.reh.bytes ++ r.rel.bytes ++ r.rm.bytes ++ r.ag.bytes ++
  r.fractureForce.bytes ++ r.a.bytes ++
  u16 r.fitCount ++ yn r.fallbackUsed ++ i32 r.reportedFmax ++ enumByte r.sourceOfA.code

end Sys2Proof.Machine
end

