-- ==== Sys2Proof/Machine/FrameRequests.lean ====
section
/-! DEFINITION. The requests that the Drive Loop and the Force Unit decide (chapters 3 and 4), and Clear Trip
(chapter 9). -/

namespace Sys2Proof.Machine

/-! ### Configure Frame (R48, R76) -/

/-- A new load-cell capacity in the Force Unit (R76): nominal lines, no tare, range A by a range change. R76 gives that
change the effects of R70, which empty the history, and leaves the history as it stands "in both cases"; the model
empties it where the range changes (DEDUCED, log 42). -/
def capacityChanged (s : State) : State :=
  let s := s.onFcu fun f => { f with tables := ⟨none, none, none, none⟩, tareOffset := 0, tareOutcome := .none }
  if s.fcu.range = .a then s else rangeChange .a s

/-- The new frame configuration is taken (R48, R76). -/
def takeFrame (f : FrameConfig) (s : State) : State :=
  let s' := s.onDrl fun d => { d with frame := f }
  if f.capacity = s.drl.frame.capacity then s' else capacityChanged s'

/-- Configure Frame (R48). -/
def decideConfigureFrame (p : List Byte) (s : State) : Answer :=
  if p.length ≠ frameLength then refuse .badLength s
  else if s.inTest then refuse .locked s
  else if s.drl.state ≠ .disabled then refuse .wrongState s
  else if (frameOf p).inRange then answerOk (takeFrame (frameOf p) s)
  else refuse .outOfRange s

/-! ### Enable Drive, Disable Drive (R44, R46) -/

/-- Enable Drive (R44). -/
def decideEnableDrive (p : List Byte) (s : State) : Answer :=
  withEmpty p s
    (match s.drl.state with
     | .disabled =>
       if s.drl.frame.maxSpeed = 0 then refuse .notConfigured s
       else answerAccepted (s.onDrl fun d => { d.rest .enabling with enableWait := 0 })
     | .enabling => refuse .busy s
     | .idle | .running | .holding | .stopping | .moving | .tripped => refuse .wrongState s)

/-- Disable Drive (R46). -/
def decideDisableDrive (p : List Byte) (s : State) : Answer :=
  withEmpty p s
    (if s.inTest then refuse .locked s
     else match s.drl.state with
       | .disabled => answerOk s
       | .enabling => answerOk (s.onDrl (Drl.rest .disabled))
       | .idle => answerOk (s.onDrl (Drl.rest .disabled))
       | .running | .holding | .stopping | .moving | .tripped => refuse .wrongState s)

/-! ### Moves (R60, R61, R63) -/

/-- A move may start: the drive is IDLE and no test is in progress (R60). -/
def mayMove (s : State) : Bool := s.drl.state = .idle && !s.inTest

/-- The speed and the target of a move are in range (R60). -/
def moveInRange (target : Int) (speed : Nat) (s : State) : Bool :=
  1 ≤ speed && speed ≤ s.drl.frame.maxSpeed && s.lmu.softMin ≤ target && target ≤ s.lmu.softMax

/-- A move begins (R60). -/
def beginMove (target : Int) (speed : Nat) (s : State) : State :=
  s.onDrl fun d => { d with state := .moving, moveTarget := some target, moveSpeed := speed, moveOutcome := none }

/-- A move to a target at a speed: OUT_OF_RANGE, or ACCEPTED (R60). -/
def requestMove (target : Int) (speed : Nat) (s : State) : Answer :=
  if moveInRange target speed s then answerAccepted (beginMove target speed s) else refuse .outOfRange s

/-- Move (R60): target and speed. -/
def decideMove (p : List Byte) (s : State) : Answer :=
  if p.length ≠ 8 then refuse .badLength s
  else if mayMove s then requestMove (intAt p 0) (natAt p 4) s
  else refuse .wrongState s

/-- Return (R61): a speed; the target is the position that the travel zero stands for. -/
def decideReturn (p : List Byte) (s : State) : Answer :=
  if p.length ≠ 4 then refuse .badLength s
  else if mayMove s then
    match s.drl.travelZero with
    | none => refuse .notConfigured s
    | some z => requestMove (positionOf z s.drl.frame.encoderScale) (natAt p 0) s
  else refuse .wrongState s

/-- The drive goes to STOPPING, or to IDLE at once with command 0, and the end of the move is then complete (R57,
R63). -/
def stopMoving (s : State) : State :=
  reportIfIdle (s.onDrl fun d => { d.enterStopping with moveOutcome := some .stopped })

/-- Stop Move (R63). -/
def decideStopMove (p : List Byte) (s : State) : Answer :=
  withEmpty p s
    (match s.drl.state with
     | .moving => answerOk (stopMoving s)
     | .stopping => if s.drl.moveTarget.isSome then answerOk s else refuse .wrongState s
     | .disabled | .enabling | .idle | .running | .holding | .tripped => refuse .wrongState s)

/-! ### Tare (R77) -/

/-- A tare wait is opened (R77). -/
def openTareWait (s : State) : State := s.onFcu fun f => { f with tareOutcome := .pending, tareWait := some 0 }

/-- Tare (R77). -/
def decideTare (p : List Byte) (s : State) : Answer :=
  withEmpty p s
    (if s.inTest then refuse .wrongState s
     else if s.fcu.tareWait.isSome then refuse .busy s
     else if s.fcu.settled then answerOk (takeTare s)
     else answerAccepted (openTareWait s))

/-! ### Load Calibration (R75) -/

/-- Load Calibration (R75): range, breakpoint count, breakpoints. -/
def decideLoadCalibration (p : List Byte) (s : State) : Answer :=
  let n := (byteAt p 1).toNat
  if p.length < 2 ∨ p.length ≠ 2 + 8 * n then refuse .badLength s
  else if s.inTest then refuse .locked s
  else match rangeOf (byteAt p 0) with
    | none => refuse .outOfRange s
    | some r =>
      if tableInRange (breakpointsOf n p) then
        answerOk (s.onFcu fun f => { f with tables := f.tables.set r (some (breakpointsOf n p)) })
      else refuse .outOfRange s

/-! ### Configure Classifier (R86) -/

/-- A timer takes its settings: reloaded with them if one differs, else left as it stands (R86). -/
def Timer.configure (p c : Nat) (t : Timer) : Timer :=
  if p = t.p ∧ c = t.c then t else ({ t with p := p, c := c } : Timer).reload

/-- The settings of a timer are in range (R86). -/
def timerInRange (p c : Nat) : Bool := 1 ≤ p && p ≤ 256 && 1 ≤ c && c ≤ 255

/-- Configure Classifier (R86): P_l, C_l, P_u, C_u. -/
def decideConfigureClassifier (p : List Byte) (s : State) : Answer :=
  if p.length ≠ 16 then refuse .badLength s
  else if timerInRange (natAt p 0) (natAt p 4) && timerInRange (natAt p 8) (natAt p 12) then
    answerOk (s.onFcu fun f =>
      { f with levelTimer := f.levelTimer.configure (natAt p 0) (natAt p 4)
               unrestTimer := f.unrestTimer.configure (natAt p 8) (natAt p 12) })
  else refuse .outOfRange s

/-! ### Clear Trip (R176) -/

/-- Clear Trip (R176): STILL_ACTIVE names the latched inputs still asserted. -/
def decideClearTrip (p : List Byte) (s : State) : Answer :=
  withEmpty p s
    (if s.lmu.trip = .clear then refuse .wrongState s
     else if blockingInputs s.lmu = 0 then answerOk (clearTripEffects s)
     else ⟨.stillActive, u8 (blockingInputs s.lmu), s⟩)

end Sys2Proof.Machine
end

