-- ==== Sys2Proof/Machine/HeadRequests.lean ====
section
/-! DEFINITION. The requests that the Extensometer Manager and the Gauge Link Controller decide (chapters 5 and 6). -/

namespace Sys2Proof.Machine

/-! ### Configure Heads (R109, R106, R104) -/

/-- A configured head becomes unconfigured (R109): the entry returns to its reset values, HEAD_STATE if it was not
ABSENT. -/
def resetHead (h : Head) (s : State) : State :=
  let before := (s.exm.heads.get h).state
  let s := onHead h (fun _ => .reset) s
  if before = .absent then s else raise .headState s

/-- What the Gauge Link Controller drops for an unconfigured head (R98, R104, R105): its POLL, its waiting entries,
its total-failure counter. -/
def dropHead (h : Head) (s : State) : State :=
  (withdrawWaiting (fun w => w.head = h) s).onGlc fun g =>
    { g with roundList := g.roundList.filter (· ≠ h), heads := g.heads.modify h fun x => { x with total := 0 } }

/-- The configured flag of one head is taken (R109). -/
def configureHead (h : Head) (configured : Bool) (s : State) : State :=
  if configured then onHead h (fun e => { e with configured := true }) s
  else if (s.exm.heads.get h).configured then resetHead h (dropHead h s)
  else s

/-- The failure limit of one head is taken, and its consecutive-failure count becomes 0 (R106). -/
def takeFailureLimit (h : Head) (limit : Nat) (s : State) : State :=
  s.onGlc fun g => { g with heads := g.heads.modify h fun x => { x with limit := limit, consecutive := 0 } }

/-- A failure limit is in range (R106). -/
def limitInRange (n : Nat) : Bool := 1 ≤ n && n ≤ 255

/-- An accepted Configure Heads (R109, R106). -/
def configureHeads (front rear : Bool) (limitFront limitRear : Nat) (s : State) : State :=
  configureHead .rear rear (configureHead .front front
    (takeFailureLimit .rear limitRear (takeFailureLimit .front limitFront s)))

/-- Configure Heads (R109): for FRONT and then for REAR, a configured flag and a failure limit. -/
def decideConfigureHeads (p : List Byte) (s : State) : Answer :=
  if p.length ≠ 10 then refuse .badLength s
  else if s.inTest then refuse .locked s
  else match ynAt p 0, ynAt p 5 with
    | some f, some r =>
      if limitInRange (natAt p 1) && limitInRange (natAt p 6) then
        answerOk (configureHeads f r (natAt p 1) (natAt p 6) s)
      else refuse .outOfRange s
    | _, _ => refuse .outOfRange s

/-! ### Head Command (R116, R101) -/

/-- The state check of a Head Command (R116). -/
def headCommandTaken (k : HeadCmd) (st : HeadState) (s : State) : Bool :=
  match k with
  | .clamp => st = .present && !s.inTest
  | .lift =>
    (st = .present || st = .clamping || st = .clamped || st = .lifting) && s.exm.source ≠ .extensometer
  | .zero => st = .clamped && !s.inTest
  | .identify => true

/-- A Head Command for a head and a kind (R116, R101). -/
def requestHeadCommand (h : Head) (k : HeadCmd) (s : State) : Answer :=
  if (s.exm.heads.get h).configured = false then refuse .notConfigured s
  else if headCommandTaken k (s.exm.heads.get h).state s then
    match s.glc.slot with
    | some _ => refuse .busy s
    | none => answerAccepted (s.onGlc (Glc.enter h k .computer))
  else refuse .wrongState s

/-- Head Command (R116). -/
def decideHeadCommand (p : List Byte) (s : State) : Answer :=
  if p.length ≠ 2 then refuse .badLength s
  else match headOf (byteAt p 0), headCmdOf (byteAt p 1) with
    | some h, some k => requestHeadCommand h k s
    | _, _ => refuse .outOfRange s

/-! ### Head Status (R131) -/

/-- Head Status (R131). -/
def decideHeadStatus (p : List Byte) (s : State) : Answer := readOnly p headStatusFields s

/-! ### Remove Extensometer (R128) -/

/-- A head still on the specimen with no LIFT of it asked for (R128). -/
def liftMissing (s : State) (h : Head) : Bool :=
  let st := (s.exm.heads.get h).state
  (st = .measuring || st = .clamped) && !s.glc.stands h .lift

/-- The heads whose lift can be retried, FRONT first (R128). -/
def liftsMissing (s : State) : List Head := [Head.front, .rear].filter (liftMissing s)

/-- Watched lifts of a list of heads, in order. -/
def askWatchedLifts : List Head → State → State
  | [], s => s
  | h :: rest, s => askWatchedLifts rest (askWatchedLift h s)

/-- A lift may be retried: HANDED_OVER, or CLOSED after a fracture (R128). -/
def liftRetry (m : Exm) : Bool := m.removal = .handedOver || (m.removal = .closed && m.source = .frozen)

/-- Remove Extensometer (R128). -/
def decideRemoveExtensometer (p : List Byte) (s : State) : Answer :=
  withEmpty p s
    (if s.tsq.state.evaluated && (s.exm.removal = .watching || s.exm.removal = .deferred) then
       answerOk (handover .request s)
     else if liftRetry s.exm && !(liftsMissing s).isEmpty then answerOk (askWatchedLifts (liftsMissing s) s)
     else refuse .wrongState s)

end Sys2Proof.Machine
end

