-- ==== Sys2Proof/Machine/LinkRequests.lean ====
section
/-! DEFINITION. The requests that the Control Link Interface decides itself (chapter 10). -/

namespace Sys2Proof.Machine

/-- A link counter grows. -/
def countLink (f : LinkCounters → LinkCounters) (s : State) : State :=
  s.onCli fun c => { c with counters := f c.counters }

/-- A request of a kind that names none (R184). -/
def decideUnknown (_ : List Byte) (s : State) : Answer :=
  refuse .unknownKind (countLink (fun c => { c with unknownKinds := satSucc max32 c.unknownKinds }) s)

/-- Identify (R191). -/
def decideIdentify (p : List Byte) (s : State) : Answer := readOnly p (fun _ => identifyFields) s

/-- Status (R192). -/
def decideStatus (p : List Byte) (s : State) : Answer := readOnly p statusFields s

/-- Read Counters (R193). -/
def decideReadCounters (p : List Byte) (s : State) : Answer := readOnly p counterFields s

/-- Query Attention (R188). -/
def decideQueryAttention (p : List Byte) (s : State) : Answer := readOnly p queryFields s

/-- A source is acknowledged (R189): it leaves the pending set, and NOTICE also empties the notice set. -/
def acknowledge (k : Source) (s : State) : State :=
  let s := clearSource k s
  if k = .notice then s.onCli fun c => { c with notices := .empty } else s

/-- Acknowledge (R189): one source code. -/
def decideAcknowledge (p : List Byte) (s : State) : Answer :=
  match p with
  | [b] =>
    match Source.ofCode b.toNat with
    | none => refuse .outOfRange s
    | some k => if k = .trip ∨ k = .samples then refuse .wrongState s else answerOk (acknowledge k s)
  | _ => refuse .badLength s

/-- Set Mask (R187): one set byte. -/
def decideSetMask (p : List Byte) (s : State) : Answer :=
  match p with
  | [b] => answerOk (s.onCli fun c => { c with mask := .ofByte b })
  | _ => refuse .badLength s

/-- Restart (R194): OK, and restart pending becomes yes. -/
def decideRestart (p : List Byte) (s : State) : Answer :=
  withEmpty p s (answerOk (s.onCli fun c => { c with restartPending := true }))

end Sys2Proof.Machine
end

