-- ==== Sys2Proof/Machine/Validation.lean ====
section
/-! DEFINITION. The validation of a complete program (R10, R11). -/

namespace Sys2Proof.Machine

/-- A value lies in a closed range. -/
def within (lo hi x : Nat) : Bool := lo ≤ x && x ≤ hi

/-- A signed value lies in a closed range. -/
def withinInt (lo hi x : Int) : Bool := lo ≤ x && x ≤ hi

/-- The yield limits are checked only when the yield drop is greater than 0 (R10). -/
def yieldLimitsValid (h : PlanHeader) : Bool :=
  h.yieldDrop = 0 || (within 1 2000000 h.yieldSearchLimit && within 1 2000000 h.yieldSpanLimit)

/-- The ranges of the fields of the plan header (section 1.3). -/
def headerRanges (h : PlanHeader) : Bool :=
  h.offsetStrain ≤ 50000 && h.sigmaHi ≤ 500000 && within 5 1000 h.nMin &&
  1000 ≤ h.eMin && h.eMax ≤ 1000000 && h.yieldDrop ≤ 10000 && yieldLimitsValid h &&
  h.transientSkip ≤ 2000 && within 1 500 h.maxPassedDrop && within 10 900 h.fractureFraction &&
  within 10 900 h.abruptFraction && within 1 20000000 h.fractureArmForce && h.removalStrain ≤ 2000000 &&
  within 1 2000000 h.protectStrain && within 10 500 h.windowLength && within 1 1000 h.decimation &&
  h.headsRequired ≤ 2

/-- The relations between the fields of the plan header (section 1.3). -/
def headerRelations (h : PlanHeader) : Bool :=
  h.sigmaLo < h.sigmaHi && h.eMin < h.eMax && h.removalStrain ≤ h.protectStrain &&
  (h.offsetStrain = 0 || 1 ≤ h.headsRequired)

/-- The plan header passes validation (R10). -/
def headerValid (h : PlanHeader) : Bool := headerRanges h && headerRelations h

/-- The rate range of a control mode (R4). -/
def rateValid (m : ControlMode) (rate : Int) : Bool :=
  match m with
  | .positionRate => rate.natAbs ≤ 200000
  | .strainRate => rate.natAbs ≤ 100000
  | .stressRate => rate.natAbs ≤ 100000
  | .dwell => rate = 0

/-- The range of a kind's threshold (R5); none for a kind that takes no threshold. -/
def CondKind.thresholdRange : CondKind → Option (Int × Int)
  | .forceAbove => some (-20000000, 20000000)
  | .stressAbove => some (-2000000000, 2000000000)
  | .strainAbove => some (-2000000, 2000000)
  | .travelAbove => some (-2000000000, 2000000000)
  | .timeElapsed => some (1, 86400000)
  | .yieldDetected => none
  | .yieldEnded => none
  | .maxPassed => none
  | .loadSettled => none

/-- A condition has a threshold exactly when its kind takes one, and in its range (R11). -/
def thresholdValid (c : EndCondition) : Bool :=
  match c.kind.thresholdRange, c.threshold with
  | some (lo, hi), some t => withinInt lo hi t
  | none, none => true
  | some _, none => false
  | none, some _ => false

/-- A kind that waits on yield (R11). -/
def CondKind.onYield (k : CondKind) : Bool := k = .yieldDetected || k = .yieldEnded

/-- A kind that a DWELL may end on (R11). -/
def CondKind.onDwell (k : CondKind) : Bool := k = .timeElapsed || k = .loadSettled

/-- An end condition passes validation in a segment of mode `m` (R11). -/
def conditionValid (h : PlanHeader) (m : ControlMode) (c : EndCondition) : Bool :=
  thresholdValid c && !(c.kind.onYield && h.yieldDrop = 0) && !(m = .dwell && !c.kind.onDwell)

/-- A segment passes validation (R11). -/
def segmentValid (h : PlanHeader) (g : Segment) : Bool :=
  rateValid g.mode g.rate && !(g.mode = .strainRate && h.headsRequired = 0) &&
  g.conditions.all (conditionValid h g.mode)

/-- The failing index of a program (R9): 255 for the header, else the lowest index of a segment that fails. -/
def failingIndex (h : PlanHeader) (gs : List Segment) : Option Nat :=
  if headerValid h then gs.findIdx? fun g => !segmentValid h g else some 255

end Sys2Proof.Machine
end

