-- ==== Sys2Proof/Machine/ProgramRequests.lean ====
section
/-! DEFINITION. The requests that the Test Sequencer decides (chapters 1 and 2). Each definition answers one request:
its checks in the order of its rule, then its effects. -/

namespace Sys2Proof.Machine

/-! ### Set Specimen (R1 to R3) -/

/-- Set Specimen (R3). -/
def decideSetSpecimen (p : List Byte) (s : State) : Answer :=
  if p.length ≠ specimenLength then refuse .badLength s
  else if s.inTest then refuse .locked s
  else match specimenOf p with
    | none => refuse .outOfRange s
    | some x =>
      if x.inRange then answerOk (s.onTsq fun t => { t with specimen := some x }) else refuse .outOfRange s

/-! ### Begin Program (R7) -/

/-- The load record is opened anew and both sets are emptied, from any loading state (R7). -/
def openLoad (h : PlanHeader) (total : Nat) (s : State) : State :=
  s.onTsq fun t =>
    { t with state := .loading, load := some ⟨total, h, []⟩, program := none, visited := 0, holdPoints := 0 }

/-- Begin Program (R7); the reply carries the remaining count. -/
def decideBeginProgram (p : List Byte) (s : State) : Answer :=
  if p.length ≠ beginLength then refuse .badLength s
  else if s.inTest then refuse .locked s
  else match headerOf p with
    | none => refuse .outOfRange s
    | some h =>
      let total := natAt p headerLength
      if 1 ≤ total ∧ total ≤ 16 then ⟨.ok, u32 total, openLoad h total s⟩ else refuse .outOfRange s

/-! ### Program Segments (R8, R9) -/

/-- Every reply to Program Segments carries the next expected index and the remaining count as they stand after it
(R8). -/
def segmentsAnswer (x : Status) (more : List Byte) (s : State) : Answer :=
  ⟨x, u8 s.tsq.nextExpected ++ u32 s.tsq.remaining ++ more, s⟩

/-- The complete program is validated (R9): READY, or EMPTY with the load consumed. -/
def validateLoad (l : LoadRecord) (s : State) : Answer :=
  match failingIndex l.header l.segments with
  | none =>
    segmentsAnswer .ok [] (s.onTsq fun t =>
      { t with state := .ready, load := none, program := some ⟨l.header, l.segments⟩, lastLoad := .valid })
  | some i =>
    segmentsAnswer .invalidProgram (u8 i) (s.onTsq fun t =>
      { t with state := .empty, load := none, program := none, lastLoad := .invalid i })

/-- Segments are stored in the load record, and the program is validated when none remain (R8, R9). -/
def storeSegments (l : LoadRecord) (gs : List Segment) (s : State) : Answer :=
  let l' := { l with segments := l.segments ++ gs }
  let s' := s.onTsq fun t => { t with load := some l' }
  if l'.total ≤ l'.segments.length then validateLoad l' s' else segmentsAnswer .ok [] s'

/-- Program Segments in LOADING (R8): start index, segment count, records. -/
def loadSegments (p : List Byte) (l : LoadRecord) (s : State) : Answer :=
  let n := (byteAt p 1).toNat
  if (byteAt p 0).toNat ≠ l.segments.length then segmentsAnswer .outOfSequence [] s
  else if n = 0 ∨ 4 < n ∨ l.total - l.segments.length < n then segmentsAnswer .outOfRange [] s
  else match segmentsOf n p with
    | none => segmentsAnswer .outOfRange [] s
    | some gs => storeSegments l gs s

/-- Program Segments (R8). -/
def decideProgramSegments (p : List Byte) (s : State) : Answer :=
  if p.length < 2 ∨ p.length ≠ 2 + 25 * (byteAt p 1).toNat then segmentsAnswer .badLength [] s
  else if s.inTest then segmentsAnswer .locked [] s
  else match s.tsq.state, s.tsq.load with
    | .loading, some l => loadSegments p l s
    | _, _ => segmentsAnswer .wrongState [] s

/-! ### Program state and sets (R12, R14, R15) -/

/-- Read Program State (R12; an empty payload, log 21). -/
def decideReadProgramState (p : List Byte) (s : State) : Answer := readOnly p programFields s

/-- Clear Visited (R14). -/
def decideClearVisited (p : List Byte) (s : State) : Answer :=
  withEmpty p s
    (if s.inTest then refuse .locked s else answerOk (s.onTsq fun t => { t with visited := 0 }))

/-- The set of the indices in a list. -/
def setOfIndices : List Byte → BitVec 16
  | [] => 0
  | i :: rest => joinSet (setOfIndices rest) i.toNat

/-- Set Hold Points (R15): a count and that many indices. -/
def decideSetHoldPoints (p : List Byte) (s : State) : Answer :=
  match p with
  | [] => refuse .badLength s
  | n :: is =>
    if is.length ≠ n.toNat then refuse .badLength s
    else if 16 < is.length ∨ is.any (fun i => 15 < i.toNat) then refuse .outOfRange s
    else answerOk (s.onTsq fun t => { t with holdPoints := setOfIndices is })

/-! ### Start Test (R20, R21) -/

/-- A refused Start Test: the status, the check that failed, and its detail (R20). -/
def startRefusal (x : Status) (check : Nat) (detail : List Byte) (s : State) : Answer := ⟨x, u8 check ++ detail, s⟩

/-- The status of check 1 (R20). -/
def startStateStatus (s : State) : Status := if s.inTest then .locked else .wrongState

/-- The ranges in use: the active range and every range of larger full scale (R20). -/
def rangesInUse (active : Range) : List Range := [Range.a, .b, .c, .d].filter fun r => r.ctorIdx ≤ active.ctorIdx

/-- The first nominal range in use, from A towards D (R20). -/
def firstNominal (f : Fcu) : Option Range := (rangesInUse f.range).find? fun r => (f.tables.get r).isNone

/-- The number of heads in state CLAMPED (R20). -/
def clampedHeads (s : State) : Nat := s.exm.heads.count fun e => e.state = .clamped

/-- A CLAMPED head whose identified gauge length does not suit Le (R20, check 9). A CLAMPED head has an identity;
one without, which no run reaches, passes (log 34). -/
def gaugeMismatch (le : Nat) (e : HeadEntry) : Bool :=
  (e.state = .clamped) &&
    (match e.identity with
     | some i => decide (le < ((i.gaugeLength : Int) - le).natAbs * 200)
     | none => false)

/-- The first head that fails check 9, FRONT before REAR. -/
def firstMismatch (s : State) : Option Head :=
  [Head.front, .rear].find? fun h => gaugeMismatch s.gaugeLength (s.exm.heads.get h)

/-- The acceptance of a Start Test in every block (R21). -/
def acceptTest (s : State) : State :=
  let s := s.onTsq fun t =>
    { t with state := .starting, startStep := none, endReason := none, startCause := none, currentSegment := none
             segmentTime := 0, startTareCount := 0, resumeEntry := none }
  let s := s.onFcu fun f => { f with nextIndex := 0, downCount := 0 }
  let s := s.onDrl fun d => { d with captureZero := true }
  storeTestAccepted (extTestAccepted (evalTestAccepted s))

/-- Checks 6 to 9 of R20. -/
def startChecksLate (s : State) : Answer :=
  match (if s.header.allowNominal then none else firstNominal s.fcu) with
  | some r => startRefusal .calNominal 6 (enumByte r.ctorIdx) s
  | none =>
    if s.sms.free < 16 then startRefusal .storeFull 7 (u32 s.sms.free) s
    else if clampedHeads s < s.header.headsRequired then startRefusal .headsNotReady 8 (u32 (clampedHeads s)) s
    else match firstMismatch s with
      | some h => startRefusal .gaugeMismatch 9 (enumByte h.ctorIdx) s
      | none => answerAccepted (acceptTest s)

/-- Start Test (R20): its checks in order, then its acceptance. -/
def decideStartTest (p : List Byte) (s : State) : Answer :=
  if p ≠ [] then startRefusal .badLength 0 [] s
  else if s.tsq.state ≠ .ready ∧ s.tsq.state ≠ .ended then
    startRefusal (startStateStatus s) 1 (enumByte s.tsq.state.ctorIdx) s
  else if s.fcu.tareWait.isSome then startRefusal .busy 2 [] s
  else if s.tsq.specimen.isNone then startRefusal .notConfigured 3 [] s
  else if s.lmu.trip ≠ .clear then startRefusal .stillActive 4 [] s
  else if s.drl.state ≠ .idle then startRefusal .wrongState 5 (enumByte s.drl.state.ctorIdx) s
  else startChecksLate s

/-! ### Pause, Resume, Abort (R32, R34, R36) -/

/-- Pause (R32). -/
def decidePause (p : List Byte) (s : State) : Answer :=
  withEmpty p s
    (match s.tsq.state with
     | .running => answerOk (enterHeld .paused none s)
     | .held => answerOk s
     | .empty | .loading | .ready | .starting | .ending | .ended => refuse .wrongState s)

/-- A Resume into the same segment (R34, R55): RUNNING at once, with the bumpless transfer on the latest point. -/
def resumeSegment (s : State) : State :=
  (s.onTsq fun t => { t with state := .running, heldReason := none, heldAt := none }).onDrl (Drl.retransfer s.latest)

/-- A Resume that enters segment `i` on the next point (R34): the test stays HELD until that point (log 15). -/
def resumeInto (i : Nat) (s : State) : State := s.onTsq fun t => { t with resumeEntry := some i }

/-- A Resume of an ON_END hold (R34): the end of the test, a hold point, or the next segment. The hold-point set is
consulted here, at the Resume (R27); a Set Hold Points taken after it and before the entry point is not seen by this
entry (R16; DEDUCED, log 49). -/
def resumeOnEnd (s : State) : State :=
  let i := s.tsq.currentSegment.getD 0
  if isLast i s then enterEnding .complete s
  else if inSet s.tsq.holdPoints (i + 1) then enterHeld .holdPoint (some (i + 1)) s
  else resumeInto (i + 1) s

/-- A Resume taken in HELD (R34); one whose entry is already awaited changes nothing. -/
def resumeHeld (why : HeldReason) (s : State) : State :=
  match s.tsq.resumeEntry with
  | some _ => s
  | none =>
    match why with
    | .holdPoint => resumeInto (s.tsq.heldAt.getD 0) s
    | .onEnd => resumeOnEnd s
    | .paused => resumeSegment s
    | .slip => resumeSegment s
    | .limit => resumeSegment s
    | .liftUnconfirmed => resumeSegment s

/-- Resume (R34). -/
def decideResume (p : List Byte) (s : State) : Answer :=
  withEmpty p s
    (match s.tsq.state, s.tsq.heldReason with
     | .held, some why =>
       if why = .limit ∧ s.drl.state = .stopping then refuse .wrongState s else answerOk (resumeHeld why s)
     | _, _ => refuse .wrongState s)

/-- Abort (R36, R26). -/
def decideAbort (p : List Byte) (s : State) : Answer :=
  withEmpty p s
    (match s.tsq.state with
     | .starting => answerOk (enterEnded .aborted none s)
     | .running => answerOk (enterEnding .aborted s)
     | .held => answerOk (enterEnding .aborted s)
     | .empty | .loading | .ready | .ending | .ended => refuse .wrongState s)

end Sys2Proof.Machine
end

