-- ==== Sys2Proof/Machine/StoreRequests.lean ====
section
/-! DEFINITION. The requests that the Sample Store and the Evaluation Unit decide (chapters 7 and 8). -/

namespace Sys2Proof.Machine

/-- The bytes of records, in order. -/
def recordBytes (rs : List SampleRecord) : List Byte := (rs.map SampleRecord.bytes).flatten

/-- The reply of Read Samples (section 10.7): newest sequence, release mark, record count, records. -/
def sampleFields (m : Sms) (rs : List SampleRecord) : List Byte :=
  u32 m.newest ++ u32 m.releaseMark ++ u8 rs.length ++ recordBytes rs

/-- Read Samples (R162): start sequence and record count. -/
def decideReadSamples (p : List Byte) (s : State) : Answer :=
  if p.length ≠ 8 then refuse .badLength s
  else if natAt p 4 = 0 ∨ 20 < natAt p 4 then refuse .outOfRange s
  else if inRing (natAt p 0) s.sms.ring then
    ⟨.ok, sampleFields s.sms ((fromSeq (natAt p 0) s.sms.ring).take (natAt p 4)), s⟩
  else refuse .outOfRange s

/-- The reply of Release (R163): release mark, newest sequence, free slots. -/
def releaseFields (m : Sms) : List Byte := u32 m.releaseMark ++ u32 m.newest ++ u32 m.free

/-- An accepted Release (R163). -/
def acceptRelease (r count delay : Nat) (s : State) : Answer :=
  let s' := releaseRecords r count delay s
  ⟨.ok, releaseFields s'.sms, s'⟩

/-- Release (R163): up-to sequence, pace count, pace delay. -/
def decideRelease (p : List Byte) (s : State) : Answer :=
  if p.length ≠ 12 then refuse .badLength s
  else if 255 < natAt p 4 ∨ 1000 < natAt p 8 then refuse .outOfRange s
  else if natAt p 0 = s.sms.releaseMark ∨ inRing (natAt p 0) s.sms.ring = true then
    acceptRelease (natAt p 0) (natAt p 4) (natAt p 8) s
  else refuse .outOfRange s

/-- Read Results (R153). -/
def decideReadResults (p : List Byte) (s : State) : Answer :=
  withEmpty p s
    (match s.evu.result with
     | some r => ⟨.ok, resultFields s.evu r, s⟩
     | none => refuse .wrongState s)

end Sys2Proof.Machine
end

