-- ==== Sys2Proof/Machine/Link.lean ====
section
/-! DEFINITION. The control link (chapter 10): handing a request on and queueing its reply (R184), the receiver (R181
to R183), the replies (R184, R194). -/

namespace Sys2Proof.Machine

/-! ### Requests handed on (R184) -/

/-- The decision on a request, by its owning block. -/
abbrev Decision := List Byte → State → Answer

/-- The requests by their kind codes (section 10.4). -/
def requestTable : List (Byte × Decision) :=
  [(0x01, decideIdentify), (0x02, decideStatus), (0x03, decideReadCounters), (0x10, decideConfigureFrame),
   (0x11, decideConfigureClassifier), (0x12, decideConfigureHeads), (0x13, decideLoadCalibration),
   (0x20, decideSetSpecimen), (0x21, decideBeginProgram), (0x22, decideProgramSegments)] ++
  [(0x23, decideReadProgramState), (0x24, decideClearVisited), (0x25, decideSetHoldPoints),
   (0x30, decideStartTest), (0x31, decidePause), (0x32, decideResume), (0x33, decideAbort),
   (0x40, decideEnableDrive), (0x41, decideDisableDrive), (0x42, decideMove), (0x43, decideReturn),
   (0x44, decideStopMove)] ++
  [(0x50, decideTare), (0x58, decideHeadCommand), (0x59, decideHeadStatus), (0x5A, decideRemoveExtensometer),
   (0x60, decideReadSamples), (0x61, decideRelease), (0x68, decideReadResults), (0x70, decideQueryAttention),
   (0x71, decideAcknowledge), (0x72, decideSetMask), (0x73, decideClearTrip), (0x7F, decideRestart)]

/-- The decision on a request of a kind; a kind that names no request is UNKNOWN_KIND (R184). -/
def decisionOf (kind : Byte) : Decision :=
  match requestTable.find? fun x => x.1 = kind with
  | some x => x.2
  | none => decideUnknown

/-- The kind of the reply: the request's with 80h added, and a kind from 80h to FFh unchanged (R184). -/
def replyKind (kind : Byte) : Byte := kind ||| 0x80

/-- A decided request leaves its reply at the newest end of the reply queue (R184). -/
def queueReply (kind tag : Byte) (a : Answer) : State :=
  a.state.onCli fun c => { c with replies := c.replies ++ [⟨replyKind kind, tag, a.payload⟩] }

/-- The frame is counted, decided and answered (R182, R184). -/
def answerRequest (kind tag : Byte) (decide : State → Answer) (s : State) : State :=
  queueReply kind tag (decide (countLink (fun c => { c with framesTaken := satSucc max32 c.framesTaken }) s))

/-- A complete frame that passed its check (R182, R184, R194): discarded while a restart is pending, an overrun while
the reply queue holds 4 replies (a frame turned away is not counted as taken, log 2), else answered. -/
def takeRequest (kind tag : Byte) (decide : State → Answer) (s : State) : State :=
  if s.cli.restartPending then s
  else if Config.replyCapacity ≤ s.cli.replies.length then
    countLink (fun c => { c with overruns := satSucc max32 c.overruns }) s
  else answerRequest kind tag decide s

/-- A request is handed on by its kind (R184). -/
def handOn (kind tag : Byte) (p : List Byte) (s : State) : State := takeRequest kind tag (decisionOf kind p) s

/-! ### The receiver (R181 to R183) -/

/-- The sync byte. -/
def syncByte : Byte := 0xC3

/-- The receiver keeps its bytes and moves to a state. -/
def receive (r : Receiver) (bs : List Byte) (s : State) : State :=
  s.onCli fun c => { c with receiver := r, partialFrame := some bs }

/-- The partial frame is dropped and the receiver returns to HUNT. -/
def dropFrame (s : State) : State := s.onCli fun c => { c with receiver := .hunt, partialFrame := none }

/-- The payload length that the bytes of a frame give (R181). -/
def frameLengthField (bs : List Byte) : Nat := ofBytes (bs.take 2)

/-- The check of a complete frame's bytes after the sync byte (R182). -/
def frameChecks (bs : List Byte) : Bool :=
  let n := frameLengthField bs + 4
  bs.drop n = u16 (crc 0xFFFF (bs.take n)).toNat

/-- A complete frame (R182, R194): discarded while a restart is pending, a bad check, or handed on. -/
def completeFrame (bs : List Byte) (s : State) : State :=
  if s.cli.restartPending then s
  else if frameChecks bs then
    handOn (byteAt bs 3) (byteAt bs 2) ((bs.drop 4).take (frameLengthField bs)) s
  else countLink (fun c => { c with badChecks := satSucc max32 c.badChecks }) s

/-- A byte with a good stop bit, in the receiver's state (R181). -/
def receiveGood (b : Byte) (s : State) : State :=
  let bs := s.cli.partialFrame.getD [] ++ [b]
  match s.cli.receiver with
  | .hunt => if b = syncByte then receive .length [] s else s
  | .length =>
    if bs.length < 2 then receive .length bs s
    else if frameLengthField bs ≤ Config.maxPayload then receive .body bs s
    else countLink (fun c => { c with oversizeFrames := satSucc max32 c.oversizeFrames }) (dropFrame s)
  | .body => if bs.length < frameLengthField bs + 4 then receive .body bs s else receive .check bs s
  | .check => if bs.length < frameLengthField bs + 6 then receive .check bs s else completeFrame bs (dropFrame s)

/-- A byte of the control link (R181): a low stop bit is a framing error outside HUNT. -/
def receiveByte (b : Byte) (stopBit : Bool) (s : State) : State :=
  if stopBit then receiveGood b s
  else if s.cli.receiver = .hunt then s
  else countLink (fun c => { c with framingErrors := satSucc max32 c.framingErrors }) (dropFrame s)

/-- A gap of more than 5 ms (R183). -/
def interbyteGap (s : State) : State :=
  if s.cli.receiver = .hunt then s
  else countLink (fun c => { c with timeouts := satSucc max32 c.timeouts }) (dropFrame s)

/-! ### Replies (R184, R194) -/

/-- The bytes of a reply on the link (R181, R182). -/
def Reply.frame (r : Reply) : List Byte :=
  let body := u16 r.payload.length ++ [r.tag, r.kind] ++ r.payload
  [syncByte] ++ body ++ u16 (crc 0xFFFF body).toNat

/-- The reply to a Restart that was taken. -/
def Reply.isRestart (r : Reply) : Bool := r.kind = 0xFF && r.payload = [Status.ok.byte]

/-- The oldest reply leaves the queue (R184). -/
def popReply (s : State) : State :=
  countLink (fun c => { c with repliesSent := satSucc max32 c.repliesSent })
    (s.onCli fun c => { c with replies := c.replies.drop 1 })

/-- The last byte of the oldest reply has been sent (R184); after the Restart's own reply the reset takes effect with
the raw safety levels sampled then (R194). With no reply queued nothing has been sent. -/
def replyOut (raw : SafetyLevels) (s : State) : State :=
  match s.cli.replies with
  | [] => s
  | r :: _ => if s.cli.restartPending && r.isRestart then resetPart raw (popReply s) else popReply s

end Sys2Proof.Machine
end

