-- ==== Sys2Proof/Machine/Events.lean ====
section
/-! DEFINITION. The events that come from a timer, a count or a line (log 3): what the event does in its block, taken
when the block is in the state in which it can occur. CONVERSION_COMPLETE and the transactions bring the same effects
by their own counts. -/

namespace Sys2Proof.Machine

/-! ### Reset (R195) -/

/-- The part is held in reset: VCMD at 0 V, DRIVE_ENABLE low and ATTN released (R195, section 10.8). -/
def holdInReset (s : State) : State :=
  ({ s with inReset := true } : State).onDrl fun d => { d with velocity := 0, dacCode := 0 }

/-- No reply stands ahead of a pending Restart's own, so that its reset can take effect (R194). -/
def Cli.restartDue (c : Cli) : Bool :=
  c.restartPending &&
    (match c.replies with
     | [] => true
     | r :: _ => r.isRestart)

/-- The reset of a Restart takes effect once the replies queued before its own have been sent (R194, log 5). -/
def restartEffect (raw : SafetyLevels) (s : State) : State := if s.cli.restartDue then resetPart raw s else s

/-! ### Force Unit (R72, R78, R84, R85) -/

/-- The level timer expires while it runs (R84): reloaded, settled; an open tare wait takes the tare (R78). That the row
alone takes an open tare wait at once, and leaves the start-time tare (R22) and the end condition LOAD_SETTLED (R5) to
the next measured point, is a DESIGN CHOICE (log 53). -/
def levelExpiry (s : State) : State :=
  if s.fcu.classifier.steady then
    let s := s.onFcu fun f => { f with levelTimer := f.levelTimer.reload, settled := true }
    if s.fcu.tareWait.isSome then closeTareWait s else s
  else s

/-- A slip is counted for an unrest event of a point taken in RUNNING, HELD or ENDING while the phase is ELASTIC
(R149), and the slip action follows (R35). -/
def countSlip (s : State) : State :=
  if s.tsq.state.evaluated && s.evu.phase = .elastic then
    slipAction (addNotice .slip (s.onEvu fun e =>
      e.onResult fun r => { r with slipCount := satSucc max16 r.slipCount }))
  else s

/-- The unrest timer expires while it runs (R85): reloaded, an unrest event, and its slip. -/
def unrestExpiry (s : State) : State :=
  if s.fcu.classifier.restless then
    countSlip (s.onFcu fun f =>
      { f with unrestTimer := f.unrestTimer.reload, unrestEvents := satSucc max16 f.unrestEvents })
  else s

/-- The down-range count reaches 200 outside a test (R72). -/
def downRangeReached (s : State) : State :=
  if s.mayRangeDown && s.fcu.range ≠ .d then rangeChange s.fcu.range.down s else s

/-- The tare wait reaches 20,000 points (R78): a settled flag set together with it takes the tare. -/
def tareWaitReached (s : State) : State :=
  match s.fcu.tareWait with
  | none => s
  | some _ => if s.fcu.settled then closeTareWait s else tareWaitOut s

/-- The start-time tare wait runs out (R22): a settled flag set together with it takes the tare. -/
def startTareReached (s : State) : State :=
  if s.tsq.state = .starting ∧ s.tsq.startStep = some .tare then
    if s.fcu.settled then beginZero (takeTare s)
    else failStart .tareNotSettled (s.onFcu fun f => { f with tareOutcome := .notSettled })
  else s

/-! ### Drive Loop and Sample Store (R45, R164) -/

/-- The enable wait reaches 1,000 points (R45): DRIVE_READY sampled on the same point is taken first. -/
def enableWaitReached (ready : Bool) (s : State) : State :=
  if s.drl.state = .enabling then
    let s := s.onDrl fun d => { d with readyLevel := ready, enableWait := 1000 }
    if ready then s.onDrl (Drl.rest .idle) else enableWaitOut s
  else s

/-- The pace delay has passed in COUNTING (R164). -/
def paceDelayReached (s : State) : State := if s.sms.pacing = .counting then pacingRaise s else s

/-! ### Limit Monitor (R168, R169) -/

/-- The debounced level of an input changes to ASSERTED. -/
def inputGoesAsserted (i : SafetyInput) (s : State) : State :=
  if (PerInputGet s.lmu.inputs i).level = .inactive then inputAsserted i s else s

/-- The debounced level of an input changes to INACTIVE. -/
def inputGoesInactive (i : SafetyInput) (s : State) : State :=
  if (PerInputGet s.lmu.inputs i).level = .asserted then inputReleased i s else s

/-! ### Gauge link (R91, R93, R98, R99, R102, R112, R115) -/

/-- The heads configured, FRONT before REAR. -/
def configuredHeads (s : State) : List Head := [Head.front, .rear].filter fun h => (s.exm.heads.get h).configured

/-- A poll round: 20 ms, in points (R98). -/
def roundPoints : Nat := 40

/-- A poll round falls due (R98); a list that still holds a POLL is left as it is (log 40). -/
def pollRound (s : State) : State :=
  s.onGlc fun g =>
    { g with pollClock := roundPoints
             roundList := if g.roundList.isEmpty then configuredHeads s else g.roundList }

/-- The arbiter makes its choice while the link is free (R99). -/
def arbiter (s : State) : State :=
  match s.glc.current, nextTransaction s with
  | none, some (h, o, src) => startTransaction h o src s
  | _, _ => s

/-- The failure kind of a budget that runs out (R91). -/
def timeoutKind (began : Bool) : FailureKind := if began then .truncated else .noReply

/-- The budget of the current transaction runs out (R91). -/
def replyTimeout (began : Bool) (s : State) : State :=
  match s.glc.current with
  | some t => completeTransaction t (.failure (timeoutKind began)) s
  | none => s

/-- A reply completes (R92, R93): the bytes up to the length of the operation's reply are accepted or refused; a reply
that is not complete ends nothing, and bytes past its length are ignored (R90, log 30). -/
def replyEnd (reply : List Byte) (s : State) : State :=
  match s.glc.current with
  | some t =>
    if t.op.messageLength ≤ reply.length then
      completeTransaction t (acceptReply t.head t.op (reply.take t.op.messageLength)) s
    else s
  | none => s

/-- The command being confirmed for a head, if any. -/
def Glc.confirmingFor (h : Head) (g : Glc) : Option SlotCommand :=
  match g.slot with
  | some c => if c.phase = .confirming ∧ c.head = h then some c else none
  | none => none

/-- A head's failure condition (R105, R115, R103): its count returns to 0, the manager takes the condition, and a
command being confirmed for the head is freed UNCONFIRMED. -/
def headFails (h : Head) (s : State) : State :=
  let s := failureCondition h (s.onGlc fun g =>
    { g with heads := g.heads.modify h fun x => { x with consecutive := 0 } })
  match s.glc.confirmingFor h with
  | some c => freeCommand c .unconfirmed s
  | none => s

/-- A third failed POLL in a row (R112). -/
def failedPolls (h : Head) (s : State) : State :=
  let e := s.exm.heads.get h
  if e.configured && e.state.countsPolls then pollsLost h s else s

/-- The slot command while it is CONFIRMING. -/
def Glc.confirmingNow (g : Glc) : Option SlotCommand :=
  match g.slot with
  | some c => if c.phase = .confirming then some c else none
  | none => none

/-- A confirmation poll falls due in CONFIRMING (R102). -/
def confirmationDue (s : State) : State :=
  match s.glc.confirmingNow with
  | some c => s.onGlc fun g => { g with slot := some { c with pollDue := true } }
  | none => s

/-- The confirmation time runs out (R102). -/
def confirmationOut (s : State) : State :=
  match s.glc.confirmingNow with
  | some c => freeCommand c .unconfirmed s
  | none => s

/-! ### Encoder (R49) -/

/-- A quadrature edge moves the encoder count by one, up or down, across the wrap of 48 bits (log 29). -/
def encoderStep (up : Bool) (s : State) : State :=
  s.onDrl fun d => { d with encoder := if up then d.encoder + 1 else d.encoder - 1 }

end Sys2Proof.Machine
end

