-- ==== Sys2Proof/Machine/Meanings.lean ====
section
/-! DEFINITION. The meaning of every command: one definition per row of spec/opcode_table.json, each over the
operations of its block. A request row is a whole frame that passed its check (log 1). -/

namespace Sys2Proof.Machine

/-- What a command answers. -/
abbrev Answered := Host.Outcome State Fault Refusal

/-- POWER_ON_RESET (R195, R178): the reset completes in every block, whatever came before. -/
def execPowerOnReset (raw : SafetyLevels) (s : State) : Answered := .next (resetPart raw s)

/-- RESTART_TAKES_EFFECT (R194): taken while a restart is pending. -/
def execRestartTakesEffect (raw : SafetyLevels) (s : State) : Answered := live (restartEffect raw) s

/-- CONTROL_LINK_BYTE (R181, R182). -/
def execControlLinkByte (b : Byte) (stopBit : Bool) (s : State) : Answered := live (receiveByte b stopBit) s

/-- INTERBYTE_TIMEOUT (R183). -/
def execInterbyteTimeout (s : State) : Answered := live interbyteGap s

/-- REPLY_SENT (R184, R194): the raw levels are read only with the Restart's own reply (log 5). -/
def execReplySent (raw : SafetyLevels) (s : State) : Answered := live (replyOut raw) s

/-- UNKNOWN_KIND (R184): a kind that names a request is handed on as that request (log 32). -/
def execUnknownKind (kind tag : Byte) (p : List Byte) (s : State) : Answered := live (handOn kind tag p) s

/-- IDENTIFY (R191): kind 01h. -/
def execIdentify (tag : Byte) (p : List Byte) (s : State) : Answered :=
  live (takeRequest 0x01 tag (decideIdentify p)) s

/-- STATUS (R192): kind 02h. -/
def execStatus (tag : Byte) (p : List Byte) (s : State) : Answered := live (takeRequest 0x02 tag (decideStatus p)) s

/-- READ_COUNTERS (R193): kind 03h. -/
def execReadCounters (tag : Byte) (p : List Byte) (s : State) : Answered :=
  live (takeRequest 0x03 tag (decideReadCounters p)) s

/-- CONFIGURE_FRAME (R48): kind 10h. -/
def execConfigureFrame (tag : Byte) (p : List Byte) (s : State) : Answered :=
  live (takeRequest 0x10 tag (decideConfigureFrame p)) s

/-- CONFIGURE_CLASSIFIER (R86): kind 11h. -/
def execConfigureClassifier (tag : Byte) (p : List Byte) (s : State) : Answered :=
  live (takeRequest 0x11 tag (decideConfigureClassifier p)) s

/-- CONFIGURE_HEADS (R109): kind 12h. -/
def execConfigureHeads (tag : Byte) (p : List Byte) (s : State) : Answered :=
  live (takeRequest 0x12 tag (decideConfigureHeads p)) s

/-- LOAD_CALIBRATION (R75): kind 13h. -/
def execLoadCalibration (tag : Byte) (p : List Byte) (s : State) : Answered :=
  live (takeRequest 0x13 tag (decideLoadCalibration p)) s

/-- SET_SPECIMEN (R3): kind 20h. -/
def execSetSpecimen (tag : Byte) (p : List Byte) (s : State) : Answered :=
  live (takeRequest 0x20 tag (decideSetSpecimen p)) s

/-- BEGIN_PROGRAM (R7): kind 21h. -/
def execBeginProgram (tag : Byte) (p : List Byte) (s : State) : Answered :=
  live (takeRequest 0x21 tag (decideBeginProgram p)) s

/-- PROGRAM_SEGMENTS (R8): kind 22h. -/
def execProgramSegments (tag : Byte) (p : List Byte) (s : State) : Answered :=
  live (takeRequest 0x22 tag (decideProgramSegments p)) s

/-- READ_PROGRAM_STATE (R12): kind 23h. -/
def execReadProgramState (tag : Byte) (p : List Byte) (s : State) : Answered :=
  live (takeRequest 0x23 tag (decideReadProgramState p)) s

/-- CLEAR_VISITED (R14): kind 24h. -/
def execClearVisited (tag : Byte) (p : List Byte) (s : State) : Answered :=
  live (takeRequest 0x24 tag (decideClearVisited p)) s

/-- SET_HOLD_POINTS (R15): kind 25h. -/
def execSetHoldPoints (tag : Byte) (p : List Byte) (s : State) : Answered :=
  live (takeRequest 0x25 tag (decideSetHoldPoints p)) s

/-- START_TEST (R20): kind 30h. -/
def execStartTest (tag : Byte) (p : List Byte) (s : State) : Answered :=
  live (takeRequest 0x30 tag (decideStartTest p)) s

/-- PAUSE (R32): kind 31h. -/
def execPause (tag : Byte) (p : List Byte) (s : State) : Answered := live (takeRequest 0x31 tag (decidePause p)) s

/-- RESUME (R34): kind 32h. -/
def execResume (tag : Byte) (p : List Byte) (s : State) : Answered := live (takeRequest 0x32 tag (decideResume p)) s

/-- ABORT (R36): kind 33h. -/
def execAbort (tag : Byte) (p : List Byte) (s : State) : Answered := live (takeRequest 0x33 tag (decideAbort p)) s

/-- ENABLE_DRIVE (R44): kind 40h. -/
def execEnableDrive (tag : Byte) (p : List Byte) (s : State) : Answered :=
  live (takeRequest 0x40 tag (decideEnableDrive p)) s

/-- DISABLE_DRIVE (R46): kind 41h. -/
def execDisableDrive (tag : Byte) (p : List Byte) (s : State) : Answered :=
  live (takeRequest 0x41 tag (decideDisableDrive p)) s

/-- MOVE (R60): kind 42h. -/
def execMove (tag : Byte) (p : List Byte) (s : State) : Answered := live (takeRequest 0x42 tag (decideMove p)) s

/-- RETURN (R61): kind 43h. -/
def execReturnMove (tag : Byte) (p : List Byte) (s : State) : Answered :=
  live (takeRequest 0x43 tag (decideReturn p)) s

/-- STOP_MOVE (R63): kind 44h. -/
def execStopMove (tag : Byte) (p : List Byte) (s : State) : Answered :=
  live (takeRequest 0x44 tag (decideStopMove p)) s

/-- TARE (R77): kind 50h. -/
def execTare (tag : Byte) (p : List Byte) (s : State) : Answered := live (takeRequest 0x50 tag (decideTare p)) s

/-- HEAD_COMMAND (R116): kind 58h. -/
def execHeadCommand (tag : Byte) (p : List Byte) (s : State) : Answered :=
  live (takeRequest 0x58 tag (decideHeadCommand p)) s

/-- HEAD_STATUS (R131): kind 59h. -/
def execHeadStatus (tag : Byte) (p : List Byte) (s : State) : Answered :=
  live (takeRequest 0x59 tag (decideHeadStatus p)) s

/-- REMOVE_EXTENSOMETER (R128): kind 5Ah. -/
def execRemoveExtensometer (tag : Byte) (p : List Byte) (s : State) : Answered :=
  live (takeRequest 0x5A tag (decideRemoveExtensometer p)) s

/-- READ_SAMPLES (R162): kind 60h. -/
def execReadSamples (tag : Byte) (p : List Byte) (s : State) : Answered :=
  live (takeRequest 0x60 tag (decideReadSamples p)) s

/-- RELEASE (R163): kind 61h. -/
def execRelease (tag : Byte) (p : List Byte) (s : State) : Answered := live (takeRequest 0x61 tag (decideRelease p)) s

/-- READ_RESULTS (R153): kind 68h. -/
def execReadResults (tag : Byte) (p : List Byte) (s : State) : Answered :=
  live (takeRequest 0x68 tag (decideReadResults p)) s

/-- QUERY_ATTENTION (R188): kind 70h. -/
def execQueryAttention (tag : Byte) (p : List Byte) (s : State) : Answered :=
  live (takeRequest 0x70 tag (decideQueryAttention p)) s

/-- ACKNOWLEDGE (R189): kind 71h. -/
def execAcknowledge (tag : Byte) (p : List Byte) (s : State) : Answered :=
  live (takeRequest 0x71 tag (decideAcknowledge p)) s

/-- SET_MASK (R187): kind 72h. -/
def execSetMask (tag : Byte) (p : List Byte) (s : State) : Answered := live (takeRequest 0x72 tag (decideSetMask p)) s

/-- CLEAR_TRIP (R176): kind 73h. -/
def execClearTrip (tag : Byte) (p : List Byte) (s : State) : Answered :=
  live (takeRequest 0x73 tag (decideClearTrip p)) s

/-- RESTART (R194): kind 7Fh. -/
def execRestart (tag : Byte) (p : List Byte) (s : State) : Answered := live (takeRequest 0x7F tag (decideRestart p)) s

/-- CONVERSION_COMPLETE (R68, R79, R80). -/
def execConversionComplete (c : Conversion) (s : State) : Answered := live (conversion c) s

/-- LEVEL_TIMER_EXPIRY (R84). -/
def execLevelTimerExpiry (s : State) : Answered := live levelExpiry s

/-- UNREST_TIMER_EXPIRY (R85, R149, R35). -/
def execUnrestTimerExpiry (s : State) : Answered := live unrestExpiry s

/-- DOWN_RANGE_COUNT_REACHED (R72, R70). -/
def execDownRangeCountReached (s : State) : Answered := live downRangeReached s

/-- ENABLE_WAIT_EXPIRY (R45). -/
def execEnableWaitExpiry (driveReady : Bool) (s : State) : Answered := live (enableWaitReached driveReady) s

/-- TARE_WAIT_TIMEOUT (R78). -/
def execTareWaitTimeout (s : State) : Answered := live tareWaitReached s

/-- START_TARE_TIMEOUT (R22, R25). -/
def execStartTareTimeout (s : State) : Answered := live startTareReached s

/-- READBACK_MISMATCH_LIMIT (R59, R172). -/
def execReadbackMismatchLimit (s : State) : Answered := live reportReadback s

/-- PACE_DELAY_EXPIRY (R164). -/
def execPaceDelayExpiry (s : State) : Answered := live paceDelayReached s

/-- SAFETY_INPUT_ASSERTED (R169, R173). -/
def execSafetyInputAsserted (i : SafetyInput) (s : State) : Answered := live (inputGoesAsserted i) s

/-- SAFETY_INPUT_RELEASED (R168). -/
def execSafetyInputReleased (i : SafetyInput) (s : State) : Answered := live (inputGoesInactive i) s

/-- POLL_ROUND_DUE (R98). -/
def execPollRoundDue (s : State) : Answered := live pollRound s

/-- GAUGE_TRANSACTION_START (R99, R100). -/
def execGaugeTransactionStart (s : State) : Answered := live arbiter s

/-- GAUGE_REPLY_TIMEOUT (R91, R93). -/
def execGaugeReplyTimeout (began : Bool) (s : State) : Answered := live (replyTimeout began) s

/-- GAUGE_TRANSACTION_END (R92, R93). -/
def execGaugeTransactionEnd (reply : List Byte) (s : State) : Answered := live (replyEnd reply) s

/-- HEAD_FAILURE_CONDITION (R115, R103). -/
def execHeadFailureCondition (h : Head) (s : State) : Answered := live (headFails h) s

/-- FAILED_POLL_LIMIT (R112). -/
def execFailedPollLimit (h : Head) (s : State) : Answered := live (failedPolls h) s

/-- CONFIRMATION_POLL_DUE (R102). -/
def execConfirmationPollDue (s : State) : Answered := live confirmationDue s

/-- CONFIRMATION_TIMEOUT (R102, R103). -/
def execConfirmationTimeout (s : State) : Answered := live confirmationOut s

/-- ENCODER_EDGE (R49). -/
def execEncoderEdge (up : Bool) (s : State) : Answered := live (encoderStep up) s

/-- RESET_HELD (R195, section 10.8). -/
def execResetHeld (s : State) : Answered := .next (holdInReset s)

/-- SAFETY_INPUT_SAMPLE (R168; log 4). -/
def execSafetyInputSample (raw : SafetyLevels) (s : State) : Answered := live (sampleInputs raw) s

end Sys2Proof.Machine
end

