-- ==== Sys2Proof/Machine/Dispatch.lean ====
section
/-! DEFINITION. One arm per command of the opcode table: each calls the command's own meaning. -/

namespace Sys2Proof.Machine

def exec (i : Instr) (s : State) : Host.Outcome State Fault Refusal :=
  match i with
  | .powerOnReset raw => Sys2Proof.Machine.execPowerOnReset raw s
  | .restartTakesEffect raw => Sys2Proof.Machine.execRestartTakesEffect raw s
  | .controlLinkByte b stopBit => Sys2Proof.Machine.execControlLinkByte b stopBit s
  | .interbyteTimeout => Sys2Proof.Machine.execInterbyteTimeout s
  | .replySent raw => Sys2Proof.Machine.execReplySent raw s
  | .unknownKind kind tag p => Sys2Proof.Machine.execUnknownKind kind tag p s
  | .identify tag p => Sys2Proof.Machine.execIdentify tag p s
  | .status tag p => Sys2Proof.Machine.execStatus tag p s
  | .readCounters tag p => Sys2Proof.Machine.execReadCounters tag p s
  | .configureFrame tag p => Sys2Proof.Machine.execConfigureFrame tag p s
  | .configureClassifier tag p => Sys2Proof.Machine.execConfigureClassifier tag p s
  | .configureHeads tag p => Sys2Proof.Machine.execConfigureHeads tag p s
  | .loadCalibration tag p => Sys2Proof.Machine.execLoadCalibration tag p s
  | .setSpecimen tag p => Sys2Proof.Machine.execSetSpecimen tag p s
  | .beginProgram tag p => Sys2Proof.Machine.execBeginProgram tag p s
  | .programSegments tag p => Sys2Proof.Machine.execProgramSegments tag p s
  | .readProgramState tag p => Sys2Proof.Machine.execReadProgramState tag p s
  | .clearVisited tag p => Sys2Proof.Machine.execClearVisited tag p s
  | .setHoldPoints tag p => Sys2Proof.Machine.execSetHoldPoints tag p s
  | .startTest tag p => Sys2Proof.Machine.execStartTest tag p s
  | .pause tag p => Sys2Proof.Machine.execPause tag p s
  | .resume tag p => Sys2Proof.Machine.execResume tag p s
  | .abort tag p => Sys2Proof.Machine.execAbort tag p s
  | .enableDrive tag p => Sys2Proof.Machine.execEnableDrive tag p s
  | .disableDrive tag p => Sys2Proof.Machine.execDisableDrive tag p s
  | .move tag p => Sys2Proof.Machine.execMove tag p s
  | .returnMove tag p => Sys2Proof.Machine.execReturnMove tag p s
  | .stopMove tag p => Sys2Proof.Machine.execStopMove tag p s
  | .tare tag p => Sys2Proof.Machine.execTare tag p s
  | .headCommand tag p => Sys2Proof.Machine.execHeadCommand tag p s
  | .headStatus tag p => Sys2Proof.Machine.execHeadStatus tag p s
  | .removeExtensometer tag p => Sys2Proof.Machine.execRemoveExtensometer tag p s
  | .readSamples tag p => Sys2Proof.Machine.execReadSamples tag p s
  | .release tag p => Sys2Proof.Machine.execRelease tag p s
  | .readResults tag p => Sys2Proof.Machine.execReadResults tag p s
  | .queryAttention tag p => Sys2Proof.Machine.execQueryAttention tag p s
  | .acknowledge tag p => Sys2Proof.Machine.execAcknowledge tag p s
  | .setMask tag p => Sys2Proof.Machine.execSetMask tag p s
  | .clearTrip tag p => Sys2Proof.Machine.execClearTrip tag p s
  | .restart tag p => Sys2Proof.Machine.execRestart tag p s
  | .conversionComplete c => Sys2Proof.Machine.execConversionComplete c s
  | .levelTimerExpiry => Sys2Proof.Machine.execLevelTimerExpiry s
  | .unrestTimerExpiry => Sys2Proof.Machine.execUnrestTimerExpiry s
  | .downRangeCountReached => Sys2Proof.Machine.execDownRangeCountReached s
  | .enableWaitExpiry driveReady => Sys2Proof.Machine.execEnableWaitExpiry driveReady s
  | .tareWaitTimeout => Sys2Proof.Machine.execTareWaitTimeout s
  | .startTareTimeout => Sys2Proof.Machine.execStartTareTimeout s
  | .readbackMismatchLimit => Sys2Proof.Machine.execReadbackMismatchLimit s
  | .paceDelayExpiry => Sys2Proof.Machine.execPaceDelayExpiry s
  | .safetyInputAsserted x => Sys2Proof.Machine.execSafetyInputAsserted x s
  | .safetyInputReleased x => Sys2Proof.Machine.execSafetyInputReleased x s
  | .pollRoundDue => Sys2Proof.Machine.execPollRoundDue s
  | .gaugeTransactionStart => Sys2Proof.Machine.execGaugeTransactionStart s
  | .gaugeReplyTimeout began => Sys2Proof.Machine.execGaugeReplyTimeout began s
  | .gaugeTransactionEnd reply => Sys2Proof.Machine.execGaugeTransactionEnd reply s
  | .headFailureCondition h => Sys2Proof.Machine.execHeadFailureCondition h s
  | .failedPollLimit h => Sys2Proof.Machine.execFailedPollLimit h s
  | .confirmationPollDue => Sys2Proof.Machine.execConfirmationPollDue s
  | .confirmationTimeout => Sys2Proof.Machine.execConfirmationTimeout s
  | .encoderEdge up => Sys2Proof.Machine.execEncoderEdge up s
  | .resetHeld => Sys2Proof.Machine.execResetHeld s
  | .safetyInputSample raw => Sys2Proof.Machine.execSafetyInputSample raw s

end Sys2Proof.Machine
end

