-- ==== Sys2Proof/Machine/Payloads.lean ====
section
/-! DEFINITION. The payload of a request from the fields it carries, in the layout of R196 and section 10.7: what the
computer sends, written apart from the reading of Operands.lean. -/

namespace Sys2Proof.Machine

/-- A specimen record as Set Specimen carries it (R3, R196). -/
def Specimen.payload (x : Specimen) : List Byte :=
  text x.id ++ u32 x.area ++ u32 x.gaugeLength ++ u32 x.parallelLength ++ opt 4 u32 x.nominalModulus ++
  opt 17 text x.heatId

/-- A plan header as Begin Program carries it, in the order of section 1.3 (R7, R196). -/
def PlanHeader.payload (h : PlanHeader) : List Byte :=
  u32 h.offsetStrain ++ u32 h.sigmaLo ++ u32 h.sigmaHi ++ u32 h.nMin ++ u32 h.eMin ++ u32 h.eMax ++ yn h.fallback ++
  u32 h.yieldDrop ++ u32 h.yieldSearchLimit ++ u32 h.yieldSpanLimit ++ u32 h.transientSkip ++
  u32 h.maxPassedDrop ++ u32 h.fractureFraction ++ u32 h.abruptFraction ++ u32 h.fractureArmForce ++
  u32 h.removalStrain ++ u32 h.protectStrain ++ u32 h.windowLength ++ u32 h.decimation ++ yn h.tareAtStart ++
  yn h.zeroAtStart ++ u32 h.headsRequired ++ u8 h.slipAction.ctorIdx ++ yn h.allowNominal

/-- An end-condition entry of 6 bytes (section 10.7). -/
def EndCondition.payload (c : EndCondition) : List Byte := u8 c.kind.ctorIdx ++ opt 4 i32 c.threshold

/-- A segment record of 25 bytes (section 10.7): the entries beyond the condition count are zeros here. -/
def Segment.payload (g : Segment) : List Byte :=
  u8 g.mode.ctorIdx ++ i32 g.rate ++ u8 g.conditions.length ++ (g.conditions.map EndCondition.payload).flatten ++
  List.replicate (18 - 6 * g.conditions.length) 0 ++ u8 g.onEnd.ctorIdx

/-- A frame configuration as Configure Frame carries it, in the order of section 3.3 (R48, R196). -/
def FrameConfig.payload (f : FrameConfig) : List Byte :=
  u32 f.encoderScale ++ u32 f.maxSpeed ++ u32 f.fullScaleSpeed ++ u32 f.maxAccel ++ u32 f.stopDecel ++ u32 f.kp ++
  u32 f.ks ++ u32 f.kf ++ u32 f.followPosition ++ u32 f.followStrain ++ u32 f.followStress ++ i32 f.softMin ++
  i32 f.softMax ++ u32 f.capacity ++ u32 f.overloadLimit ++ u32 f.quietThreshold ++ u32 f.slopeThreshold

/-- The breakpoints of Load Calibration (R75, R196). -/
def breakpointBytes (t : List Breakpoint) : List Byte := (t.map fun b => i32 b.count ++ i32 b.force).flatten

end Sys2Proof.Machine
end

