-- ==== Sys2Proof/Safety.lean ====
section
/-! DEFINITION. What holds of the part in every state that a run reaches: the invariants of its records, each from the
rule that states it, and the premises that the statements about single commands share. -/

namespace Sys2Proof.Machine

/-! ### Premises -/

/-- The part takes a request that completes now: it is not held in reset, no restart is pending, and the reply queue
has room (R184, R194, R195). -/
abbrev State.takesRequest (s : State) : Prop :=
  s.inReset = false ∧ s.cli.restartPending = false ∧ s.cli.replies.length < 4

/-- A frame is taken: it is counted (R182). -/
def State.counted (s : State) : State :=
  { s with cli := { s.cli with
      counters := { s.cli.counters with framesTaken := min 4294967295 (s.cli.counters.framesTaken + 1) } } }

/-- What the taking of a request does in the interface: the frame is counted, and the reply of this kind, tag and
payload stands at the newest end of the queue (R182, R184). -/
def State.replied (s : State) (kind tag : Byte) (payload : List Byte) : State :=
  { s.counted with cli := { s.counted.cli with replies := s.cli.replies ++ [⟨kind, tag, payload⟩] } }

/-- The command that a frame of a kind, a tag and a payload is (section 10.4); a kind that names no request is
UNKNOWN_KIND. -/
def Instr.ofRequest (kind tag : Byte) (p : List Byte) : Instr :=
  match kind.toNat with
  | 0x01 => .identify tag p
  | 0x02 => .status tag p
  | 0x03 => .readCounters tag p
  | 0x10 => .configureFrame tag p
  | 0x11 => .configureClassifier tag p
  | 0x12 => .configureHeads tag p
  | 0x13 => .loadCalibration tag p
  | 0x20 => .setSpecimen tag p
  | 0x21 => .beginProgram tag p
  | 0x22 => .programSegments tag p
  | 0x23 => .readProgramState tag p
  | 0x24 => .clearVisited tag p
  | 0x25 => .setHoldPoints tag p
  | 0x30 => .startTest tag p
  | 0x31 => .pause tag p
  | 0x32 => .resume tag p
  | 0x33 => .abort tag p
  | 0x40 => .enableDrive tag p
  | 0x41 => .disableDrive tag p
  | 0x42 => .move tag p
  | 0x43 => .returnMove tag p
  | 0x44 => .stopMove tag p
  | 0x50 => .tare tag p
  | 0x58 => .headCommand tag p
  | 0x59 => .headStatus tag p
  | 0x5A => .removeExtensometer tag p
  | 0x60 => .readSamples tag p
  | 0x61 => .release tag p
  | 0x68 => .readResults tag p
  | 0x70 => .queryAttention tag p
  | 0x71 => .acknowledge tag p
  | 0x72 => .setMask tag p
  | 0x73 => .clearTrip tag p
  | 0x7F => .restart tag p
  | _ => .unknownKind kind tag p

/-- The payload length that a request calls for, for the requests of one length whose refusal BAD_LENGTH carries the
status alone. -/
def requestLength (kind : Byte) : Option Nat :=
  match kind.toNat with
  | 0x01 | 0x02 | 0x03 | 0x23 | 0x24 | 0x31 | 0x32 | 0x33 | 0x40 | 0x41 | 0x44 | 0x50 | 0x59 | 0x5A | 0x68 | 0x70
  | 0x73 | 0x7F => some 0
  | 0x71 | 0x72 => some 1
  | 0x58 => some 2
  | 0x43 => some 4
  | 0x42 | 0x60 => some 8
  | 0x12 => some 10
  | 0x61 => some 12
  | 0x11 => some 16
  | 0x20 => some 52
  | 0x10 => some 68
  | 0x21 => some 85
  | _ => none

/-- The receiver's state and partial frame are these (R181). -/
def State.withReceiver (s : State) (r : Receiver) (p : Option (List Byte)) : State :=
  { s with cli := { s.cli with receiver := r, partialFrame := p } }

/-- The link counters are changed. -/
def State.withCounters (s : State) (f : LinkCounters → LinkCounters) : State :=
  { s with cli := { s.cli with counters := f s.cli.counters } }

/-- A count that grows by 1 and saturates at 4,294,967,295 (R180). -/
def counted32 (n : Nat) : Nat := min 4294967295 (n + 1)

/-- Every number of a plan header has a place of four bytes (R196). -/
def PlanHeader.fits (h : PlanHeader) : Bool :=
  [h.offsetStrain, h.sigmaLo, h.sigmaHi, h.nMin, h.eMin, h.eMax, h.yieldDrop, h.yieldSearchLimit, h.yieldSpanLimit,
   h.transientSkip, h.maxPassedDrop, h.fractureFraction, h.abruptFraction, h.fractureArmForce, h.removalStrain,
   h.protectStrain, h.windowLength, h.decimation, h.headsRequired].all (· < 4294967296)

/-- A signed value has a place of four bytes (R196). -/
def fits32 (x : Int) : Bool := -2147483648 ≤ x && x ≤ 2147483647

/-- A segment has a place in a segment record: 1 to 3 conditions, and signed values of four bytes (section 10.7). -/
def Segment.fits (g : Segment) : Bool :=
  1 ≤ g.conditions.length && g.conditions.length ≤ 3 && fits32 g.rate &&
  g.conditions.all fun c =>
    match c.threshold with
    | none => true
    | some x => fits32 x

/-- The characters of a text, each from 20h to 7Eh (section 1.2). -/
def plainText (t : List Byte) : Prop := ∀ b ∈ t, 0x20 ≤ b.toNat ∧ b.toNat ≤ 0x7E

/-- A specimen record in the ranges of section 1.2, with Lc not less than Le (R3). -/
def Specimen.lawful (x : Specimen) : Prop :=
  (1 ≤ x.id.length ∧ x.id.length ≤ 16 ∧ plainText x.id) ∧
  (100 ≤ x.area ∧ x.area ≤ 5000000 ∧ 1000 ≤ x.gaugeLength ∧ x.gaugeLength ≤ x.parallelLength ∧
    x.parallelLength ≤ 20000) ∧
  (∀ m, x.nominalModulus = some m → 1000 ≤ m ∧ m ≤ 1000000) ∧
  (∀ t, x.heatId = some t → t.length ≤ 16 ∧ plainText t)

/-- The 17 bytes of a text: its length, its characters, and a fill that is not read (R196; log 54). -/
def carriesText (bs t : List Byte) : Prop := ∃ fill, bs = u8 t.length ++ t ++ fill ∧ t.length + fill.length = 16

/-- The bytes of an optional field with a place of `size` bytes: presence byte 1 and what the place carries, or
presence byte 0 and a place that is not read (R196; log 54). -/
def carriesOption {α : Type} (size : Nat) (carries : List Byte → α → Prop) (bs : List Byte) (x : Option α) : Prop :=
  ∃ place, place.length = size ∧
    match x with
    | some a => bs = u8 1 ++ place ∧ carries place a
    | none => bs = u8 0 ++ place

/-- A Set Specimen payload carries a record (R3, R196). -/
def Specimen.carriedBy (x : Specimen) (p : List Byte) : Prop :=
  ∃ id nominal heat, p = id ++ u32 x.area ++ u32 x.gaugeLength ++ u32 x.parallelLength ++ nominal ++ heat ∧
    carriesText id x.id ∧ carriesOption 4 (fun bs m => bs = u32 m) nominal x.nominalModulus ∧
    carriesOption 17 carriesText heat x.heatId

/-- A frame configuration in the ranges of section 3.3, with their relations (R48): max speed within the full-scale
speed, the soft minimum below the maximum, each in four bytes, and the overload limit within capacity × 110 ÷ 100,
rounded, with the thresholds within the capacity. -/
def FrameConfig.lawful (f : FrameConfig) : Prop :=
  (1 ≤ f.encoderScale ∧ f.encoderScale ≤ 100000 ∧ f.maxSpeed ≤ 200000 ∧ f.maxSpeed ≤ f.fullScaleSpeed ∧
    1000 ≤ f.fullScaleSpeed ∧ f.fullScaleSpeed ≤ 400000 ∧ 1000 ≤ f.maxAccel ∧ f.maxAccel ≤ 400000000 ∧
    1000 ≤ f.stopDecel ∧ f.stopDecel ≤ 400000000) ∧
  (f.kp ≤ 65535 ∧ f.ks ≤ 65535 ∧ f.kf ≤ 65535 ∧ f.followPosition ≤ 10000000 ∧ f.followStrain ≤ 2000000 ∧
    f.followStress ≤ 1000000) ∧
  (-2147483648 ≤ f.softMin ∧ f.softMin < f.softMax ∧ f.softMax ≤ 2147483647) ∧
  (10000 ≤ f.capacity ∧ f.capacity ≤ 20000000 ∧ 1 ≤ f.overloadLimit ∧ f.overloadLimit ≤ (f.capacity * 110 + 50) / 100 ∧
    f.quietThreshold ≤ f.capacity ∧ 1 ≤ f.slopeThreshold ∧ f.slopeThreshold ≤ f.capacity)

/-- A plan header passes validation: every field in its range and the relations between fields (section 1.3, R10). The
yield limits have a range only while the yield drop is above 0. -/
def PlanHeader.lawful (h : PlanHeader) : Prop :=
  (h.offsetStrain ≤ 50000 ∧ h.sigmaLo < h.sigmaHi ∧ h.sigmaHi ≤ 500000 ∧ 5 ≤ h.nMin ∧ h.nMin ≤ 1000 ∧
    1000 ≤ h.eMin ∧ h.eMin < h.eMax ∧ h.eMax ≤ 1000000) ∧
  (h.yieldDrop ≤ 10000 ∧
    (0 < h.yieldDrop → 1 ≤ h.yieldSearchLimit ∧ h.yieldSearchLimit ≤ 2000000 ∧
      1 ≤ h.yieldSpanLimit ∧ h.yieldSpanLimit ≤ 2000000) ∧ h.transientSkip ≤ 2000) ∧
  (1 ≤ h.maxPassedDrop ∧ h.maxPassedDrop ≤ 500 ∧ 10 ≤ h.fractureFraction ∧ h.fractureFraction ≤ 900 ∧
    10 ≤ h.abruptFraction ∧ h.abruptFraction ≤ 900 ∧ 1 ≤ h.fractureArmForce ∧ h.fractureArmForce ≤ 20000000) ∧
  (1 ≤ h.protectStrain ∧ h.removalStrain ≤ h.protectStrain ∧ h.protectStrain ≤ 2000000 ∧
    10 ≤ h.windowLength ∧ h.windowLength ≤ 500 ∧ 1 ≤ h.decimation ∧ h.decimation ≤ 1000) ∧
  h.headsRequired ≤ 2 ∧ (0 < h.offsetStrain → 1 ≤ h.headsRequired)

/-- A value is present and its magnitude is at most a limit. -/
def magnitudeWithin (limit : Nat) (x : Option Int) : Prop := ∃ t, x = some t ∧ t.natAbs ≤ limit

/-- An end condition has the threshold that its kind takes, in its range, or none where its kind takes none (R5,
R11). -/
def EndCondition.lawful (x : EndCondition) : Prop :=
  match x.kind with
  | .forceAbove => magnitudeWithin 20000000 x.threshold
  | .stressAbove | .travelAbove => magnitudeWithin 2000000000 x.threshold
  | .strainAbove => magnitudeWithin 2000000 x.threshold
  | .timeElapsed => ∃ t, x.threshold = some t ∧ 1 ≤ t ∧ t ≤ 86400000
  | .yieldDetected | .yieldEnded | .maxPassed | .loadSettled => x.threshold = none

/-- A segment passes validation under a plan header: its rate in its mode's range (R4), heads for STRAIN_RATE, lawful
end conditions, none on yield while the yield drop is 0, and in a DWELL none but TIME_ELAPSED and LOAD_SETTLED (R11). -/
def Segment.lawful (h : PlanHeader) (g : Segment) : Prop :=
  (match g.mode with
   | .positionRate => g.rate.natAbs ≤ 200000
   | .strainRate => g.rate.natAbs ≤ 100000 ∧ 0 < h.headsRequired
   | .stressRate => g.rate.natAbs ≤ 100000
   | .dwell => g.rate = 0) ∧
  ∀ x ∈ g.conditions, x.lawful ∧
    (x.kind = .yieldDetected ∨ x.kind = .yieldEnded → 0 < h.yieldDrop) ∧
    (g.mode = .dwell → x.kind = .timeElapsed ∨ x.kind = .loadSettled)

/-- A segment as a record of 25 bytes; the condition entries beyond the declared count hold any content (section
10.7). -/
def Segment.recordWith (g : Segment) (unread : List Byte) : List Byte :=
  u8 g.mode.ctorIdx ++ i32 g.rate ++ u8 g.conditions.length ++ (g.conditions.map EndCondition.payload).flatten ++
  unread ++ u8 g.onEnd.ctorIdx

/-- The 25 bytes of a segment record hold an undefined code or a condition count outside 1 to 3; of the condition
entries only the declared ones are read (R8, section 10.7; an undefined threshold marker: DEDUCED, log 20). -/
def undefinedRecord (r : List Byte) : Prop :=
  3 < (r.getD 0 0).toNat ∨ (r.getD 5 0).toNat = 0 ∨ 3 < (r.getD 5 0).toNat ∨ 2 < (r.getD 24 0).toNat ∨
  ∃ j < (r.getD 5 0).toNat, j < 3 ∧ (8 < (r.getD (6 + 6 * j) 0).toNat ∨ 1 < (r.getD (7 + 6 * j) 0).toNat)

/-- Check `k` of R20 passes for a Start Test with payload `p`. -/
def startCheck (k : Nat) (p : List Byte) (s : State) : Prop :=
  match k with
  | 0 => p = []
  | 1 => s.tsq.state = .ready ∨ s.tsq.state = .ended
  | 2 => s.fcu.tareWait = none
  | 3 => s.tsq.specimen.isSome = true
  | 4 => s.lmu.trip = .clear
  | 5 => s.drl.state = .idle
  | 6 => s.header.allowNominal = true ∨ ∀ r : Range, r.ctorIdx ≤ s.fcu.range.ctorIdx → (s.fcu.tables.get r).isSome = true
  | 7 => s.sms.ring.length ≤ 1008
  | 8 => s.header.headsRequired ≤ s.exm.heads.count fun e => e.state = .clamped
  | 9 => ∀ h i, (s.exm.heads.get h).state = .clamped → (s.exm.heads.get h).identity = some i →
      ((i.gaugeLength : Int) - s.gaugeLength).natAbs * 200 ≤ s.gaugeLength
  | _ => True

/-- The status code with which check `k` of R20 refuses. -/
def startStatus (k : Nat) (s : State) : Byte :=
  match k with
  | 0 => 0x04
  | 1 => if s.inTest then 0x07 else 0x06
  | 2 => 0x02
  | 3 => 0x0A
  | 4 => 0x0C
  | 5 => 0x06
  | 6 => 0x10
  | 7 => 0x0D
  | 8 => 0x0F
  | _ => 0x0E

/-- The detail field with which check `k` of R20 refuses. -/
def startDetail (k : Nat) (s : State) (detail : List Byte) : Prop :=
  match k with
  | 1 => detail = [BitVec.ofNat 8 s.tsq.state.ctorIdx]
  | 5 => detail = [BitVec.ofNat 8 s.drl.state.ctorIdx]
  | 6 => ∃ r : Range, detail = [BitVec.ofNat 8 r.ctorIdx] ∧ s.fcu.tables.get r = none ∧
      ∀ q : Range, q.ctorIdx < r.ctorIdx → (s.fcu.tables.get q).isSome = true
  | 7 => detail = u32 (1024 - s.sms.ring.length)
  | 8 => detail = u32 (s.exm.heads.count fun e => e.state = .clamped)
  | 9 => detail = [0] ∧ gaugeMismatch s.gaugeLength s.exm.heads.front = true ∨
      detail = [1] ∧ gaugeMismatch s.gaugeLength s.exm.heads.front = false
  | _ => detail = []

/-- DRIVE_READY is not asked for in the drive's state (R47). -/
abbrev State.readyUnwatched (s : State) : Prop :=
  s.drl.state = .disabled ∨ s.drl.state = .enabling ∨ s.drl.state = .tripped

/-- The readback of a conversion lies more than 2 % of the full-scale speed from the command that the DAC held (R59). -/
abbrev State.misread (s : State) (c : Conversion) : Prop :=
  (s.drl.frame.fullScaleSpeed : Int) <
    (divRound (c.readback * s.drl.frame.fullScaleSpeed) 131071 - s.drl.velocity).natAbs * 50

/-- The force of the point that a conversion forms (R69, R70, R73, R77). -/
def State.forceOn (s : State) (c : Conversion) : Int := (s.fcu.convert s.drl.frame.capacity (saturate c.count)).force

/-- A conversion on which no cause of a trip is found: the part runs, DRIVE_READY is present where it is asked for
(R47), the readback agrees or has missed at most twice in a row before (R59), DRIVE_FAULT is low (R170), and the force
is within the overload limit or the point before it was (R171). -/
abbrev State.calm (s : State) (c : Conversion) : Prop :=
  s.inReset = false ∧ (c.driveReady = true ∨ s.readyUnwatched) ∧ (s.drl.mismatches < 3 ∨ ¬ s.misread c) ∧
  c.driveFault = false ∧ (s.lmu.overloadCount = 0 ∨ (s.forceOn c).natAbs ≤ s.drl.frame.overloadLimit)

/-- The drive has taken one deceleration step of R57: the command falls by stop deceleration / 2,000 towards 0, and at
0 the drive stands IDLE. -/
def State.slowedTo (s t : State) : Prop :=
  let v := s.drl.velocity
  let step := divRound s.drl.frame.stopDecel 2000
  ((v.natAbs : Int) ≤ step → t.drl.state = .idle ∧ t.drl.velocity = 0 ∧ t.drl.dacCode = 0) ∧
  (step < v.natAbs → t.drl.state = .stopping ∧ t.drl.velocity = (if v < 0 then v + step else v - step) ∧
    t.drl.dacCode = divRound (t.drl.velocity * 131071) s.drl.frame.fullScaleSpeed)

/-- A soft travel limit is reached at a position by a formed command (R64). -/
def State.atSoftLimit (s : State) (position v : Int) : Prop :=
  (s.drl.frame.softMax ≤ position ∧ 0 < v) ∨ (position ≤ s.drl.frame.softMin ∧ v < 0)

/-- The command that is nearest to `target` within one acceleration step of the command written last, clamped to max
speed (R53, R62). -/
def State.limitedCommand (s : State) (step target : Int) : Int :=
  clampTo (-(s.drl.frame.maxSpeed : Int)) s.drl.frame.maxSpeed
    (s.drl.velocity + clampTo (-step) step (target - s.drl.velocity))

/-- The measured value that a control mode follows (R4). -/
def Point.value (p : Point) : ControlMode → Int
  | .positionRate | .dwell => p.position
  | .strainRate => p.strain
  | .stressRate => p.stress

/-- An end condition is met on a point, at a segment time in points, with the evaluation phase and the settled flag
after that point (R5, R28). -/
def EndCondition.metOn (x : EndCondition) (p : Point) (time : Nat) (phase : EvalPhase) (settled : Bool) : Prop :=
  match x.kind with
  | .forceAbove => ∃ t, x.threshold = some t ∧ t ≤ p.force
  | .stressAbove => ∃ t, x.threshold = some t ∧ t ≤ p.stress
  | .strainAbove => ∃ t, x.threshold = some t ∧ t ≤ p.strain
  | .travelAbove => ∃ t, x.threshold = some t ∧ t ≤ p.travel
  | .timeElapsed => ∃ t, x.threshold = some t ∧ 2 * t ≤ time
  | .yieldDetected => phase ≠ .waiting ∧ phase ≠ .elastic
  | .yieldEnded => phase = .hardening ∨ phase = .necking ∨ phase = .fractured
  | .maxPassed => phase = .necking ∨ phase = .fractured
  | .loadSettled => settled = true

/-- The segment `i`, which is `g`, has been entered on the point `p` (R27, R55): the sequencer's record and the drive's
transfer, with the command kept. -/
def State.enteredOn (s t : State) (i : Nat) (g : Segment) (p : Point) : Prop :=
  t.tsq = { s.tsq with
    state := .running, visited := s.tsq.visited ||| BitVec.ofNat 16 (2 ^ i), currentSegment := some i
    segmentTime := 0, heldReason := none, heldAt := none, startStep := none, resumeEntry := none } ∧
  t.drl.state = .running ∧ t.drl.mode = some g.mode ∧ t.drl.rate = g.rate ∧ t.drl.setpoint = p.value g.mode ∧
  t.drl.remainder = 0

/-- A conversion whose point the Evaluation Unit takes: it brings no trip, and it finds the test RUNNING, HELD, or
ENDING with the drive not yet at rest on it (R133, R57, R38). -/
abbrev State.evaluates (s : State) (c : Conversion) : Prop :=
  s.calm c ∧ (s.tsq.state = .running ∨ s.tsq.state = .held ∨
    s.tsq.state = .ending ∧ s.drl.state = .stopping ∧ divRound s.drl.frame.stopDecel 2000 < s.drl.velocity.natAbs)

/-- A mark of kind `k` with a copy of the point `q` has joined the ring, THINNED apart (R156, R161). -/
def State.marked (s t : State) (k : RecordKind) (q : Point) : Prop :=
  ∃ before r rest, t.sms.ring = s.sms.ring ++ before ++ r :: rest ∧ r.kind = k ∧ r.segment = none ∧
    r.point = { q with flags := { q.flags with thinned := r.point.flags.thinned } }

/-- The strain has been handed over on the point `q` for the trigger `k`: ratio from the window as it stands, source,
removal state, trigger, handover point, HANDOVER mark, and a watched LIFT of every head that measures (R123, R127). -/
def State.handedOverOn (s t : State) (k : Trigger) (q : Point) : Prop :=
  t.exm.source = .estimated ∧ t.exm.removal = .handedOver ∧ t.exm.trigger = some k ∧
  t.exm.handoverPoint = some q.index ∧ s.marked t .handover q ∧
  (∀ h, (t.exm.heads.get h).state = .measuring → t.glc.stands h .lift = true ∧ t.exm.liftWatch.get h = true) ∧
  (t.exm.window = [] → t.exm.ratio = some ⟨.nominal, 0, 0, 0, 0⟩) ∧
  (∀ oldest newest, t.exm.window.head? = some oldest → t.exm.window.getLast? = some newest →
    t.exm.ratio = some
      { kind := if 2 ≤ t.exm.window.length ∧ 1000 ≤ newest.1 - oldest.1 ∧ 0 < newest.2 - oldest.2 then .window
          else .nominal
        travelH := newest.1, strainH := newest.2
        deltaTravel := newest.1 - oldest.1, deltaStrain := newest.2 - oldest.2 })

/-- The three payload bytes of a status (R92, R94). -/
def HeadStatus.payload (st : HeadStatus) : List Byte :=
  [BitVec.ofNat 8 st.arms.ctorIdx, BitVec.ofNat 8 st.seated.toNat, BitVec.ofNat 8 st.zeroed.toNat]

/-- What a reply's payload carries for an operation (R92, R94 to R97): the status of a POLL, the extension and status of
a READ, the kind that a COMMAND echoes, the identity of an IDENTIFY in its ranges. -/
def GaugeOp.carries (o : GaugeOp) (payload : List Byte) (d : TxData) : Prop :=
  match o, d with
  | .poll, .status st => payload = st.payload
  | .read, .extension x st => fits32 x = true ∧ payload = i32 x ++ st.payload
  | .command k, .ack k' => k' = k ∧ payload = [BitVec.ofNat 8 k.ctorIdx]
  | .identify, .identity i =>
    1000 ≤ i.gaugeLength ∧ i.gaugeLength ≤ 20000 ∧ 1 ≤ i.travelRange ∧ i.travelRange ≤ 2000000000 ∧
    1 ≤ i.serial.length ∧ i.serial.length ≤ 16 ∧ (∀ b ∈ i.serial, 0x20 ≤ b.toNat ∧ b.toNat ≤ 0x7E) ∧
    payload = [i.kind] ++ u16 i.gaugeLength ++ u32 i.travelRange ++ i.serial ++ List.replicate (16 - i.serial.length) 0
  | _, _ => False

/-- The bytes of a reply (R90, R92): address, operation code, payload length, payload, and the check over them. -/
def GaugeOp.reply (o : GaugeOp) (h : Head) (payload : List Byte) : List Byte :=
  let address : Byte := match h with
    | .front => 1
    | .rear => 2
  let code : Byte := match o with
    | .poll => 1
    | .read => 2
    | .command _ => 3
    | .identify => 4
  let body := [address, code, BitVec.ofNat 8 payload.length] ++ payload
  body ++ u16 (crc 0 body).toNat

/-- The length of a complete reply (R92). -/
def GaugeOp.length : GaugeOp → Nat
  | .poll => 8
  | .read => 12
  | .command _ => 6
  | .identify => 28

/-- A status confirms a command (R102). -/
def HeadStatus.shows (st : HeadStatus) : HeadCmd → Prop
  | .clamp => st.arms = .clamped ∧ st.seated = true
  | .lift => st.arms = .lifted
  | .zero => st.zeroed = true
  | .identify => False

/-- A LIFT of a head stands in the command slot or in the waiting list (R101). -/
def State.liftAsked (s : State) (h : Head) : Prop :=
  (∃ c, s.glc.slot = some c ∧ c.head = h ∧ c.kind = .lift) ∨ ⟨h, .lift⟩ ∈ s.glc.waiting

/-- A head is still MEASURING or CLAMPED with no LIFT of it in the slot or the waiting list (R128). -/
def State.leftOn (s : State) (h : Head) : Prop :=
  ((s.exm.heads.get h).state = .measuring ∨ (s.exm.heads.get h).state = .clamped) ∧ ¬ s.liftAsked h

/-- The removal state in which a Remove Extensometer retries lifts: HANDED_OVER, or CLOSED after a fracture, which has
frozen the strain (R124, R128). -/
def State.retriesLifts (s : State) : Prop :=
  s.exm.removal = .handedOver ∨ s.exm.removal = .closed ∧ s.exm.source = .frozen

/-- A head wants stream reads: configured, and CLAMPED or MEASURING (R100). -/
def State.streams (s : State) (h : Head) : Prop :=
  (s.exm.heads.get h).configured = true ∧
    ((s.exm.heads.get h).state = .clamped ∨ (s.exm.heads.get h).state = .measuring)

/-- The command slot wants no transaction (R99): FREE, on the link, confirming with no poll due, or a LIFT that waits
while the strain source is EXTENSOMETER (R130). -/
def State.slotRests (s : State) : Prop :=
  ∀ c, s.glc.slot = some c → c.phase = .onLink ∨ c.phase = .confirming ∧ c.pollDue = false ∨
    c.phase = .linkWait ∧ c.kind = .lift ∧ s.exm.source = .extensometer

/-- The link counters with one more transaction started of an operation (R107). -/
def GaugeCounters.oneMore (o : GaugeOp) (k : GaugeCounters) : GaugeCounters :=
  match o with
  | .poll => { k with poll := counted32 k.poll }
  | .read => { k with read := counted32 k.read }
  | .command _ => { k with command := counted32 k.command }
  | .identify => { k with identify := counted32 k.identify }

/-- The slot's command `c` has been freed with the outcome `o` (R103): its head's last command, HEAD_CMD_DONE for the
computer's, and what stands in the slot is the manager's and waits for the link. -/
def SlotCommand.freedIn (c : SlotCommand) (o : SlotOutcome) (t : State) : Prop :=
  (t.glc.heads.get c.head).lastCommand = some ⟨c.kind, c.origin, o⟩ ∧
  (c.origin = .computer → t.cli.pending.headCmdDone = true) ∧
  (∀ c', t.glc.slot = some c' → c'.phase = .linkWait ∧ c'.origin = .exm)

/-- A field of the result record that is OPEN closes absent with a reason, and any other stays (R150). -/
def Field.closedFor (why : Absence) (before after : Field) : Prop :=
  (before = .opened → after = .absent why) ∧ (before ≠ .opened → after = before)

/-- The modulus that the plan header and the specimen record allow as a fallback (R138). -/
def State.fallback (s : State) : Option Nat :=
  if s.header.fallback = true then s.tsq.specimen.bind (·.nominalModulus) else none

/-- The freshness of a head's value at the formation of a point (R118). -/
def HeadEntry.judged (e : HeadEntry) : Freshness :=
  if e.configured = false then e.freshness
  else if e.readOk = true then .fresh
  else if e.readFailed = true then .substituted
  else .carried

/-- The transaction ends in a failure by a command: its budget runs out (R91), or a complete reply is not one that
carries what the operation defines (R92). -/
def Transaction.failsBy (x : Transaction) (k : Instr) : Prop :=
  (∃ began, k = .gaugeReplyTimeout began) ∨
  ∃ reply, k = .gaugeTransactionEnd reply ∧ reply.length = x.op.length ∧
    ∀ payload d, x.op.carries payload d → reply ≠ x.op.reply x.head payload

/-- The slot's command is the ZERO that the present start waits for (R23, R117). -/
def State.awaitsZero (s : State) (c : SlotCommand) : Prop :=
  c.kind = .zero ∧ s.exm.zeroAsked = some c.head ∧ s.tsq.state = .starting

/-- A start has ended for want of a ZERO (R23, R25): no ZERO of the start stands any longer (R104). -/
def State.startFailedOfZero (t : State) : Prop :=
  t.tsq.state = .ended ∧ t.tsq.endReason = some .startFailed ∧ t.tsq.startCause = some .zeroUnconfirmed ∧
  t.cli.pending.testEnd = true ∧ t.exm.zeroAsked = none ∧ ∀ h, t.glc.stands h .zero = false

/-- What follows in the Extensometer Manager and in the test from a slot command that has ended UNCONFIRMED or FAILED:
a ZERO that the present start waits for ends it (R23, R25, R117), any other ZERO and any CLAMP leave the test alone; a
CLAMP that ended UNCONFIRMED takes a head still CLAMPING back to PRESENT (R113), where it is lifted if its arms are not
(R114); a watched LIFT adds LIFT_UNCONFIRMED and holds the RUNNING test that it was asked for in (R129). -/
def SlotCommand.missedIn (c : SlotCommand) (o : SlotOutcome) (s t : State) : Prop :=
  let e := s.exm.heads.get c.head
  (s.awaitsZero c → t.startFailedOfZero) ∧
  (c.kind = .zero → ¬ s.awaitsZero c → t.tsq = s.tsq) ∧
  (c.kind = .clamp → t.tsq = s.tsq) ∧
  (c.kind = .clamp → o = .unconfirmed → e.state = .clamping →
    (t.exm.heads.get c.head).state = .present ∧ t.cli.pending.headState = true ∧
    (∀ st, (t.exm.heads.get c.head).latest = some st → st.arms ≠ .lifted → s.exm.source ≠ .extensometer →
      t.glc.stands c.head .lift = true)) ∧
  (c.kind = .lift → s.exm.liftWatch.get c.head = true → e.state ≠ .measuring →
    t.exm.liftWatch.get c.head = false ∧ t.cli.notices.liftUnconfirmed = true ∧ t.cli.pending.notice = true ∧
    (s.tsq.state = .running → s.exm.liftHolds.get c.head = true → s.drl.state = .running →
      t.tsq.state = .held ∧ t.tsq.heldReason = some .liftUnconfirmed ∧ t.drl.state = .holding ∧
      t.cli.pending.held = true) ∧
    (s.tsq.state ≠ .running ∨ s.exm.liftHolds.get c.head = false → t.tsq = s.tsq))

/-- The command is one of the two that act on a part held in reset (log 8). -/
def Instr.actsInReset : Instr → Bool
  | .powerOnReset _ => true
  | .resetHeld => true
  | _ => false

/-! ### Control Link Interface -/

/-- R180: the reply queue holds at most 4 replies. -/
def QueueBounded (s : State) : Prop := s.cli.replies.length ≤ 4

/-- R180, R181: a partial frame is present exactly outside HUNT, and holds as many bytes as its receiver state says. -/
def ReceiverConsistent (s : State) : Prop :=
  match s.cli.receiver, s.cli.partialFrame with
  | .hunt, none => True
  | .length, some bs => bs.length ≤ 1
  | .body, some bs => 2 ≤ bs.length ∧ bs.length < frameLengthField bs + 4 ∧ frameLengthField bs ≤ 512
  | .check, some bs =>
    frameLengthField bs + 4 ≤ bs.length ∧ bs.length < frameLengthField bs + 6 ∧ frameLengthField bs ≤ 512
  | _, _ => False

/-- R190: NOTICE is pending exactly while the notice set holds at least one kind. -/
def NoticeConsistent (s : State) : Prop := s.cli.pending.notice = true ↔ ∃ n, s.cli.notices.has n = true

/-! ### Limit Monitor and Drive Loop -/

/-- R65, R174, R175, R176: the drive is TRIPPED, TRIP is pending and a trip record is present while a trip is latched;
TRIPPED and TRIP only then. -/
def TripConsistent (s : State) : Prop :=
  (s.lmu.trip = .latched ↔ s.drl.state = .tripped) ∧
  (s.lmu.trip = .latched ↔ s.cli.pending.trip = true) ∧
  (s.lmu.trip = .latched → s.lmu.record.isSome = true)

/-- The five drive states in which the command is 0 (R43). -/
def DriveState.commandZero : DriveState → Bool
  | .disabled | .enabling | .idle | .holding | .tripped => true
  | .running | .stopping | .moving => false

/-- R43, R58: the command lies within max speed, is 0 in the five states of rest, and stands in the DAC. -/
def DriveBounded (s : State) : Prop :=
  s.drl.velocity.natAbs ≤ s.drl.frame.maxSpeed ∧
  (s.drl.state.commandZero = true → s.drl.velocity = 0) ∧
  s.drl.dacCode = dacOf s.drl.velocity s.drl.frame.fullScaleSpeed

/-! ### Force Unit -/

/-- R83, R86: a timer's settings are in range, and its remaining counts lie between 1 and the settings. -/
def Timer.consistent (t : Timer) : Prop :=
  t.p ≤ 256 ∧ t.c ≤ 255 ∧ 1 ≤ t.prescale ∧ t.prescale ≤ t.p ∧ 1 ≤ t.ticks ∧ t.ticks ≤ t.c

/-- R67, R81, R83: both timers are consistent, and the history holds at most 16 forces. -/
def ForceConsistent (s : State) : Prop :=
  s.fcu.levelTimer.consistent ∧ s.fcu.unrestTimer.consistent ∧ s.fcu.history.length ≤ 16

/-! ### Gauge Link Controller -/

/-- R105, R106: a head's failure limit is 1 to 255, and its consecutive-failure count stays below it. -/
def GlcHead.consistent (x : GlcHead) : Prop := 1 ≤ x.limit ∧ x.limit ≤ 255 ∧ x.consecutive < x.limit

/-- R101, R105: the slot is not FREE while the waiting list holds an entry; the list holds each pair of head and kind at
most once; the failure counts stay below their limits. -/
def GaugeConsistent (s : State) : Prop :=
  (s.glc.slot = none → s.glc.waiting = []) ∧ s.glc.waiting.Nodup ∧
  s.glc.heads.front.consistent ∧ s.glc.heads.rear.consistent

/-! ### Test Sequencer -/

/-- R9, R13, R18: the load record stands in LOADING alone, with fewer segments than its total; a program stands in every
state but EMPTY and LOADING. -/
def ProgramConsistent (t : Tsq) : Prop :=
  (t.load.isSome = true ↔ t.state = .loading) ∧
  (t.program.isSome = true ↔ t.state ≠ .empty ∧ t.state ≠ .loading) ∧
  (∀ l, t.load = some l → l.segments.length < l.total ∧ l.total ≤ 16)

/-- R19: which fields of the run record are present in which state. -/
def RunRecordConsistent (t : Tsq) : Prop :=
  (t.heldReason.isSome = true ↔ t.state = .held) ∧
  (t.heldAt.isSome = true ↔ t.heldReason = some .holdPoint) ∧
  (t.pendingEnd.isSome = true ↔ t.state = .ending) ∧
  t.pendingEnd ≠ some .tripped ∧ t.pendingEnd ≠ some .startFailed ∧
  (t.startStep.isSome = true → t.state = .starting) ∧
  (t.startCause.isSome = true ↔ t.endReason = some .startFailed) ∧
  (t.currentSegment.isSome = true → t.state = .running ∨ t.state = .held ∨ t.state = .ending) ∧
  (t.resumeEntry.isSome = true → t.state = .held)

/-- R18, R19: the records of the Test Sequencer agree with its state. -/
def SequencerConsistent (s : State) : Prop := ProgramConsistent s.tsq ∧ RunRecordConsistent s.tsq

/-! ### Extensometer Manager -/

/-- R108, R117, R121, R124, R125, R127: the strain source is EXTENSOMETER exactly while a removal is watched for or
deferred; a frozen strain is present exactly while it is FROZEN; the source is other than NONE, and the removal state
other than IDLE, exactly in RUNNING, HELD and ENDING. -/
def StrainConsistent (s : State) : Prop :=
  (s.exm.source = .extensometer ↔ s.exm.removal = .watching ∨ s.exm.removal = .deferred) ∧
  (s.exm.frozenStrain.isSome = true ↔ s.exm.source = .frozen) ∧
  (s.exm.source ≠ .none ↔ s.tsq.state.evaluated = true) ∧
  (s.exm.removal ≠ .idle ↔ s.tsq.state.evaluated = true)

/-! ### Sample Store -/

/-- Records whose sequence numbers run on from `from_` without a gap, the last being `to_` (R155). -/
def Consecutive (from_ : Nat) : List SampleRecord → Nat → Prop
  | [], to_ => from_ = to_
  | r :: rest, to_ => r.seq = nextSeq from_ ∧ Consecutive r.seq rest to_

/-- R155: the ring's numbers run consecutively from the one that follows the release mark to the newest sequence. -/
def RingConsecutive (s : State) : Prop := Consecutive s.sms.releaseMark s.sms.ring s.sms.newest

/-- R164, R165: in RAISED and only then SAMPLES is pending; in WAITING and only then the ring is empty. -/
def PacingConsistent (s : State) : Prop :=
  (s.sms.pacing = .raised ↔ s.cli.pending.samples = true) ∧ (s.sms.pacing = .waiting ↔ s.sms.ring = [])

/-- How many guaranteed marks a test in progress may still hand to the store (R161): TEST_START, REH, REL, RP, FMAX,
HANDOVER, FRACTURE, TEST_END, each at most once. -/
def State.marksLeft (s : State) : Nat :=
  (decide (s.tsq.state = .starting)).toNat + (decide (s.evu.phase.ctorIdx ≤ 1)).toNat +
  (decide (s.evu.phase.ctorIdx ≤ 2)).toNat + (decide (s.evu.search ≠ .closed)).toNat + s.evu.rmOpen.toNat +
  (decide (s.exm.removal = .idle ∨ s.exm.removal = .watching ∨ s.exm.removal = .deferred)).toNat +
  (decide (s.evu.phase ≠ .fractured)).toNat + 1

/-- R154, R159, R161: the ring keeps room for every mark that a test in progress can still hand, so that none is
refused for lack of space; of its 1,024 slots never more than 1,016 are taken. -/
def RingRoom (s : State) : Prop :=
  s.sms.ring.length ≤ 1016 ∧ (s.inTest = true → s.sms.ring.length + s.marksLeft ≤ 1016)

/-! ### Evaluation Unit -/

/-- A field that has left OPEN stays as it left (R150). -/
def Field.keeps (before after : Field) : Prop := before ≠ .opened → after = before

/-- Every characteristic field of a record keeps what it held once it has left OPEN (R150). -/
def ResultRecord.keeps (before after : ResultRecord) : Prop :=
  before.e.keeps after.e ∧ before.x0.keeps after.x0 ∧ before.rp.keeps after.rp ∧ before.reh.keeps after.reh ∧
  before.rel.keeps after.rel ∧ before.rm.keeps after.rm ∧ before.ag.keeps after.ag ∧
  before.fractureForce.keeps after.fractureForce ∧ before.a.keeps after.a

/-- R132, R134, R151: the yield tracker stands in YIELDING alone; an OPEN search has its elastic line; a fit that still
collects has its search NOT_OPEN; the result record is present during a test, and outside a test none of its fields is
OPEN; in STARTING the phase is WAITING and the search NOT_OPEN. -/
def EvaluationConsistent (s : State) : Prop :=
  (s.evu.tracker.isSome = true → s.evu.phase = .yielding) ∧
  (s.evu.search = .opened → s.evu.line.isSome = true) ∧
  (s.evu.fit = .collecting → s.evu.search = .notOpen) ∧
  (s.tsq.state.inTest = true → s.evu.result.isSome = true) ∧
  (∀ r, s.tsq.state.inTest = false → s.evu.result = some r → r.openCount = 0) ∧
  (s.tsq.state = .starting → s.evu.phase = .waiting ∧ s.evu.search = .notOpen)

/-! ### A test as a whole -/

/-- The records that a test runs on agree with one another. -/
def TestConsistent (s : State) : Prop :=
  SequencerConsistent s ∧ StrainConsistent s ∧ EvaluationConsistent s ∧ RingConsecutive s ∧ RingRoom s ∧
  PacingConsistent s

end Sys2Proof.Machine
end

