-- ==== Sys2Proof/Certificates/Slice0/Obligations.lean ====
section
/-! DEFINITION. The statements for the provers, from the rules R<n> of spec/. A completion statement says of a command,
in every state that meets its hypotheses, which next state `exec` answers. -/

open Sys2Proof Sys2Proof.Machine

/-! ### A step, and the part as a whole -/

/-- The step takes the command at the front of the queue and runs it on the state with the queue's rest; with
nothing queued the block idles (the model's choice, log 7). -/
def Obligations.StepTakesFrontCommand : Prop :=
  (∀ c rest (s : State), step { s with pending := c :: rest } = exec c { s with pending := rest }) ∧
  (∀ s, s.pending = [] → step s = .next s)

/-- Every command, in every state, answers a next state and leaves the queue of waiting commands alone. -/
def Obligations.EveryCommandAnswersNext : Prop :=
  ∀ c s, ∃ t, exec c s = .next t ∧ t.pending = s.pending

/-- RESET_N low: VCMD at 0, DRIVE_ENABLE low, ATTN released, and until the reset completes no other command has an
effect (R195, section 10.8; that nothing else acts is the model's reading, log 8). -/
def Obligations.HeldInReset : Prop :=
  (∀ s, exec .resetHeld s = .next { s with inReset := true, drl := { s.drl with velocity := 0, dacCode := 0 } }) ∧
  (∀ s, s.inReset = true → s.driveEnable = false ∧ s.attn = false ∧
    ∀ c, Instr.actsInReset c = false → exec c s = .next s)

/-- After a reset with all four safety contacts closed the records hold the values of R18, R19, R42, R67, R89, R108,
R132, R154, R167 and R180; the queue alone is kept. That `State.reset`, the state right after reset, is the reset with
the contacts closed is the model's choice (DESIGN CHOICE, log 9). The fields that the manual gives no reset value hold
the model's (DESIGN CHOICE, log 10): no ZERO awaited, and, through `State.reset`, the move's speed, DRIVE_READY as
sampled, the start-time tare count, the segment of a taken Resume, the sign-change count, the gauge link's request
bytes, the two flags of a READ since the last point and the watched lifts that hold the test. -/
def Obligations.ResetRecords : Prop :=
  (∀ s, exec (.powerOnReset safeLevels) s = .next { State.reset with pending := s.pending }) ∧
  (let s := State.reset
   (s.tsq.state = .empty ∧ s.tsq.specimen = none ∧ s.tsq.program = none ∧ s.tsq.load = none ∧
     s.tsq.lastLoad = .none ∧ s.tsq.visited = 0 ∧ s.tsq.holdPoints = 0 ∧ s.tsq.heldReason = none ∧
     s.tsq.heldAt = none ∧ s.tsq.pendingEnd = none ∧ s.tsq.endReason = none ∧ s.tsq.startCause = none ∧
     s.tsq.currentSegment = none ∧ s.tsq.segmentTime = 0 ∧ s.tsq.startStep = none) ∧
   (s.drl.state = .disabled ∧ s.drl.velocity = 0 ∧ s.drl.dacCode = 0 ∧ s.driveEnable = false ∧ s.drl.mode = none ∧
     s.drl.rate = 0 ∧ s.drl.setpoint = 0 ∧ s.drl.remainder = 0 ∧ s.drl.frozen = false ∧ s.drl.encoder = 0 ∧
     s.drl.travelZero = none ∧ s.drl.captureZero = false ∧ s.drl.moveTarget = none ∧ s.drl.moveOutcome = none ∧ s.drl.enableWait = 0 ∧
     s.drl.mismatches = 0 ∧
     s.drl.frame = ⟨100, 0, 200000, 100000, 400000, 256, 64, 64, 0, 0, 0, -2147483648, 2147483647, 10000, 11000, 50, 20⟩) ∧
   (s.fcu.range = .a ∧ s.fcu.tables = ⟨none, none, none, none⟩ ∧ s.fcu.tareOffset = 0 ∧ s.fcu.tareOutcome = .none ∧
     s.fcu.tareWait = none ∧ s.fcu.discardPending = false ∧ s.fcu.downCount = 0 ∧ s.fcu.classifier = .quiet ∧
     s.fcu.history = [] ∧ s.fcu.levelTimer = ⟨20, 100, 20, 100⟩ ∧ s.fcu.unrestTimer = ⟨20, 100, 20, 100⟩ ∧
     s.fcu.settled = false) ∧
   (s.glc.current = none ∧ s.glc.roundList = [] ∧ s.glc.slot = none ∧ s.glc.waiting = [] ∧
     s.glc.heads.front = ⟨8, 0, 0, .none, none⟩ ∧ s.glc.heads.rear = ⟨8, 0, 0, .none, none⟩ ∧
     s.glc.counters = ⟨0, 0, 0, 0, 0, 0, 0⟩) ∧
   (s.exm.heads.front = s.exm.heads.rear ∧ s.exm.heads.front.configured = false ∧
     s.exm.heads.front.state = .absent ∧ s.exm.heads.front.identity = none ∧ s.exm.heads.front.latest = none ∧
     s.exm.heads.front.zeroed = false ∧ s.exm.heads.front.failedPolls = 0 ∧ s.exm.heads.front.testHead = false ∧
     s.exm.source = .none ∧ s.exm.window = [] ∧ s.exm.ratio = none ∧ s.exm.frozenStrain = none ∧
     s.exm.removal = .idle ∧ s.exm.trigger = none ∧ s.exm.handoverPoint = none ∧
     s.exm.liftWatch = ⟨false, false⟩ ∧ s.exm.zeroAsked = none) ∧
   (s.evu.phase = .waiting ∧ s.evu.line = none ∧ s.evu.search = .notOpen ∧ s.evu.smax = none ∧ s.evu.tracker = none ∧
     s.evu.fmax = none ∧ s.evu.prev = none ∧ s.evu.result = none) ∧
   (s.sms.ring = [] ∧ s.sms.newest = 0 ∧ s.sms.releaseMark = 0 ∧ s.sms.recording = false ∧ s.sms.decimation = 0 ∧
     s.sms.thinning = 0 ∧ s.sms.thinnedPending = false ∧ s.sms.pointsNotStored = 0 ∧ s.sms.pacing = .waiting ∧
     s.sms.paceCount = 32 ∧ s.sms.paceDelay = 100 ∧ s.sms.recordsStored = 0 ∧ s.sms.totalNotStored = 0 ∧
     s.sms.segStartsNotStored = 0) ∧
   (s.lmu.trip = .clear ∧ s.lmu.record = none ∧ s.lmu.trips = 0 ∧ s.lmu.overloadCount = 0 ∧
     s.lmu.driveFault = .inactive ∧ s.lmu.softMin = -2147483648 ∧ s.lmu.softMax = 2147483647 ∧
     s.lmu.overloadLimit = 11000) ∧
   (s.cli.receiver = .hunt ∧ s.cli.partialFrame = none ∧ s.cli.replies = [] ∧ s.cli.restartPending = false ∧
     (∀ k, s.cli.pending.has k = decide (k = .notice)) ∧ (∀ k, s.cli.mask.has k = false) ∧
     (∀ n, s.cli.notices.has n = decide (n = .restarted)) ∧ s.cli.counters = ⟨0, 0, 0, 0, 0, 0, 0, 0⟩ ∧
     s.attn = true) ∧
   s.latestPoint = none ∧ s.inReset = false ∧ s.pending = [])

/-- R178, R195: what a reset makes of the raw levels it samples: levels, counts and latches; with a contact open
the trip, its first cause in the order of the inputs, the others among the further causes, no point, TRIPPED, TRIP
pending and one trip since reset. -/
def Obligations.ResetSamplesSafetyInputs : Prop :=
  ∀ raw s, ∃ t, exec (.powerOnReset raw) s = .next t ∧ t.inReset = false ∧ t.attn = true ∧
    t.cli.pending.notice = true ∧ (∀ n, t.cli.notices.has n = decide (n = .restarted)) ∧
    (∀ i, PerInputGet t.lmu.inputs i = ⟨PerInputGet raw i, 0, decide (PerInputGet raw i = .asserted)⟩) ∧
    (match allInputs.find? fun i => PerInputGet raw i = .asserted with
     | none =>
       t.lmu.trip = .clear ∧ t.lmu.record = none ∧ t.lmu.trips = 0 ∧ t.drl.state = .disabled ∧
       t.cli.pending.trip = false
     | some i =>
       t.lmu.trip = .latched ∧ t.lmu.trips = 1 ∧ t.drl.state = .tripped ∧ t.driveEnable = false ∧
       t.cli.pending.trip = true ∧
       ∃ r, t.lmu.record = some r ∧ r.first = safetyCause i ∧ r.point = none ∧
         ∀ c : TripCause, r.further.getLsbD c.ctorIdx = true ↔
           ∃ j, j ≠ i ∧ safetyCause j = c ∧ PerInputGet raw j = .asserted)

/-- R194: Restart is answered OK and becomes pending; without a pending restart nothing takes effect; the reset of a
pending one is a power-on reset, with its own reply sent; a row that says it takes effect brings it with that reply
at the front of the queue or the queue empty, and does nothing while another reply stands ahead (log 5). -/
def Obligations.RestartResetsThePart : Prop :=
  (∀ s tag, s.takesRequest →
    exec (.restart tag []) s =
      .next (({ s with cli := { s.cli with restartPending := true } } : State).replied 0xFF tag [0x00])) ∧
  (∀ s raw, s.inReset = false → s.cli.restartPending = false → exec (.restartTakesEffect raw) s = .next s) ∧
  (∀ s raw, s.inReset = false → s.cli.restartPending = true → s.cli.replies = [] →
    ∃ t, exec (.powerOnReset raw) s = .next t ∧ exec (.restartTakesEffect raw) s = .next t) ∧
  (∀ s raw tag rest, s.inReset = false → s.cli.restartPending = true → s.cli.replies = ⟨0xFF, tag, [0x00]⟩ :: rest →
    ∃ t, exec (.powerOnReset raw) s = .next t ∧ exec (.restartTakesEffect raw) s = .next t ∧
      exec (.replySent raw) s = .next t) ∧
  (∀ s raw kind tag p rest, s.inReset = false → s.cli.restartPending = true →
    s.cli.replies = ⟨kind, tag, p⟩ :: rest → kind ≠ 0xFF ∨ p ≠ [0x00] →
    exec (.restartTakesEffect raw) s = .next s)

/-! ### Control link -/

/-- R181: the receiver's table, byte by byte, up to the first byte of the CRC, and the low stop bit. R183: a gap drops a
partial frame and is counted; in HUNT it is not. R184: the oldest reply leaves the queue when it has been sent, and is
counted. That with none queued nothing has been sent is the model's choice (log 3). -/
def Obligations.LinkBytesGapsAndSentReplies : Prop :=
  (∀ s b, s.inReset = false →
     (s.cli.receiver = .hunt →
       exec (.controlLinkByte 0xC3 true) s = .next (s.withReceiver .length (some [])) ∧
       (b ≠ 0xC3 → exec (.controlLinkByte b true) s = .next s) ∧
       exec (.controlLinkByte b false) s = .next s) ∧
     (s.cli.receiver ≠ .hunt →
       exec (.controlLinkByte b false) s =
         .next ((s.withReceiver .hunt none).withCounters fun c =>
           { c with framingErrors := counted32 c.framingErrors })) ∧
     (s.cli.receiver = .length →
       (s.cli.partialFrame = some [] →
         exec (.controlLinkByte b true) s = .next (s.withReceiver .length (some [b]))) ∧
       (∀ hi, s.cli.partialFrame = some [hi] →
         (hi.toNat * 256 + b.toNat ≤ 512 →
           exec (.controlLinkByte b true) s = .next (s.withReceiver .body (some [hi, b]))) ∧
         (512 < hi.toNat * 256 + b.toNat →
           exec (.controlLinkByte b true) s =
             .next ((s.withReceiver .hunt none).withCounters fun c =>
               { c with oversizeFrames := counted32 c.oversizeFrames })))) ∧
     (∀ hi lo rest, s.cli.partialFrame = some (hi :: lo :: rest) →
       (s.cli.receiver = .body →
         (rest.length + 1 < hi.toNat * 256 + lo.toNat + 2 →
           exec (.controlLinkByte b true) s = .next (s.withReceiver .body (some (hi :: lo :: (rest ++ [b]))))) ∧
         (rest.length + 1 = hi.toNat * 256 + lo.toNat + 2 →
           exec (.controlLinkByte b true) s = .next (s.withReceiver .check (some (hi :: lo :: (rest ++ [b])))))) ∧
       (s.cli.receiver = .check → rest.length = hi.toNat * 256 + lo.toNat + 2 →
         exec (.controlLinkByte b true) s = .next (s.withReceiver .check (some (hi :: lo :: (rest ++ [b]))))))) ∧
  (∀ s, s.inReset = false →
     (s.cli.receiver ≠ .hunt →
       exec .interbyteTimeout s =
         .next ((s.withReceiver .hunt none).withCounters fun c => { c with timeouts := counted32 c.timeouts })) ∧
     (s.cli.receiver = .hunt → exec .interbyteTimeout s = .next s)) ∧
  (∀ s raw, s.inReset = false → s.cli.restartPending = false →
     (∀ r rest, s.cli.replies = r :: rest →
       exec (.replySent raw) s =
         .next (({ s with cli := { s.cli with replies := rest } } : State).withCounters fun c =>
           { c with repliesSent := counted32 c.repliesSent })) ∧
     (s.cli.replies = [] → exec (.replySent raw) s = .next s))

/-- R182, R184, R194: the second byte of the CRC completes the frame: with the CRC of length, tag, kind and
payload the frame's command runs with the receiver in HUNT; with another it is a bad check; while a restart is
pending it is discarded. -/
def Obligations.CompleteFrameIsHandedOn : Prop :=
  ∀ s hi lo tag kind payload c1 c0, s.inReset = false → s.cli.receiver = .check →
    payload.length = hi.toNat * 256 + lo.toNat →
    s.cli.partialFrame = some ([hi, lo, tag, kind] ++ payload ++ [c1]) →
    (s.cli.restartPending = true → exec (.controlLinkByte c0 true) s = .next (s.withReceiver .hunt none)) ∧
    (s.cli.restartPending = false →
      c1.toNat * 256 + c0.toNat = (crc 0xFFFF ([hi, lo, tag, kind] ++ payload)).toNat →
      exec (.controlLinkByte c0 true) s = exec (Instr.ofRequest kind tag payload) (s.withReceiver .hunt none)) ∧
    (s.cli.restartPending = false →
      c1.toNat * 256 + c0.toNat ≠ (crc 0xFFFF ([hi, lo, tag, kind] ++ payload)).toNat →
      exec (.controlLinkByte c0 true) s =
        .next ((s.withReceiver .hunt none).withCounters fun c => { c with badChecks := counted32 c.badChecks }))

/-- R182, R184, R194: a frame that completes while a restart is pending has no effect; one that completes while the
queue holds 4 replies counts as an overrun and has no other: neither is counted among the frames taken (DEDUCED, log 2).
R184: a kind that names no request is answered
UNKNOWN_KIND and counted, its kind with 80h added, or unchanged from 80h up. A row UNKNOWN_KIND whose kind names a
request is that request (the model's choice, log 32). -/
def Obligations.FramesTurnedAwayOrUnknown : Prop :=
  (∀ kind tag p s, s.inReset = false →
     (s.cli.restartPending = true → exec (Instr.ofRequest kind tag p) s = .next s) ∧
     (s.cli.restartPending = false → 4 ≤ s.cli.replies.length →
       exec (Instr.ofRequest kind tag p) s =
         .next (s.withCounters fun c => { c with overruns := counted32 c.overruns }))) ∧
  ((∀ kind tag p s, requestKinds.contains kind = false → s.takesRequest →
     exec (.unknownKind kind tag p) s =
       .next ((s.withCounters fun c => { c with unknownKinds := counted32 c.unknownKinds }).replied
         (if kind.toNat < 128 then kind + 0x80 else kind) tag [0x03])) ∧
   (∀ kind tag p s, requestKinds.contains kind = true →
     ∃ t, exec (Instr.ofRequest kind tag p) s = .next t ∧ exec (.unknownKind kind tag p) s = .next t))

/-- R1, R185, R196: a payload of the wrong length is refused BAD_LENGTH and changes nothing, for every request of one
length but Start Test. The lengths follow from the field widths that the model reads in R196 (DEDUCED, log 18), and an
empty payload where a rule names none (DEDUCED, log 21). -/
def Obligations.WrongLengthRefused : Prop :=
  ∀ kind n tag p s, requestLength kind = some n → p.length ≠ n → s.takesRequest →
    exec (Instr.ofRequest kind tag p) s = .next (s.replied (kind + 0x80) tag [0x04])

/-- R187: Set Mask, for every byte, and ATTN from then on as R186 has it; any other length BAD_LENGTH. R188: Query
Attention answers OK with the highest source that calls, the pending set, the mask and the notice set, and changes
nothing; any other length BAD_LENGTH. R189: Acknowledge takes a source but TRIP and SAMPLES out of the pending set, and
NOTICE's empties the notice set; an undefined code is OUT_OF_RANGE, TRIP and SAMPLES WRONG_STATE, another length
BAD_LENGTH. -/
def Obligations.AttentionRequests : Prop :=
  (∀ s tag, s.takesRequest →
     (∀ b : Byte, ∃ m : SourceSet, (∀ k, m.has k = b.getLsbD (k.code - 1)) ∧
       exec (.setMask tag [b]) s = .next (({ s with cli := { s.cli with mask := m } } : State).replied 0xF2 tag [0x00]) ∧
       ((({ s with cli := { s.cli with mask := m } } : State).replied 0xF2 tag [0x00]).attn = true ↔
         ∃ k, s.cli.pending.has k = true ∧ m.has k = false)) ∧
     (∀ p, p.length ≠ 1 → exec (.setMask tag p) s = .next (s.replied 0xF2 tag [0x04]))) ∧
  (∀ s tag, s.takesRequest →
     (∃ highest pending mask : Byte, ∃ notices : BitVec 16,
       exec (.queryAttention tag []) s =
         .next (s.replied 0xF0 tag
           [0x00, highest, pending, mask, BitVec.ofNat 8 (notices.toNat / 256), BitVec.ofNat 8 notices.toNat]) ∧
       (∀ k, pending.getLsbD (k.code - 1) = s.cli.pending.has k ∧ mask.getLsbD (k.code - 1) = s.cli.mask.has k) ∧
       (∀ i < 16, notices.getLsbD i = true ↔ ∃ n : Notice, n.ctorIdx = i ∧ s.cli.notices.has n = true) ∧
       (highest = 0 ∧ (∀ k, s.cli.pending.has k = true → s.cli.mask.has k = true) ∨
        ∃ k, highest.toNat = k.code ∧ s.cli.pending.has k = true ∧ s.cli.mask.has k = false ∧
          ∀ j, s.cli.pending.has j = true → s.cli.mask.has j = false → k.code ≤ j.code)) ∧
     (∀ p, p ≠ [] → exec (.queryAttention tag p) s = .next (s.replied 0xF0 tag [0x04]))) ∧
  (∀ s tag, s.takesRequest →
     (∀ k : Source, k ≠ .trip → k ≠ .samples →
       ∃ pending notices,
         exec (.acknowledge tag [BitVec.ofNat 8 k.code]) s =
           .next (({ s with cli := { s.cli with pending := pending, notices := notices } } : State).replied
             0xF1 tag [0x00]) ∧
         (∀ j, pending.has j = (s.cli.pending.has j && decide (j ≠ k))) ∧
         (k = .notice → ∀ n, notices.has n = false) ∧ (k ≠ .notice → notices = s.cli.notices)) ∧
     exec (.acknowledge tag [0x01]) s = .next (s.replied 0xF1 tag [0x06]) ∧
     exec (.acknowledge tag [0x07]) s = .next (s.replied 0xF1 tag [0x06]) ∧
     (∀ b : Byte, b.toNat = 0 ∨ 8 < b.toNat → exec (.acknowledge tag [b]) s = .next (s.replied 0xF1 tag [0x05])) ∧
     (∀ p, p.length ≠ 1 → exec (.acknowledge tag p) s = .next (s.replied 0xF1 tag [0x04])))

/-- R191: Identify answers OK and its eight fields, in every state, and changes nothing. R192, R193, R12, R131:
Status, Read Counters, Read Program State and Head Status answer OK with their fields and change nothing; the Status
reply has one length in every state. R153: Read Results is WRONG_STATE while no result record is held, else OK with
the 108 bytes of section 10.7, and changes nothing. Where R196 leaves the layout of these fields open, and for result
fields without a value, the functions named follow the model's choices (logs 18, 19, 36, 46 and 52). -/
def Obligations.ReadingRequestsChangeNothing : Prop :=
  (∀ s tag, s.takesRequest →
     exec (.identify tag []) s =
       .next (s.replied 0x81 tag
         ([0x00] ++ [0x5A, 0x65, 0x6C, 0x74, 0x72, 0x69, 0x73, 0x00] ++
          [0x5A, 0x54, 0x2D, 0x34, 0x36, 0x30, 0x00, 0x00] ++ [0, 0, 0, 1] ++ [0, 0, 0, 1] ++
          [0x00, 0x00, 0x02, 0x00] ++ [0x00, 0x00, 0x04, 0x00] ++ [0, 0, 0, 2] ++ [0x00, 0x00, 0x01, 0xF4])) ∧
     ∀ p, p ≠ [] → exec (.identify tag p) s = .next (s.replied 0x81 tag [0x04])) ∧
  (∀ s tag, s.takesRequest →
    exec (.status tag []) s = .next (s.replied 0x82 tag (0x00 :: statusFields s)) ∧
    exec (.readCounters tag []) s = .next (s.replied 0x83 tag (0x00 :: counterFields s.counted)) ∧
    exec (.readProgramState tag []) s = .next (s.replied 0xA3 tag (0x00 :: programFields s)) ∧
    exec (.headStatus tag []) s = .next (s.replied 0xD9 tag (0x00 :: headStatusFields s)) ∧
    (statusFields s).length = (statusFields State.reset).length ∧ (statusFields State.reset).length ≤ 511) ∧
  (∀ s tag, s.takesRequest →
    (s.evu.result = none → exec (.readResults tag []) s = .next (s.replied 0xE8 tag [0x06])) ∧
    (∀ r, s.evu.result = some r →
      exec (.readResults tag []) s = .next (s.replied 0xE8 tag (0x00 :: resultFields s.evu r)) ∧
      (0x00 :: resultFields s.evu r).length = 108) ∧
    (∀ p, p ≠ [] → exec (.readResults tag p) s = .next (s.replied 0xE8 tag [0x04])))

/-! ### Specimen, program, test -/

/-- R1, R3, R196: Set Specimen with a record in its ranges replaces the record whole; LOCKED during a test; OUT_OF_RANGE
otherwise, an undefined presence byte included (DEDUCED, log 20; that fills are not read: DEDUCED, log 54). R14: Clear Visited empties the visited set, LOCKED
during a test. R15: Set Hold Points replaces the set by the indices of its list, in every sequencer state; more than 16
entries or an index above 15 is OUT_OF_RANGE, a length other than the count's BAD_LENGTH. -/
def Obligations.SpecimenAndSegmentSetsChange : Prop :=
  (∀ s tag, s.takesRequest →
     (∀ (x : Specimen) p, s.inTest = false → x.lawful → x.carriedBy p →
       exec (.setSpecimen tag p) s =
         .next (({ s with tsq := { s.tsq with specimen := some x } } : State).replied 0xA0 tag [0x00])) ∧
     (∀ p, p.length = 52 → s.inTest = true → exec (.setSpecimen tag p) s = .next (s.replied 0xA0 tag [0x07])) ∧
     (∀ p, p.length = 52 → s.inTest = false → (∀ x : Specimen, x.lawful → ¬ x.carriedBy p) →
       exec (.setSpecimen tag p) s = .next (s.replied 0xA0 tag [0x05]))) ∧
  (∀ s tag, s.takesRequest →
     (s.inTest = false →
       exec (.clearVisited tag []) s =
         .next (({ s with tsq := { s.tsq with visited := 0 } } : State).replied 0xA4 tag [0x00])) ∧
     (s.inTest = true → exec (.clearVisited tag []) s = .next (s.replied 0xA4 tag [0x07]))) ∧
  (∀ s tag (n : Byte) (is : List Byte), s.takesRequest →
     (is.length = n.toNat → is.length ≤ 16 → (∀ i ∈ is, i.toNat ≤ 15) →
       ∃ x : BitVec 16, (∀ i < 16, x.getLsbD i = true ↔ BitVec.ofNat 8 i ∈ is) ∧
         exec (.setHoldPoints tag (n :: is)) s =
           .next (({ s with tsq := { s.tsq with holdPoints := x } } : State).replied 0xA5 tag [0x00])) ∧
     (is.length = n.toNat → 16 < is.length ∨ (∃ i ∈ is, 15 < i.toNat) →
       exec (.setHoldPoints tag (n :: is)) s = .next (s.replied 0xA5 tag [0x05])) ∧
     (is.length ≠ n.toNat → exec (.setHoldPoints tag (n :: is)) s = .next (s.replied 0xA5 tag [0x04])) ∧
     exec (.setHoldPoints tag []) s = .next (s.replied 0xA5 tag [0x04]))

/-- R7: Begin Program opens the load record anew, drops a loaded program and empties both sets; LOCKED during a
test; a total outside 1 to 16, or an undefined code in a yes-or-no field or the slip action, is OUT_OF_RANGE. R8, R9:
Program Segments at the next expected index stores its segments; the request that completes the program validates it:
READY and loaded where the header (section 1.3, R10) and every segment (R4, R5, R11) are lawful, or EMPTY with the
failing index, 255 for the header, else the first segment that is not lawful (its place in that reply, after the next
expected index and the remaining count, is the model's choice, log 19). A payload of a length other than its count's is
BAD_LENGTH; during a test LOCKED, outside LOADING WRONG_STATE, at another start index OUT_OF_SEQUENCE; a count outside
1 to 4 or above the remaining count, an undefined code (of a threshold marker: DEDUCED, log 20) or a condition count
outside 1 to 3 is OUT_OF_RANGE; every refusal carries the next expected index and the remaining count, and changes
nothing. The total and the remaining count take four bytes, the indices one, by R196 (DEDUCED, log 18). -/
def Obligations.ProgramIsLoaded : Prop :=
  (∀ s tag (h : PlanHeader) total, s.takesRequest → h.fits = true → total < 4294967296 →
     (s.inTest = false → 1 ≤ total → total ≤ 16 →
       exec (.beginProgram tag (h.payload ++ u32 total)) s =
         .next (({ s with tsq := { s.tsq with
             state := .loading, load := some ⟨total, h, []⟩, program := none, visited := 0, holdPoints := 0 } } :
           State).replied 0xA1 tag (0x00 :: u32 total))) ∧
     (s.inTest = false → total = 0 ∨ 16 < total →
       exec (.beginProgram tag (h.payload ++ u32 total)) s = .next (s.replied 0xA1 tag [0x05]))) ∧
  (∀ s tag p, s.takesRequest → p.length = 85 →
     (s.inTest = true → exec (.beginProgram tag p) s = .next (s.replied 0xA1 tag [0x07])) ∧
     (s.inTest = false → (∃ i ∈ [24, 73, 74, 80], 1 < (p.getD i 0).toNat) ∨ 2 < (p.getD 79 0).toNat →
       exec (.beginProgram tag p) s = .next (s.replied 0xA1 tag [0x05]))) ∧
  (∀ s tag (start : Byte) (rs : List (Segment × List Byte)) (l : LoadRecord), s.takesRequest →
     s.tsq.state = .loading → s.tsq.load = some l → l.total ≤ 16 → start.toNat = l.segments.length →
     1 ≤ rs.length → rs.length ≤ 4 → l.segments.length + rs.length ≤ l.total →
     (∀ r ∈ rs, r.1.fits = true ∧ r.2.length = 18 - 6 * r.1.conditions.length) →
     let p := [start, BitVec.ofNat 8 rs.length] ++ (rs.map fun r => r.1.recordWith r.2).flatten
     let all := l.segments ++ rs.map Prod.fst
     let invalid : Nat → Prop := fun i =>
       exec (.programSegments tag p) s =
         .next (({ s with tsq := { s.tsq with
             state := .empty, load := none, program := none, lastLoad := .invalid i } } :
           State).replied 0xA2 tag ([0x09, 0] ++ u32 0 ++ u8 i))
     (all.length < l.total →
       exec (.programSegments tag p) s =
         .next (({ s with tsq := { s.tsq with load := some { l with segments := all } } } : State).replied
           0xA2 tag ([0x00, BitVec.ofNat 8 all.length] ++ u32 (l.total - all.length)))) ∧
     (all.length = l.total →
       (l.header.lawful → (∀ g ∈ all, g.lawful l.header) →
         exec (.programSegments tag p) s =
           .next (({ s with tsq := { s.tsq with
               state := .ready, load := none, program := some ⟨l.header, all⟩, lastLoad := .valid } } :
             State).replied 0xA2 tag ([0x00, BitVec.ofNat 8 l.total] ++ u32 0))) ∧
       (¬ l.header.lawful → invalid 255) ∧
       (∀ before g after, l.header.lawful → all = before ++ g :: after → (∀ x ∈ before, x.lawful l.header) →
         ¬ g.lawful l.header → invalid before.length))) ∧
  (∀ s tag (start n : Byte) (rest : List Byte), s.takesRequest →
     let refused : Byte → List Byte → Prop := fun code standing =>
       exec (.programSegments tag (start :: n :: rest)) s = .next (s.replied 0xA2 tag (code :: standing))
     let standing := u8 s.tsq.nextExpected ++ u32 s.tsq.remaining
     (rest.length ≠ 25 * n.toNat → refused 0x04 standing) ∧
     (rest.length = 25 * n.toNat →
       (s.inTest = true → refused 0x07 standing) ∧
       (s.tsq.state = .empty ∨ s.tsq.state = .ready ∨ s.tsq.state = .ended → refused 0x06 standing) ∧
       (∀ l : LoadRecord, s.tsq.state = .loading → s.tsq.load = some l →
         let standing := u8 l.segments.length ++ u32 (l.total - l.segments.length)
         (start.toNat ≠ l.segments.length → refused 0x08 standing) ∧
         (start.toNat = l.segments.length →
           n.toNat = 0 ∨ 4 < n.toNat ∨ l.total < l.segments.length + n.toNat ∨
             (∃ k < n.toNat, undefinedRecord ((rest.drop (25 * k)).take 25)) →
           refused 0x05 standing)))) ∧
  (∀ s tag p, s.takesRequest → p.length < 2 →
     exec (.programSegments tag p) s =
       .next (s.replied 0xA2 tag (0x04 :: (u8 s.tsq.nextExpected ++ u32 s.tsq.remaining))))

/-- R20: a Start Test is refused with the first of the ten checks that fails, its status, its number and its
detail, and changes nothing (a detail that is a count takes four bytes by R196: DEDUCED, log 18). R20, R21, R117, R134,
R158: one that passes every check is ACCEPTED: STARTING, the CLAMPED heads the test's, evaluation, window and decimation
begun anew; the drive's record stands but for the travel zero that its next point captures (R49); the trip, the gauge
link, the ring, the specimen and the program stand. -/
def Obligations.StartTestIsDecided : Prop :=
  (∀ s tag p k, s.takesRequest → k ≤ 9 → (∀ j < k, startCheck j p s) → ¬ startCheck k p s →
     ∃ detail, startDetail k s detail ∧
       exec (.startTest tag p) s =
         .next (s.replied 0xB0 tag ([startStatus k s, BitVec.ofNat 8 k] ++ detail))) ∧
  (∀ s tag, s.takesRequest → (∀ k ≤ 9, startCheck k [] s) →
     ∃ t, exec (.startTest tag []) s = .next t ∧
       t.cli = (s.replied 0xB0 tag [0x01]).cli ∧
       t.tsq = { s.tsq with
         state := .starting, startStep := none, endReason := none, startCause := none, currentSegment := none
         segmentTime := 0, startTareCount := 0, resumeEntry := none } ∧
       t.exm.heads = ⟨{ s.exm.heads.front with testHead := decide (s.exm.heads.front.state = .clamped) },
         { s.exm.heads.rear with testHead := decide (s.exm.heads.rear.state = .clamped) }⟩ ∧
       t.exm.window = [] ∧ t.exm.ratio = none ∧ t.exm.frozenStrain = none ∧ t.exm.trigger = none ∧
       t.exm.handoverPoint = none ∧ t.exm.source = .none ∧
       t.evu.phase = .waiting ∧ t.evu.sums = ⟨0, 0, 0, 0, 0⟩ ∧ t.evu.line = none ∧ t.evu.search = .notOpen ∧
       t.evu.smax = none ∧ t.evu.tracker = none ∧ t.evu.fmax = none ∧
       (∃ r, t.evu.result = some r ∧ r.openCount = 9 ∧ r.endReason = none ∧ r.slipCount = 0) ∧
       t.fcu = { s.fcu with nextIndex := 0, downCount := 0 } ∧
       t.sms = { s.sms with decimation := 0, pointsNotStored := 0, thinnedPending := false } ∧
       t.drl = { s.drl with captureZero := true } ∧ t.glc = s.glc ∧ t.lmu = s.lmu ∧ t.latestPoint = s.latestPoint)

/-- R32, R31: Pause holds a RUNNING test with reason PAUSED, the drive in HOLDING with command 0 and HELD pending;
in HELD it changes nothing; in every other state it is WRONG_STATE. R36, R26, R38, R39: Abort ends a test: from
STARTING, and from HELD with the drive in HOLDING, it is ENDED ABORTED at once; from RUNNING with a command it
goes to ENDING and the drive to STOPPING; elsewhere it is WRONG_STATE. -/
def Obligations.PauseAndAbort : Prop :=
  (∀ s tag, s.takesRequest →
     (s.tsq.state = .running → s.drl.state = .running →
       exec (.pause tag []) s =
         .next (({ s with
           tsq := { s.tsq with
             state := .held, heldReason := some .paused, heldAt := none, startStep := none, resumeEntry := none }
           drl := { s.drl with state := .holding, velocity := 0, dacCode := 0 }
           cli := { s.cli with pending := { s.cli.pending with held := true } } } : State).replied 0xB1 tag [0x00])) ∧
     (s.tsq.state = .held → exec (.pause tag []) s = .next (s.replied 0xB1 tag [0x00])) ∧
     (s.tsq.state ≠ .running → s.tsq.state ≠ .held → exec (.pause tag []) s = .next (s.replied 0xB1 tag [0x06]))) ∧
  (∀ s tag, s.takesRequest →
     (s.tsq.state = .starting ∨ s.tsq.state = .held ∧ s.drl.state = .holding →
       ∃ t, exec (.abort tag []) s = .next t ∧ t.cli.replies = s.cli.replies ++ [⟨0xB3, tag, [0x00]⟩] ∧
         t.tsq.state = .ended ∧ t.tsq.endReason = some .aborted ∧ t.tsq.currentSegment = none ∧ t.tsq.segmentTime = 0 ∧
         t.tsq.program = s.tsq.program ∧ t.tsq.specimen = s.tsq.specimen ∧ t.drl.mode = none ∧ t.drl.frozen = false ∧
         t.exm.source = .none ∧ t.evu.openCount = 0 ∧ t.sms.recording = false ∧ t.cli.pending.testEnd = true ∧
         t.fcu = s.fcu ∧ t.lmu = s.lmu) ∧
     (s.tsq.state = .running → s.drl.state = .running → s.drl.velocity ≠ 0 →
       exec (.abort tag []) s =
         .next (({ s with
           tsq := { s.tsq with
             state := .ending, pendingEnd := some .aborted, heldReason := none, heldAt := none, resumeEntry := none }
           drl := { s.drl with state := .stopping } } : State).replied 0xB3 tag [0x00])) ∧
     (s.tsq.state ≠ .starting → s.tsq.state ≠ .running → s.tsq.state ≠ .held →
       exec (.abort tag []) s = .next (s.replied 0xB3 tag [0x06])))

/-- R34, R55: Resume of a hold in the segment returns to RUNNING on the latest point with the command kept; of a
hold point it waits for the next point to enter the held segment (log 15); while the drive still stops after
LIMIT, and outside HELD, it is WRONG_STATE. -/
def Obligations.ResumeContinuesAHeldTest : Prop :=
  ∀ s tag, s.takesRequest →
    (∀ why m, s.tsq.state = .held → s.tsq.heldReason = some why → s.tsq.resumeEntry = none →
      why ≠ .holdPoint → why ≠ .onEnd → s.drl.mode = some m → s.drl.state = .holding ∨ s.drl.state = .idle →
      exec (.resume tag []) s =
        .next (({ s with
          tsq := { s.tsq with state := .running, heldReason := none, heldAt := none }
          drl := { s.drl with state := .running, setpoint := m.quantity s.latest, remainder := 0 } } : State).replied
          0xB2 tag [0x00])) ∧
    (∀ i, s.tsq.state = .held → s.tsq.heldReason = some .holdPoint → s.tsq.heldAt = some i →
      s.tsq.resumeEntry = none →
      exec (.resume tag []) s =
        .next (({ s with tsq := { s.tsq with resumeEntry := some i } } : State).replied 0xB2 tag [0x00])) ∧
    (∀ i, s.tsq.state = .held → s.tsq.heldReason = some .onEnd → s.tsq.currentSegment = some i →
      s.tsq.resumeEntry = none → i + 1 < s.segments.length →
      (s.tsq.holdPoints.getLsbD (i + 1) = false →
        exec (.resume tag []) s =
          .next (({ s with tsq := { s.tsq with resumeEntry := some (i + 1) } } : State).replied 0xB2 tag [0x00])) ∧
      (s.tsq.holdPoints.getLsbD (i + 1) = true →
        ∃ t, exec (.resume tag []) s = .next t ∧ t.tsq.state = .held ∧ t.tsq.heldReason = some .holdPoint ∧
          t.tsq.heldAt = some (i + 1))) ∧
    (∀ i, s.tsq.state = .held → s.tsq.heldReason = some .onEnd → s.tsq.currentSegment = some i →
      s.tsq.resumeEntry = none → s.segments.length ≤ i + 1 → s.drl.state = .holding →
      ∃ t, exec (.resume tag []) s = .next t ∧ t.tsq.state = .ended ∧ t.tsq.endReason = some .complete ∧
        t.drl.state = .idle) ∧
    (s.tsq.state = .held → s.tsq.heldReason = some .limit → s.drl.state = .stopping →
      exec (.resume tag []) s = .next (s.replied 0xB2 tag [0x06])) ∧
    (s.tsq.state ≠ .held → exec (.resume tag []) s = .next (s.replied 0xB2 tag [0x06]))

/-! ### Drive and force -/

/-- R44: Enable Drive: from DISABLED to ENABLING with the wait at 0, unless max speed is 0; BUSY in ENABLING,
WRONG_STATE in the other states; any other length BAD_LENGTH. R46: Disable Drive: LOCKED during a test; OK in
DISABLED, ENABLING and IDLE, which leave for DISABLED with the encoder count, the travel zero and the move outcome
kept; WRONG_STATE in MOVING, STOPPING and TRIPPED; any other length BAD_LENGTH. -/
def Obligations.DriveIsEnabledAndDisabled : Prop :=
  (∀ s tag, s.takesRequest →
     (s.drl.state = .disabled → s.drl.frame.maxSpeed = 0 →
       exec (.enableDrive tag []) s = .next (s.replied 0xC0 tag [0x0A])) ∧
     (s.drl.state = .disabled → s.drl.frame.maxSpeed ≠ 0 →
       ∃ t, t = ({ s with drl := { s.drl with state := .enabling, velocity := 0, dacCode := 0, enableWait := 0 } } :
           State).replied 0xC0 tag [0x01] ∧
         t.driveEnable = true ∧ exec (.enableDrive tag []) s = .next t) ∧
     (s.drl.state = .enabling → exec (.enableDrive tag []) s = .next (s.replied 0xC0 tag [0x02])) ∧
     (s.drl.state ≠ .disabled → s.drl.state ≠ .enabling →
       exec (.enableDrive tag []) s = .next (s.replied 0xC0 tag [0x06])) ∧
     (∀ p, p ≠ [] → exec (.enableDrive tag p) s = .next (s.replied 0xC0 tag [0x04]))) ∧
  (∀ s tag, s.takesRequest →
     (s.inTest = true → exec (.disableDrive tag []) s = .next (s.replied 0xC1 tag [0x07])) ∧
     (s.inTest = false → s.drl.state = .disabled →
       exec (.disableDrive tag []) s = .next (s.replied 0xC1 tag [0x00])) ∧
     (s.inTest = false → s.drl.state = .enabling ∨ s.drl.state = .idle →
       ∃ t, t = ({ s with drl := { s.drl with state := .disabled, velocity := 0, dacCode := 0 } } : State).replied
           0xC1 tag [0x00] ∧
         t.driveEnable = false ∧ exec (.disableDrive tag []) s = .next t) ∧
     (s.inTest = false → s.drl.state = .moving ∨ s.drl.state = .stopping ∨ s.drl.state = .tripped →
       exec (.disableDrive tag []) s = .next (s.replied 0xC1 tag [0x06])) ∧
     (∀ p, p ≠ [] → exec (.disableDrive tag p) s = .next (s.replied 0xC1 tag [0x04])))

/-- R48, R76: Configure Frame replaces the configuration whole; a new capacity returns the ranges to their nominal
lines, drops the tare and switches to range A. That the drive's record holds the new frame at once while the Limit
Monitor's limits stand until the next point is log 33, and that a range change empties the history is log 42 (both
DEDUCED). LOCKED during a test, WRONG_STATE unless DISABLED, OUT_OF_RANGE otherwise. -/
def Obligations.ConfigureFrameReplacesConfiguration : Prop :=
  ∀ s tag (f : FrameConfig), s.takesRequest →
    (f.lawful → s.inTest = false → s.drl.state = .disabled →
      (f.capacity = s.drl.frame.capacity →
        exec (.configureFrame tag f.payload) s =
          .next (({ s with drl := { s.drl with frame := f } } : State).replied 0x90 tag [0x00])) ∧
      (f.capacity ≠ s.drl.frame.capacity →
        ∃ t, exec (.configureFrame tag f.payload) s = .next t ∧ t.drl = { s.drl with frame := f } ∧
          t.cli.replies = s.cli.replies ++ [⟨0x90, tag, [0x00]⟩] ∧ t.fcu.tables = ⟨none, none, none, none⟩ ∧
          t.fcu.tareOffset = 0 ∧ t.fcu.tareOutcome = .none ∧ t.fcu.range = .a ∧ t.fcu.tareWait = s.fcu.tareWait ∧
          t.fcu.classifier = s.fcu.classifier ∧ t.fcu.levelTimer = s.fcu.levelTimer ∧
          t.fcu.unrestTimer = s.fcu.unrestTimer ∧
          (s.fcu.range = .a → t.fcu.history = s.fcu.history ∧ t.fcu.discardPending = s.fcu.discardPending) ∧
          (s.fcu.range ≠ .a → t.fcu.history = [] ∧ t.fcu.discardPending = true ∧
            t.cli.notices.rangeChanged = true ∧ t.cli.pending.notice = true) ∧
          t.tsq = s.tsq ∧ t.exm = s.exm ∧ t.glc = s.glc ∧ t.sms = s.sms ∧ t.lmu = s.lmu ∧ t.evu = s.evu)) ∧
    (∀ p, p.length = 68 → s.inTest = true → exec (.configureFrame tag p) s = .next (s.replied 0x90 tag [0x07])) ∧
    (∀ p, p.length = 68 → s.inTest = false → s.drl.state ≠ .disabled →
      exec (.configureFrame tag p) s = .next (s.replied 0x90 tag [0x06])) ∧
    (∀ p, p.length = 68 → s.inTest = false → s.drl.state = .disabled →
      (∀ f : FrameConfig, f.lawful → p ≠ f.payload) →
      exec (.configureFrame tag p) s = .next (s.replied 0x90 tag [0x05]))

/-- R60: Move: ACCEPTED and MOVING with the target recorded and the outcome absent, when the drive is IDLE outside
a test, the speed is 1 to max speed and the target within the soft limits; WRONG_STATE and OUT_OF_RANGE otherwise.
R61: Return is a move to the position that the travel zero stands for; NOT_CONFIGURED without one, after
WRONG_STATE and before OUT_OF_RANGE. R63, R57: Stop Move takes a moving drive to STOPPING with outcome STOPPED, or at
once to IDLE with MOVE_DONE where the command is 0; in STOPPING after a move it changes nothing; elsewhere it is
WRONG_STATE. -/
def Obligations.MovesBeginAndStop : Prop :=
  (∀ s tag (target : Int) (speed : Nat), s.takesRequest → fits32 target = true → speed < 4294967296 →
     let p := i32 target ++ u32 speed
     (s.drl.state = .idle → s.inTest = false → 1 ≤ speed → speed ≤ s.drl.frame.maxSpeed →
       s.lmu.softMin ≤ target → target ≤ s.lmu.softMax →
       exec (.move tag p) s =
         .next (({ s with drl := { s.drl with
             state := .moving, moveTarget := some target, moveSpeed := speed, moveOutcome := none } } : State).replied
           0xC2 tag [0x01])) ∧
     (s.drl.state = .idle → s.inTest = false →
       speed = 0 ∨ s.drl.frame.maxSpeed < speed ∨ target < s.lmu.softMin ∨ s.lmu.softMax < target →
       exec (.move tag p) s = .next (s.replied 0xC2 tag [0x05])) ∧
     (s.drl.state ≠ .idle ∨ s.inTest = true → exec (.move tag p) s = .next (s.replied 0xC2 tag [0x06])) ∧
     (∀ q, q.length ≠ 8 → exec (.move tag q) s = .next (s.replied 0xC2 tag [0x04]))) ∧
  (∀ s tag (speed : Nat), s.takesRequest → speed < 4294967296 →
     (s.drl.state ≠ .idle ∨ s.inTest = true →
       exec (.returnMove tag (u32 speed)) s = .next (s.replied 0xC3 tag [0x06])) ∧
     (s.drl.state = .idle → s.inTest = false → s.drl.travelZero = none →
       exec (.returnMove tag (u32 speed)) s = .next (s.replied 0xC3 tag [0x0A])) ∧
     (∀ z, s.drl.state = .idle → s.inTest = false → s.drl.travelZero = some z →
       let target := positionOf z s.drl.frame.encoderScale
       (1 ≤ speed → speed ≤ s.drl.frame.maxSpeed → s.lmu.softMin ≤ target → target ≤ s.lmu.softMax →
         exec (.returnMove tag (u32 speed)) s =
           .next (({ s with drl := { s.drl with
               state := .moving, moveTarget := some target, moveSpeed := speed, moveOutcome := none } } :
             State).replied 0xC3 tag [0x01])) ∧
       (speed = 0 ∨ s.drl.frame.maxSpeed < speed ∨ target < s.lmu.softMin ∨ s.lmu.softMax < target →
         exec (.returnMove tag (u32 speed)) s = .next (s.replied 0xC3 tag [0x05]))) ∧
     (∀ q, q.length ≠ 4 → exec (.returnMove tag q) s = .next (s.replied 0xC3 tag [0x04]))) ∧
  (∀ s tag, s.takesRequest →
     (s.drl.state = .moving → s.drl.velocity ≠ 0 →
       exec (.stopMove tag []) s =
         .next (({ s with drl := { s.drl with state := .stopping, moveOutcome := some .stopped } } : State).replied
           0xC4 tag [0x00])) ∧
     (s.drl.state = .moving → s.drl.velocity = 0 → s.drl.moveTarget.isSome = true →
       ∃ t, exec (.stopMove tag []) s = .next t ∧
         t.drl = { s.drl with
           state := .idle, velocity := 0, dacCode := 0, moveOutcome := some .stopped, moveTarget := none } ∧
         t.cli.notices.moveDone = true ∧ t.cli.pending.notice = true) ∧
     (s.drl.state = .stopping → s.drl.moveTarget.isSome = true →
       exec (.stopMove tag []) s = .next (s.replied 0xC4 tag [0x00])) ∧
     (s.drl.state = .stopping → s.drl.moveTarget = none →
       exec (.stopMove tag []) s = .next (s.replied 0xC4 tag [0x06])) ∧
     (s.drl.state ≠ .moving → s.drl.state ≠ .stopping → exec (.stopMove tag []) s = .next (s.replied 0xC4 tag [0x06])))

/-- R77: Tare: WRONG_STATE during a test, BUSY while a wait is present, taken at once when the force is settled, else
ACCEPTED with a wait opened; any other length BAD_LENGTH. R86: Configure Classifier takes its four settings in every
state; a timer whose settings differ is reloaded, the other left as it stands; the settled flag stands. Out of range
or of another length it changes nothing. -/
def Obligations.TareAndClassifierRequests : Prop :=
  (∀ s tag, s.takesRequest →
     (s.inTest = true → exec (.tare tag []) s = .next (s.replied 0xD0 tag [0x06])) ∧
     (s.inTest = false → s.fcu.tareWait.isSome = true → exec (.tare tag []) s = .next (s.replied 0xD0 tag [0x02])) ∧
     (s.inTest = false → s.fcu.tareWait = none → s.fcu.settled = true →
       exec (.tare tag []) s =
         .next (({ s with fcu := { s.fcu with tareOffset := s.fcu.calForce, tareOutcome := .ok } } : State).replied
           0xD0 tag [0x00])) ∧
     (s.inTest = false → s.fcu.tareWait = none → s.fcu.settled = false →
       exec (.tare tag []) s =
         .next (({ s with fcu := { s.fcu with tareOutcome := .pending, tareWait := some 0 } } : State).replied
           0xD0 tag [0x01])) ∧
     (∀ p, p ≠ [] → exec (.tare tag p) s = .next (s.replied 0xD0 tag [0x04]))) ∧
  (∀ s tag (pl cl pu cu : Nat), s.takesRequest →
     pl < 4294967296 → cl < 4294967296 → pu < 4294967296 → cu < 4294967296 →
     let good := 1 ≤ pl ∧ pl ≤ 256 ∧ 1 ≤ cl ∧ cl ≤ 255 ∧ 1 ≤ pu ∧ pu ≤ 256 ∧ 1 ≤ cu ∧ cu ≤ 255
     (good →
       exec (.configureClassifier tag (u32 pl ++ u32 cl ++ u32 pu ++ u32 cu)) s =
         .next (({ s with fcu := { s.fcu with
             levelTimer := if pl = s.fcu.levelTimer.p ∧ cl = s.fcu.levelTimer.c then s.fcu.levelTimer
               else ⟨pl, cl, pl, cl⟩
             unrestTimer := if pu = s.fcu.unrestTimer.p ∧ cu = s.fcu.unrestTimer.c then s.fcu.unrestTimer
               else ⟨pu, cu, pu, cu⟩ } } : State).replied 0x91 tag [0x00])) ∧
     (¬ good →
       exec (.configureClassifier tag (u32 pl ++ u32 cl ++ u32 pu ++ u32 cu)) s = .next (s.replied 0x91 tag [0x05])) ∧
     (∀ q, q.length ≠ 16 → exec (.configureClassifier tag q) s = .next (s.replied 0x91 tag [0x04])))

/-- R75: Load Calibration replaces the table of one range whole, so that it is nominal no longer; LOCKED during a
test; a range code, a breakpoint count, a count or a force out of range, or counts that do not rise, OUT_OF_RANGE;
a length other than the count's BAD_LENGTH. -/
def Obligations.LoadCalibrationReplacesTable : Prop :=
  ∀ s tag (r : Range) (t : List Breakpoint), s.takesRequest → t.length < 256 →
    (∀ b ∈ t, fits32 b.count = true ∧ fits32 b.force = true) →
    let p := [BitVec.ofNat 8 r.ctorIdx, BitVec.ofNat 8 t.length] ++ breakpointBytes t
    let good := 2 ≤ t.length ∧ t.length ≤ 12 ∧ (∀ b ∈ t, b.count.natAbs ≤ 8388607 ∧ b.force.natAbs ≤ 20000000) ∧
      t.Pairwise fun a b => a.count < b.count
    (s.inTest = true → exec (.loadCalibration tag p) s = .next (s.replied 0x93 tag [0x07])) ∧
    (s.inTest = false → good →
      exec (.loadCalibration tag p) s =
        .next (({ s with fcu := { s.fcu with tables := s.fcu.tables.set r (some t) } } : State).replied
          0x93 tag [0x00])) ∧
    (s.inTest = false → ¬ good → exec (.loadCalibration tag p) s = .next (s.replied 0x93 tag [0x05])) ∧
    (∀ code : Byte, 3 < code.toNat → s.inTest = false →
      exec (.loadCalibration tag ([code, BitVec.ofNat 8 t.length] ++ breakpointBytes t)) s =
        .next (s.replied 0x93 tag [0x05])) ∧
    (∀ code n : Byte, ∀ q, q.length ≠ 8 * n.toNat →
      exec (.loadCalibration tag ([code, n] ++ q)) s = .next (s.replied 0x93 tag [0x04]))

/-! ### Heads, store, trip -/

/-- R106, R109: Configure Heads takes both failure limits with the failure counts at 0; a head that becomes
configured keeps its entry, one that ceases to be returns to its reset values and raises HEAD_STATE unless it was
ABSENT. LOCKED during a test; an undefined flag or a limit outside 1 to 255 OUT_OF_RANGE. -/
def Obligations.ConfigureHeadsTakesBothHeads : Prop :=
  ∀ s tag (front rear : Byte) (lf lr : Nat), s.takesRequest → lf < 4294967296 → lr < 4294967296 →
    let p := [front] ++ u32 lf ++ [rear] ++ u32 lr
    let good := front.toNat ≤ 1 ∧ rear.toNat ≤ 1 ∧ 1 ≤ lf ∧ lf ≤ 255 ∧ 1 ≤ lr ∧ lr ≤ 255
    (s.inTest = true → exec (.configureHeads tag p) s = .next (s.replied 0x92 tag [0x07])) ∧
    (s.inTest = false → ¬ good → exec (.configureHeads tag p) s = .next (s.replied 0x92 tag [0x05])) ∧
    (s.inTest = false → good →
      ∃ t, exec (.configureHeads tag p) s = .next t ∧ t.cli.replies = s.cli.replies ++ [⟨0x92, tag, [0x00]⟩] ∧
        (∀ h : Head, let flag := match h with
            | .front => front
            | .rear => rear
          (t.glc.heads.get h).limit = (match h with
            | .front => lf
            | .rear => lr) ∧
          (t.glc.heads.get h).consecutive = 0 ∧
          (flag = 1 → t.exm.heads.get h = { s.exm.heads.get h with configured := true }) ∧
          (flag = 0 → (s.exm.heads.get h).configured = true →
            t.exm.heads.get h = HeadEntry.reset ∧ (t.glc.heads.get h).total = 0 ∧ h ∉ t.glc.roundList ∧
            (∀ w ∈ t.glc.waiting, w.head ≠ h) ∧
            ((s.exm.heads.get h).state ≠ .absent → t.cli.pending.headState = true)) ∧
          (flag = 0 → (s.exm.heads.get h).configured = false → t.exm.heads.get h = s.exm.heads.get h)) ∧
        t.tsq = s.tsq ∧ t.drl = s.drl ∧ t.fcu = s.fcu ∧ t.evu = s.evu ∧ t.sms = s.sms ∧ t.lmu = s.lmu)

/-- R116, R101: Head Command for a configured head in a state that its kind takes enters a free slot with origin
COMPUTER and is ACCEPTED; a held slot is BUSY; another head state WRONG_STATE, an unconfigured head
NOT_CONFIGURED, an undefined head or kind OUT_OF_RANGE, another length BAD_LENGTH. -/
def Obligations.HeadCommandEntersTheSlot : Prop :=
  ∀ s tag (h : Head) (k : HeadCmd), s.takesRequest →
    let p := [BitVec.ofNat 8 h.ctorIdx, BitVec.ofNat 8 k.ctorIdx]
    let st := (s.exm.heads.get h).state
    let taken := match k with
      | .clamp => st = .present ∧ s.inTest = false
      | .lift => (st = .present ∨ st = .clamping ∨ st = .clamped ∨ st = .lifting) ∧ s.exm.source ≠ .extensometer
      | .zero => st = .clamped ∧ s.inTest = false
      | .identify => True
    ((s.exm.heads.get h).configured = true → taken → s.glc.slot = none →
      exec (.headCommand tag p) s =
        .next (({ s with glc := { s.glc with slot := some ⟨h, k, .computer, .linkWait, 0, false⟩ } } : State).replied
          0xD8 tag [0x01])) ∧
    ((s.exm.heads.get h).configured = true → taken → s.glc.slot ≠ none →
      exec (.headCommand tag p) s = .next (s.replied 0xD8 tag [0x02])) ∧
    ((s.exm.heads.get h).configured = true → ¬ taken →
      exec (.headCommand tag p) s = .next (s.replied 0xD8 tag [0x06])) ∧
    ((s.exm.heads.get h).configured = false → exec (.headCommand tag p) s = .next (s.replied 0xD8 tag [0x0A])) ∧
    (∀ a b : Byte, 1 < a.toNat ∨ 3 < b.toNat →
      exec (.headCommand tag [a, b]) s = .next (s.replied 0xD8 tag [0x05])) ∧
    (∀ q, q.length ≠ 2 → exec (.headCommand tag q) s = .next (s.replied 0xD8 tag [0x04]))

/-- R128, R127: Remove Extensometer hands the strain over at once while a removal is watched for or deferred, with
the HANDOVER mark; in HANDED_OVER, or in CLOSED after a fracture, it asks for a LIFT of each head still MEASURING or
CLAMPED with none in the slot or the waiting list, FRONT first, and watches it; in every other case it is WRONG_STATE. -/
def Obligations.RemoveExtensometerHandsOver : Prop :=
  ∀ s tag, s.takesRequest →
    (s.tsq.state.evaluated = true → s.exm.removal = .watching ∨ s.exm.removal = .deferred →
      ∃ t, exec (.removeExtensometer tag []) s = .next t ∧ t.cli.replies = s.cli.replies ++ [⟨0xDA, tag, [0x00]⟩] ∧
        t.exm.source = .estimated ∧ t.exm.removal = .handedOver ∧ t.exm.trigger = some .request ∧
        t.exm.handoverPoint = some s.latest.index ∧ t.exm.ratio = some (formRatio s.exm.window) ∧
        (∃ r, t.sms.ring = s.sms.ring ++ [r] ∧ r.kind = .handover ∧ r.seq = nextSeq s.sms.newest) ∧
        (∀ h, (s.exm.heads.get h).state = .measuring → t.liftAsked h ∧ t.exm.liftWatch.get h = true) ∧
        t.tsq = s.tsq ∧ t.drl = s.drl ∧ t.fcu = s.fcu ∧ t.evu = s.evu ∧ t.lmu = s.lmu) ∧
    (s.retriesLifts → (∃ h, s.leftOn h) →
      ∃ t, exec (.removeExtensometer tag []) s = .next t ∧ t.cli.replies = s.cli.replies ++ [⟨0xDA, tag, [0x00]⟩] ∧
        (∃ asked : List Head, asked.Sublist [.front, .rear] ∧ (∀ h, h ∈ asked ↔ s.leftOn h) ∧
          (s.glc.slot ≠ none →
            t.glc.slot = s.glc.slot ∧ t.glc.waiting = s.glc.waiting ++ asked.map fun h => ⟨h, .lift⟩) ∧
          (∀ h rest, s.glc.slot = none → asked = h :: rest →
            t.glc.slot = some ⟨h, .lift, .exm, .linkWait, 0, false⟩ ∧
            t.glc.waiting = s.glc.waiting ++ rest.map fun h => ⟨h, .lift⟩)) ∧
        (∀ h, s.leftOn h → t.exm.liftWatch.get h = true) ∧
        (∀ h, ¬ s.leftOn h → t.exm.liftWatch.get h = s.exm.liftWatch.get h) ∧
        t.exm.heads = s.exm.heads ∧ t.exm.source = s.exm.source ∧ t.exm.removal = s.exm.removal ∧ t.sms = s.sms ∧
        t.tsq = s.tsq ∧ t.drl = s.drl ∧ t.fcu = s.fcu ∧ t.evu = s.evu ∧ t.lmu = s.lmu) ∧
    ((s.tsq.state.evaluated = false ∨ s.exm.removal ≠ .watching ∧ s.exm.removal ≠ .deferred) →
      ¬ s.retriesLifts ∨ (∀ h, ¬ s.leftOn h) →
      exec (.removeExtensometer tag []) s = .next (s.replied 0xDA tag [0x06]))

/-- R162: Read Samples answers OK with the records from the start sequence onward, as many as asked and held, with
the newest sequence, the release mark and their number, and changes nothing; a count outside 1 to 20 or a start
sequence not in the ring is OUT_OF_RANGE, another length BAD_LENGTH. R163, R165: Release up to a record takes it
and every older one out of the ring and moves the release mark there; non-zero pace settings replace those in
force; the level is decided; SAMPLES leaves the pending set, and pacing goes to WAITING when the ring is empty,
else to COUNTING from 0 (that both pacing counts are 0 in WAITING too is the model's choice, log 47). Refused, it
changes nothing. Sequence numbers, counts and the free slots take four bytes, the number of records one, by R196
(DEDUCED, log 18). -/
def Obligations.SamplesAreReadAndReleased : Prop :=
  (∀ s tag (start count : Nat), s.takesRequest → start < 4294967296 → count < 4294967296 →
     (∀ before r after, s.sms.ring = before ++ r :: after → (∀ x ∈ before, x.seq ≠ start) → r.seq = start →
       1 ≤ count → count ≤ 20 →
       let rs := (r :: after).take count
       exec (.readSamples tag (u32 start ++ u32 count)) s =
         .next (s.replied 0xE0 tag ([0x00] ++ u32 s.sms.newest ++ u32 s.sms.releaseMark ++ [BitVec.ofNat 8 rs.length] ++
           (rs.map SampleRecord.bytes).flatten))) ∧
     (count = 0 ∨ 20 < count ∨ (∀ x ∈ s.sms.ring, x.seq ≠ start) →
       exec (.readSamples tag (u32 start ++ u32 count)) s = .next (s.replied 0xE0 tag [0x05])) ∧
     (∀ q, q.length ≠ 8 → exec (.readSamples tag q) s = .next (s.replied 0xE0 tag [0x04]))) ∧
  (∀ s tag (r count delay : Nat), s.takesRequest → r < 4294967296 → count < 4294967296 → delay < 4294967296 →
     let p := u32 r ++ u32 count ++ u32 delay
     (∀ left, count ≤ 255 → delay ≤ 1000 →
       (r = s.sms.releaseMark ∧ left = s.sms.ring ∨
        r ≠ s.sms.releaseMark ∧ ∃ before x, s.sms.ring = before ++ x :: left ∧ x.seq = r ∧ ∀ y ∈ before, y.seq ≠ r) →
       ∃ t, exec (.release tag p) s = .next t ∧
         t.cli.replies = s.cli.replies ++
           [⟨0xE1, tag, [0x00] ++ u32 r ++ u32 s.sms.newest ++ u32 (1024 - left.length)⟩] ∧
         t.sms.ring = left ∧ t.sms.releaseMark = r ∧ t.sms.newest = s.sms.newest ∧
         t.sms.paceCount = (if count = 0 then s.sms.paceCount else count) ∧
         t.sms.paceDelay = (if delay = 0 then s.sms.paceDelay else delay) ∧
         t.sms.thinning = (if 1024 - left.length ≤ 16 ∧ s.sms.thinning < 2 then 2
           else if 17 ≤ 1024 - left.length ∧ 1024 - left.length ≤ 255 ∧ s.sms.thinning = 0 then 1
           else if 512 ≤ 1024 - left.length ∧ 0 < s.sms.thinning then 0 else s.sms.thinning) ∧
         t.sms.pacing = (if r = s.sms.newest then .waiting else .counting) ∧ t.sms.storedSinceRaise = 0 ∧
         t.sms.delayCount = 0 ∧ t.cli.pending.samples = false ∧ t.sms.recording = s.sms.recording ∧
         t.tsq = s.tsq ∧ t.drl = s.drl ∧ t.fcu = s.fcu ∧ t.glc = s.glc ∧ t.exm = s.exm ∧ t.evu = s.evu ∧ t.lmu = s.lmu) ∧
     (255 < count ∨ 1000 < delay ∨ r ≠ s.sms.releaseMark ∧ (∀ x ∈ s.sms.ring, x.seq ≠ r) →
       exec (.release tag p) s = .next (s.replied 0xE1 tag [0x05])) ∧
     (∀ q, q.length ≠ 12 → exec (.release tag q) s = .next (s.replied 0xE1 tag [0x04])))

/-- R176: Clear Trip: WRONG_STATE while the trip is CLEAR; STILL_ACTIVE, with the latched inputs still ASSERTED,
while there is one; else OK: latches and overload count cleared, CLEAR, the drive DISABLED, TRIP no longer
pending, the record kept. Any other length is BAD_LENGTH. -/
def Obligations.ClearTripClearsTheTrip : Prop :=
  ∀ s tag, s.takesRequest →
    (s.lmu.trip = .clear → exec (.clearTrip tag []) s = .next (s.replied 0xF3 tag [0x06])) ∧
    (s.lmu.trip = .latched →
      (∃ i, PerInputGet s.lmu.inputs i = ⟨.asserted, (PerInputGet s.lmu.inputs i).count, true⟩) →
      ∃ set : Byte,
        (∀ i : SafetyInput, set.getLsbD i.ctorIdx = true ↔
          (PerInputGet s.lmu.inputs i).latch = true ∧ (PerInputGet s.lmu.inputs i).level = .asserted) ∧
        exec (.clearTrip tag []) s = .next (s.replied 0xF3 tag [0x0C, set])) ∧
    (s.lmu.trip = .latched →
      (∀ i, (PerInputGet s.lmu.inputs i).latch = true → (PerInputGet s.lmu.inputs i).level = .inactive) →
      ∃ inputs,
        (∀ i, PerInputGet inputs i =
          ⟨(PerInputGet s.lmu.inputs i).level, (PerInputGet s.lmu.inputs i).count, false⟩) ∧
        exec (.clearTrip tag []) s =
          .next (({ s with
            lmu := { s.lmu with inputs := inputs, overloadCount := 0, trip := .clear }
            drl := { s.drl with state := .disabled, velocity := 0, dacCode := 0 }
            cli := { s.cli with pending := { s.cli.pending with trip := false } } } : State).replied
            0xF3 tag [0x00])) ∧
    (∀ p, p ≠ [] → exec (.clearTrip tag p) s = .next (s.replied 0xF3 tag [0x04]))

/-! ### A measured point -/

/-- R49, R68 to R71, R73, R74, R79: a completed conversion forms the next point: index, position, travel, force,
stress and strain source, and the index after it; the calibrated force is read off the line through the two
breakpoints around the count, or the first or last two outside them, or off the nominal line of the range; the first
point after the acceptance of a Start Test captures the travel zero and carries travel 0, whatever state the test is
in by then. What the requests hold (the specimen, the program, the hold points, the replies, the mask, the tables, the
frame configuration, the encoder count) stands. -/
def Obligations.ConversionFormsThePoint : Prop :=
  ∀ s c, s.inReset = false →
    let raw := clampTo (-8388607) 8388607 c.count
    let limited := clampTo (-20000000) 20000000
    let first := s.drl.captureZero
    ∃ t p, exec (.conversionComplete c) s = .next t ∧ t.latestPoint = some p ∧
      p.index = s.fcu.nextIndex ∧
      t.fcu.nextIndex = (if s.fcu.nextIndex = 4294967295 then 0 else s.fcu.nextIndex + 1) ∧
      p.position = clamp32 (divRound (s.drl.encoder.toInt * s.drl.frame.encoderScale) 100) ∧
      t.drl.captureZero = false ∧ (first = true → p.travel = 0 ∧ t.drl.travelZero = some s.drl.encoder) ∧
      (first = false → t.drl.travelZero = s.drl.travelZero ∧
        match s.drl.travelZero with
        | none => p.travel = p.position
        | some z => p.travel =
            clamp32 (p.position - clamp32 (divRound (z.toInt * s.drl.frame.encoderScale) 100))) ∧
      (s.fcu.discardPending = false → s.fcu.range = .a ∨ raw.natAbs < 8300000 →
        p.force = limited (t.fcu.calForce - s.fcu.tareOffset) ∧
        (s.fcu.tables.get s.fcu.range = none →
          t.fcu.calForce = limited (divRound (raw * divRound s.drl.frame.capacity (5 ^ s.fcu.range.ctorIdx)) 8000000)) ∧
        (∀ before b1 b2 rest, s.fcu.tables.get s.fcu.range = some (before ++ b1 :: b2 :: rest) →
          (before ++ b1 :: b2 :: rest).Pairwise (fun a b => a.count < b.count) →
          before = [] ∨ b1.count ≤ raw → rest = [] ∨ raw ≤ b2.count →
          t.fcu.calForce =
            limited (b1.force + divRound ((raw - b1.count) * (b2.force - b1.force)) (b2.count - b1.count))) ∧
        t.fcu.rawCount = raw ∧ p.flags.rangeChange = false ∧
        p.flags.overrange = decide (s.fcu.range = .a ∧ 8300000 ≤ raw.natAbs)) ∧
      (s.fcu.discardPending = true ∨ s.fcu.range ≠ .a ∧ 8300000 ≤ raw.natAbs →
        p.force = s.fcu.force ∧ t.fcu.calForce = s.fcu.calForce ∧ t.fcu.rawCount = s.fcu.rawCount ∧
        p.flags.rangeChange = true) ∧
      p.stress = (if s.area = 0 then 0 else divRound (p.force * 1000) s.area) ∧
      p.source = s.exm.source ∧ (p.source = .none → p.strain = 0 ∧ p.flags.noStrain = true) ∧
      p.flags.held = decide (s.tsq.state = .held) ∧
      t.tsq.specimen = s.tsq.specimen ∧ t.tsq.program = s.tsq.program ∧ t.tsq.load = s.tsq.load ∧
      t.tsq.holdPoints = s.tsq.holdPoints ∧ t.cli.replies = s.cli.replies ∧ t.cli.mask = s.cli.mask ∧
      t.cli.counters = s.cli.counters ∧ t.cli.receiver = s.cli.receiver ∧ t.drl.frame = s.drl.frame ∧
      t.drl.encoder = s.drl.encoder ∧ t.fcu.tables = s.fcu.tables ∧ t.pending = s.pending

/-- R69, R70, R72: after its point is formed, a used count above 7,200,000, or one of at least 8,300,000 that is not
used, switches ranges B to D up; outside a test 200 used counts in a row below 1,200,000 switch A to C down (after the
classifier has used the point: DEDUCED, log 37). A switch discards the next conversion and empties the history. R81,
R82, R84: a used point joins the history; with 16 forces in it, it is classified by its force, its slope and the sign
changes along the 17 forces, differences of 0 passed over; the level timer counts in QUIET and LEVEL, sets the settled
flag when it expires, and a move out of them clears the flag. R85: the unrest timer counts in FALLING and ERRATIC,
produces an unrest event at each expiry, and is reloaded on leaving them. R78: a tare wait takes the tare on the point
that finds the force settled, else counts, and ends NOT_SETTLED with the old offset on its 20,000th point. R149, R35: an
unrest event on a point that the Evaluation Unit takes in ELASTIC counts one slip, with SLIP, and the slip action
follows on the same point: CONTINUE nothing, HOLD a RUNNING test held SLIP, its segment time as it was (DEDUCED, log
48), ABORT a RUNNING or HELD test ending ABORTED; any other event counts none. -/
def Obligations.RangeAndClassifierOnAPoint : Prop :=
  (∀ s c, s.inReset = false →
     let raw := clampTo (-8388607) 8388607 c.count
     let discarded := s.fcu.discardPending = true
     let overrange := ¬ discarded ∧ s.fcu.range ≠ .a ∧ 8300000 ≤ raw.natAbs
     let used := ¬ discarded ∧ ¬ overrange
     let counted := if s.fcu.range ≠ .d ∧ raw.natAbs < 1200000 then s.fcu.downCount + 1 else 0
     let up := overrange ∨ used ∧ s.fcu.range ≠ .a ∧ 7200000 < raw.natAbs
     let down := used ∧ ¬ up ∧ s.inTest = false ∧ 200 ≤ counted
     ∃ t p, exec (.conversionComplete c) s = .next t ∧ t.latestPoint = some p ∧
       (up → t.fcu.range = (match s.fcu.range with
         | .a => .a
         | .b => .a
         | .c => .b
         | .d => .c)) ∧
       (down → t.fcu.range = (match s.fcu.range with
         | .a => .b
         | .b => .c
         | .c => .d
         | .d => .d)) ∧
       (up ∨ down → t.fcu.discardPending = true ∧ t.fcu.history = [] ∧ t.fcu.slope = 0 ∧ t.fcu.downCount = 0 ∧
         t.fcu.rangeChanges = min 65535 (s.fcu.rangeChanges + 1) ∧ t.cli.notices.rangeChanged = true ∧
         t.cli.pending.notice = true) ∧
       (¬ up → ¬ down → t.fcu.range = s.fcu.range ∧ t.fcu.discardPending = false ∧
         t.fcu.rangeChanges = s.fcu.rangeChanges ∧
         (discarded → t.fcu.downCount = s.fcu.downCount) ∧
         (used → t.fcu.downCount = (if s.inTest = true then 0 else counted)) ∧
         (used → s.fcu.history.length < 16 → t.fcu.history = s.fcu.history ++ [p.force]) ∧
         (used → s.fcu.history.length = 16 → t.fcu.history = s.fcu.history.drop 1 ++ [p.force]) ∧
         (discarded → t.fcu.history = s.fcu.history)) ∧
       (¬ used ∨ s.fcu.history.length < 16 → t.fcu.classifier = s.fcu.classifier) ∧
       (∀ oldest rest, used → s.fcu.history = oldest :: rest → rest.length = 15 →
         let forces := s.fcu.history ++ [p.force]
         let steps := (List.zipWith (fun a b => b - a) forces (forces.drop 1)).filter (· ≠ 0)
         let changes := (List.zipWith (fun a b => decide (a < 0 ↔ 0 < b)) steps (steps.drop 1)).count true
         let slope := p.force - oldest
         let limit := s.drl.frame.slopeThreshold
         (¬ up → ¬ down → t.fcu.slope = slope) ∧
         t.fcu.classifier =
           (if p.force.natAbs < s.drl.frame.quietThreshold then .quiet
            else if 8 ≤ changes ∧ slope.natAbs ≤ 4 * limit then .erratic
            else if (limit : Int) < slope then .rising
            else if slope < -(limit : Int) then .falling
            else .level)) ∧
       (let steady : Classifier → Prop := fun x => x = .quiet ∨ x = .level
        let l := s.fcu.levelTimer
        (steady s.fcu.classifier → steady t.fcu.classifier →
          (2 ≤ l.prescale → t.fcu.settled = s.fcu.settled ∧ t.fcu.levelTimer = ⟨l.p, l.c, l.prescale - 1, l.ticks⟩) ∧
          (l.prescale < 2 → 2 ≤ l.ticks →
            t.fcu.settled = s.fcu.settled ∧ t.fcu.levelTimer = ⟨l.p, l.c, l.p, l.ticks - 1⟩) ∧
          (l.prescale < 2 → l.ticks < 2 → t.fcu.settled = true ∧ t.fcu.levelTimer = ⟨l.p, l.c, l.p, l.c⟩)) ∧
        (¬ steady s.fcu.classifier → steady t.fcu.classifier →
          t.fcu.settled = s.fcu.settled ∧ t.fcu.levelTimer = ⟨l.p, l.c, l.p, l.c⟩) ∧
        (steady s.fcu.classifier → ¬ steady t.fcu.classifier → t.fcu.settled = false ∧ t.fcu.levelTimer = l) ∧
        (¬ steady s.fcu.classifier → ¬ steady t.fcu.classifier → t.fcu.settled = s.fcu.settled ∧ t.fcu.levelTimer = l)) ∧
       (let restless : Classifier → Prop := fun x => x = .falling ∨ x = .erratic
        let u := s.fcu.unrestTimer
        let reloaded : Timer := ⟨u.p, u.c, u.p, u.c⟩
        (restless t.fcu.classifier →
          (2 ≤ u.prescale → t.fcu.unrestTimer = ⟨u.p, u.c, u.prescale - 1, u.ticks⟩ ∧
            t.fcu.unrestEvents = s.fcu.unrestEvents) ∧
          (u.prescale < 2 → 2 ≤ u.ticks → t.fcu.unrestTimer = ⟨u.p, u.c, u.p, u.ticks - 1⟩ ∧
            t.fcu.unrestEvents = s.fcu.unrestEvents) ∧
          (u.prescale < 2 → u.ticks < 2 → t.fcu.unrestTimer = reloaded ∧
            t.fcu.unrestEvents = min 65535 (s.fcu.unrestEvents + 1))) ∧
        (¬ restless t.fcu.classifier → t.fcu.unrestEvents = s.fcu.unrestEvents ∧
          (restless s.fcu.classifier → t.fcu.unrestTimer = reloaded) ∧
          (¬ restless s.fcu.classifier → t.fcu.unrestTimer = u))) ∧
       (let closed := t.fcu.tareWait = none ∧ t.cli.notices.tareDone = true ∧ t.cli.pending.notice = true
        (∀ n, s.fcu.tareWait = some n → s.tsq.state ≠ .starting →
          (t.fcu.settled = true → closed ∧ t.fcu.tareOffset = t.fcu.calForce ∧ t.fcu.tareOutcome = .ok) ∧
          (t.fcu.settled = false → n + 1 < 20000 → t.fcu.tareWait = some (n + 1) ∧
            t.fcu.tareOffset = s.fcu.tareOffset ∧ t.fcu.tareOutcome = s.fcu.tareOutcome) ∧
          (t.fcu.settled = false → 20000 ≤ n + 1 → closed ∧
            t.fcu.tareOffset = s.fcu.tareOffset ∧ t.fcu.tareOutcome = .notSettled)) ∧
        (s.fcu.tareWait = none → t.fcu.tareWait = none ∧
          (s.tsq.state ≠ .starting →
            t.fcu.tareOffset = s.fcu.tareOffset ∧ t.fcu.tareOutcome = s.fcu.tareOutcome)))) ∧
  (∀ s c r, s.evaluates c → s.evu.phase ≠ .fractured → s.evu.result = some r →
     ∃ t r', exec (.conversionComplete c) s = .next t ∧ t.evu.result = some r' ∧
       let event := (t.fcu.classifier = .falling ∨ t.fcu.classifier = .erratic) ∧
         s.fcu.unrestTimer.prescale < 2 ∧ s.fcu.unrestTimer.ticks < 2
       let slips := event ∧ t.evu.phase = .elastic
       (¬ slips → r'.slipCount = r.slipCount ∧ t.cli.notices.slip = s.cli.notices.slip) ∧
       (slips → r'.slipCount = min 65535 (r.slipCount + 1) ∧ t.cli.notices.slip = true ∧ t.cli.pending.notice = true ∧
         (s.tsq.state = .ending → t.tsq = s.tsq) ∧
         (s.header.slipAction = .hold → s.tsq.state = .running → s.drl.state = .running →
           s.drl.frame.softMin < s.drl.position → s.drl.position < s.drl.frame.softMax →
           t.tsq = { s.tsq with
             state := .held, heldReason := some .slip, heldAt := none, startStep := none, resumeEntry := none } ∧
           t.drl.state = .holding ∧ t.drl.velocity = 0 ∧ t.drl.dacCode = 0 ∧ t.cli.pending.held = true) ∧
         (s.header.slipAction = .hold → s.tsq.state = .held → s.tsq.resumeEntry = none → t.tsq = s.tsq) ∧
         (s.header.slipAction = .abort → s.tsq.state = .running ∧ s.drl.state = .running ∨
             s.tsq.state = .held ∧ (s.drl.state = .holding ∨ s.drl.state = .idle ∨ s.drl.state = .stopping) →
           t.tsq.state = .ending ∧ t.tsq.pendingEnd = some .aborted ∧ t.drl.state = .stopping ∨
           t.tsq.state = .ended ∧ t.tsq.endReason = some .aborted ∧ t.drl.state = .idle)))

/-- R45, R47, R50 to R54, R62, R170, R171: with nothing moving and no test, a point on which no cause of a trip is
found changes neither the drive's state nor its command, and latches no trip. R62: a move within 10 units of its target
ends REACHED on the point: IDLE with command 0, the target absent, and MOVE_DONE. Farther away the command follows the smaller of
the move's speed and the braking speed, within amax or the stop deceleration, and is written; R64: where it points
outward at a soft limit the move takes its first deceleration step instead, with outcome LIMIT. R57: a point in
STOPPING slows the command; at 0 the drive is IDLE, which ends a move (R63) and a test in ENDING (R38), while a test
HELD stays HELD (R31, R34). R45: a point in ENABLING takes DRIVE_READY first, then the wait. -/
def Obligations.DriveOnAPoint : Prop :=
  (∀ s c, s.calm c → s.inTest = false → s.drl.state = .idle ∨ s.drl.state = .disabled → s.drl.velocity = 0 →
     s.sms.recording = false →
     ∃ t, exec (.conversionComplete c) s = .next t ∧ t.drl.state = s.drl.state ∧ t.drl.velocity = 0 ∧
       t.drl.dacCode = s.drl.dacCode ∧ t.lmu.trip = s.lmu.trip ∧ t.lmu.record = s.lmu.record ∧ t.tsq = s.tsq ∧
       t.evu = s.evu ∧ t.sms.ring = s.sms.ring) ∧
  (∀ s c target, s.calm c → s.inTest = false → s.drl.state = .moving → s.drl.moveTarget = some target →
     (target - s.drl.position).natAbs ≤ 10 →
     ∃ t, exec (.conversionComplete c) s = .next t ∧ t.drl.state = .idle ∧ t.drl.velocity = 0 ∧ t.drl.dacCode = 0 ∧
       t.drl.moveTarget = none ∧ t.drl.moveOutcome = some .reached ∧ t.cli.notices.moveDone = true ∧
       t.cli.pending.notice = true) ∧
  (∀ s c target (r : Nat), s.calm c → s.inTest = false → s.drl.state = .moving → s.drl.moveTarget = some target →
     let d := target - s.drl.position
     10 < d.natAbs → r < 2 ^ 40 → r * r ≤ 2 * s.drl.frame.stopDecel * d.natAbs →
     2 * s.drl.frame.stopDecel * d.natAbs < (r + 1) * (r + 1) →
     let speed : Int := (min s.drl.moveSpeed r : Nat)
     let wanted := if d < 0 then -speed else speed
     let falls := wanted.natAbs < s.drl.velocity.natAbs ∧ (wanted = 0 ∨ (s.drl.velocity < 0 ↔ wanted < 0))
     ∃ t v, exec (.conversionComplete c) s = .next t ∧ t.tsq = s.tsq ∧
       (falls → v = s.limitedCommand (divRound s.drl.frame.stopDecel 2000) wanted) ∧
       (¬ falls → v = s.limitedCommand (divRound s.drl.frame.maxAccel 2000) wanted) ∧
       (¬ s.atSoftLimit s.drl.position v →
         t.drl.state = .moving ∧ t.drl.velocity = v ∧ t.drl.dacCode = divRound (v * 131071) s.drl.frame.fullScaleSpeed ∧
         t.drl.moveTarget = some target ∧ t.drl.moveOutcome = s.drl.moveOutcome) ∧
       (s.atSoftLimit s.drl.position v →
         s.slowedTo t ∧ t.drl.moveOutcome = some .limit ∧ t.cli.notices.limitStop = true ∧ t.cli.pending.notice = true ∧
         (t.drl.state = .stopping → t.drl.moveTarget = some target) ∧
         (t.drl.state = .idle → t.drl.moveTarget = none ∧ t.cli.notices.moveDone = true))) ∧
  (∀ s c, s.calm c → s.drl.state = .stopping → s.inTest = false ∨ s.tsq.state = .ending →
     ∃ t, exec (.conversionComplete c) s = .next t ∧ s.slowedTo t ∧
       (t.drl.state = .stopping → t.drl.moveTarget = s.drl.moveTarget ∧ t.tsq = s.tsq) ∧
       (t.drl.state = .idle → s.drl.moveTarget.isSome = true →
         t.drl.moveTarget = none ∧ t.cli.notices.moveDone = true ∧ t.tsq = s.tsq) ∧
       (∀ why, t.drl.state = .idle → s.drl.moveTarget = none → s.tsq.state = .ending → s.tsq.pendingEnd = some why →
         t.tsq.state = .ended ∧ t.tsq.endReason = some why ∧ t.tsq.currentSegment = none ∧ t.tsq.segmentTime = 0 ∧
         t.drl.mode = none ∧ t.drl.frozen = false ∧ t.cli.pending.testEnd = true)) ∧
  (∀ s c, s.calm c → s.drl.state = .stopping → s.tsq.state = .held → s.tsq.resumeEntry = none →
     s.header.slipAction ≠ .abort →
     ∃ t, exec (.conversionComplete c) s = .next t ∧
       (s.evu.phase = .fractured ∨ t.evu.phase ≠ .fractured →
         s.slowedTo t ∧ t.tsq = s.tsq ∧ t.drl.mode = s.drl.mode ∧ t.drl.rate = s.drl.rate)) ∧
  (∀ s c, s.calm c → s.inTest = false → s.drl.state = .enabling → ∃ t, exec (.conversionComplete c) s = .next t ∧ t.tsq = s.tsq ∧
       t.drl.enableWait = s.drl.enableWait + 1 ∧ t.drl.readyLevel = c.driveReady ∧
       (c.driveReady = true → t.drl.state = .idle ∧ t.drl.velocity = 0 ∧ t.drl.dacCode = 0) ∧
       (c.driveReady = false → s.drl.enableWait + 1 < 1000 → t.drl.state = .enabling ∧ t.drl.velocity = s.drl.velocity) ∧
       (c.driveReady = false → 1000 ≤ s.drl.enableWait + 1 →
         t.drl.state = .disabled ∧ t.drl.velocity = 0 ∧ t.drl.dacCode = 0 ∧ t.driveEnable = false ∧
         t.cli.notices.driveNotReady = true ∧ t.cli.pending.notice = true))

/-- R47, R59, R170 to R174, R65: the causes of a trip that a point finds. DRIVE_READY deasserted in a drive state that
watches it; a fourth readback in a row more than 2 % from the command held, the count of misses rising to 3, falling to
0 with a readback that agrees and with the report; DRIVE_FAULT; a force beyond the overload limit on a second point in a
row. In CLEAR the first cause found latches the trip with the point, the others join its further causes; the drive is
TRIPPED with command 0 and the enable off, a move in flight ends with MOVE_DONE, a test in progress is ENDED. In LATCHED
each cause joins the further causes unless it is the first. A point that finds none changes neither. The order of the
four is the model's choice (log 13): the causes of the Drive Loop come before the rest of the point, whose test ends
TRIPPED, those of the Limit Monitor after it, for it takes the point after the Test Sequencer (DESIGN CHOICE, log 11),
so that a test which the point has ended otherwise keeps its end. That DRIVE_READY is sampled on every point, in DISABLED
and TRIPPED too, is log 50, and that a move which is already being stopped loses its target with MOVE_DONE and keeps its
outcome is log 22 (both DEDUCED). -/
def Obligations.TripCausesFoundOnAPoint : Prop :=
  ∀ s c, s.inReset = false →
    ∃ t p, exec (.conversionComplete c) s = .next t ∧ t.latestPoint = some p ∧
      let beyond := s.drl.frame.overloadLimit < p.force.natAbs
      let found : TripCause → Prop := fun k =>
        match k with
        | .driveReadyLost => c.driveReady = false ∧ ¬ s.readyUnwatched
        | .commandReadback => s.misread c ∧ 3 ≤ s.drl.mismatches
        | .driveFault => c.driveFault = true
        | .overload => beyond ∧ s.lmu.overloadCount ≠ 0
        | .estop | .guardOpen | .upperLimit | .lowerLimit => False
      let byDrive := found .driveReadyLost ∨ found .commandReadback
      let order : List TripCause := [.driveReadyLost, .commandReadback, .driveFault, .overload]
      t.drl.readyLevel = c.driveReady ∧ t.lmu.driveFault = (if c.driveFault = true then .asserted else .inactive) ∧
      t.lmu.inputs = s.lmu.inputs ∧
      (¬ s.misread c → t.drl.mismatches = 0) ∧
      (s.misread c → s.drl.mismatches < 3 → t.drl.mismatches = s.drl.mismatches + 1) ∧
      (s.misread c → 3 ≤ s.drl.mismatches → t.drl.mismatches = 0) ∧
      (¬ beyond → t.lmu.overloadCount = 0) ∧ (beyond → s.lmu.overloadCount ≤ 1 → t.lmu.overloadCount = 1) ∧
      ((∀ k, ¬ found k) →
        t.lmu.trip = s.lmu.trip ∧ t.lmu.record = s.lmu.record ∧ t.lmu.trips = s.lmu.trips ∧
        t.cli.pending.trip = s.cli.pending.trip) ∧
      (∀ k before after, s.lmu.trip = .clear → order = before ++ k :: after → (∀ j ∈ before, ¬ found j) → found k →
        t.lmu.trip = .latched ∧ t.lmu.trips = min 65535 (s.lmu.trips + 1) ∧ t.cli.pending.trip = true ∧
        (∃ r, t.lmu.record = some r ∧ r.first = k ∧ r.point = some ⟨p.index, p.force, p.travel⟩ ∧
          ∀ j : TripCause, r.further.getLsbD j.ctorIdx = true ↔ found j ∧ j ≠ k) ∧
        t.drl.state = .tripped ∧ t.drl.velocity = 0 ∧ t.drl.dacCode = 0 ∧ t.driveEnable = false ∧
        t.drl.moveTarget = none ∧ (byDrive → s.drl.state = .moving → t.drl.moveOutcome = some .tripped) ∧
        (s.drl.moveTarget.isSome = true → t.cli.notices.moveDone = true ∧ t.cli.pending.notice = true) ∧
        (s.inTest = false → t.tsq = s.tsq) ∧
        (s.inTest = true → t.tsq.state = .ended ∧ t.cli.pending.testEnd = true ∧ t.drl.mode = none ∧
          (byDrive → t.tsq.endReason = some .tripped)) ∧
        (¬ byDrive →
          ∃ u, exec (.conversionComplete { c with driveFault := false })
              { s with lmu := { s.lmu with overloadCount := 0 } } = .next u ∧ t.fcu = u.fcu ∧
            (u.inTest = true → t.tsq.endReason = some .tripped) ∧ (u.inTest = false → t.tsq = u.tsq))) ∧
      (∀ r, s.lmu.trip = .latched → s.lmu.record = some r →
        t.lmu.trip = .latched ∧ t.lmu.trips = s.lmu.trips ∧ t.cli.pending.trip = s.cli.pending.trip ∧
        (s.drl.state = .tripped → t.drl.state = .tripped ∧ t.drl.velocity = s.drl.velocity) ∧
        ∃ r', t.lmu.record = some r' ∧ r'.first = r.first ∧ r'.point = r.point ∧
          ∀ j : TripCause, r'.further.getLsbD j.ctorIdx = true ↔
            r.further.getLsbD j.ctorIdx = true ∨ found j ∧ j ≠ r.first)

/-- R50 to R54, R58, R64: a point of a RUNNING test moves a drive in RUNNING by its mode. The freeze decision is taken
on the error of the setpoint as it stands; the setpoint advances by the ramp unless frozen; the law forms the command,
limited by amax and clamped. R56: the first estimated point after a handover in STRAIN_RATE takes the setpoint to its
strain with remainder 0 (that the ramp does not act on it: DEDUCED, log 41). While the test goes on in its segment the
command is written; where it points outward at a soft limit the drive takes its first deceleration step instead and the
test is held. R50: over 2,000 points on which the setpoint is not frozen the ramp moves it by exactly the rate, and the
remainder returns to what it was. -/
def Obligations.RunningDriveFollowsItsSegment : Prop :=
  (∀ s c m, s.calm c → s.tsq.state = .running → s.drl.state = .running → s.drl.mode = some m →
     ∃ t p v sp rem, ∃ frozen : Bool, exec (.conversionComplete c) s = .next t ∧ t.latestPoint = some p ∧
       let f := s.drl.frame
       let q := p.value m
       let limit := match m with
         | .positionRate | .dwell => f.followPosition
         | .strainRate => f.followStrain
         | .stressRate => f.followStress
       let transfer := m = .strainRate ∧ p.source = .estimated ∧ s.latest.source ≠ .estimated ∧
         s.exm.removal = .handedOver
       let error := (if transfer then p.strain else s.drl.setpoint) - q
       (frozen = true ↔ limit ≠ 0 ∧
         (s.drl.frozen = true ∧ limit < 2 * error.natAbs ∨ s.drl.frozen = false ∧ limit < error.natAbs)) ∧
       (transfer → sp = p.strain ∧ rem = 0) ∧
       (¬ transfer → frozen = true → sp = s.drl.setpoint ∧ rem = s.drl.remainder) ∧
       (¬ transfer → frozen = false → sp = s.drl.setpoint + (s.drl.remainder + s.drl.rate).tdiv 2000 ∧
         rem = (s.drl.remainder + s.drl.rate).tmod 2000) ∧
       v = s.limitedCommand (divRound f.maxAccel 2000) (match m with
         | .positionRate | .dwell => s.drl.rate + (f.kp * (sp - q)).tdiv 256
         | .strainRate => s.drl.velocity + (f.ks * (sp - q)).tdiv 256
         | .stressRate => s.drl.velocity + (f.kf * (sp - q)).tdiv 256) ∧
       (s.drl.frozen = false → frozen = true → t.cli.notices.following = true ∧ t.cli.pending.notice = true) ∧
       (s.atSoftLimit p.position v →
         s.slowedTo t ∧ t.cli.notices.limitStop = true ∧ t.cli.pending.notice = true ∧ t.cli.pending.held = true ∧
         t.tsq.state ≠ .running ∧ (t.tsq.state = .held → t.tsq.heldReason = some .limit)) ∧
       (¬ s.atSoftLimit p.position v → t.tsq.state = .running → t.tsq.segmentTime = s.tsq.segmentTime + 1 →
         t.drl.state = .running ∧ t.drl.velocity = v ∧ t.drl.dacCode = divRound (v * 131071) f.fullScaleSpeed ∧
         t.drl.setpoint = sp ∧ t.drl.remainder = rem ∧ t.drl.frozen = frozen ∧ t.drl.mode = some m ∧
         t.drl.rate = s.drl.rate)) ∧
  (∀ d : Drl, d.frozen = false → d.remainder.natAbs ≤ 1999 → d.remainder * d.rate ≥ 0 →
     (Drl.ramp^[2000] d).setpoint = d.setpoint + d.rate ∧ (Drl.ramp^[2000] d).remainder = d.remainder)

/-- R22 to R25, R27: what a point does to a test in STARTING. The point that begins the wait for the tare is not counted
in it (DEDUCED, log 16). On the first point, and in the step TARE, the tare is
taken when the load is settled, or the step waits, up to 20,000 points, after which the start fails. The step done, the
start step is ZERO with the first head's ZERO asked for, or ENTRY. In ZERO a point changes nothing of the test. In
ENTRY the test begins on the point: the test's heads measure, the strain source follows, the phase is ELASTIC,
TEST_START is stored, and segment 0 is entered on it, or held at as a hold point. -/
def Obligations.StartStepsOnAPoint : Prop :=
  ∀ s c, s.calm c → s.tsq.state = .starting → s.drl.state = .idle → s.fcu.tareWait = none →
    ∃ t p, exec (.conversionComplete c) s = .next t ∧ t.latestPoint = some p ∧
      let begins := s.tsq.startStep = none
      let waits := s.tsq.startStep = some .tare
      let wanted := waits ∨ begins ∧ s.header.tareAtStart = true
      let done := begins ∧ s.header.tareAtStart = false ∨ wanted ∧ t.fcu.settled = true
      let front := s.header.zeroAtStart = true ∧ s.exm.heads.front.testHead = true
      let rear := s.header.zeroAtStart = true ∧ s.exm.heads.front.testHead = false ∧ s.exm.heads.rear.testHead = true
      (wanted → t.fcu.settled = true → t.fcu.tareOffset = t.fcu.calForce ∧ t.fcu.tareOutcome = .ok) ∧
      (¬ (wanted ∧ t.fcu.settled = true) → t.fcu.tareOffset = s.fcu.tareOffset) ∧
      (begins → wanted → t.fcu.settled = false →
        t.tsq = { s.tsq with startStep := some .tare, startTareCount := 0 }) ∧
      (waits → t.fcu.settled = false → s.tsq.startTareCount + 1 < 20000 →
        t.tsq = { s.tsq with startTareCount := s.tsq.startTareCount + 1 }) ∧
      (waits → t.fcu.settled = false → 20000 ≤ s.tsq.startTareCount + 1 →
        t.tsq.state = .ended ∧ t.tsq.endReason = some .startFailed ∧ t.tsq.startCause = some .tareNotSettled ∧
        t.fcu.tareOutcome = .notSettled ∧ t.cli.pending.testEnd = true) ∧
      (done → t.tsq.state = .starting) ∧
      (done → front → t.tsq.startStep = some .zero ∧ t.exm.zeroAsked = some .front ∧ t.glc.stands .front .zero = true) ∧
      (done → rear → t.tsq.startStep = some .zero ∧ t.exm.zeroAsked = some .rear ∧ t.glc.stands .rear .zero = true) ∧
      (done → ¬ front → ¬ rear → t.tsq.startStep = some .entry) ∧
      (s.tsq.startStep = some .zero → t.tsq = s.tsq) ∧
      (s.tsq.startStep = some .entry →
        t.evu.phase = .elastic ∧
        (∃ r rest, t.sms.ring = s.sms.ring ++ r :: rest ∧ r.kind = .testStart ∧ r.segment = none ∧
          r.seq = nextSeq s.sms.newest ∧ r.point.index = p.index ∧ r.point.travel = p.travel ∧ r.point.force = p.force) ∧
        (∀ h, (s.exm.heads.get h).testHead = true → (s.exm.heads.get h).state = .clamped →
          (t.exm.heads.get h).state = .measuring ∧ t.exm.source = .extensometer ∧ t.exm.removal = .watching) ∧
        ((∀ h, (s.exm.heads.get h).testHead = false ∧ (s.exm.heads.get h).state ≠ .measuring) →
          t.exm.source = .estimated ∧ t.exm.removal = .closed) ∧
        (∀ g, s.tsq.holdPoints.getLsbD 0 = false → s.segments[0]? = some g →
          s.enteredOn t 0 g p ∧ t.drl.velocity = s.drl.velocity ∧ t.drl.dacCode = s.drl.dacCode) ∧
        (s.tsq.holdPoints.getLsbD 0 = true →
          t.tsq = { s.tsq with
            state := .held, heldReason := some .holdPoint, heldAt := some 0, startStep := none, resumeEntry := none } ∧
          t.drl.state = .holding ∧ t.drl.velocity = 0 ∧ t.drl.dacCode = 0 ∧ t.cli.pending.held = true))

/-- R27 to R30, R34, R37, R38: what a point does to a RUNNING test whose slip action is CONTINUE, inside the soft
limits. Segment time grows by 1, also on the fracture point, which is taken in RUNNING and ends the test FRACTURE; that
the fracture point counts is the model's reading (DEDUCED, log 48).
Otherwise, where no end condition of the segment is met, nothing else of the test changes; where one is, the on-end
action follows: the next segment is entered on the point or held at, the test is held ON_END, or it ends COMPLETE.
Ending goes through ENDING, or to ENDED at once where the drive's command is 0. A point of a HELD test enters the
segment that a taken Resume waits for (log 15), ends the test FRACTURE, or changes nothing; that the entry which a Resume
of an ON_END hold has noted does not consult the hold-point set again on its point is the model's reading (DEDUCED, log
49). -/
def Obligations.RunningTestOnAPoint : Prop :=
  (∀ s c i g, s.calm c → s.tsq.state = .running → s.tsq.currentSegment = some i → s.segments[i]? = some g →
     s.header.slipAction = .carryOn → s.evu.phase ≠ .fractured → s.drl.state = .running →
     s.drl.frame.softMin < s.drl.position → s.drl.position < s.drl.frame.softMax →
     ∃ t p, exec (.conversionComplete c) s = .next t ∧ t.latestPoint = some p ∧
       let time := s.tsq.segmentTime + 1
       let met := ∃ x ∈ g.conditions, x.metOn p time t.evu.phase t.fcu.settled
       let held : HeldReason → Option Nat → Prop := fun why at_ =>
         t.tsq = { s.tsq with
           state := .held, segmentTime := time, heldReason := some why, heldAt := at_, startStep := none
           resumeEntry := none } ∧
         t.drl.state = .holding ∧ t.drl.velocity = 0 ∧ t.drl.dacCode = 0 ∧ t.cli.pending.held = true
       let ends : EndReason → Prop := fun why =>
         t.tsq.state = .ending ∧ t.tsq.pendingEnd = some why ∧ t.tsq.segmentTime = time ∧ t.drl.state = .stopping ∨
         t.tsq.state = .ended ∧ t.tsq.endReason = some why ∧ t.drl.state = .idle
       (t.evu.phase = .fractured → ends .fracture) ∧
       (t.evu.phase ≠ .fractured → ¬ met → t.tsq = { s.tsq with segmentTime := time }) ∧
       (t.evu.phase ≠ .fractured → met →
         (g.onEnd = .hold → held .onEnd none) ∧
         (g.onEnd = .endTest → ends .complete) ∧
         (g.onEnd = .next → s.segments.length ≤ i + 1 → ends .complete) ∧
         (g.onEnd = .next → i + 1 < s.segments.length → s.tsq.holdPoints.getLsbD (i + 1) = true →
           held .holdPoint (some (i + 1))) ∧
         (∀ g', g.onEnd = .next → s.segments[i + 1]? = some g' → s.tsq.holdPoints.getLsbD (i + 1) = false →
           s.enteredOn t (i + 1) g' p))) ∧
  (∀ s c, s.calm c → s.tsq.state = .held → s.header.slipAction = .carryOn → s.evu.phase ≠ .fractured →
     s.drl.state = .holding ∨ s.drl.state = .idle →
     ∃ t p, exec (.conversionComplete c) s = .next t ∧ t.latestPoint = some p ∧
       (t.evu.phase = .fractured → t.tsq.state = .ended ∧ t.tsq.endReason = some .fracture ∧ t.drl.state = .idle) ∧
       (t.evu.phase ≠ .fractured → s.tsq.resumeEntry = none → t.tsq = s.tsq ∧ t.drl.state = s.drl.state) ∧
       (∀ j g, t.evu.phase ≠ .fractured → s.tsq.resumeEntry = some j → s.segments[j]? = some g → s.enteredOn t j g p))

/-- R118 to R120, R122, R123: a point judges each configured head's newest value, and its strain is formed by the strain
source. From two measuring heads it is the mean of two fresh values, the one fresh value with ONE_SIDED, or the mean of
the held values; from one, its own value, ONE_SIDED where the test has two heads. Held values carry
STRAIN_SUBSTITUTED or STRAIN_CARRIED. A point with fresh extensometer strain joins the window, from which the oldest
entry leaves when it is full. Estimated strain continues by the transfer ratio; frozen strain stands. -/
def Obligations.StrainIsFormedOnAPoint : Prop :=
  ∀ s c, s.inReset = false →
    ∃ t p, exec (.conversionComplete c) s = .next t ∧ t.latestPoint = some p ∧
      let f := s.exm.heads.front
      let r := s.exm.heads.rear
      let le : Int := s.gaugeLength
      let limited := clampTo (-2000000) 2000000
      let one : HeadEntry → Int := fun e => limited (divRound (e.lastGood * 1000) le)
      let two := limited (divRound ((f.lastGood + r.lastGood) * 1000) (2 * le))
      let flagged : Bool → Bool → Bool → Prop := fun substituted carried oneSided =>
        p.flags.substituted = substituted ∧ p.flags.carried = carried ∧ p.flags.oneSided = oneSided ∧
        p.flags.estimated = false ∧ p.flags.frozen = false ∧ p.flags.noStrain = false
      let whole := f.testHead && r.testHead
      let measures : HeadEntry → Prop := fun e => e.state = .measuring
      (∀ h, (t.exm.heads.get h).freshness = (s.exm.heads.get h).judged ∧
        ((s.exm.heads.get h).configured = true →
          (t.exm.heads.get h).readOk = false ∧ (t.exm.heads.get h).readFailed = false)) ∧
      (s.exm.source = .extensometer → measures f → measures r →
        (f.judged = .fresh → r.judged = .fresh → p.strain = two ∧ flagged false false false) ∧
        (f.judged = .fresh → r.judged ≠ .fresh → p.strain = one f ∧ flagged false false true) ∧
        (f.judged ≠ .fresh → r.judged = .fresh → p.strain = one r ∧ flagged false false true) ∧
        (f.judged ≠ .fresh → r.judged ≠ .fresh → f.judged = .substituted ∨ r.judged = .substituted →
          p.strain = two ∧ flagged true false false) ∧
        (f.judged = .carried → r.judged = .carried → p.strain = two ∧ flagged false true false)) ∧
      (∀ h, s.exm.source = .extensometer → measures (s.exm.heads.get h) →
        ¬ measures (s.exm.heads.get (if h = .front then .rear else .front)) →
        let e := s.exm.heads.get h
        p.strain = one e ∧ flagged (decide (e.judged = .substituted)) (decide (e.judged = .carried)) whole) ∧
      (s.exm.source = .estimated →
        p.strain = limited (match s.exm.ratio with
          | none => divRound (p.travel * 10000) s.parallelLength
          | some x => match x.kind with
            | .window => x.strainH + divRound ((p.travel - x.travelH) * x.deltaStrain) x.deltaTravel
            | .nominal => x.strainH + divRound ((p.travel - x.travelH) * 10000) s.parallelLength) ∧
        p.flags.estimated = true ∧ p.flags.noStrain = false) ∧
      (∀ x, s.exm.source = .frozen → s.exm.frozenStrain = some x → p.strain = x ∧ p.flags.frozen = true) ∧
      (let w := s.header.windowLength
       let joins := s.exm.source = .extensometer ∧ p.flags.substituted = false ∧ p.flags.carried = false ∧
         p.flags.noStrain = false
       (joins → 1 ≤ w → t.exm.window =
         (s.exm.window ++ [(p.travel, p.strain)]).drop (s.exm.window.length + 1 - w)) ∧
       (¬ joins → t.exm.window = s.exm.window))

/-! ### Events of the Force Unit, the Drive Loop, the Sample Store and the Test Sequencer -/

/-- R83: a timer just reloaded expires on its P x C-th point and on none before, and is then reloaded. R84, R85, R78,
R149: the level timer's expiry sets the settled flag and takes the tare that waits, and the unrest timer's produces an
unrest event, each with its reload, in the states in which the timer runs; a slip is counted for it in the ELASTIC phase
of a test, and R35's slip action follows: CONTINUE nothing, HOLD a RUNNING test held SLIP, ABORT a RUNNING or HELD test
ended. R70, R72: the down-range count reaching 200 outside a test, in ranges A to C, switches the range down with the
effects of a range change. That an expiry or a count in any other state changes nothing, and that no count is checked,
is the model's choice (log 3); so is that the level timer's row alone takes the tare wait of R78 at once and leaves a
start-time tare (R22) to the next point (log 53). -/
def Obligations.ForceEvents : Prop :=
  (∀ p c : Nat, 1 ≤ p → 1 ≤ c →
     let t : Nat → Timer := fun n => (fun t => (Timer.count t).1)^[n] ⟨p, c, p, c⟩
     (∀ n, n + 1 < p * c → (Timer.count (t n)).2 = false) ∧
     (Timer.count (t (p * c - 1))).2 = true ∧ t (p * c) = ⟨p, c, p, c⟩) ∧
  (∀ s, s.inReset = false →
     (s.fcu.classifier = .quiet ∨ s.fcu.classifier = .level → s.fcu.tareWait = none →
       exec .levelTimerExpiry s = .next { s with fcu := { s.fcu with
         levelTimer := ⟨s.fcu.levelTimer.p, s.fcu.levelTimer.c, s.fcu.levelTimer.p, s.fcu.levelTimer.c⟩
         settled := true } }) ∧
     (s.fcu.classifier = .quiet ∨ s.fcu.classifier = .level → s.fcu.tareWait.isSome = true →
       exec .levelTimerExpiry s = .next { s with
         fcu := { s.fcu with
           levelTimer := ⟨s.fcu.levelTimer.p, s.fcu.levelTimer.c, s.fcu.levelTimer.p, s.fcu.levelTimer.c⟩
           settled := true, tareWait := none, tareOffset := s.fcu.calForce, tareOutcome := .ok }
         cli := { s.cli with
           notices := { s.cli.notices with tareDone := true }
           pending := { s.cli.pending with notice := true } } }) ∧
     (s.fcu.classifier ≠ .quiet → s.fcu.classifier ≠ .level → exec .levelTimerExpiry s = .next s) ∧
     (s.fcu.classifier = .falling ∨ s.fcu.classifier = .erratic →
       ∃ t, exec .unrestTimerExpiry s = .next t ∧
         t.fcu = { s.fcu with
           unrestTimer := ⟨s.fcu.unrestTimer.p, s.fcu.unrestTimer.c, s.fcu.unrestTimer.p, s.fcu.unrestTimer.c⟩
           unrestEvents := min 65535 (s.fcu.unrestEvents + 1) } ∧
         (s.tsq.state.evaluated = false ∨ s.evu.phase ≠ .elastic → t = { s with fcu := t.fcu }) ∧
         (∀ r, s.tsq.state.evaluated = true → s.evu.phase = .elastic → s.evu.result = some r →
           let counted := { s.evu with result := some { r with slipCount := min 65535 (r.slipCount + 1) } }
           t.cli.notices.slip = true ∧ t.cli.pending.notice = true ∧
           (s.header.slipAction = .carryOn ∨ s.tsq.state = .ending ∨
               s.header.slipAction = .hold ∧ s.tsq.state = .held →
             t.evu = counted ∧ t.tsq = s.tsq ∧ t.drl = s.drl) ∧
           (s.header.slipAction = .hold → s.tsq.state = .running → s.drl.state = .running →
             t.evu = counted ∧ t.tsq = { s.tsq with
               state := .held, heldReason := some .slip, heldAt := none, startStep := none, resumeEntry := none } ∧
             t.drl = { s.drl with state := .holding, velocity := 0, dacCode := 0 } ∧ t.cli.pending.held = true) ∧
           (s.header.slipAction = .abort → s.tsq.state = .running → s.drl.state = .running → s.drl.velocity ≠ 0 →
             t.evu = counted ∧ t.tsq = { s.tsq with
               state := .ending, pendingEnd := some .aborted, heldReason := none, heldAt := none
               resumeEntry := none } ∧
             t.drl = { s.drl with state := .stopping }) ∧
           (s.header.slipAction = .abort → s.tsq.state = .held → s.drl.state = .holding →
             t.tsq.state = .ended ∧ t.tsq.endReason = some .aborted ∧ t.drl.state = .idle ∧
             t.cli.pending.testEnd = true))) ∧
     (s.fcu.classifier ≠ .falling → s.fcu.classifier ≠ .erratic → exec .unrestTimerExpiry s = .next s)) ∧
  (∀ s, s.inReset = false →
     (s.inTest = false → s.fcu.range ≠ .d →
       exec .downRangeCountReached s = .next { s with
         fcu := { s.fcu with
           range := (match s.fcu.range with
             | .a => .b
             | .b => .c
             | .c => .d
             | .d => .d)
           discardPending := true, history := [], slope := 0, downCount := 0
           rangeChanges := min 65535 (s.fcu.rangeChanges + 1) }
         cli := { s.cli with
           notices := { s.cli.notices with rangeChanged := true }
           pending := { s.cli.pending with notice := true } } }) ∧
     (s.inTest = true ∨ s.fcu.range = .d → exec .downRangeCountReached s = .next s))

/-- R78: a tare wait that reaches its end closes, with the tare taken when the force is settled on that point and
with NOT_SETTLED and the old offset otherwise; TARE_DONE joins the notice set. R22, R25: the start-time tare that
runs out unsettled ends the start: ENDED, START_FAILED, TARE_NOT_SETTLED, with the tare offset as it was; settled
on the same point it is taken. R45: the enable wait that reaches its end goes to IDLE where DRIVE_READY is sampled on
the same point, else to DISABLED with DRIVE_NOT_READY, command 0 in both. R49: a quadrature edge moves the encoder count
by one and nothing else (across the wrap of 48 bits: DEDUCED, log 29). R164: the pace delay that passes in COUNTING
raises: RAISED, both counts 0, SAMPLES pending. That each of these rows changes nothing outside the state in which its
wait runs, and that no count is checked, is the model's choice (log 3). -/
def Obligations.WaitsAndDelaysEnd : Prop :=
  (∀ s, s.inReset = false →
     (s.fcu.tareWait.isSome = true →
       exec .tareWaitTimeout s = .next { s with
         fcu := { s.fcu with
           tareWait := none
           tareOffset := if s.fcu.settled = true then s.fcu.calForce else s.fcu.tareOffset
           tareOutcome := if s.fcu.settled = true then .ok else .notSettled }
         cli := { s.cli with
           notices := { s.cli.notices with tareDone := true }
           pending := { s.cli.pending with notice := true } } }) ∧
     (s.fcu.tareWait = none → exec .tareWaitTimeout s = .next s)) ∧
  (∀ s, s.inReset = false →
     (s.tsq.state = .starting → s.tsq.startStep = some .tare → s.fcu.settled = false →
       ∃ t, exec .startTareTimeout s = .next t ∧ t.tsq.state = .ended ∧ t.tsq.endReason = some .startFailed ∧
         t.tsq.startCause = some .tareNotSettled ∧ t.fcu = { s.fcu with tareOutcome := .notSettled } ∧
         t.cli.pending.testEnd = true ∧ t.tsq.program = s.tsq.program ∧ t.lmu = s.lmu) ∧
     (s.tsq.state = .starting → s.tsq.startStep = some .tare → s.fcu.settled = true →
       ∃ t, exec .startTareTimeout s = .next t ∧ t.tsq.state = .starting ∧ t.tsq.startStep ≠ some .tare ∧
         t.fcu = { s.fcu with tareOffset := s.fcu.calForce, tareOutcome := .ok }) ∧
     (s.tsq.state ≠ .starting ∨ s.tsq.startStep ≠ some .tare → exec .startTareTimeout s = .next s)) ∧
  (∀ s, s.inReset = false →
     (s.drl.state = .enabling →
       exec (.enableWaitExpiry true) s =
         .next { s with drl := { s.drl with
           state := .idle, velocity := 0, dacCode := 0, readyLevel := true, enableWait := 1000 } } ∧
       exec (.enableWaitExpiry false) s =
         .next { s with
           drl := { s.drl with
             state := .disabled, velocity := 0, dacCode := 0, readyLevel := false, enableWait := 1000 }
           cli := { s.cli with
             notices := { s.cli.notices with driveNotReady := true }
             pending := { s.cli.pending with notice := true } } }) ∧
     (∀ b, s.drl.state ≠ .enabling → exec (.enableWaitExpiry b) s = .next s)) ∧
  (∀ s, s.inReset = false →
     exec (.encoderEdge true) s = .next { s with drl := { s.drl with encoder := s.drl.encoder + 1 } } ∧
     exec (.encoderEdge false) s = .next { s with drl := { s.drl with encoder := s.drl.encoder - 1 } }) ∧
  (∀ s, s.inReset = false →
     (s.sms.pacing = .counting →
       exec .paceDelayExpiry s = .next { s with
         sms := { s.sms with pacing := .raised, storedSinceRaise := 0, delayCount := 0 }
         cli := { s.cli with pending := { s.cli.pending with samples := true } } }) ∧
     (s.sms.pacing ≠ .counting → exec .paceDelayExpiry s = .next s))

/-! ### Limits and trips -/

/-- R59, R65, R172, R173, R174: a readback report returns the mismatch count to 0 and, in CLEAR, latches a trip
with cause COMMAND_READBACK and the latest point: drive TRIPPED with command 0 and the enable off, TRIP pending, a
test ended TRIPPED; in LATCHED the cause joins the further causes unless it is the first. R63: the trip takes the move
target away and adds MOVE_DONE, also for a move already being stopped (DEDUCED, log 22). That the report needs no count
is the model's choice (log 3). R169, R173: an input going to ASSERTED sets its latch and, in CLEAR, latches a trip with
its cause; going to INACTIVE it changes its level and its count alone; that a row for a level the input already has does
nothing is the model's choice (log 3). R168: one sample of the four inputs, each on its own: the count falls to 0 at the
debounced level, grows at the other, and in place of 20 the level changes, with the latch set on ASSERTED; that the
sample makes that change itself, beside the rows that stand for it, is DEDUCED (log 4). Where no input changes to
ASSERTED, nothing but the inputs changes. -/
def Obligations.TripCausesAreTaken : Prop :=
  (∀ s, s.inReset = false →
     (s.lmu.trip = .clear →
       ∃ t, exec .readbackMismatchLimit s = .next t ∧ t.lmu = { s.lmu with
           trip := .latched
           record := some ⟨.commandReadback, s.latestPoint.map fun p => ⟨p.index, p.force, p.travel⟩, 0⟩
           trips := min 65535 (s.lmu.trips + 1) } ∧
         t.drl.state = .tripped ∧ t.drl.velocity = 0 ∧ t.drl.dacCode = 0 ∧ t.driveEnable = false ∧
         t.drl.mismatches = 0 ∧ t.drl.encoder = s.drl.encoder ∧ t.drl.travelZero = s.drl.travelZero ∧
         t.drl.moveTarget = none ∧ (s.drl.state = .moving → t.drl.moveOutcome = some .tripped) ∧
         (s.drl.moveTarget.isSome = true → t.cli.notices.moveDone = true) ∧
         t.cli.pending.trip = true ∧ t.fcu = s.fcu ∧
         (s.inTest = true → t.tsq.state = .ended ∧ t.tsq.endReason = some .tripped ∧ t.cli.pending.testEnd = true ∧
           t.drl.mode = none) ∧
         (s.inTest = false → t.tsq = s.tsq ∧ t.exm = s.exm ∧ t.evu = s.evu ∧ t.sms = s.sms ∧ t.glc = s.glc)) ∧
     (∀ r, s.lmu.trip = .latched → s.lmu.record = some r →
       exec .readbackMismatchLimit s = .next { s with
         drl := { s.drl with mismatches := 0 }
         lmu := { s.lmu with record := some (if r.first = .commandReadback then r
           else { r with further := r.further ||| 0x40#8 }) } })) ∧
  (∀ s (i : SafetyInput), s.inReset = false →
     ((PerInputGet s.lmu.inputs i).level = .inactive →
       ∃ t, exec (.safetyInputAsserted i) s = .next t ∧
         PerInputGet t.lmu.inputs i = ⟨.asserted, 0, true⟩ ∧
         (∀ j, j ≠ i → PerInputGet t.lmu.inputs j = PerInputGet s.lmu.inputs j) ∧
         t.lmu.trip = .latched ∧
         (s.lmu.trip = .clear →
           t.lmu.record = some ⟨safetyCause i, s.latestPoint.map fun p => ⟨p.index, p.force, p.travel⟩, 0⟩ ∧
           t.drl.state = .tripped ∧ t.driveEnable = false ∧ t.cli.pending.trip = true) ∧
         (∀ r, s.lmu.trip = .latched → s.lmu.record = some r →
           (∃ r', t.lmu.record = some r' ∧ r'.first = r.first ∧ r'.point = r.point ∧
             ∀ c : TripCause, r'.further.getLsbD c.ctorIdx =
               (r.further.getLsbD c.ctorIdx || decide (c = safetyCause i ∧ c ≠ r.first))) ∧
           t.drl = s.drl ∧ t.tsq = s.tsq ∧ t.cli = s.cli)) ∧
     ((PerInputGet s.lmu.inputs i).level = .asserted → exec (.safetyInputAsserted i) s = .next s) ∧
     ((PerInputGet s.lmu.inputs i).level = .asserted →
       exec (.safetyInputReleased i) s = .next { s with lmu := { s.lmu with
         inputs := PerInputSet s.lmu.inputs i ⟨.inactive, 0, (PerInputGet s.lmu.inputs i).latch⟩ } }) ∧
     ((PerInputGet s.lmu.inputs i).level = .inactive → exec (.safetyInputReleased i) s = .next s)) ∧
  (∀ s raw, s.inReset = false →
     ∃ t, exec (.safetyInputSample raw) s = .next t ∧
       (∀ i, PerInputGet t.lmu.inputs i =
         let l := PerInputGet s.lmu.inputs i
         if PerInputGet raw i = l.level then ⟨l.level, 0, l.latch⟩
         else if l.count + 1 < 20 then ⟨l.level, l.count + 1, l.latch⟩
         else ⟨PerInputGet raw i, 0, l.latch || decide (PerInputGet raw i = .asserted)⟩) ∧
       ((∀ i, PerInputGet raw i = .asserted → (PerInputGet s.lmu.inputs i).level = .asserted ∨
           (PerInputGet s.lmu.inputs i).count + 1 < 20) →
         t = { s with lmu := { s.lmu with inputs := t.lmu.inputs } }) ∧
       ((∃ i, PerInputGet raw i = .asserted ∧ (PerInputGet s.lmu.inputs i).level = .inactive ∧
           19 ≤ (PerInputGet s.lmu.inputs i).count) → t.lmu.trip = .latched))

/-! ### Gauge link and heads -/

/-- R98: a poll round fills an empty round list with one POLL for each configured head, FRONT before REAR, and begins
the next 20 ms, held as 40 points (the model's choice, log 6); a list that still holds one is left as it is. R99,
R100, R101, R130: on a free link the arbiter takes a round POLL first, then the slot's transaction, unless the last
was the slot's and a stream read is wanted, then a stream read, with turns between two heads; on a busy link, or with
nothing wanted, it starts nothing. R107: the start is counted by its operation (at the start, not at the end: DEDUCED,
log 17). The model's: a list that holds one head's POLL gains none of the other head
(DEDUCED, log 40), and with none streamed yet FRONT goes first (DESIGN CHOICE, log 43). -/
def Obligations.GaugeLinkStarts : Prop :=
  (∀ s, s.inReset = false →
     exec .pollRoundDue s = .next { s with glc := { s.glc with
       pollClock := 40
       roundList := if s.glc.roundList = [] then
           (if s.exm.heads.front.configured = true then [.front] else []) ++
           (if s.exm.heads.rear.configured = true then [.rear] else [])
         else s.glc.roundList } }) ∧
  (∀ s, s.inReset = false →
     (∀ h rest, s.glc.current = none → s.glc.roundList = h :: rest →
       exec .gaugeTransactionStart s = .next { s with glc := { s.glc with
         roundList := rest, current := some ⟨h, .poll, .round, s.clock⟩, request := gaugeRequest h .poll
         counters := s.glc.counters.oneMore .poll } }) ∧
     (∀ c, s.glc.current = none → s.glc.roundList = [] → s.glc.slot = some c → c.phase = .linkWait →
       c.kind ≠ .lift ∨ s.exm.source ≠ .extensometer →
       s.glc.lastFromSlot = false ∨ (∀ h, ¬ s.streams h) →
       exec .gaugeTransactionStart s = .next { s with glc := { s.glc with
         slot := some { c with phase := .onLink }
         current := some ⟨c.head, c.kind.op, .slot, s.clock⟩, request := gaugeRequest c.head c.kind.op
         counters := s.glc.counters.oneMore c.kind.op } }) ∧
     (∀ c, s.glc.current = none → s.glc.roundList = [] → s.glc.slot = some c → c.phase = .confirming →
       c.pollDue = true → s.glc.lastFromSlot = false ∨ (∀ h, ¬ s.streams h) →
       exec .gaugeTransactionStart s = .next { s with glc := { s.glc with
         slot := some { c with pollDue := false }
         current := some ⟨c.head, .poll, .slot, s.clock⟩, request := gaugeRequest c.head .poll
         counters := s.glc.counters.oneMore .poll } }) ∧
     (∀ h, s.glc.current = none → s.glc.roundList = [] → s.slotRests ∨ s.glc.lastFromSlot = true →
       s.streams h → ¬ s.streams (if h = .front then .rear else .front) ∨
         s.glc.lastStreamed ≠ some h ∧ (s.glc.lastStreamed ≠ none ∨ h = .front) →
       exec .gaugeTransactionStart s = .next { s with glc := { s.glc with
         lastStreamed := some h
         current := some ⟨h, .read, .stream, s.clock⟩, request := gaugeRequest h .read
         counters := s.glc.counters.oneMore .read } }) ∧
     (s.glc.current ≠ none → exec .gaugeTransactionStart s = .next s) ∧
     (s.glc.roundList = [] → s.slotRests → (∀ h, ¬ s.streams h) →
       exec .gaugeTransactionStart s = .next s))

/-- R91 to R97, R105, R107: a budget that runs out ends the transaction as NO_REPLY or TRUNCATED. A complete reply is
accepted when it is address, operation code, payload length, a payload that carries what the operation defines, and
the check over them; it ends the transaction as SUCCESS, any other complete reply as BAD_CHECK. The link is free; the
head's failure counts move by the outcome; the link's count of the failure's kind grows with a failure, and the counts
of transactions started stay, the start having counted this one (DEDUCED, log 17). An accepted READ replaces the head's
extension. A reply that is not complete ends nothing (DEDUCED, log 30). -/
def Obligations.TransactionsEnd : Prop :=
  ∀ s (x : Transaction), s.inReset = false → s.glc.current = some x →
    let a := s.glc.heads.get x.head
    let k := s.glc.counters
    let ended : State → Prop := fun t => t.glc.current = none ∧ t.glc.lastFromSlot = decide (x.source = .slot)
    let failed : State → FailureKind → Prop := fun t why =>
      ended t ∧ (t.glc.heads.get x.head).limit = a.limit ∧
      (t.glc.heads.get x.head).consecutive = (if a.limit ≤ a.consecutive + 1 then 0 else a.consecutive + 1) ∧
      (t.glc.heads.get x.head).total = min 65535 (a.total + 1) ∧ (t.glc.heads.get x.head).lastFailure = why
    (∃ t, exec (.gaugeReplyTimeout false) s = .next t ∧ failed t .noReply ∧
      t.glc.counters = { k with noReply := counted32 k.noReply }) ∧
    (∃ t, exec (.gaugeReplyTimeout true) s = .next t ∧ failed t .truncated ∧
      t.glc.counters = { k with truncated := counted32 k.truncated }) ∧
    (∀ reply, reply.length = x.op.length → (∀ payload d, x.op.carries payload d → reply ≠ x.op.reply x.head payload) →
      ∃ t, exec (.gaugeTransactionEnd reply) s = .next t ∧ failed t .badCheck ∧
        t.glc.counters = { k with badCheck := counted32 k.badCheck }) ∧
    (∀ payload d, x.op.carries payload d → (x.op.reply x.head payload).length = x.op.length ∧
      ∃ t, exec (.gaugeTransactionEnd (x.op.reply x.head payload)) s = .next t ∧ ended t ∧ t.glc.counters = k ∧
        (t.glc.heads.get x.head).limit = a.limit ∧ (t.glc.heads.get x.head).consecutive = 0 ∧
        (t.glc.heads.get x.head).total = a.total ∧ (t.glc.heads.get x.head).lastFailure = a.lastFailure ∧
        (∀ e st, d = .extension e st → (s.exm.heads.get x.head).configured = true →
          (t.exm.heads.get x.head).lastGood = e ∧ (t.exm.heads.get x.head).readOk = true)) ∧
    (∀ reply, reply.length < x.op.length → exec (.gaugeTransactionEnd reply) s = .next s)

/-- R102, R103, R111 to R114, R117, R121, R129: what the result of a transaction does to its head and to the slot. A
status (POLL, READ) becomes the latest one, with the zeroed flag, and the failed-poll count 0; it takes a CLAMPING
head to CLAMPED, a CLAMPED or LIFTING one to PRESENT; ABSENT or LOST, its head is to be identified; PRESENT with its
arms not LIFTED, it is to be lifted. It frees the slot's CONFIRMING command of the head CONFIRMED where it shows what
the command wants, and leaves any other as it stands. An acknowledged COMMAND is CONFIRMING from then on, for 2,000
ms, held as 4,000 points (the model's choice, log 6); a CLAMP takes PRESENT to CLAMPING, a LIFT a head on the specimen
to LIFTING, which fails a start whose head it was and hands the strain over where no other head measures. An IDENTIFY
brings the identity, takes an ABSENT or LOST head to PRESENT, and is freed CONFIRMED. The slot's own transaction that
fails frees it FAILED. A failed POLL in PRESENT, CLAMPING or CLAMPED is counted, and the third in a row takes the head
to ABSENT. -/
def Obligations.RepliesMoveHeads : Prop :=
  ∀ s (x : Transaction), s.inReset = false → s.glc.current = some x → (s.exm.heads.get x.head).configured = true →
    let h := x.head
    let e := s.exm.heads.get h
    let lifts : State → HeadStatus → Prop := fun t st =>
      (t.exm.heads.get h).state = .present → st.arms ≠ .lifted → s.exm.source ≠ .extensometer →
        t.glc.stands h .lift = true
    let moved : State → Prop := fun t => (t.exm.heads.get h).state ≠ e.state → t.cli.pending.headState = true
    let startFails : State → Prop := fun t => s.tsq.state = .starting → e.testHead = true → e.state = .clamped →
      t.tsq.state = .ended ∧ t.tsq.endReason = some .startFailed ∧ t.tsq.startCause = some .headLeft
    let ownInSlot : SlotCommand → Prop := fun c =>
      s.glc.slot = some c ∧ c.phase = .onLink ∧ x.source = .slot ∧ c.head = h
    (∀ payload d st, x.op.carries payload d → (d = .status st ∨ ∃ v, d = .extension v st) → (∀ c, ¬ ownInSlot c) →
      (∀ c, s.glc.slot = some c → c.phase = .onLink → x.source ≠ .slot) →
      ∃ t, exec (.gaugeTransactionEnd (x.op.reply h payload)) s = .next t ∧
        let a := t.exm.heads.get h
        let shown := (e.state = .clamping ∧ st.arms = .clamped ∧ st.seated = true)
        let opened := (e.state = .clamped ∨ e.state = .lifting) ∧ st.arms = .lifted
        a.identity = e.identity ∧ a.latest = some st ∧ a.zeroed = st.zeroed ∧ a.failedPolls = 0 ∧ moved t ∧
        (shown → a.state = .clamped) ∧ (opened → a.state = .present ∧ startFails t) ∧
        (¬ shown → ¬ opened → a.state = e.state) ∧
        (d = .status st → e.state = .absent ∨ e.state = .lost → t.glc.stands h .identify = true) ∧ lifts t st ∧
        (∀ c, s.glc.slot = some c →
          (c.phase = .confirming → c.head = h → st.shows c.kind → c.freedIn .confirmed t ∧
            (c.kind = .lift → t.exm.liftWatch.get h = false)) ∧
          (c.phase ≠ .confirming ∨ c.head ≠ h ∨ ¬ st.shows c.kind → t.glc.slot = some c))) ∧
    (∀ k c payload, x.op = .command k → x.op.carries payload (.ack k) → ownInSlot c → c.kind = k → k ≠ .identify →
      ∃ t, exec (.gaugeTransactionEnd (x.op.reply h payload)) s = .next t ∧
        let a := t.exm.heads.get h
        let on := e.state = .present ∨ e.state = .clamping ∨ e.state = .clamped ∨ e.state = .measuring
        t.glc.slot = some { c with phase := .confirming, timeLeft := 4000, pollDue := false } ∧
        a.identity = e.identity ∧ a.latest = e.latest ∧ a.zeroed = e.zeroed ∧ a.failedPolls = 0 ∧ moved t ∧
        (k = .clamp → e.state = .present → a.state = .clamping) ∧
        (k = .lift → on → a.state = .lifting ∧ startFails t) ∧
        (k = .lift → e.state = .measuring → (s.exm.heads.get (if h = .front then .rear else .front)).state ≠ .measuring →
          s.exm.source = .extensometer → s.inTest = true → s.handedOverOn t .headLost s.latest) ∧
        (k = .zero ∨ k = .clamp ∧ e.state ≠ .present ∨ k = .lift ∧ ¬ on → a.state = e.state)) ∧
    (∀ i c payload, x.op.carries payload (.identity i) → ownInSlot c → c.kind = .identify →
      ∃ t, exec (.gaugeTransactionEnd (x.op.reply h payload)) s = .next t ∧
        let a := t.exm.heads.get h
        let found := e.state = .absent ∨ e.state = .lost
        a.identity = some i ∧ a.latest = e.latest ∧ a.zeroed = e.zeroed ∧ a.failedPolls = 0 ∧ moved t ∧
        (found → a.state = .present ∧ ∀ st, e.latest = some st → lifts t st) ∧
        (¬ found → a.state = e.state) ∧ c.freedIn .confirmed t) ∧
    (∀ began c, ownInSlot c → ∃ t, exec (.gaugeReplyTimeout began) s = .next t ∧ c.freedIn .failed t) ∧
    (∀ began, x.op = .poll → (∀ c, s.glc.slot = some c → c.head ≠ h ∧ (c.phase = .onLink → x.source ≠ .slot)) →
      ∃ t, exec (.gaugeReplyTimeout began) s = .next t ∧
        let a := t.exm.heads.get h
        let counts := e.state = .present ∨ e.state = .clamping ∨ e.state = .clamped
        (counts → e.failedPolls + 1 < 3 → a = { e with failedPolls := e.failedPolls + 1 }) ∧
        (counts → 3 ≤ e.failedPolls + 1 → a.state = .absent ∧ a.identity = none ∧ a.latest = none ∧ a.zeroed = false ∧
          a.failedPolls = 0 ∧ t.cli.pending.headState = true ∧ startFails t) ∧
        (¬ counts → e.state ≠ .measuring → e.state ≠ .lifting → a = e))

/-- R103, R105, R115: a head's failure condition takes it from MEASURING or LIFTING to LOST with HEAD_LOST, its
identity, zeroed flag and last good extension kept; in the other states, with no command of it being confirmed,
its count alone changes. R112: a third failed POLL in a row takes a configured head in PRESENT, CLAMPING or
CLAMPED to ABSENT, with its identity, latest status and zeroed flag cleared. That this row changes nothing in the other
states or for an unconfigured head, and that no count is checked, is the model's choice (log 3). -/
def Obligations.HeadsAreLost : Prop :=
  (∀ s (h : Head), s.inReset = false →
     ((s.exm.heads.get h).state = .measuring ∨ (s.exm.heads.get h).state = .lifting →
       ∃ t, exec (.headFailureCondition h) s = .next t ∧ (t.exm.heads.get h).state = .lost ∧
         (t.exm.heads.get h).identity = (s.exm.heads.get h).identity ∧
         (t.exm.heads.get h).zeroed = (s.exm.heads.get h).zeroed ∧
         (t.exm.heads.get h).lastGood = (s.exm.heads.get h).lastGood ∧
         (t.glc.heads.get h).consecutive = 0 ∧ t.cli.notices.headLost = true ∧ t.cli.pending.notice = true ∧
         t.cli.pending.headState = true) ∧
     ((s.exm.heads.get h).state ≠ .measuring → (s.exm.heads.get h).state ≠ .lifting →
       (∀ c, s.glc.slot = some c → c.phase = .confirming → c.head ≠ h) →
       exec (.headFailureCondition h) s = .next { s with glc := { s.glc with
         heads := s.glc.heads.set h { s.glc.heads.get h with consecutive := 0 } } })) ∧
  (∀ s (h : Head), s.inReset = false →
     let st := (s.exm.heads.get h).state
     ((s.exm.heads.get h).configured = true → st = .present ∨ st = .clamping ∨ st = .clamped →
       ∃ t, exec (.failedPollLimit h) s = .next t ∧ (t.exm.heads.get h).state = .absent ∧
         (t.exm.heads.get h).identity = none ∧ (t.exm.heads.get h).latest = none ∧
         (t.exm.heads.get h).zeroed = false ∧ (t.exm.heads.get h).failedPolls = 0 ∧
         t.cli.pending.headState = true ∧
         (s.tsq.state = .starting → (s.exm.heads.get h).testHead = true → st = .clamped →
           t.tsq.state = .ended ∧ t.tsq.endReason = some .startFailed ∧ t.tsq.startCause = some .headLeft)) ∧
     ((s.exm.heads.get h).configured = false ∨ st ≠ .present ∧ st ≠ .clamping ∧ st ≠ .clamped →
       exec (.failedPollLimit h) s = .next s))

/-- R102, R103: a confirmation poll falls due for a command in CONFIRMING; when the confirmation time runs out the
command ends UNCONFIRMED, recorded as its head's last command, with HEAD_CMD_DONE for the computer's. R129: for a
watched lift LIFT_UNCONFIRMED joins the notice set, the head leaves the lift watch, and a RUNNING test is held for a
LIFT of its own; a LIFT of an ended test holds no later one, and in STARTING there is nothing to hold (DEDUCED, log
35). That nothing happens with nothing being confirmed, and that the row is taken without its time having run, is the
model's choice (logs 3 and 6). -/
def Obligations.ConfirmationRunsOut : Prop :=
  ∀ s, s.inReset = false →
    (∀ c, s.glc.slot = some c → c.phase = .confirming →
      exec .confirmationPollDue s = .next { s with glc := { s.glc with slot := some { c with pollDue := true } } } ∧
      ∃ t, exec .confirmationTimeout s = .next t ∧
        (t.glc.heads.get c.head).lastCommand = some ⟨c.kind, c.origin, .unconfirmed⟩ ∧
        (c.origin = .computer → t.cli.pending.headCmdDone = true) ∧
        (c.kind = .lift → s.exm.liftWatch.get c.head = false →
          t.glc.slot = (match s.glc.waiting with
            | [] => none
            | w :: _ => some ⟨w.head, w.kind, .exm, .linkWait, 0, false⟩) ∧
          t.glc.waiting = s.glc.waiting.drop 1 ∧ t.exm = s.exm ∧ t.tsq = s.tsq ∧ t.drl = s.drl) ∧
        (c.kind = .lift → s.exm.liftWatch.get c.head = true →
          t.exm.liftWatch.get c.head = false ∧ t.cli.notices.liftUnconfirmed = true ∧ t.cli.pending.notice = true ∧
          (s.tsq.state = .running → s.exm.liftHolds.get c.head = true → s.drl.state = .running →
            t.tsq.state = .held ∧ t.tsq.heldReason = some .liftUnconfirmed ∧ t.drl.state = .holding ∧
            t.drl.velocity = 0 ∧ t.cli.pending.held = true) ∧
          (s.tsq.state ≠ .running ∨ s.exm.liftHolds.get c.head = false → t.tsq = s.tsq ∧ t.drl = s.drl))) ∧
    ((∀ c, s.glc.slot = some c → c.phase ≠ .confirming) →
      exec .confirmationPollDue s = .next s ∧ exec .confirmationTimeout s = .next s)

/-- R23, R25, R102, R103, R113, R115, R117, R129: the outcome of a slot command in its head and in the test. UNCONFIRMED
ends a command being confirmed when its time runs out, when its head's failure condition comes, or with the failing
transaction that brings that condition; FAILED ends one whose own transaction fails. Either ends a start that waits for
that ZERO, START_FAILED with ZERO_UNCONFIRMED; a CLAMP that ends UNCONFIRMED takes a CLAMPING head back to PRESENT, one
that ends FAILED leaves its head as it was; a watched LIFT adds LIFT_UNCONFIRMED. A status with zeroed yes ends a ZERO
CONFIRMED: a start that waits for it sets the head's zeroed flag and asks for the next head's ZERO, FRONT before REAR,
or goes to the step ENTRY; any other ZERO leaves the test alone. That a ZERO of any origin, the computer's or an earlier
start's, serves the present start is log 24, and that a watched LIFT holds the test it was asked for in and no later one
is log 35 (both DEDUCED). That the rows CONFIRMATION_TIMEOUT and
HEAD_FAILURE_CONDITION are taken without their time or count having run is the model's choice (logs 3 and 6). -/
def Obligations.SlotOutcomesAreTaken : Prop :=
  (∀ s (c : SlotCommand), s.inReset = false → s.glc.slot = some c → c.phase = .confirming →
     (∃ t, exec .confirmationTimeout s = .next t ∧ c.freedIn .unconfirmed t ∧ c.missedIn .unconfirmed s t ∧
       (¬ s.awaitsZero c → c.kind ≠ .lift → c.kind ≠ .clamp ∨ (s.exm.heads.get c.head).state ≠ .clamping →
         t.exm = s.exm)) ∧
     (∃ t, exec (.headFailureCondition c.head) s = .next t ∧ c.freedIn .unconfirmed t ∧
       c.missedIn .unconfirmed s t)) ∧
  (∀ s (c : SlotCommand) x k, s.inReset = false → s.glc.slot = some c → s.glc.current = some x → x.failsBy k →
     x.head = c.head →
     (c.phase = .onLink → x.source = .slot → x.op = .command c.kind →
       ∃ t, exec k s = .next t ∧ c.freedIn .failed t ∧ c.missedIn .failed s t ∧
         (∀ h, ¬ s.awaitsZero c → (s.exm.heads.get h).state ≠ .measuring → (s.exm.heads.get h).state ≠ .lifting →
           (t.exm.heads.get h).state = (s.exm.heads.get h).state)) ∧
     (c.phase = .confirming → (s.glc.heads.get x.head).limit ≤ (s.glc.heads.get x.head).consecutive + 1 →
       x.op ≠ .poll ∨ (s.exm.heads.get x.head).failedPolls + 1 < 3 →
       ∃ t, exec k s = .next t ∧ c.freedIn .unconfirmed t ∧ c.missedIn .unconfirmed s t) ∧
     (let e := s.exm.heads.get x.head
      c.phase = .confirming → (s.glc.heads.get x.head).limit ≤ (s.glc.heads.get x.head).consecutive + 1 →
       x.op = .poll → 3 ≤ e.failedPolls + 1 → e.configured = true →
       e.state = .present ∨ e.state = .clamping ∨ e.state = .clamped →
       ∃ t, exec k s = .next t ∧ c.freedIn .unconfirmed t ∧ (t.exm.heads.get x.head).state = .absent ∧
         (s.tsq.state = .starting → e.testHead = true → e.state = .clamped →
           t.tsq.state = .ended ∧ t.tsq.endReason = some .startFailed ∧ t.tsq.startCause = some .headLeft))) ∧
  (∀ s (c : SlotCommand) x payload d st, s.inReset = false → s.glc.slot = some c → s.glc.current = some x →
     c.phase = .confirming → c.kind = .zero → x.head = c.head → x.op.carries payload d →
     (d = .status st ∨ ∃ e, d = .extension e st) → st.zeroed = true →
     st.arms ≠ .lifted ∨ (s.exm.heads.get c.head).testHead = false ∨ (s.exm.heads.get c.head).state ≠ .clamped →
     ∃ t, exec (.gaugeTransactionEnd (x.op.reply x.head payload)) s = .next t ∧ c.freedIn .confirmed t ∧
       (¬ s.awaitsZero c → t.tsq = s.tsq) ∧
       (s.awaitsZero c → t.tsq.state = .starting ∧ (t.exm.heads.get c.head).zeroed = true) ∧
       (s.awaitsZero c → c.head = .front ∧ s.exm.heads.rear.testHead = true →
         t.tsq = s.tsq ∧ t.exm.zeroAsked = some .rear ∧ t.glc.stands .rear .zero = true) ∧
       (s.awaitsZero c → ¬ (c.head = .front ∧ s.exm.heads.rear.testHead = true) →
         t.tsq = { s.tsq with startStep := some .entry } ∧ t.exm.zeroAsked = none))

/-! ### Evaluation -/

/-- R137, R138: at the close of its window the fit gives E = 10,000 N / D and x0 = (Sx N - Sy D) / (n N), rounded,
fixed at the closing point's index with the number of fitted points, and opens the search where a proof stress is
asked for. With too few points, sums without a slope, or a modulus outside its bounds it fails with that reason. Then,
with a fallback, E is the nominal modulus and x0 = (Sx E - 10,000 Sy) / (n E), rounded, or 0 with no point, and the
search opens all the same; without one E and x0 close absent, and a requested Rp with them. R136, R137, R152: while it
collects, a fresh extensometer point from sigma lo to sigma hi joins the sums; a stress above sigma hi, or the phase's
leaving ELASTIC, closes the window on that point, which does not join, and RESULT is raised. -/
def Obligations.ElasticFitIsComputed : Prop :=
  (∀ (hd : PlanHeader) nominal i (e : Evu) r, e.result = some r → r.e = .opened → r.x0 = .opened →
    let n : Int := e.sums.n
    let num := n * e.sums.xy - e.sums.x * e.sums.y
    let den := n * e.sums.xx - e.sums.x * e.sums.x
    let modulus := divRound (10000 * num) den
    let x0 := divRound (e.sums.x * num - e.sums.y * den) (n * num)
    let fails : Absence → Prop := fun why =>
      (closeFit hd nominal i e).fit = .failed why ∧
      (hd.fallback = false ∨ nominal = none →
        closeFit hd nominal i e = { e with
          fit := .failed why
          result := some { r with
            e := .absent why, x0 := .absent why
            rp := if 0 < hd.offsetStrain ∧ r.rp = .opened then .absent why else r.rp } }) ∧
      (∀ m : Nat, hd.fallback = true → nominal = some m →
        let x0 := if e.sums.n = 0 then 0 else divRound (e.sums.x * m - e.sums.y * 10000) (n * m)
        closeFit hd nominal i e = { e with
          fit := .failed why
          line := some ⟨m, x0, true⟩
          search := if 0 < hd.offsetStrain then .opened else e.search
          searchPrev := if 0 < hd.offsetStrain then none else e.searchPrev
          result := some { r with
            e := .fixed m i, x0 := .fixed x0 i, fitCount := e.sums.n, fallbackUsed := true } })
    (e.sums.n < hd.nMin → fails .tooFewPoints) ∧
    (hd.nMin ≤ e.sums.n → den ≤ 0 ∨ num ≤ 0 → fails .fitFailed) ∧
    (hd.nMin ≤ e.sums.n → 0 < den → 0 < num → modulus < hd.eMin ∨ hd.eMax < modulus → fails .modulusOutOfRange) ∧
    (hd.nMin ≤ e.sums.n → 0 < den → 0 < num → hd.eMin ≤ modulus → modulus ≤ hd.eMax →
      closeFit hd nominal i e = { e with
        fit := .done
        line := some ⟨modulus, x0, false⟩
        search := if 0 < hd.offsetStrain then .opened else e.search
        searchPrev := if 0 < hd.offsetStrain then none else e.searchPrev
        result := some { r with
          e := .fixed modulus i, x0 := .fixed x0 i, fitCount := e.sums.n, fallbackUsed := false } })) ∧
  (∀ s c r, s.evaluates c → s.evu.phase ≠ .fractured → s.exm.source = .extensometer → s.evu.fit = .collecting →
     s.evu.result = some r → r.e = .opened → r.x0 = .opened →
     ∃ t p r', exec (.conversionComplete c) s = .next t ∧ t.latestPoint = some p ∧ t.evu.result = some r' ∧
       let q := s.evu.sums
       let closes := (s.header.sigmaHi : Int) < p.stress ∨ t.evu.phase ≠ .elastic
       let joins := ¬ closes ∧ p.flags.rangeChange = false ∧ p.flags.substituted = false ∧ p.flags.carried = false ∧
         (s.header.sigmaLo : Int) ≤ p.stress ∧ q.n < 65535
       (joins → t.evu.sums =
         ⟨q.n + 1, q.x + p.strain, q.y + p.stress, q.xx + p.strain * p.strain, q.xy + p.strain * p.stress⟩) ∧
       (¬ joins → t.evu.sums = q) ∧
       (¬ closes → t.inTest = true → t.evu.fit = .collecting ∧ r'.e = .opened ∧ r'.x0 = .opened) ∧
       (closes → t.cli.pending.result = true ∧
         let f := closeFit s.header (s.tsq.specimen.bind (·.nominalModulus)) p.index s.evu
         t.evu.fit = f.fit ∧ t.evu.line = f.line ∧ ∃ rf, f.result = some rf ∧ r'.e = rf.e ∧ r'.x0 = rf.x0 ∧
           r'.fitCount = rf.fitCount ∧ r'.fallbackUsed = rf.fallbackUsed))

/-- R139, R140, R152: the offset search on a point that the extensometer measures. The search that is OPEN, or that the
point opens by closing the fit window with a line, takes it if it is fresh and, once Rm is fixed, not above Rm. Its
plastic strain is d = x - x0 - 10,000 y / E. Below the offset, d and y become the search previous; otherwise Rp is the
stress interpolated from the search previous, or y with none, fixed with the point's index, the search is CLOSED, the RP
mark is made and RESULT is raised. A point that the search does not take changes nothing in it. -/
def Obligations.ProofStressIsFixed : Prop :=
  ∀ s c l prev r, s.evaluates c → s.evu.phase ≠ .fractured → s.exm.source = .extensometer → s.evu.result = some r →
    r.rp = .opened →
    ∃ t p r', exec (.conversionComplete c) s = .next t ∧ t.latestPoint = some p ∧ t.evu.result = some r' ∧
      let closes := (s.header.sigmaHi : Int) < p.stress ∨ t.evu.phase ≠ .elastic
      let standing := s.evu.fit ≠ .collecting ∧ s.evu.search = .opened ∧ s.evu.line = some l ∧ prev = s.evu.searchPrev
      let opening := s.evu.fit = .collecting ∧ closes ∧ 0 < s.header.offsetStrain ∧ s.evu.line = none ∧
        t.evu.line = some l ∧ prev = none
      let takes := p.flags.rangeChange = false ∧ p.flags.substituted = false ∧ p.flags.carried = false ∧
        ∀ v i, r.rm = .fixed v i → p.stress ≤ v
      let offset : Int := s.header.offsetStrain
      let d := p.strain - l.x0 - divRound (p.stress * 10000) l.e
      (t.evu.phase ≠ .fractured → standing ∨ opening →
        (¬ takes → t.evu.searchPrev = prev ∧ (t.inTest = true → t.evu.search = .opened ∧ r'.rp = .opened)) ∧
        (takes → d < offset →
          t.evu.searchPrev = some ⟨d, p.stress⟩ ∧ (t.inTest = true → t.evu.search = .opened ∧ r'.rp = .opened)) ∧
        (takes → offset ≤ d →
          t.evu.search = .closed ∧ s.marked t .rp p ∧ t.cli.pending.result = true ∧
          (prev = none → r'.rp = .fixed p.stress p.index) ∧
          (∀ q, prev = some q →
            r'.rp = .fixed (q.stress + divRound ((p.stress - q.stress) * (offset - q.d)) (d - q.d)) p.index)))

/-- R142, R143, R152: the yield of a test on a point that does not break it. In ELASTIC with yield evaluation on, the
larger stress stands as Smax; a stress that has fallen from it by the yield drop in FALLING or ERRATIC fixes ReH
there, with the REH mark, and opens the yield phase with this point as its first; failing that, a strain beyond the
search limit closes ReH and ReL CONTINUOUS_YIELDING in HARDENING. In YIELDING a stress of at least ReH, or a strain
past the span, ends the phase, with ReL fixed at the candidate and the REL mark, or TRANSIENT_ONLY; any other point is
counted, and past the skip, without RANGE_CHANGE, a lower stress is the candidate. With yield evaluation off a stress
above sigma hi ends the elastic stage. RESULT is raised for what is fixed or closed. -/
def Obligations.YieldIsFound : Prop :=
  (∀ s c r, s.evaluates c → s.evu.phase = .elastic → 0 < s.header.yieldDrop → s.evu.result = some r →
     r.reh = .opened → r.rel = .opened →
     ∃ t p r' top, exec (.conversionComplete c) s = .next t ∧ t.latestPoint = some p ∧ t.evu.result = some r' ∧
       top = (match s.evu.smax with
         | none => p
         | some q => if q.stress < p.stress then p else q) ∧
       let detected := p.stress ≤ top.stress - s.header.yieldDrop ∧
         (t.fcu.classifier = .falling ∨ t.fcu.classifier = .erratic)
       (t.evu.phase ≠ .fractured →
         t.evu.smax = some top ∧
         (detected →
           t.evu.phase = .yielding ∧ t.evu.maxPassedArmed = false ∧ r'.reh = .fixed top.stress top.index ∧
           s.marked t .reh top ∧ t.cli.pending.result = true ∧
           (t.inTest = true → r'.rel = .opened ∧ t.evu.tracker = some ⟨top.strain, 1,
             if s.header.transientSkip < 1 ∧ p.flags.rangeChange = false then some p else none⟩)) ∧
         (¬ detected → (s.header.yieldSearchLimit : Int) < p.strain →
           (t.evu.phase = .hardening ∨ t.evu.phase = .necking) ∧ r'.reh = .absent .continuousYielding ∧
           r'.rel = .absent .continuousYielding ∧ t.cli.pending.result = true ∧
           (s.evu.maxPassedArmed = true → t.evu.maxPassedArmed = true)) ∧
         (¬ detected → p.strain ≤ s.header.yieldSearchLimit →
           t.evu.phase = .elastic ∧ (t.inTest = true → r'.reh = .opened ∧ r'.rel = .opened)))) ∧
  (∀ s c r k, s.evaluates c → s.evu.phase = .yielding → s.exm.source = .extensometer → s.evu.tracker = some k →
     s.evu.result = some r → r.rel = .opened →
     ∃ t p r', exec (.conversionComplete c) s = .next t ∧ t.latestPoint = some p ∧ t.evu.result = some r' ∧
       let ends := (∃ q, s.evu.smax = some q ∧ q.stress ≤ p.stress) ∨ k.rehStrain + s.header.yieldSpanLimit ≤ p.strain
       let better := s.header.transientSkip < k.count + 1 ∧ p.flags.rangeChange = false ∧
         ∀ q, k.candidate = some q → p.stress < q.stress
       (t.evu.phase ≠ .fractured →
         (¬ ends → t.evu.phase = .yielding ∧ (t.inTest = true → r'.rel = .opened ∧
           (better → t.evu.tracker = some ⟨k.rehStrain, k.count + 1, some p⟩) ∧
           (¬ better → t.evu.tracker = some ⟨k.rehStrain, k.count + 1, k.candidate⟩))) ∧
         (ends → (t.evu.phase = .hardening ∨ t.evu.phase = .necking) ∧ t.evu.tracker = none ∧
           t.cli.pending.result = true ∧
           (∀ q, k.candidate = some q → r'.rel = .fixed q.stress q.index ∧ s.marked t .rel q) ∧
           (k.candidate = none → r'.rel = .absent .transientOnly)))) ∧
  (∀ s c, s.evaluates c → s.evu.phase = .elastic → s.header.yieldDrop = 0 →
     ∃ t p, exec (.conversionComplete c) s = .next t ∧ t.latestPoint = some p ∧
       ((s.header.sigmaHi : Int) < p.stress → t.evu.phase ≠ .elastic ∧ t.evu.phase ≠ .yielding) ∧
       (p.stress ≤ s.header.sigmaHi → t.evu.phase ≠ .hardening ∧ t.evu.phase ≠ .yielding))

/-- R144, R145: the point with the largest force stands as the Fmax point while Rm is open. A point passes the maximum
when max passed is armed, from the start or by a force of at least the ReH point's in HARDENING, and its force has
fallen from Fmax by the drop: NECKING, Rm = 1,000 Fmax / A0 and Ag with the Fmax point's index, the FMAX mark; Ag
FIT_FAILED without E. R146, R147, R124: in RUNNING or HELD, with fracture armed, a force below the fraction of Fmax,
or a fall from the previous point by the abrupt fraction, breaks the test: Rm and Ag are made if they are open, an
open search and an open ReH or ReL close FRACTURED_FIRST, the fracture force and A are fixed at the previous point,
with the FRACTURE mark, the heads CLAMPED or MEASURING are to be lifted, and the strain is frozen while the test goes
on. RESULT is raised. -/
def Obligations.MaximumAndFractureAreFixed : Prop :=
  (∀ s c r, s.evaluates c → s.evu.phase ≠ .fractured → s.evu.phase ≠ .necking → s.evu.result = some r →
     r.rm = .opened → r.ag = .opened →
     ∃ t p r' top, exec (.conversionComplete c) s = .next t ∧ t.latestPoint = some p ∧ t.evu.result = some r' ∧
       top = (match s.evu.fmax with
         | none => p
         | some q => if q.force < p.force then p else q) ∧
       t.evu.fmax = some top ∧
       let armed := s.evu.maxPassedArmed = true ∨ ∃ q, t.evu.smax = some q ∧ q.force ≤ p.force
       let passes := armed ∧ p.force ≤ top.force - divRound (top.force * s.header.maxPassedDrop) 1000
       let rm := divRound (top.force * 1000) s.area
       (t.evu.phase ≠ .necking → t.evu.phase ≠ .fractured → t.inTest = true → r'.rm = .opened ∧ r'.ag = .opened) ∧
       (s.evu.phase = .hardening →
         t.evu.phase = .hardening ∨ t.evu.phase = .necking ∨ t.evu.phase = .fractured) ∧
       (s.evu.phase = .elastic → s.header.yieldDrop = 0 → s.evu.maxPassedArmed = true → passes →
         t.evu.phase = .necking ∨ t.evu.phase = .fractured) ∧
       (t.evu.phase = .hardening → ¬ passes) ∧
       (t.evu.phase = .necking →
         passes ∧ r'.rm = .fixed rm top.index ∧ r'.fmax = top.force ∧ s.marked t .fmax top ∧
         t.cli.pending.result = true ∧
         (∀ l, t.evu.line = some l → r'.ag = .fixed (top.strain - divRound (rm * 10000) l.e) top.index) ∧
         (t.evu.line = none → r'.ag = .absent .fitFailed))) ∧
  (∀ s c r q, s.calm c → s.tsq.state = .running ∨ s.tsq.state = .held → s.evu.phase ≠ .fractured →
     s.evu.result = some r → s.evu.prev = some q → r.rm = .opened ∨ s.evu.fmax.isSome = true →
     r.fractureForce = .opened → r.a = .opened →
     ∃ t p r' top, exec (.conversionComplete c) s = .next t ∧ t.latestPoint = some p ∧ t.evu.result = some r' ∧
       top = (match s.evu.fmax with
         | none => p
         | some m => if r.rm = .opened ∧ m.force < p.force then p else m) ∧
       let armed := s.evu.fractureArmed = true ∨ (s.header.fractureArmForce : Int) ≤ p.force
       let broken := armed ∧ (p.force < divRound (top.force * s.header.fractureFraction) 1000 ∨
         divRound (top.force * s.header.abruptFraction) 1000 ≤ q.force - p.force)
       let rm := divRound (top.force * 1000) s.area
       let opens := s.evu.fit = .collecting ∧ 0 < s.header.offsetStrain ∧ s.evu.line = none ∧ t.evu.line ≠ none
       (t.evu.fractureArmed = true ↔ armed) ∧ (t.evu.phase = .fractured ↔ broken) ∧
       (broken →
         t.cli.pending.result = true ∧ s.marked t .fracture q ∧ t.evu.tracker = none ∧ t.evu.search ≠ .opened ∧
         t.evu.fit ≠ .collecting ∧ r'.fractureForce = .fixed q.force q.index ∧ r'.sourceOfA = q.source ∧
         (∀ l, t.evu.line = some l → r'.a = .fixed (q.strain - divRound (q.stress * 10000) l.e) q.index) ∧
         (t.evu.line = none → r'.a = .absent .fitFailed) ∧
         (r.rm = .opened → r.ag = .opened →
           r'.rm = .fixed rm top.index ∧ r'.fmax = top.force ∧ s.marked t .fmax top ∧
           (∀ l, t.evu.line = some l → r'.ag = .fixed (top.strain - divRound (rm * 10000) l.e) top.index) ∧
           (t.evu.line = none → r'.ag = .absent .fitFailed)) ∧
         (r.rp = .opened → s.exm.source = .extensometer → s.evu.fit ≠ .collecting ∧ s.evu.search = .opened ∨ opens →
           r'.rp = .absent .fracturedFirst) ∧
         (r.reh = .opened → s.evu.phase = .elastic →
           r'.reh = .absent .fracturedFirst ∧ (r.rel = .opened → r'.rel = .absent .fracturedFirst)) ∧
         (r.rel = .opened → s.evu.phase = .yielding → s.exm.source = .extensometer →
           r'.rel = .absent .fracturedFirst) ∧
         (∀ h, (s.exm.heads.get h).state = .clamped ∨ (s.exm.heads.get h).state = .measuring →
           t.glc.stands h .lift = true ∧ t.exm.liftWatch.get h = true) ∧
         (t.tsq.state ≠ .ended → t.exm.source = .frozen ∧ t.exm.frozenStrain = some p.strain ∧
           t.exm.removal ≠ .watching ∧ t.exm.removal ≠ .deferred)))

/-- R125 to R127, R123: what a point that neither breaks nor ends the test does to the removal of the extensometer. In
WATCHING a strain of at least the removal strain, or else NECKING, triggers it; below the protect strain it is
DEFERRED while the proof stress is unresolved or the test yields, and otherwise the strain is handed over on the
point; in DEFERRED it is handed over on the first point on which that is no longer so. R148, R138, R141: the first
evaluated point whose strain the extensometer no longer gives, which without an evaluated point before is the first
after the handover (DEDUCED, log 25), fails a fit that collects EXTENSOMETER_REMOVED, with the fallback where there is
one, closes a requested Rp with that reason where its fit collects or its search is OPEN, and ends YIELDING with ReL
closed so; no RP or REL mark is made for them. -/
def Obligations.ExtensometerComesOff : Prop :=
  (∀ s c, s.evaluates c → s.evu.phase ≠ .fractured → s.exm.removal = .watching ∨ s.exm.removal = .deferred →
     ∃ t p, exec (.conversionComplete c) s = .next t ∧ t.latestPoint = some p ∧
       let byStrain := 0 < s.header.removalStrain ∧ (s.header.removalStrain : Int) ≤ p.strain
       let byNecking := ¬ byStrain ∧ t.evu.phase = .necking
       let holdsBack := p.strain < s.header.protectStrain ∧
         (t.evu.phase = .yielding ∨ 0 < s.header.offsetStrain ∧ ∃ r, t.evu.result = some r ∧ r.rp = .opened)
       (t.evu.phase ≠ .fractured → t.tsq.state ≠ .ended →
         (s.exm.removal = .watching → ¬ byStrain → ¬ byNecking →
           t.exm.removal = .watching ∧ t.exm.trigger = s.exm.trigger ∧ t.exm.source = s.exm.source) ∧
         (s.exm.removal = .watching → holdsBack → byStrain ∨ byNecking →
           t.exm.removal = .deferred ∧ t.exm.source = s.exm.source ∧
           (byStrain → t.exm.trigger = some .strain) ∧ (byNecking → t.exm.trigger = some .necking)) ∧
         (s.exm.removal = .watching → ¬ holdsBack → (byStrain → s.handedOverOn t .strain p) ∧
           (byNecking → s.handedOverOn t .necking p)) ∧
         (s.exm.removal = .deferred → holdsBack →
           t.exm.removal = .deferred ∧ t.exm.trigger = s.exm.trigger ∧ t.exm.source = s.exm.source) ∧
         (∀ k, s.exm.removal = .deferred → s.exm.trigger = some k → ¬ holdsBack → s.handedOverOn t k p))) ∧
  (∀ s c r, s.evaluates c → s.evu.phase ≠ .fractured → s.evu.result = some r → s.exm.source ≠ .extensometer →
     (∃ q, s.evu.prev = some q ∧ q.source = .extensometer) ∨ s.evu.prev = none ∧ s.exm.removal = .handedOver →
     ∃ t p r', exec (.conversionComplete c) s = .next t ∧ t.latestPoint = some p ∧ t.evu.result = some r' ∧
       let asked := 0 < s.header.offsetStrain
       let sums := s.evu.sums
       (s.evu.fit = .collecting → r.e = .opened → r.x0 = .opened →
         t.evu.fit = .failed .extensometerRemoved ∧ t.cli.pending.result = true ∧
         (asked → r.rp = .opened → r'.rp = .absent .extensometerRemoved) ∧
         (s.evu.search = .notOpen → t.evu.search = .notOpen) ∧
         (s.header.fallback = false ∨ s.tsq.specimen.bind (·.nominalModulus) = none →
           r'.e = .absent .extensometerRemoved ∧ r'.x0 = .absent .extensometerRemoved) ∧
         (∀ m, s.header.fallback = true → s.tsq.specimen.bind (·.nominalModulus) = some m →
           r'.e = .fixed m p.index ∧ r'.fallbackUsed = true ∧ r'.fitCount = sums.n ∧
           r'.x0 = .fixed (if sums.n = 0 then 0 else divRound (sums.x * m - sums.y * 10000) (sums.n * m)) p.index)) ∧
       (s.evu.search = .opened → t.evu.search = .closed ∧
         (r.rp = .opened → r'.rp = .absent .extensometerRemoved ∧ t.cli.pending.result = true)) ∧
       (s.evu.phase = .yielding → t.evu.tracker = none ∧
         (t.evu.phase = .hardening ∨ t.evu.phase = .necking ∨ t.evu.phase = .fractured) ∧
         (r.rel = .opened → r'.rel = .absent .extensometerRemoved ∧ t.cli.pending.result = true)) ∧
       (s.evu.fit = .collecting ∨ s.evu.search = .opened → ∀ x ∈ t.sms.ring.drop s.sms.ring.length, x.kind ≠ .rp) ∧
       (s.evu.phase = .yielding → ∀ x ∈ t.sms.ring.drop s.sms.ring.length, x.kind ≠ .rel))

/-- R151, R134, R138, R150, R152: which fields close, and with which reason. At entry into ENDED, for an end that no
point's evaluation brings with it, the end reason is written and every field still OPEN closes: NOT_REACHED for COMPLETE,
TEST_ABORTED for ABORTED, TRIPPED and START_FAILED. A fit still COLLECTING fails with that reason; where a fallback
modulus is allowed, E and x0 are fixed from it instead, at the latest point's index (the model's choice, log 45). The
search closes if it is OPEN or if that fallback opens it, and otherwise stays (DEDUCED, log 26), the phase stays, the
yield tracker goes, no mark but TEST_END and HANDOVER is made, and RESULT is not raised. On the entry point the phase is
ELASTIC and max passed is armed; NOT_REQUESTED closes Rp with an offset of 0, ReH and ReL with a yield drop of 0, and,
where no head of the test is CLAMPED, E and x0, unless the fallback fixes them on that point; every other field stays
and RESULT is not raised. -/
def Obligations.ResultFieldsCloseAtEntryAndEnd : Prop :=
  (∀ s k t r why, s.inTest = true → exec k s = .next t → t.tsq.state = .ended → t.tsq.endReason = some why →
     why ≠ .fracture → s.evu.result = some r →
     (∀ c, k = .conversionComplete c →
       s.tsq.state = .starting ∧ s.tsq.startStep ≠ some .entry ∨ s.tsq.state = .ending ∧ s.calm c ∨
       s.lmu.trip = .clear ∧ (c.driveReady = false ∧ ¬ s.readyUnwatched ∨ s.misread c ∧ 3 ≤ s.drl.mismatches)) →
     ∃ r', t.evu.result = some r' ∧
       let reason : Absence := if why = .complete then .notReached else .testAborted
       let collects := s.evu.fit = .collecting
       let sums := s.evu.sums
       r'.endReason = some why ∧ r.rp.closedFor reason r'.rp ∧ r.reh.closedFor reason r'.reh ∧
       r.rel.closedFor reason r'.rel ∧ r.rm.closedFor reason r'.rm ∧ r.ag.closedFor reason r'.ag ∧
       r.fractureForce.closedFor reason r'.fractureForce ∧ r.a.closedFor reason r'.a ∧
       (¬ collects ∨ s.fallback = none →
         r.e.closedFor reason r'.e ∧ r.x0.closedFor reason r'.x0 ∧ t.evu.line = s.evu.line ∧
         t.evu.search = (if s.evu.search = .opened then .closed else s.evu.search)) ∧
       (∀ m, collects → s.fallback = some m → r.e = .opened → r.x0 = .opened →
         let x0 := if sums.n = 0 then 0 else divRound (sums.x * m - sums.y * 10000) (sums.n * m)
         r'.e = .fixed m t.latest.index ∧ r'.x0 = .fixed x0 t.latest.index ∧ r'.fallbackUsed = true ∧
         r'.fitCount = sums.n ∧ t.evu.line = some ⟨m, x0, true⟩ ∧
         t.evu.search = (if 0 < s.header.offsetStrain ∨ s.evu.search = .opened then .closed else s.evu.search)) ∧
       t.evu.fit = (if s.evu.fit = .collecting then .failed reason else s.evu.fit) ∧
       t.evu.phase = s.evu.phase ∧ t.evu.tracker = none ∧ t.cli.pending.result = s.cli.pending.result ∧
       ∀ x ∈ t.sms.ring.drop s.sms.ring.length, x.kind = .testEnd ∨ x.kind = .handover) ∧
  (∀ s c r, s.calm c → s.tsq.state = .starting → s.tsq.startStep = some .entry → s.drl.state = .idle →
     s.evu.result = some r →
     ∃ t p r', exec (.conversionComplete c) s = .next t ∧ t.latestPoint = some p ∧ t.evu.result = some r' ∧
       let measured := ∃ h, (s.exm.heads.get h).state = .measuring ∨
         (s.exm.heads.get h).testHead = true ∧ (s.exm.heads.get h).state = .clamped
       let sums := s.evu.sums
       t.evu.phase = .elastic ∧ t.evu.maxPassedArmed = true ∧ t.evu.search = s.evu.search ∧ t.evu.sums = sums ∧
       (s.header.offsetStrain = 0 → r.rp.closedFor .notRequested r'.rp) ∧
       (0 < s.header.offsetStrain → r'.rp = r.rp) ∧
       (s.header.yieldDrop = 0 → r.reh.closedFor .notRequested r'.reh ∧ r.rel.closedFor .notRequested r'.rel) ∧
       (0 < s.header.yieldDrop → r'.reh = r.reh ∧ r'.rel = r.rel) ∧
       r'.rm = r.rm ∧ r'.ag = r.ag ∧ r'.fractureForce = r.fractureForce ∧ r'.a = r.a ∧ r'.slipCount = r.slipCount ∧
       r'.endReason = r.endReason ∧ t.cli.pending.result = s.cli.pending.result ∧
       (measured → t.evu.fit = .collecting ∧ r'.e = r.e ∧ r'.x0 = r.x0 ∧ t.evu.line = s.evu.line) ∧
       (¬ measured → t.evu.fit = .notRequested ∧
         (s.fallback = none →
           r.e.closedFor .notRequested r'.e ∧ r.x0.closedFor .notRequested r'.x0 ∧ t.evu.line = s.evu.line) ∧
         (∀ m, s.fallback = some m → r.e = .opened → r.x0 = .opened → sums.n = 0 →
           r'.e = .fixed m p.index ∧ r'.x0 = .fixed 0 p.index ∧ r'.fallbackUsed = true ∧ r'.fitCount = 0 ∧
           t.evu.line = some ⟨m, 0, true⟩)))

/-- R156 to R160: what a point of a test, from its entry point on, leaves in the ring. Marks and the SEGMENT_START come
before its POINT record; the level is decided from the free slots ahead of each of the latter two. A SEGMENT_START is
stored at level 0, or at level 1 where the point's number is a multiple of 2N, and is else let go and counted. The POINT
record is stored where the number is a multiple of N at level 0 or of 2N at level 1; a multiple of N that the level does
not select is let go and counted; any other is passed over. What was let go shows as THINNED on the record stored next,
and a rise of the level adds THINNING. The point on which TEST_END is made is not offered. That a HANDOVER mark comes
before the SEGMENT_START of the same point, so that a SEGMENT_START let go does not show on it, is the model's choice of
the order of the blocks (log 11): section 2.7 tells the handover first, the table of section 8.7 the other order. -/
def Obligations.SampleStoreTakesAPoint : Prop :=
  ∀ s c, s.evaluates c ∧ s.sms.recording = true ∨
      s.calm c ∧ s.tsq.state = .starting ∧ s.tsq.startStep = some .entry ∧ s.drl.state = .idle ∧ s.fcu.tareWait = none →
    s.sms.decimation < 4294967295 →
    ∃ t p, exec (.conversionComplete c) s = .next t ∧ t.latestPoint = some p ∧
      let number := s.sms.decimation
      let n := s.header.decimation
      let selected : Nat → Prop := fun level => level = 0 ∧ number % n = 0 ∨ level = 1 ∧ number % (2 * n) = 0
      let decided : Nat → Nat → Nat := fun taken level =>
        if 1024 - taken ≤ 16 ∧ level < 2 then 2
        else if 17 ≤ 1024 - taken ∧ 1024 - taken ≤ 255 ∧ level = 0 then 1
        else if 512 ≤ 1024 - taken ∧ 0 < level then 0
        else level
      let entered := t.tsq.state = .running ∧ t.tsq.segmentTime = 0
      (s.sms.thinning < t.sms.thinning → t.cli.notices.thinning = true ∧ t.cli.pending.notice = true) ∧
      (t.tsq.state = .ended →
        (∃ before r, t.sms.ring = s.sms.ring ++ before ++ [r] ∧ r.kind = .testEnd ∧ ∀ x ∈ before, x.kind ≠ .point) ∧
        t.sms.recording = false ∧ t.sms.decimation = number ∧ t.sms.pointsNotStored = s.sms.pointsNotStored) ∧
      (t.tsq.state ≠ .ended →
        t.sms.recording = true ∧ t.sms.decimation = number + 1 ∧
        ∃ marks start level, ∃ letGo : Bool,
          (∀ x ∈ marks, x.kind ≠ .point ∧ x.kind ≠ .segmentStart) ∧
          let ahead := s.sms.ring ++ marks ++ start
          (¬ entered → start = [] ∧ letGo = false ∧ level = s.sms.thinning ∧
            t.sms.segStartsNotStored = s.sms.segStartsNotStored) ∧
          (entered → level = decided (s.sms.ring ++ marks).length s.sms.thinning ∧
            (level = 0 ∨ selected level → letGo = false ∧ t.sms.segStartsNotStored = s.sms.segStartsNotStored ∧
              ∃ r, start = [r] ∧ r.kind = .segmentStart ∧ r.segment = t.tsq.currentSegment ∧
                r.point = { p with flags := { p.flags with thinned := r.point.flags.thinned } }) ∧
            (level ≠ 0 → ¬ selected level → letGo = true ∧ start = [] ∧
              t.sms.segStartsNotStored = min 4294967295 (s.sms.segStartsNotStored + 1))) ∧
          t.sms.thinning = decided ahead.length level ∧
          let pendingNow := letGo || ((marks ++ start).isEmpty && s.sms.thinnedPending)
          (selected t.sms.thinning →
            t.sms.thinnedPending = false ∧ t.sms.pointsNotStored = s.sms.pointsNotStored ∧
            ∃ r, t.sms.ring = ahead ++ [r] ∧ r.kind = .point ∧ r.segment = none ∧ r.seq = t.sms.newest ∧
              r.point = { p with flags := { p.flags with thinned := p.flags.thinned || pendingNow } }) ∧
          (¬ selected t.sms.thinning → number % n = 0 →
            t.sms.ring = ahead ∧ t.sms.thinnedPending = true ∧
            t.sms.pointsNotStored = min 4294967295 (s.sms.pointsNotStored + 1) ∧
            t.sms.totalNotStored = min 4294967295 (s.sms.totalNotStored + 1)) ∧
          (¬ selected t.sms.thinning → number % n ≠ 0 →
            t.sms.ring = ahead ∧ t.sms.thinnedPending = pendingNow ∧
            t.sms.pointsNotStored = s.sms.pointsNotStored))

/-- R164: pacing on points and on stored records. The first record stored in WAITING begins COUNTING, with that record
counted and a delay of 0. In COUNTING each point and each record is counted; the delay in points reaching twice the pace
delay, the records reaching the pace count, or a guaranteed mark raises: RAISED, both counts 0, SAMPLES pending. In
RAISED nothing is counted. On a point the delay is counted before the records that the point stores (the model's choice,
log 14). The marks that another command stores, TEST_END and HANDOVER, raise at once. -/
def Obligations.PacingCallsTheComputer : Prop :=
  (∀ s c, s.inReset = false →
     ∃ t new, exec (.conversionComplete c) s = .next t ∧ t.sms.ring = s.sms.ring ++ new ∧
       let marked := ∃ x ∈ new, x.kind ≠ .point ∧ x.kind ≠ .segmentStart
       let n := (if s.sms.pacing = .counting then s.sms.storedSinceRaise else 0) + new.length
       let delayed := s.sms.pacing = .counting ∧ 2 * s.sms.paceDelay ≤ s.sms.delayCount + 1
       let raises := s.sms.pacing ≠ .raised ∧ (delayed ∨ new ≠ [] ∧ (marked ∨ s.sms.paceCount ≤ n))
       t.sms.paceCount = s.sms.paceCount ∧ t.sms.paceDelay = s.sms.paceDelay ∧
       t.sms.releaseMark = s.sms.releaseMark ∧
       (raises → t.sms.pacing = .raised ∧ t.sms.storedSinceRaise = 0 ∧ t.sms.delayCount = 0 ∧
         t.cli.pending.samples = true) ∧
       (¬ raises → t.cli.pending.samples = s.cli.pending.samples ∧
         (s.sms.pacing = .counting →
           t.sms.pacing = .counting ∧ t.sms.storedSinceRaise = n ∧ t.sms.delayCount = s.sms.delayCount + 1) ∧
         (s.sms.pacing = .waiting → new ≠ [] →
           t.sms.pacing = .counting ∧ t.sms.storedSinceRaise = n ∧ t.sms.delayCount = 0) ∧
         (s.sms.pacing = .raised ∨ s.sms.pacing = .waiting ∧ new = [] →
           t.sms.pacing = s.sms.pacing ∧ t.sms.storedSinceRaise = s.sms.storedSinceRaise ∧
           t.sms.delayCount = s.sms.delayCount))) ∧
  (∀ s k t new, (∀ c, k ≠ .conversionComplete c) → exec k s = .next t → t.sms.ring = s.sms.ring ++ new → new ≠ [] →
     (∀ x ∈ new, x.kind = .testEnd ∨ x.kind = .handover) ∧ t.sms.pacing = .raised ∧
     (s.sms.pacing ≠ .raised → t.sms.storedSinceRaise = 0 ∧ t.sms.delayCount = 0 ∧ t.cli.pending.samples = true))

/-! ### Headline statements -/


/-- R3, R7, R8, R48, R75, R196: what a request's payload carries is what the part reads from it, for every
specimen record in its ranges, every plan header and segment that has a place in its layout, every frame
configuration, and every calibration table. -/
def Obligations.PayloadsAreReadBack : Prop :=
  (∀ x : Specimen, x.lawful → x.payload.length = 52 ∧ specimenOf x.payload = some x) ∧
  (∀ h : PlanHeader, h.fits = true → ∀ rest, headerOf (h.payload ++ rest) = some h ∧ h.payload.length = 81) ∧
  (∀ gs : List Segment, (∀ g ∈ gs, g.fits = true) → ∀ a b,
    segmentsOf gs.length ([a, b] ++ (gs.map Segment.payload).flatten) = some gs ∧
    ((gs.map Segment.payload).flatten).length = 25 * gs.length) ∧
  (∀ f : FrameConfig, f.lawful → f.payload.length = 68 ∧ frameOf f.payload = f) ∧
  (∀ t : List Breakpoint, (∀ b ∈ t, fits32 b.count = true ∧ fits32 b.force = true) → ∀ a b,
    breakpointsOf t.length ([a, b] ++ breakpointBytes t) = t)

/-- Every invariant below holds after every reset, whatever levels it samples. -/
def Obligations.InvariantsHoldAtReset : Prop :=
  ∀ raw s t, exec (.powerOnReset raw) s = .next t →
    QueueBounded t ∧ ReceiverConsistent t ∧ NoticeConsistent t ∧ TripConsistent t ∧ DriveBounded t ∧
    ForceConsistent t ∧ GaugeConsistent t ∧ TestConsistent t

/-- R180, R181: every step keeps the reply queue at most 4 long, and the receiver's state and its partial frame in
agreement. R67, R81, R83: every step keeps the timers within their settings and the history within 16 forces. R101,
R105: every step keeps the waiting list without repetition and empty while the slot is free, and the failure counts
below their limits. -/
def Obligations.LinkAndMeasuringRecordsStayConsistent : Prop :=
  (∀ s t, QueueBounded s → step s = .next t → QueueBounded t) ∧
  (∀ s t, ReceiverConsistent s → step s = .next t → ReceiverConsistent t) ∧
  (∀ s t, ForceConsistent s → step s = .next t → ForceConsistent t) ∧
  (∀ s t, GaugeConsistent s → step s = .next t → GaugeConsistent t)

/-- R190: every step keeps NOTICE pending exactly while the notice set holds a kind. R65, R174, R175, R176: every step
keeps the trip, the drive's TRIPPED and the pending TRIP in agreement. R43, R58: every step keeps the command within max
speed, 0 in the five states of rest, and in the DAC. -/
def Obligations.AttentionTripAndCommandStayConsistent : Prop :=
  (∀ s t, NoticeConsistent s → step s = .next t → NoticeConsistent t) ∧
  (∀ s t, TripConsistent s → step s = .next t → TripConsistent t) ∧
  (∀ s t, DriveBounded s → step s = .next t → DriveBounded t)

/-- R9, R13, R18, R19: every step keeps the records of the Test Sequencer in agreement with its state. R108, R117,
R124, R125: every step keeps the strain source, the removal state and the frozen strain in agreement with one
another and with the test. -/
def Obligations.SequencerAndStrainStayConsistent : Prop :=
  (∀ s t, TestConsistent s → step s = .next t → SequencerConsistent t) ∧
  (∀ s t, TestConsistent s → step s = .next t → StrainConsistent t)

/-- R132, R134, R151: every step keeps the evaluation record in agreement with its phase and with the test. -/
def Obligations.EvaluationStaysConsistent : Prop :=
  ∀ s t, TestConsistent s → step s = .next t → EvaluationConsistent t

/-- R155, R161, R164, R165: every step keeps the ring's numbers consecutive from the release mark to the newest,
room in it for every mark the test can still hand, and pacing in agreement with the ring and with SAMPLES. -/
def Obligations.SampleRingStaysConsistent : Prop :=
  ∀ s t, TestConsistent s → step s = .next t → RingConsecutive t ∧ RingRoom t ∧ PacingConsistent t

/-- R150: within a test a characteristic field that has left OPEN does not change again. -/
def Obligations.ResultFieldsLeaveOpenOnce : Prop :=
  ∀ s t r r', s.inTest = true → step s = .next t → t.tsq.state ≠ .empty → s.evu.result = some r →
    t.evu.result = some r' → r.keeps r'
end

