-- ==== Sys2Proof/Laws/State.lean ====
section
/-! SUPPORT. The update of one block of the state, field by field: the block updated, every other block as it was. All
true by definition, so that no proof unfolds a record update. -/

namespace Sys2Proof.Laws

open Sys2Proof.Machine

variable (s : State)

section
variable (f : Cli → Cli)
@[simp] theorem onCli_cli : (s.onCli f).cli = f s.cli := rfl
@[simp] theorem onCli_tsq : (s.onCli f).tsq = s.tsq := rfl
@[simp] theorem onCli_drl : (s.onCli f).drl = s.drl := rfl
@[simp] theorem onCli_fcu : (s.onCli f).fcu = s.fcu := rfl
@[simp] theorem onCli_glc : (s.onCli f).glc = s.glc := rfl
@[simp] theorem onCli_exm : (s.onCli f).exm = s.exm := rfl
@[simp] theorem onCli_evu : (s.onCli f).evu = s.evu := rfl
@[simp] theorem onCli_sms : (s.onCli f).sms = s.sms := rfl
@[simp] theorem onCli_lmu : (s.onCli f).lmu = s.lmu := rfl
@[simp] theorem onCli_latestPoint : (s.onCli f).latestPoint = s.latestPoint := rfl
@[simp] theorem onCli_inReset : (s.onCli f).inReset = s.inReset := rfl
@[simp] theorem onCli_clock : (s.onCli f).clock = s.clock := rfl
@[simp] theorem onCli_freeCount : (s.onCli f).freeCount = s.freeCount := rfl
@[simp] theorem onCli_pending : (s.onCli f).pending = s.pending := rfl
end

section
variable (f : Tsq → Tsq)
@[simp] theorem onTsq_tsq : (s.onTsq f).tsq = f s.tsq := rfl
@[simp] theorem onTsq_cli : (s.onTsq f).cli = s.cli := rfl
@[simp] theorem onTsq_drl : (s.onTsq f).drl = s.drl := rfl
@[simp] theorem onTsq_fcu : (s.onTsq f).fcu = s.fcu := rfl
@[simp] theorem onTsq_glc : (s.onTsq f).glc = s.glc := rfl
@[simp] theorem onTsq_exm : (s.onTsq f).exm = s.exm := rfl
@[simp] theorem onTsq_evu : (s.onTsq f).evu = s.evu := rfl
@[simp] theorem onTsq_sms : (s.onTsq f).sms = s.sms := rfl
@[simp] theorem onTsq_lmu : (s.onTsq f).lmu = s.lmu := rfl
@[simp] theorem onTsq_latestPoint : (s.onTsq f).latestPoint = s.latestPoint := rfl
@[simp] theorem onTsq_inReset : (s.onTsq f).inReset = s.inReset := rfl
@[simp] theorem onTsq_clock : (s.onTsq f).clock = s.clock := rfl
@[simp] theorem onTsq_freeCount : (s.onTsq f).freeCount = s.freeCount := rfl
@[simp] theorem onTsq_pending : (s.onTsq f).pending = s.pending := rfl
end

section
variable (f : Drl → Drl)
@[simp] theorem onDrl_drl : (s.onDrl f).drl = f s.drl := rfl
@[simp] theorem onDrl_cli : (s.onDrl f).cli = s.cli := rfl
@[simp] theorem onDrl_tsq : (s.onDrl f).tsq = s.tsq := rfl
@[simp] theorem onDrl_fcu : (s.onDrl f).fcu = s.fcu := rfl
@[simp] theorem onDrl_glc : (s.onDrl f).glc = s.glc := rfl
@[simp] theorem onDrl_exm : (s.onDrl f).exm = s.exm := rfl
@[simp] theorem onDrl_evu : (s.onDrl f).evu = s.evu := rfl
@[simp] theorem onDrl_sms : (s.onDrl f).sms = s.sms := rfl
@[simp] theorem onDrl_lmu : (s.onDrl f).lmu = s.lmu := rfl
@[simp] theorem onDrl_latestPoint : (s.onDrl f).latestPoint = s.latestPoint := rfl
@[simp] theorem onDrl_inReset : (s.onDrl f).inReset = s.inReset := rfl
@[simp] theorem onDrl_clock : (s.onDrl f).clock = s.clock := rfl
@[simp] theorem onDrl_freeCount : (s.onDrl f).freeCount = s.freeCount := rfl
@[simp] theorem onDrl_pending : (s.onDrl f).pending = s.pending := rfl
end

section
variable (f : Fcu → Fcu)
@[simp] theorem onFcu_fcu : (s.onFcu f).fcu = f s.fcu := rfl
@[simp] theorem onFcu_cli : (s.onFcu f).cli = s.cli := rfl
@[simp] theorem onFcu_tsq : (s.onFcu f).tsq = s.tsq := rfl
@[simp] theorem onFcu_drl : (s.onFcu f).drl = s.drl := rfl
@[simp] theorem onFcu_glc : (s.onFcu f).glc = s.glc := rfl
@[simp] theorem onFcu_exm : (s.onFcu f).exm = s.exm := rfl
@[simp] theorem onFcu_evu : (s.onFcu f).evu = s.evu := rfl
@[simp] theorem onFcu_sms : (s.onFcu f).sms = s.sms := rfl
@[simp] theorem onFcu_lmu : (s.onFcu f).lmu = s.lmu := rfl
@[simp] theorem onFcu_latestPoint : (s.onFcu f).latestPoint = s.latestPoint := rfl
@[simp] theorem onFcu_inReset : (s.onFcu f).inReset = s.inReset := rfl
@[simp] theorem onFcu_clock : (s.onFcu f).clock = s.clock := rfl
@[simp] theorem onFcu_freeCount : (s.onFcu f).freeCount = s.freeCount := rfl
@[simp] theorem onFcu_pending : (s.onFcu f).pending = s.pending := rfl
end

section
variable (f : Glc → Glc)
@[simp] theorem onGlc_glc : (s.onGlc f).glc = f s.glc := rfl
@[simp] theorem onGlc_cli : (s.onGlc f).cli = s.cli := rfl
@[simp] theorem onGlc_tsq : (s.onGlc f).tsq = s.tsq := rfl
@[simp] theorem onGlc_drl : (s.onGlc f).drl = s.drl := rfl
@[simp] theorem onGlc_fcu : (s.onGlc f).fcu = s.fcu := rfl
@[simp] theorem onGlc_exm : (s.onGlc f).exm = s.exm := rfl
@[simp] theorem onGlc_evu : (s.onGlc f).evu = s.evu := rfl
@[simp] theorem onGlc_sms : (s.onGlc f).sms = s.sms := rfl
@[simp] theorem onGlc_lmu : (s.onGlc f).lmu = s.lmu := rfl
@[simp] theorem onGlc_latestPoint : (s.onGlc f).latestPoint = s.latestPoint := rfl
@[simp] theorem onGlc_inReset : (s.onGlc f).inReset = s.inReset := rfl
@[simp] theorem onGlc_clock : (s.onGlc f).clock = s.clock := rfl
@[simp] theorem onGlc_freeCount : (s.onGlc f).freeCount = s.freeCount := rfl
@[simp] theorem onGlc_pending : (s.onGlc f).pending = s.pending := rfl
end

section
variable (f : Exm → Exm)
@[simp] theorem onExm_exm : (s.onExm f).exm = f s.exm := rfl
@[simp] theorem onExm_cli : (s.onExm f).cli = s.cli := rfl
@[simp] theorem onExm_tsq : (s.onExm f).tsq = s.tsq := rfl
@[simp] theorem onExm_drl : (s.onExm f).drl = s.drl := rfl
@[simp] theorem onExm_fcu : (s.onExm f).fcu = s.fcu := rfl
@[simp] theorem onExm_glc : (s.onExm f).glc = s.glc := rfl
@[simp] theorem onExm_evu : (s.onExm f).evu = s.evu := rfl
@[simp] theorem onExm_sms : (s.onExm f).sms = s.sms := rfl
@[simp] theorem onExm_lmu : (s.onExm f).lmu = s.lmu := rfl
@[simp] theorem onExm_latestPoint : (s.onExm f).latestPoint = s.latestPoint := rfl
@[simp] theorem onExm_inReset : (s.onExm f).inReset = s.inReset := rfl
@[simp] theorem onExm_clock : (s.onExm f).clock = s.clock := rfl
@[simp] theorem onExm_freeCount : (s.onExm f).freeCount = s.freeCount := rfl
@[simp] theorem onExm_pending : (s.onExm f).pending = s.pending := rfl
end

section
variable (f : Evu → Evu)
@[simp] theorem onEvu_evu : (s.onEvu f).evu = f s.evu := rfl
@[simp] theorem onEvu_cli : (s.onEvu f).cli = s.cli := rfl
@[simp] theorem onEvu_tsq : (s.onEvu f).tsq = s.tsq := rfl
@[simp] theorem onEvu_drl : (s.onEvu f).drl = s.drl := rfl
@[simp] theorem onEvu_fcu : (s.onEvu f).fcu = s.fcu := rfl
@[simp] theorem onEvu_glc : (s.onEvu f).glc = s.glc := rfl
@[simp] theorem onEvu_exm : (s.onEvu f).exm = s.exm := rfl
@[simp] theorem onEvu_sms : (s.onEvu f).sms = s.sms := rfl
@[simp] theorem onEvu_lmu : (s.onEvu f).lmu = s.lmu := rfl
@[simp] theorem onEvu_latestPoint : (s.onEvu f).latestPoint = s.latestPoint := rfl
@[simp] theorem onEvu_inReset : (s.onEvu f).inReset = s.inReset := rfl
@[simp] theorem onEvu_clock : (s.onEvu f).clock = s.clock := rfl
@[simp] theorem onEvu_freeCount : (s.onEvu f).freeCount = s.freeCount := rfl
@[simp] theorem onEvu_pending : (s.onEvu f).pending = s.pending := rfl
end

section
variable (f : Sms → Sms)
@[simp] theorem onSms_sms : (s.onSms f).sms = f s.sms := rfl
@[simp] theorem onSms_cli : (s.onSms f).cli = s.cli := rfl
@[simp] theorem onSms_tsq : (s.onSms f).tsq = s.tsq := rfl
@[simp] theorem onSms_drl : (s.onSms f).drl = s.drl := rfl
@[simp] theorem onSms_fcu : (s.onSms f).fcu = s.fcu := rfl
@[simp] theorem onSms_glc : (s.onSms f).glc = s.glc := rfl
@[simp] theorem onSms_exm : (s.onSms f).exm = s.exm := rfl
@[simp] theorem onSms_evu : (s.onSms f).evu = s.evu := rfl
@[simp] theorem onSms_lmu : (s.onSms f).lmu = s.lmu := rfl
@[simp] theorem onSms_latestPoint : (s.onSms f).latestPoint = s.latestPoint := rfl
@[simp] theorem onSms_inReset : (s.onSms f).inReset = s.inReset := rfl
@[simp] theorem onSms_clock : (s.onSms f).clock = s.clock := rfl
@[simp] theorem onSms_freeCount : (s.onSms f).freeCount = s.freeCount := rfl
@[simp] theorem onSms_pending : (s.onSms f).pending = s.pending := rfl
end

section
variable (f : Lmu → Lmu)
@[simp] theorem onLmu_lmu : (s.onLmu f).lmu = f s.lmu := rfl
@[simp] theorem onLmu_cli : (s.onLmu f).cli = s.cli := rfl
@[simp] theorem onLmu_tsq : (s.onLmu f).tsq = s.tsq := rfl
@[simp] theorem onLmu_drl : (s.onLmu f).drl = s.drl := rfl
@[simp] theorem onLmu_fcu : (s.onLmu f).fcu = s.fcu := rfl
@[simp] theorem onLmu_glc : (s.onLmu f).glc = s.glc := rfl
@[simp] theorem onLmu_exm : (s.onLmu f).exm = s.exm := rfl
@[simp] theorem onLmu_evu : (s.onLmu f).evu = s.evu := rfl
@[simp] theorem onLmu_sms : (s.onLmu f).sms = s.sms := rfl
@[simp] theorem onLmu_latestPoint : (s.onLmu f).latestPoint = s.latestPoint := rfl
@[simp] theorem onLmu_inReset : (s.onLmu f).inReset = s.inReset := rfl
@[simp] theorem onLmu_clock : (s.onLmu f).clock = s.clock := rfl
@[simp] theorem onLmu_freeCount : (s.onLmu f).freeCount = s.freeCount := rfl
@[simp] theorem onLmu_pending : (s.onLmu f).pending = s.pending := rfl
end

end Sys2Proof.Laws
end

