-- ==== Sys2Proof/Laws/FramesBlocks.lean ====
section
/-! SUPPORT. What the operations of the flags, the store, the heads, the evaluation, the sequencer and the limits leave unchanged: for every operation, the blocks and fields it does not
touch. -/

set_option linter.unusedTactic false
set_option linter.unnecessarySeqFocus false
set_option linter.unusedSimpArgs false
set_option linter.unreachableTactic false

namespace Sys2Proof.Laws

open Sys2Proof.Machine

@[simp] theorem raise_frame (k : Source) (s : State) :
    (raise k s).tsq = s.tsq ∧ (raise k s).drl = s.drl ∧ (raise k s).fcu = s.fcu ∧ (raise k s).glc = s.glc ∧ (raise
    k s).exm = s.exm ∧ (raise k s).evu = s.evu ∧ (raise k s).sms = s.sms ∧ (raise k s).lmu = s.lmu ∧ (raise k
    s).latestPoint = s.latestPoint ∧ (raise k s).inReset = s.inReset ∧ (raise k s).clock = s.clock ∧ (raise k
    s).freeCount = s.freeCount ∧ (raise k s).pending = s.pending ∧ (raise k s).cli.replies = s.cli.replies ∧
    (raise k s).cli.receiver = s.cli.receiver ∧ (raise k s).cli.partialFrame = s.cli.partialFrame ∧ (raise k
    s).cli.restartPending = s.cli.restartPending ∧ (raise k s).cli.mask = s.cli.mask ∧ (raise k s).cli.counters =
    s.cli.counters := by
  unfold raise; (try dsimp only); (repeat' split) <;> simp

@[simp] theorem clearSource_frame (k : Source) (s : State) :
    (clearSource k s).tsq = s.tsq ∧ (clearSource k s).drl = s.drl ∧ (clearSource k s).fcu = s.fcu ∧ (clearSource k
    s).glc = s.glc ∧ (clearSource k s).exm = s.exm ∧ (clearSource k s).evu = s.evu ∧ (clearSource k s).sms = s.sms
    ∧ (clearSource k s).lmu = s.lmu ∧ (clearSource k s).latestPoint = s.latestPoint ∧ (clearSource k s).inReset =
    s.inReset ∧ (clearSource k s).clock = s.clock ∧ (clearSource k s).freeCount = s.freeCount ∧ (clearSource k
    s).pending = s.pending ∧ (clearSource k s).cli.replies = s.cli.replies ∧ (clearSource k s).cli.receiver =
    s.cli.receiver ∧ (clearSource k s).cli.partialFrame = s.cli.partialFrame ∧ (clearSource k
    s).cli.restartPending = s.cli.restartPending ∧ (clearSource k s).cli.mask = s.cli.mask ∧ (clearSource k
    s).cli.counters = s.cli.counters := by
  unfold clearSource; (try dsimp only); (repeat' split) <;> simp

@[simp] theorem addNotice_frame (n : Notice) (s : State) :
    (addNotice n s).tsq = s.tsq ∧ (addNotice n s).drl = s.drl ∧ (addNotice n s).fcu = s.fcu ∧ (addNotice n s).glc
    = s.glc ∧ (addNotice n s).exm = s.exm ∧ (addNotice n s).evu = s.evu ∧ (addNotice n s).sms = s.sms ∧ (addNotice
    n s).lmu = s.lmu ∧ (addNotice n s).latestPoint = s.latestPoint ∧ (addNotice n s).inReset = s.inReset ∧
    (addNotice n s).clock = s.clock ∧ (addNotice n s).freeCount = s.freeCount ∧ (addNotice n s).pending =
    s.pending ∧ (addNotice n s).cli.replies = s.cli.replies ∧ (addNotice n s).cli.receiver = s.cli.receiver ∧
    (addNotice n s).cli.partialFrame = s.cli.partialFrame ∧ (addNotice n s).cli.restartPending =
    s.cli.restartPending ∧ (addNotice n s).cli.mask = s.cli.mask ∧ (addNotice n s).cli.counters = s.cli.counters := by
  unfold addNotice; (try dsimp only); (repeat' split) <;> simp

@[simp] theorem pacingRaise_frame (s : State) :
    (pacingRaise s).tsq = s.tsq ∧ (pacingRaise s).drl = s.drl ∧ (pacingRaise s).fcu = s.fcu ∧ (pacingRaise s).glc
    = s.glc ∧ (pacingRaise s).exm = s.exm ∧ (pacingRaise s).evu = s.evu ∧ (pacingRaise s).lmu = s.lmu ∧
    (pacingRaise s).latestPoint = s.latestPoint ∧ (pacingRaise s).inReset = s.inReset ∧ (pacingRaise s).clock =
    s.clock ∧ (pacingRaise s).freeCount = s.freeCount ∧ (pacingRaise s).pending = s.pending ∧ (pacingRaise
    s).cli.replies = s.cli.replies ∧ (pacingRaise s).cli.receiver = s.cli.receiver ∧ (pacingRaise
    s).cli.partialFrame = s.cli.partialFrame ∧ (pacingRaise s).cli.restartPending = s.cli.restartPending ∧
    (pacingRaise s).cli.mask = s.cli.mask ∧ (pacingRaise s).cli.counters = s.cli.counters ∧ (pacingRaise
    s).sms.ring = s.sms.ring ∧ (pacingRaise s).sms.paceCount = s.sms.paceCount ∧ (pacingRaise s).sms.paceDelay =
    s.sms.paceDelay ∧ (pacingRaise s).sms.recording = s.sms.recording := by
  unfold pacingRaise; (try dsimp only); (repeat' split) <;> simp

@[simp] theorem pacingCount_frame (mark : Bool) (n : Nat) (s : State) :
    (pacingCount mark n s).tsq = s.tsq ∧ (pacingCount mark n s).drl = s.drl ∧ (pacingCount mark n s).fcu = s.fcu ∧
    (pacingCount mark n s).glc = s.glc ∧ (pacingCount mark n s).exm = s.exm ∧ (pacingCount mark n s).evu = s.evu ∧
    (pacingCount mark n s).lmu = s.lmu ∧ (pacingCount mark n s).latestPoint = s.latestPoint ∧ (pacingCount mark n
    s).inReset = s.inReset ∧ (pacingCount mark n s).clock = s.clock ∧ (pacingCount mark n s).freeCount =
    s.freeCount ∧ (pacingCount mark n s).pending = s.pending ∧ (pacingCount mark n s).cli.replies = s.cli.replies
    ∧ (pacingCount mark n s).cli.receiver = s.cli.receiver ∧ (pacingCount mark n s).cli.partialFrame =
    s.cli.partialFrame ∧ (pacingCount mark n s).cli.restartPending = s.cli.restartPending ∧ (pacingCount mark n
    s).cli.mask = s.cli.mask ∧ (pacingCount mark n s).cli.counters = s.cli.counters ∧ (pacingCount mark n
    s).sms.ring = s.sms.ring ∧ (pacingCount mark n s).sms.paceCount = s.sms.paceCount ∧ (pacingCount mark n
    s).sms.paceDelay = s.sms.paceDelay ∧ (pacingCount mark n s).sms.recording = s.sms.recording := by
  unfold pacingCount; (try dsimp only); (repeat' split) <;> simp

@[simp] theorem pacingStored_frame (mark : Bool) (s : State) :
    (pacingStored mark s).tsq = s.tsq ∧ (pacingStored mark s).drl = s.drl ∧ (pacingStored mark s).fcu = s.fcu ∧
    (pacingStored mark s).glc = s.glc ∧ (pacingStored mark s).exm = s.exm ∧ (pacingStored mark s).evu = s.evu ∧
    (pacingStored mark s).lmu = s.lmu ∧ (pacingStored mark s).latestPoint = s.latestPoint ∧ (pacingStored mark
    s).inReset = s.inReset ∧ (pacingStored mark s).clock = s.clock ∧ (pacingStored mark s).freeCount = s.freeCount
    ∧ (pacingStored mark s).pending = s.pending ∧ (pacingStored mark s).cli.replies = s.cli.replies ∧
    (pacingStored mark s).cli.receiver = s.cli.receiver ∧ (pacingStored mark s).cli.partialFrame =
    s.cli.partialFrame ∧ (pacingStored mark s).cli.restartPending = s.cli.restartPending ∧ (pacingStored mark
    s).cli.mask = s.cli.mask ∧ (pacingStored mark s).cli.counters = s.cli.counters ∧ (pacingStored mark
    s).sms.ring = s.sms.ring ∧ (pacingStored mark s).sms.paceCount = s.sms.paceCount ∧ (pacingStored mark
    s).sms.paceDelay = s.sms.paceDelay ∧ (pacingStored mark s).sms.recording = s.sms.recording := by
  unfold pacingStored; (try dsimp only); (repeat' split) <;> simp

@[simp] theorem pacingPoint_frame (s : State) :
    (pacingPoint s).tsq = s.tsq ∧ (pacingPoint s).drl = s.drl ∧ (pacingPoint s).fcu = s.fcu ∧ (pacingPoint s).glc
    = s.glc ∧ (pacingPoint s).exm = s.exm ∧ (pacingPoint s).evu = s.evu ∧ (pacingPoint s).lmu = s.lmu ∧
    (pacingPoint s).latestPoint = s.latestPoint ∧ (pacingPoint s).inReset = s.inReset ∧ (pacingPoint s).clock =
    s.clock ∧ (pacingPoint s).freeCount = s.freeCount ∧ (pacingPoint s).pending = s.pending ∧ (pacingPoint
    s).cli.replies = s.cli.replies ∧ (pacingPoint s).cli.receiver = s.cli.receiver ∧ (pacingPoint
    s).cli.partialFrame = s.cli.partialFrame ∧ (pacingPoint s).cli.restartPending = s.cli.restartPending ∧
    (pacingPoint s).cli.mask = s.cli.mask ∧ (pacingPoint s).cli.counters = s.cli.counters ∧ (pacingPoint
    s).sms.ring = s.sms.ring ∧ (pacingPoint s).sms.paceCount = s.sms.paceCount ∧ (pacingPoint s).sms.paceDelay =
    s.sms.paceDelay ∧ (pacingPoint s).sms.recording = s.sms.recording := by
  unfold pacingPoint; (try dsimp only); (repeat' split) <;> simp

@[simp] theorem storeRecord_frame (mark : Bool) (kind : RecordKind) (segment : Option Nat) (p : Point) (s : State) :
    (storeRecord mark kind segment p s).tsq = s.tsq ∧ (storeRecord mark kind segment p s).drl = s.drl ∧
    (storeRecord mark kind segment p s).fcu = s.fcu ∧ (storeRecord mark kind segment p s).glc = s.glc ∧
    (storeRecord mark kind segment p s).exm = s.exm ∧ (storeRecord mark kind segment p s).evu = s.evu ∧
    (storeRecord mark kind segment p s).lmu = s.lmu ∧ (storeRecord mark kind segment p s).latestPoint =
    s.latestPoint ∧ (storeRecord mark kind segment p s).inReset = s.inReset ∧ (storeRecord mark kind segment p
    s).clock = s.clock ∧ (storeRecord mark kind segment p s).freeCount = s.freeCount ∧ (storeRecord mark kind
    segment p s).pending = s.pending ∧ (storeRecord mark kind segment p s).cli.replies = s.cli.replies ∧
    (storeRecord mark kind segment p s).cli.receiver = s.cli.receiver ∧ (storeRecord mark kind segment p
    s).cli.partialFrame = s.cli.partialFrame ∧ (storeRecord mark kind segment p s).cli.restartPending =
    s.cli.restartPending ∧ (storeRecord mark kind segment p s).cli.mask = s.cli.mask ∧ (storeRecord mark kind
    segment p s).cli.counters = s.cli.counters := by
  unfold storeRecord; (try dsimp only); (repeat' split) <;> simp

@[simp] theorem storeMark_frame (kind : RecordKind) (p : Point) (s : State) :
    (storeMark kind p s).tsq = s.tsq ∧ (storeMark kind p s).drl = s.drl ∧ (storeMark kind p s).fcu = s.fcu ∧
    (storeMark kind p s).glc = s.glc ∧ (storeMark kind p s).exm = s.exm ∧ (storeMark kind p s).evu = s.evu ∧
    (storeMark kind p s).lmu = s.lmu ∧ (storeMark kind p s).latestPoint = s.latestPoint ∧ (storeMark kind p
    s).inReset = s.inReset ∧ (storeMark kind p s).clock = s.clock ∧ (storeMark kind p s).freeCount = s.freeCount ∧
    (storeMark kind p s).pending = s.pending ∧ (storeMark kind p s).cli.replies = s.cli.replies ∧ (storeMark kind
    p s).cli.receiver = s.cli.receiver ∧ (storeMark kind p s).cli.partialFrame = s.cli.partialFrame ∧ (storeMark
    kind p s).cli.restartPending = s.cli.restartPending ∧ (storeMark kind p s).cli.mask = s.cli.mask ∧ (storeMark
    kind p s).cli.counters = s.cli.counters := by
  unfold storeMark; (try dsimp only); (repeat' split) <;> simp

@[simp] theorem decideThinning_frame (s : State) :
    (decideThinning s).tsq = s.tsq ∧ (decideThinning s).drl = s.drl ∧ (decideThinning s).fcu = s.fcu ∧
    (decideThinning s).glc = s.glc ∧ (decideThinning s).exm = s.exm ∧ (decideThinning s).evu = s.evu ∧
    (decideThinning s).lmu = s.lmu ∧ (decideThinning s).latestPoint = s.latestPoint ∧ (decideThinning s).inReset =
    s.inReset ∧ (decideThinning s).clock = s.clock ∧ (decideThinning s).freeCount = s.freeCount ∧ (decideThinning
    s).pending = s.pending ∧ (decideThinning s).cli.replies = s.cli.replies ∧ (decideThinning s).cli.receiver =
    s.cli.receiver ∧ (decideThinning s).cli.partialFrame = s.cli.partialFrame ∧ (decideThinning
    s).cli.restartPending = s.cli.restartPending ∧ (decideThinning s).cli.mask = s.cli.mask ∧ (decideThinning
    s).cli.counters = s.cli.counters ∧ (decideThinning s).sms.ring = s.sms.ring ∧ (decideThinning s).sms.paceCount
    = s.sms.paceCount ∧ (decideThinning s).sms.paceDelay = s.sms.paceDelay ∧ (decideThinning s).sms.recording =
    s.sms.recording := by
  unfold decideThinning; (try dsimp only); (repeat' split) <;> simp

@[simp] theorem offerSegmentStart_frame (idx : Nat) (p : Point) (s : State) :
    (offerSegmentStart idx p s).tsq = s.tsq ∧ (offerSegmentStart idx p s).drl = s.drl ∧ (offerSegmentStart idx p
    s).fcu = s.fcu ∧ (offerSegmentStart idx p s).glc = s.glc ∧ (offerSegmentStart idx p s).exm = s.exm ∧
    (offerSegmentStart idx p s).evu = s.evu ∧ (offerSegmentStart idx p s).lmu = s.lmu ∧ (offerSegmentStart idx p
    s).latestPoint = s.latestPoint ∧ (offerSegmentStart idx p s).inReset = s.inReset ∧ (offerSegmentStart idx p
    s).clock = s.clock ∧ (offerSegmentStart idx p s).freeCount = s.freeCount ∧ (offerSegmentStart idx p s).pending
    = s.pending ∧ (offerSegmentStart idx p s).cli.replies = s.cli.replies ∧ (offerSegmentStart idx p
    s).cli.receiver = s.cli.receiver ∧ (offerSegmentStart idx p s).cli.partialFrame = s.cli.partialFrame ∧
    (offerSegmentStart idx p s).cli.restartPending = s.cli.restartPending ∧ (offerSegmentStart idx p s).cli.mask =
    s.cli.mask ∧ (offerSegmentStart idx p s).cli.counters = s.cli.counters := by
  unfold offerSegmentStart; (try dsimp only); (repeat' split) <;> simp

@[simp] theorem countOffered_frame (s : State) :
    (countOffered s).cli = s.cli ∧ (countOffered s).tsq = s.tsq ∧ (countOffered s).drl = s.drl ∧ (countOffered
    s).fcu = s.fcu ∧ (countOffered s).glc = s.glc ∧ (countOffered s).exm = s.exm ∧ (countOffered s).evu = s.evu ∧
    (countOffered s).lmu = s.lmu ∧ (countOffered s).latestPoint = s.latestPoint ∧ (countOffered s).inReset =
    s.inReset ∧ (countOffered s).clock = s.clock ∧ (countOffered s).pending = s.pending ∧ (countOffered
    s).sms.ring = s.sms.ring ∧ (countOffered s).sms.paceCount = s.sms.paceCount ∧ (countOffered s).sms.paceDelay =
    s.sms.paceDelay ∧ (countOffered s).sms.recording = s.sms.recording := by
  unfold countOffered; (try dsimp only); (repeat' split) <;> simp

@[simp] theorem decidePoint_frame (number : Nat) (p : Point) (s : State) :
    (decidePoint number p s).tsq = s.tsq ∧ (decidePoint number p s).drl = s.drl ∧ (decidePoint number p s).fcu =
    s.fcu ∧ (decidePoint number p s).glc = s.glc ∧ (decidePoint number p s).exm = s.exm ∧ (decidePoint number p
    s).evu = s.evu ∧ (decidePoint number p s).lmu = s.lmu ∧ (decidePoint number p s).latestPoint = s.latestPoint ∧
    (decidePoint number p s).inReset = s.inReset ∧ (decidePoint number p s).clock = s.clock ∧ (decidePoint number
    p s).freeCount = s.freeCount ∧ (decidePoint number p s).pending = s.pending ∧ (decidePoint number p
    s).cli.replies = s.cli.replies ∧ (decidePoint number p s).cli.receiver = s.cli.receiver ∧ (decidePoint number
    p s).cli.partialFrame = s.cli.partialFrame ∧ (decidePoint number p s).cli.restartPending =
    s.cli.restartPending ∧ (decidePoint number p s).cli.mask = s.cli.mask ∧ (decidePoint number p s).cli.counters
    = s.cli.counters := by
  unfold decidePoint; (try dsimp only); (repeat' split) <;> simp

@[simp] theorem offerPoint_frame (p : Point) (s : State) :
    (offerPoint p s).tsq = s.tsq ∧ (offerPoint p s).drl = s.drl ∧ (offerPoint p s).fcu = s.fcu ∧ (offerPoint p
    s).glc = s.glc ∧ (offerPoint p s).exm = s.exm ∧ (offerPoint p s).evu = s.evu ∧ (offerPoint p s).lmu = s.lmu ∧
    (offerPoint p s).latestPoint = s.latestPoint ∧ (offerPoint p s).inReset = s.inReset ∧ (offerPoint p s).clock =
    s.clock ∧ (offerPoint p s).pending = s.pending ∧ (offerPoint p s).cli.replies = s.cli.replies ∧ (offerPoint p
    s).cli.receiver = s.cli.receiver ∧ (offerPoint p s).cli.partialFrame = s.cli.partialFrame ∧ (offerPoint p
    s).cli.restartPending = s.cli.restartPending ∧ (offerPoint p s).cli.mask = s.cli.mask ∧ (offerPoint p
    s).cli.counters = s.cli.counters := by
  unfold offerPoint; (try dsimp only); (repeat' split) <;> simp

@[simp] theorem storeTestAccepted_frame (s : State) :
    (storeTestAccepted s).cli = s.cli ∧ (storeTestAccepted s).tsq = s.tsq ∧ (storeTestAccepted s).drl = s.drl ∧
    (storeTestAccepted s).fcu = s.fcu ∧ (storeTestAccepted s).glc = s.glc ∧ (storeTestAccepted s).exm = s.exm ∧
    (storeTestAccepted s).evu = s.evu ∧ (storeTestAccepted s).lmu = s.lmu ∧ (storeTestAccepted s).latestPoint =
    s.latestPoint ∧ (storeTestAccepted s).inReset = s.inReset ∧ (storeTestAccepted s).clock = s.clock ∧
    (storeTestAccepted s).freeCount = s.freeCount ∧ (storeTestAccepted s).pending = s.pending ∧ (storeTestAccepted
    s).sms.ring = s.sms.ring ∧ (storeTestAccepted s).sms.paceCount = s.sms.paceCount ∧ (storeTestAccepted
    s).sms.paceDelay = s.sms.paceDelay ∧ (storeTestAccepted s).sms.recording = s.sms.recording := by
  unfold storeTestAccepted; (try dsimp only); (repeat' split) <;> simp

@[simp] theorem releasePacing_frame (s : State) :
    (releasePacing s).tsq = s.tsq ∧ (releasePacing s).drl = s.drl ∧ (releasePacing s).fcu = s.fcu ∧ (releasePacing
    s).glc = s.glc ∧ (releasePacing s).exm = s.exm ∧ (releasePacing s).evu = s.evu ∧ (releasePacing s).lmu = s.lmu
    ∧ (releasePacing s).latestPoint = s.latestPoint ∧ (releasePacing s).inReset = s.inReset ∧ (releasePacing
    s).clock = s.clock ∧ (releasePacing s).freeCount = s.freeCount ∧ (releasePacing s).pending = s.pending ∧
    (releasePacing s).cli.replies = s.cli.replies ∧ (releasePacing s).cli.receiver = s.cli.receiver ∧
    (releasePacing s).cli.partialFrame = s.cli.partialFrame ∧ (releasePacing s).cli.restartPending =
    s.cli.restartPending ∧ (releasePacing s).cli.mask = s.cli.mask ∧ (releasePacing s).cli.counters =
    s.cli.counters ∧ (releasePacing s).sms.ring = s.sms.ring ∧ (releasePacing s).sms.paceCount = s.sms.paceCount ∧
    (releasePacing s).sms.paceDelay = s.sms.paceDelay ∧ (releasePacing s).sms.recording = s.sms.recording := by
  unfold releasePacing; (try dsimp only); (repeat' split) <;> simp

@[simp] theorem releaseRecords_frame (r count delay : Nat) (s : State) :
    (releaseRecords r count delay s).tsq = s.tsq ∧ (releaseRecords r count delay s).drl = s.drl ∧ (releaseRecords
    r count delay s).fcu = s.fcu ∧ (releaseRecords r count delay s).glc = s.glc ∧ (releaseRecords r count delay
    s).exm = s.exm ∧ (releaseRecords r count delay s).evu = s.evu ∧ (releaseRecords r count delay s).lmu = s.lmu ∧
    (releaseRecords r count delay s).latestPoint = s.latestPoint ∧ (releaseRecords r count delay s).inReset =
    s.inReset ∧ (releaseRecords r count delay s).clock = s.clock ∧ (releaseRecords r count delay s).freeCount =
    s.freeCount ∧ (releaseRecords r count delay s).pending = s.pending ∧ (releaseRecords r count delay
    s).cli.replies = s.cli.replies ∧ (releaseRecords r count delay s).cli.receiver = s.cli.receiver ∧
    (releaseRecords r count delay s).cli.partialFrame = s.cli.partialFrame ∧ (releaseRecords r count delay
    s).cli.restartPending = s.cli.restartPending ∧ (releaseRecords r count delay s).cli.mask = s.cli.mask ∧
    (releaseRecords r count delay s).cli.counters = s.cli.counters := by
  unfold releaseRecords; (try dsimp only); (repeat' split) <;> simp

@[simp] theorem askCommand_frame (h : Head) (k : HeadCmd) (s : State) :
    (askCommand h k s).cli = s.cli ∧ (askCommand h k s).tsq = s.tsq ∧ (askCommand h k s).drl = s.drl ∧ (askCommand
    h k s).fcu = s.fcu ∧ (askCommand h k s).exm = s.exm ∧ (askCommand h k s).evu = s.evu ∧ (askCommand h k s).sms
    = s.sms ∧ (askCommand h k s).lmu = s.lmu ∧ (askCommand h k s).latestPoint = s.latestPoint ∧ (askCommand h k
    s).inReset = s.inReset ∧ (askCommand h k s).clock = s.clock ∧ (askCommand h k s).freeCount = s.freeCount ∧
    (askCommand h k s).pending = s.pending := by
  unfold askCommand; (try dsimp only); (repeat' split) <;> simp

@[simp] theorem onHead_frame (h : Head) (f : HeadEntry → HeadEntry) (s : State) :
    (onHead h f s).cli = s.cli ∧ (onHead h f s).tsq = s.tsq ∧ (onHead h f s).drl = s.drl ∧ (onHead h f s).fcu =
    s.fcu ∧ (onHead h f s).glc = s.glc ∧ (onHead h f s).evu = s.evu ∧ (onHead h f s).sms = s.sms ∧ (onHead h f
    s).lmu = s.lmu ∧ (onHead h f s).latestPoint = s.latestPoint ∧ (onHead h f s).inReset = s.inReset ∧ (onHead h f
    s).clock = s.clock ∧ (onHead h f s).freeCount = s.freeCount ∧ (onHead h f s).pending = s.pending ∧ (onHead h f
    s).exm.source = s.exm.source ∧ (onHead h f s).exm.removal = s.exm.removal ∧ (onHead h f s).exm.frozenStrain =
    s.exm.frozenStrain := by
  unfold onHead; (try dsimp only); (repeat' split) <;> simp

@[simp] theorem setHeadState_frame (h : Head) (st : HeadState) (s : State) :
    (setHeadState h st s).tsq = s.tsq ∧ (setHeadState h st s).drl = s.drl ∧ (setHeadState h st s).fcu = s.fcu ∧
    (setHeadState h st s).glc = s.glc ∧ (setHeadState h st s).evu = s.evu ∧ (setHeadState h st s).sms = s.sms ∧
    (setHeadState h st s).lmu = s.lmu ∧ (setHeadState h st s).latestPoint = s.latestPoint ∧ (setHeadState h st
    s).inReset = s.inReset ∧ (setHeadState h st s).clock = s.clock ∧ (setHeadState h st s).freeCount = s.freeCount
    ∧ (setHeadState h st s).pending = s.pending ∧ (setHeadState h st s).cli.replies = s.cli.replies ∧
    (setHeadState h st s).cli.receiver = s.cli.receiver ∧ (setHeadState h st s).cli.partialFrame =
    s.cli.partialFrame ∧ (setHeadState h st s).cli.restartPending = s.cli.restartPending ∧ (setHeadState h st
    s).cli.mask = s.cli.mask ∧ (setHeadState h st s).cli.counters = s.cli.counters ∧ (setHeadState h st
    s).exm.source = s.exm.source ∧ (setHeadState h st s).exm.removal = s.exm.removal ∧ (setHeadState h st
    s).exm.frozenStrain = s.exm.frozenStrain := by
  unfold setHeadState; (try dsimp only); (repeat' split) <;> simp

@[simp] theorem setWatch_frame (h : Head) (b : Bool) (s : State) :
    (setWatch h b s).cli = s.cli ∧ (setWatch h b s).tsq = s.tsq ∧ (setWatch h b s).drl = s.drl ∧ (setWatch h b
    s).fcu = s.fcu ∧ (setWatch h b s).glc = s.glc ∧ (setWatch h b s).evu = s.evu ∧ (setWatch h b s).sms = s.sms ∧
    (setWatch h b s).lmu = s.lmu ∧ (setWatch h b s).latestPoint = s.latestPoint ∧ (setWatch h b s).inReset =
    s.inReset ∧ (setWatch h b s).clock = s.clock ∧ (setWatch h b s).freeCount = s.freeCount ∧ (setWatch h b
    s).pending = s.pending ∧ (setWatch h b s).exm.source = s.exm.source ∧ (setWatch h b s).exm.removal =
    s.exm.removal ∧ (setWatch h b s).exm.frozenStrain = s.exm.frozenStrain ∧ (setWatch h b s).exm.heads =
    s.exm.heads := by
  unfold setWatch; (try dsimp only); (repeat' split) <;> simp

@[simp] theorem askWatchedLift_frame (h : Head) (s : State) :
    (askWatchedLift h s).cli = s.cli ∧ (askWatchedLift h s).tsq = s.tsq ∧ (askWatchedLift h s).drl = s.drl ∧
    (askWatchedLift h s).fcu = s.fcu ∧ (askWatchedLift h s).evu = s.evu ∧ (askWatchedLift h s).sms = s.sms ∧
    (askWatchedLift h s).lmu = s.lmu ∧ (askWatchedLift h s).latestPoint = s.latestPoint ∧ (askWatchedLift h
    s).inReset = s.inReset ∧ (askWatchedLift h s).clock = s.clock ∧ (askWatchedLift h s).freeCount = s.freeCount ∧
    (askWatchedLift h s).pending = s.pending ∧ (askWatchedLift h s).exm.source = s.exm.source ∧ (askWatchedLift h
    s).exm.removal = s.exm.removal ∧ (askWatchedLift h s).exm.frozenStrain = s.exm.frozenStrain ∧ (askWatchedLift
    h s).exm.heads = s.exm.heads := by
  unfold askWatchedLift; (try dsimp only); (repeat' split) <;> simp

@[simp] theorem askLiftIf_frame (p : HeadState → Bool) (h : Head) (s : State) :
    (askLiftIf p h s).cli = s.cli ∧ (askLiftIf p h s).tsq = s.tsq ∧ (askLiftIf p h s).drl = s.drl ∧ (askLiftIf p h
    s).fcu = s.fcu ∧ (askLiftIf p h s).evu = s.evu ∧ (askLiftIf p h s).sms = s.sms ∧ (askLiftIf p h s).lmu = s.lmu
    ∧ (askLiftIf p h s).latestPoint = s.latestPoint ∧ (askLiftIf p h s).inReset = s.inReset ∧ (askLiftIf p h
    s).clock = s.clock ∧ (askLiftIf p h s).freeCount = s.freeCount ∧ (askLiftIf p h s).pending = s.pending ∧
    (askLiftIf p h s).exm.source = s.exm.source ∧ (askLiftIf p h s).exm.removal = s.exm.removal ∧ (askLiftIf p h
    s).exm.frozenStrain = s.exm.frozenStrain ∧ (askLiftIf p h s).exm.heads = s.exm.heads := by
  unfold askLiftIf; (try dsimp only); (repeat' split) <;> simp

@[simp] theorem recoveryLift_frame (h : Head) (s : State) :
    (recoveryLift h s).cli = s.cli ∧ (recoveryLift h s).tsq = s.tsq ∧ (recoveryLift h s).drl = s.drl ∧
    (recoveryLift h s).fcu = s.fcu ∧ (recoveryLift h s).evu = s.evu ∧ (recoveryLift h s).sms = s.sms ∧
    (recoveryLift h s).lmu = s.lmu ∧ (recoveryLift h s).latestPoint = s.latestPoint ∧ (recoveryLift h s).inReset =
    s.inReset ∧ (recoveryLift h s).clock = s.clock ∧ (recoveryLift h s).freeCount = s.freeCount ∧ (recoveryLift h
    s).pending = s.pending ∧ (recoveryLift h s).exm.source = s.exm.source ∧ (recoveryLift h s).exm.removal =
    s.exm.removal ∧ (recoveryLift h s).exm.frozenStrain = s.exm.frozenStrain ∧ (recoveryLift h s).exm.heads =
    s.exm.heads := by
  unfold recoveryLift; (try dsimp only); (repeat' split) <;> simp

@[simp] theorem recoverBoth_frame (s : State) :
    (recoverBoth s).cli = s.cli ∧ (recoverBoth s).tsq = s.tsq ∧ (recoverBoth s).drl = s.drl ∧ (recoverBoth s).fcu
    = s.fcu ∧ (recoverBoth s).evu = s.evu ∧ (recoverBoth s).sms = s.sms ∧ (recoverBoth s).lmu = s.lmu ∧
    (recoverBoth s).latestPoint = s.latestPoint ∧ (recoverBoth s).inReset = s.inReset ∧ (recoverBoth s).clock =
    s.clock ∧ (recoverBoth s).freeCount = s.freeCount ∧ (recoverBoth s).pending = s.pending ∧ (recoverBoth
    s).exm.source = s.exm.source ∧ (recoverBoth s).exm.removal = s.exm.removal ∧ (recoverBoth s).exm.frozenStrain
    = s.exm.frozenStrain ∧ (recoverBoth s).exm.heads = s.exm.heads := by
  unfold recoverBoth; (try dsimp only); (repeat' split) <;> simp

@[simp] theorem withdrawWaiting_frame (p : WaitingCmd → Bool) (s : State) :
    (withdrawWaiting p s).cli = s.cli ∧ (withdrawWaiting p s).tsq = s.tsq ∧ (withdrawWaiting p s).drl = s.drl ∧
    (withdrawWaiting p s).fcu = s.fcu ∧ (withdrawWaiting p s).evu = s.evu ∧ (withdrawWaiting p s).sms = s.sms ∧
    (withdrawWaiting p s).lmu = s.lmu ∧ (withdrawWaiting p s).latestPoint = s.latestPoint ∧ (withdrawWaiting p
    s).inReset = s.inReset ∧ (withdrawWaiting p s).clock = s.clock ∧ (withdrawWaiting p s).freeCount = s.freeCount
    ∧ (withdrawWaiting p s).pending = s.pending ∧ (withdrawWaiting p s).glc.heads = s.glc.heads ∧ (withdrawWaiting
    p s).glc.slot = s.glc.slot ∧ (withdrawWaiting p s).glc.current = s.glc.current ∧ (withdrawWaiting p
    s).exm.source = s.exm.source ∧ (withdrawWaiting p s).exm.removal = s.exm.removal ∧ (withdrawWaiting p
    s).exm.frozenStrain = s.exm.frozenStrain ∧ (withdrawWaiting p s).exm.heads = s.exm.heads := by
  unfold withdrawWaiting; (try dsimp only); (repeat' split) <;> simp <;> exact ⟨rfl, rfl, rfl⟩

@[simp] theorem judgeHeads_frame (s : State) :
    (judgeHeads s).cli = s.cli ∧ (judgeHeads s).tsq = s.tsq ∧ (judgeHeads s).drl = s.drl ∧ (judgeHeads s).fcu =
    s.fcu ∧ (judgeHeads s).glc = s.glc ∧ (judgeHeads s).evu = s.evu ∧ (judgeHeads s).sms = s.sms ∧ (judgeHeads
    s).lmu = s.lmu ∧ (judgeHeads s).latestPoint = s.latestPoint ∧ (judgeHeads s).inReset = s.inReset ∧ (judgeHeads
    s).clock = s.clock ∧ (judgeHeads s).freeCount = s.freeCount ∧ (judgeHeads s).pending = s.pending ∧ (judgeHeads
    s).exm.source = s.exm.source ∧ (judgeHeads s).exm.removal = s.exm.removal ∧ (judgeHeads s).exm.frozenStrain =
    s.exm.frozenStrain := by
  unfold judgeHeads; (try dsimp only); (repeat' split) <;> simp

@[simp] theorem windowEntry_frame (p : Point) (s : State) :
    (windowEntry p s).cli = s.cli ∧ (windowEntry p s).tsq = s.tsq ∧ (windowEntry p s).drl = s.drl ∧ (windowEntry p
    s).fcu = s.fcu ∧ (windowEntry p s).glc = s.glc ∧ (windowEntry p s).evu = s.evu ∧ (windowEntry p s).sms = s.sms
    ∧ (windowEntry p s).lmu = s.lmu ∧ (windowEntry p s).latestPoint = s.latestPoint ∧ (windowEntry p s).inReset =
    s.inReset ∧ (windowEntry p s).clock = s.clock ∧ (windowEntry p s).freeCount = s.freeCount ∧ (windowEntry p
    s).pending = s.pending ∧ (windowEntry p s).exm.source = s.exm.source ∧ (windowEntry p s).exm.removal =
    s.exm.removal ∧ (windowEntry p s).exm.frozenStrain = s.exm.frozenStrain ∧ (windowEntry p s).exm.heads =
    s.exm.heads := by
  unfold windowEntry; (try dsimp only); (repeat' split) <;> simp

@[simp] theorem handover_frame (t : Trigger) (s : State) :
    (handover t s).tsq = s.tsq ∧ (handover t s).drl = s.drl ∧ (handover t s).fcu = s.fcu ∧ (handover t s).evu =
    s.evu ∧ (handover t s).lmu = s.lmu ∧ (handover t s).latestPoint = s.latestPoint ∧ (handover t s).inReset =
    s.inReset ∧ (handover t s).clock = s.clock ∧ (handover t s).freeCount = s.freeCount ∧ (handover t s).pending =
    s.pending ∧ (handover t s).cli.replies = s.cli.replies ∧ (handover t s).cli.receiver = s.cli.receiver ∧
    (handover t s).cli.partialFrame = s.cli.partialFrame ∧ (handover t s).cli.restartPending =
    s.cli.restartPending ∧ (handover t s).cli.mask = s.cli.mask ∧ (handover t s).cli.counters = s.cli.counters ∧
    (handover t s).exm.frozenStrain = s.exm.frozenStrain ∧ (handover t s).exm.heads = s.exm.heads := by
  unfold handover; (try dsimp only); (repeat' split) <;> simp

@[simp] theorem fractureFreeze_frame (p : Point) (s : State) :
    (fractureFreeze p s).cli = s.cli ∧ (fractureFreeze p s).tsq = s.tsq ∧ (fractureFreeze p s).drl = s.drl ∧
    (fractureFreeze p s).fcu = s.fcu ∧ (fractureFreeze p s).evu = s.evu ∧ (fractureFreeze p s).sms = s.sms ∧
    (fractureFreeze p s).lmu = s.lmu ∧ (fractureFreeze p s).latestPoint = s.latestPoint ∧ (fractureFreeze p
    s).inReset = s.inReset ∧ (fractureFreeze p s).clock = s.clock ∧ (fractureFreeze p s).freeCount = s.freeCount ∧
    (fractureFreeze p s).pending = s.pending := by
  unfold fractureFreeze; (try dsimp only); (repeat' split) <;> simp

@[simp] theorem headTestEnd_frame (h : Head) (s : State) :
    (headTestEnd h s).tsq = s.tsq ∧ (headTestEnd h s).drl = s.drl ∧ (headTestEnd h s).fcu = s.fcu ∧ (headTestEnd h
    s).glc = s.glc ∧ (headTestEnd h s).evu = s.evu ∧ (headTestEnd h s).sms = s.sms ∧ (headTestEnd h s).lmu = s.lmu
    ∧ (headTestEnd h s).latestPoint = s.latestPoint ∧ (headTestEnd h s).inReset = s.inReset ∧ (headTestEnd h
    s).clock = s.clock ∧ (headTestEnd h s).freeCount = s.freeCount ∧ (headTestEnd h s).pending = s.pending ∧
    (headTestEnd h s).cli.replies = s.cli.replies ∧ (headTestEnd h s).cli.receiver = s.cli.receiver ∧ (headTestEnd
    h s).cli.partialFrame = s.cli.partialFrame ∧ (headTestEnd h s).cli.restartPending = s.cli.restartPending ∧
    (headTestEnd h s).cli.mask = s.cli.mask ∧ (headTestEnd h s).cli.counters = s.cli.counters ∧ (headTestEnd h
    s).exm.source = s.exm.source ∧ (headTestEnd h s).exm.removal = s.exm.removal ∧ (headTestEnd h
    s).exm.frozenStrain = s.exm.frozenStrain := by
  unfold headTestEnd; (try dsimp only); (repeat' split) <;> simp

@[simp] theorem extTestEnd_frame (s : State) :
    (extTestEnd s).tsq = s.tsq ∧ (extTestEnd s).drl = s.drl ∧ (extTestEnd s).fcu = s.fcu ∧ (extTestEnd s).evu =
    s.evu ∧ (extTestEnd s).sms = s.sms ∧ (extTestEnd s).lmu = s.lmu ∧ (extTestEnd s).latestPoint = s.latestPoint ∧
    (extTestEnd s).inReset = s.inReset ∧ (extTestEnd s).clock = s.clock ∧ (extTestEnd s).freeCount = s.freeCount ∧
    (extTestEnd s).pending = s.pending ∧ (extTestEnd s).cli.replies = s.cli.replies ∧ (extTestEnd s).cli.receiver
    = s.cli.receiver ∧ (extTestEnd s).cli.partialFrame = s.cli.partialFrame ∧ (extTestEnd s).cli.restartPending =
    s.cli.restartPending ∧ (extTestEnd s).cli.mask = s.cli.mask ∧ (extTestEnd s).cli.counters = s.cli.counters := by
  unfold extTestEnd; (try dsimp only); (repeat' split) <;> simp

@[simp] theorem extTestAccepted_frame (s : State) :
    (extTestAccepted s).cli = s.cli ∧ (extTestAccepted s).tsq = s.tsq ∧ (extTestAccepted s).drl = s.drl ∧
    (extTestAccepted s).fcu = s.fcu ∧ (extTestAccepted s).glc = s.glc ∧ (extTestAccepted s).evu = s.evu ∧
    (extTestAccepted s).sms = s.sms ∧ (extTestAccepted s).lmu = s.lmu ∧ (extTestAccepted s).latestPoint =
    s.latestPoint ∧ (extTestAccepted s).inReset = s.inReset ∧ (extTestAccepted s).clock = s.clock ∧
    (extTestAccepted s).freeCount = s.freeCount ∧ (extTestAccepted s).pending = s.pending ∧ (extTestAccepted
    s).exm.removal = s.exm.removal := by
  unfold extTestAccepted; (try dsimp only); (repeat' split) <;> simp

@[simp] theorem headTestEntry_frame (h : Head) (s : State) :
    (headTestEntry h s).tsq = s.tsq ∧ (headTestEntry h s).drl = s.drl ∧ (headTestEntry h s).fcu = s.fcu ∧
    (headTestEntry h s).glc = s.glc ∧ (headTestEntry h s).evu = s.evu ∧ (headTestEntry h s).sms = s.sms ∧
    (headTestEntry h s).lmu = s.lmu ∧ (headTestEntry h s).latestPoint = s.latestPoint ∧ (headTestEntry h
    s).inReset = s.inReset ∧ (headTestEntry h s).clock = s.clock ∧ (headTestEntry h s).freeCount = s.freeCount ∧
    (headTestEntry h s).pending = s.pending ∧ (headTestEntry h s).cli.replies = s.cli.replies ∧ (headTestEntry h
    s).cli.receiver = s.cli.receiver ∧ (headTestEntry h s).cli.partialFrame = s.cli.partialFrame ∧ (headTestEntry
    h s).cli.restartPending = s.cli.restartPending ∧ (headTestEntry h s).cli.mask = s.cli.mask ∧ (headTestEntry h
    s).cli.counters = s.cli.counters ∧ (headTestEntry h s).exm.source = s.exm.source ∧ (headTestEntry h
    s).exm.removal = s.exm.removal ∧ (headTestEntry h s).exm.frozenStrain = s.exm.frozenStrain := by
  unfold headTestEntry; (try dsimp only); (repeat' split) <;> simp

@[simp] theorem extTestEntry_frame (s : State) :
    (extTestEntry s).tsq = s.tsq ∧ (extTestEntry s).drl = s.drl ∧ (extTestEntry s).fcu = s.fcu ∧ (extTestEntry
    s).evu = s.evu ∧ (extTestEntry s).sms = s.sms ∧ (extTestEntry s).lmu = s.lmu ∧ (extTestEntry s).latestPoint =
    s.latestPoint ∧ (extTestEntry s).inReset = s.inReset ∧ (extTestEntry s).clock = s.clock ∧ (extTestEntry
    s).freeCount = s.freeCount ∧ (extTestEntry s).pending = s.pending ∧ (extTestEntry s).cli.replies =
    s.cli.replies ∧ (extTestEntry s).cli.receiver = s.cli.receiver ∧ (extTestEntry s).cli.partialFrame =
    s.cli.partialFrame ∧ (extTestEntry s).cli.restartPending = s.cli.restartPending ∧ (extTestEntry s).cli.mask =
    s.cli.mask ∧ (extTestEntry s).cli.counters = s.cli.counters ∧ (extTestEntry s).glc.heads = s.glc.heads ∧
    (extTestEntry s).glc.slot = s.glc.slot ∧ (extTestEntry s).glc.current = s.glc.current ∧ (extTestEntry
    s).exm.frozenStrain = s.exm.frozenStrain := by
  unfold extTestEntry; (try dsimp only); (repeat' split) <;> simp

@[simp] theorem removalCheck_frame (p : Point) (s : State) :
    (removalCheck p s).tsq = s.tsq ∧ (removalCheck p s).drl = s.drl ∧ (removalCheck p s).fcu = s.fcu ∧
    (removalCheck p s).evu = s.evu ∧ (removalCheck p s).lmu = s.lmu ∧ (removalCheck p s).latestPoint =
    s.latestPoint ∧ (removalCheck p s).inReset = s.inReset ∧ (removalCheck p s).clock = s.clock ∧ (removalCheck p
    s).freeCount = s.freeCount ∧ (removalCheck p s).pending = s.pending ∧ (removalCheck p s).cli.replies =
    s.cli.replies ∧ (removalCheck p s).cli.receiver = s.cli.receiver ∧ (removalCheck p s).cli.partialFrame =
    s.cli.partialFrame ∧ (removalCheck p s).cli.restartPending = s.cli.restartPending ∧ (removalCheck p
    s).cli.mask = s.cli.mask ∧ (removalCheck p s).cli.counters = s.cli.counters ∧ (removalCheck p
    s).exm.frozenStrain = s.exm.frozenStrain ∧ (removalCheck p s).exm.heads = s.exm.heads := by
  unfold removalCheck; (try dsimp only); (repeat' split) <;> simp

@[simp] theorem handMarks_frame (ms : List (RecordKind × Point)) (s : State) :
    (handMarks ms s).tsq = s.tsq ∧ (handMarks ms s).drl = s.drl ∧ (handMarks ms s).fcu = s.fcu ∧ (handMarks ms
    s).glc = s.glc ∧ (handMarks ms s).exm = s.exm ∧ (handMarks ms s).evu = s.evu ∧ (handMarks ms s).lmu = s.lmu ∧
    (handMarks ms s).latestPoint = s.latestPoint ∧ (handMarks ms s).inReset = s.inReset ∧ (handMarks ms s).clock =
    s.clock ∧ (handMarks ms s).freeCount = s.freeCount ∧ (handMarks ms s).pending = s.pending ∧ (handMarks ms
    s).cli.replies = s.cli.replies ∧ (handMarks ms s).cli.receiver = s.cli.receiver ∧ (handMarks ms
    s).cli.partialFrame = s.cli.partialFrame ∧ (handMarks ms s).cli.restartPending = s.cli.restartPending ∧
    (handMarks ms s).cli.mask = s.cli.mask ∧ (handMarks ms s).cli.counters = s.cli.counters := by
  induction ms generalizing s with
  | nil => simp [handMarks]
  | cons a t ih => obtain ⟨k, p⟩ := a; simp [handMarks, ih]

@[simp] theorem applyEval_frame (o : EvalOut) (s : State) :
    (applyEval o s).tsq = s.tsq ∧ (applyEval o s).drl = s.drl ∧ (applyEval o s).fcu = s.fcu ∧ (applyEval o s).glc
    = s.glc ∧ (applyEval o s).exm = s.exm ∧ (applyEval o s).lmu = s.lmu ∧ (applyEval o s).latestPoint =
    s.latestPoint ∧ (applyEval o s).inReset = s.inReset ∧ (applyEval o s).clock = s.clock ∧ (applyEval o
    s).freeCount = s.freeCount ∧ (applyEval o s).pending = s.pending ∧ (applyEval o s).cli.replies = s.cli.replies
    ∧ (applyEval o s).cli.receiver = s.cli.receiver ∧ (applyEval o s).cli.partialFrame = s.cli.partialFrame ∧
    (applyEval o s).cli.restartPending = s.cli.restartPending ∧ (applyEval o s).cli.mask = s.cli.mask ∧ (applyEval
    o s).cli.counters = s.cli.counters := by
  unfold applyEval; (try dsimp only); (repeat' split) <;> simp

@[simp] theorem evalTestAccepted_frame (s : State) :
    (evalTestAccepted s).cli = s.cli ∧ (evalTestAccepted s).tsq = s.tsq ∧ (evalTestAccepted s).drl = s.drl ∧
    (evalTestAccepted s).fcu = s.fcu ∧ (evalTestAccepted s).glc = s.glc ∧ (evalTestAccepted s).exm = s.exm ∧
    (evalTestAccepted s).sms = s.sms ∧ (evalTestAccepted s).lmu = s.lmu ∧ (evalTestAccepted s).latestPoint =
    s.latestPoint ∧ (evalTestAccepted s).inReset = s.inReset ∧ (evalTestAccepted s).clock = s.clock ∧
    (evalTestAccepted s).freeCount = s.freeCount ∧ (evalTestAccepted s).pending = s.pending := by
  unfold evalTestAccepted; (try dsimp only); (repeat' split) <;> simp

@[simp] theorem evalEntry_frame (measuring : Bool) (p : Point) (s : State) :
    (evalEntry measuring p s).cli = s.cli ∧ (evalEntry measuring p s).tsq = s.tsq ∧ (evalEntry measuring p s).drl
    = s.drl ∧ (evalEntry measuring p s).fcu = s.fcu ∧ (evalEntry measuring p s).glc = s.glc ∧ (evalEntry measuring
    p s).exm = s.exm ∧ (evalEntry measuring p s).sms = s.sms ∧ (evalEntry measuring p s).lmu = s.lmu ∧ (evalEntry
    measuring p s).latestPoint = s.latestPoint ∧ (evalEntry measuring p s).inReset = s.inReset ∧ (evalEntry
    measuring p s).clock = s.clock ∧ (evalEntry measuring p s).freeCount = s.freeCount ∧ (evalEntry measuring p
    s).pending = s.pending := by
  unfold evalEntry; (try dsimp only); (repeat' split) <;> simp

@[simp] theorem evalTestEnd_frame (why : EndReason) (s : State) :
    (evalTestEnd why s).cli = s.cli ∧ (evalTestEnd why s).tsq = s.tsq ∧ (evalTestEnd why s).drl = s.drl ∧
    (evalTestEnd why s).fcu = s.fcu ∧ (evalTestEnd why s).glc = s.glc ∧ (evalTestEnd why s).exm = s.exm ∧
    (evalTestEnd why s).sms = s.sms ∧ (evalTestEnd why s).lmu = s.lmu ∧ (evalTestEnd why s).latestPoint =
    s.latestPoint ∧ (evalTestEnd why s).inReset = s.inReset ∧ (evalTestEnd why s).clock = s.clock ∧ (evalTestEnd
    why s).freeCount = s.freeCount ∧ (evalTestEnd why s).pending = s.pending := by
  unfold evalTestEnd; (try dsimp only); (repeat' split) <;> simp

@[simp] theorem enterEnded_frame (why : EndReason) (cause : Option StartCause) (s : State) :
    (enterEnded why cause s).fcu = s.fcu ∧ (enterEnded why cause s).lmu = s.lmu ∧ (enterEnded why cause
    s).latestPoint = s.latestPoint ∧ (enterEnded why cause s).inReset = s.inReset ∧ (enterEnded why cause s).clock
    = s.clock ∧ (enterEnded why cause s).freeCount = s.freeCount ∧ (enterEnded why cause s).pending = s.pending ∧
    (enterEnded why cause s).cli.replies = s.cli.replies ∧ (enterEnded why cause s).cli.receiver = s.cli.receiver
    ∧ (enterEnded why cause s).cli.partialFrame = s.cli.partialFrame ∧ (enterEnded why cause s).cli.restartPending
    = s.cli.restartPending ∧ (enterEnded why cause s).cli.mask = s.cli.mask ∧ (enterEnded why cause
    s).cli.counters = s.cli.counters ∧ (enterEnded why cause s).tsq.specimen = s.tsq.specimen ∧ (enterEnded why
    cause s).tsq.program = s.tsq.program ∧ (enterEnded why cause s).tsq.load = s.tsq.load ∧ (enterEnded why cause
    s).tsq.lastLoad = s.tsq.lastLoad ∧ (enterEnded why cause s).tsq.holdPoints = s.tsq.holdPoints := by
  unfold enterEnded; (try dsimp only); (repeat' split) <;> simp

@[simp] theorem failStart_frame (cause : StartCause) (s : State) :
    (failStart cause s).fcu = s.fcu ∧ (failStart cause s).lmu = s.lmu ∧ (failStart cause s).latestPoint =
    s.latestPoint ∧ (failStart cause s).inReset = s.inReset ∧ (failStart cause s).clock = s.clock ∧ (failStart
    cause s).freeCount = s.freeCount ∧ (failStart cause s).pending = s.pending ∧ (failStart cause s).cli.replies =
    s.cli.replies ∧ (failStart cause s).cli.receiver = s.cli.receiver ∧ (failStart cause s).cli.partialFrame =
    s.cli.partialFrame ∧ (failStart cause s).cli.restartPending = s.cli.restartPending ∧ (failStart cause
    s).cli.mask = s.cli.mask ∧ (failStart cause s).cli.counters = s.cli.counters ∧ (failStart cause
    s).tsq.specimen = s.tsq.specimen ∧ (failStart cause s).tsq.program = s.tsq.program ∧ (failStart cause
    s).tsq.load = s.tsq.load ∧ (failStart cause s).tsq.lastLoad = s.tsq.lastLoad ∧ (failStart cause
    s).tsq.holdPoints = s.tsq.holdPoints := by
  unfold failStart; (try dsimp only); (repeat' split) <;> simp

@[simp] theorem enterEnding_frame (why : EndReason) (s : State) :
    (enterEnding why s).fcu = s.fcu ∧ (enterEnding why s).lmu = s.lmu ∧ (enterEnding why s).latestPoint =
    s.latestPoint ∧ (enterEnding why s).inReset = s.inReset ∧ (enterEnding why s).clock = s.clock ∧ (enterEnding
    why s).freeCount = s.freeCount ∧ (enterEnding why s).pending = s.pending ∧ (enterEnding why s).cli.replies =
    s.cli.replies ∧ (enterEnding why s).cli.receiver = s.cli.receiver ∧ (enterEnding why s).cli.partialFrame =
    s.cli.partialFrame ∧ (enterEnding why s).cli.restartPending = s.cli.restartPending ∧ (enterEnding why
    s).cli.mask = s.cli.mask ∧ (enterEnding why s).cli.counters = s.cli.counters ∧ (enterEnding why
    s).tsq.specimen = s.tsq.specimen ∧ (enterEnding why s).tsq.program = s.tsq.program ∧ (enterEnding why
    s).tsq.load = s.tsq.load ∧ (enterEnding why s).tsq.lastLoad = s.tsq.lastLoad ∧ (enterEnding why
    s).tsq.holdPoints = s.tsq.holdPoints := by
  unfold enterEnding; (try dsimp only); (repeat' split) <;> simp

@[simp] theorem reportIdle_frame (s : State) :
    (reportIdle s).fcu = s.fcu ∧ (reportIdle s).lmu = s.lmu ∧ (reportIdle s).latestPoint = s.latestPoint ∧
    (reportIdle s).inReset = s.inReset ∧ (reportIdle s).clock = s.clock ∧ (reportIdle s).freeCount = s.freeCount ∧
    (reportIdle s).pending = s.pending ∧ (reportIdle s).cli.replies = s.cli.replies ∧ (reportIdle s).cli.receiver
    = s.cli.receiver ∧ (reportIdle s).cli.partialFrame = s.cli.partialFrame ∧ (reportIdle s).cli.restartPending =
    s.cli.restartPending ∧ (reportIdle s).cli.mask = s.cli.mask ∧ (reportIdle s).cli.counters = s.cli.counters ∧
    (reportIdle s).tsq.specimen = s.tsq.specimen ∧ (reportIdle s).tsq.program = s.tsq.program ∧ (reportIdle
    s).tsq.load = s.tsq.load ∧ (reportIdle s).tsq.lastLoad = s.tsq.lastLoad ∧ (reportIdle s).tsq.holdPoints =
    s.tsq.holdPoints := by
  unfold reportIdle; (try dsimp only); (repeat' split) <;> simp

@[simp] theorem enterHeld_frame (why : HeldReason) (heldAt : Option Nat) (s : State) :
    (enterHeld why heldAt s).fcu = s.fcu ∧ (enterHeld why heldAt s).glc = s.glc ∧ (enterHeld why heldAt s).exm =
    s.exm ∧ (enterHeld why heldAt s).evu = s.evu ∧ (enterHeld why heldAt s).sms = s.sms ∧ (enterHeld why heldAt
    s).lmu = s.lmu ∧ (enterHeld why heldAt s).latestPoint = s.latestPoint ∧ (enterHeld why heldAt s).inReset =
    s.inReset ∧ (enterHeld why heldAt s).clock = s.clock ∧ (enterHeld why heldAt s).freeCount = s.freeCount ∧
    (enterHeld why heldAt s).pending = s.pending ∧ (enterHeld why heldAt s).cli.replies = s.cli.replies ∧
    (enterHeld why heldAt s).cli.receiver = s.cli.receiver ∧ (enterHeld why heldAt s).cli.partialFrame =
    s.cli.partialFrame ∧ (enterHeld why heldAt s).cli.restartPending = s.cli.restartPending ∧ (enterHeld why
    heldAt s).cli.mask = s.cli.mask ∧ (enterHeld why heldAt s).cli.counters = s.cli.counters ∧ (enterHeld why
    heldAt s).tsq.specimen = s.tsq.specimen ∧ (enterHeld why heldAt s).tsq.program = s.tsq.program ∧ (enterHeld
    why heldAt s).tsq.load = s.tsq.load ∧ (enterHeld why heldAt s).tsq.lastLoad = s.tsq.lastLoad ∧ (enterHeld why
    heldAt s).tsq.holdPoints = s.tsq.holdPoints := by
  unfold enterHeld; (try dsimp only); (repeat' split) <;> simp

@[simp] theorem holdCause_frame (why : HeldReason) (s : State) :
    (holdCause why s).fcu = s.fcu ∧ (holdCause why s).glc = s.glc ∧ (holdCause why s).exm = s.exm ∧ (holdCause why
    s).evu = s.evu ∧ (holdCause why s).sms = s.sms ∧ (holdCause why s).lmu = s.lmu ∧ (holdCause why s).latestPoint
    = s.latestPoint ∧ (holdCause why s).inReset = s.inReset ∧ (holdCause why s).clock = s.clock ∧ (holdCause why
    s).freeCount = s.freeCount ∧ (holdCause why s).pending = s.pending ∧ (holdCause why s).cli.replies =
    s.cli.replies ∧ (holdCause why s).cli.receiver = s.cli.receiver ∧ (holdCause why s).cli.partialFrame =
    s.cli.partialFrame ∧ (holdCause why s).cli.restartPending = s.cli.restartPending ∧ (holdCause why s).cli.mask
    = s.cli.mask ∧ (holdCause why s).cli.counters = s.cli.counters ∧ (holdCause why s).tsq.specimen =
    s.tsq.specimen ∧ (holdCause why s).tsq.program = s.tsq.program ∧ (holdCause why s).tsq.load = s.tsq.load ∧
    (holdCause why s).tsq.lastLoad = s.tsq.lastLoad ∧ (holdCause why s).tsq.holdPoints = s.tsq.holdPoints := by
  unfold holdCause; (try dsimp only); (repeat' split) <;> simp

@[simp] theorem slipAction_frame (s : State) :
    (slipAction s).fcu = s.fcu ∧ (slipAction s).lmu = s.lmu ∧ (slipAction s).latestPoint = s.latestPoint ∧
    (slipAction s).inReset = s.inReset ∧ (slipAction s).clock = s.clock ∧ (slipAction s).freeCount = s.freeCount ∧
    (slipAction s).pending = s.pending ∧ (slipAction s).cli.replies = s.cli.replies ∧ (slipAction s).cli.receiver
    = s.cli.receiver ∧ (slipAction s).cli.partialFrame = s.cli.partialFrame ∧ (slipAction s).cli.restartPending =
    s.cli.restartPending ∧ (slipAction s).cli.mask = s.cli.mask ∧ (slipAction s).cli.counters = s.cli.counters ∧
    (slipAction s).tsq.specimen = s.tsq.specimen ∧ (slipAction s).tsq.program = s.tsq.program ∧ (slipAction
    s).tsq.load = s.tsq.load ∧ (slipAction s).tsq.lastLoad = s.tsq.lastLoad ∧ (slipAction s).tsq.holdPoints =
    s.tsq.holdPoints := by
  unfold slipAction; (try dsimp only); (repeat' split) <;> simp

@[simp] theorem enterSegment_frame (i : Nat) (p : Point) (s : State) :
    (enterSegment i p s).fcu = s.fcu ∧ (enterSegment i p s).glc = s.glc ∧ (enterSegment i p s).exm = s.exm ∧
    (enterSegment i p s).evu = s.evu ∧ (enterSegment i p s).lmu = s.lmu ∧ (enterSegment i p s).latestPoint =
    s.latestPoint ∧ (enterSegment i p s).inReset = s.inReset ∧ (enterSegment i p s).clock = s.clock ∧
    (enterSegment i p s).freeCount = s.freeCount ∧ (enterSegment i p s).pending = s.pending ∧ (enterSegment i p
    s).cli.replies = s.cli.replies ∧ (enterSegment i p s).cli.receiver = s.cli.receiver ∧ (enterSegment i p
    s).cli.partialFrame = s.cli.partialFrame ∧ (enterSegment i p s).cli.restartPending = s.cli.restartPending ∧
    (enterSegment i p s).cli.mask = s.cli.mask ∧ (enterSegment i p s).cli.counters = s.cli.counters ∧
    (enterSegment i p s).tsq.specimen = s.tsq.specimen ∧ (enterSegment i p s).tsq.program = s.tsq.program ∧
    (enterSegment i p s).tsq.load = s.tsq.load ∧ (enterSegment i p s).tsq.lastLoad = s.tsq.lastLoad ∧
    (enterSegment i p s).tsq.holdPoints = s.tsq.holdPoints := by
  unfold enterSegment; (try dsimp only); (repeat' split) <;> simp

@[simp] theorem reachSegment_frame (i : Nat) (p : Point) (s : State) :
    (reachSegment i p s).fcu = s.fcu ∧ (reachSegment i p s).glc = s.glc ∧ (reachSegment i p s).exm = s.exm ∧
    (reachSegment i p s).evu = s.evu ∧ (reachSegment i p s).lmu = s.lmu ∧ (reachSegment i p s).latestPoint =
    s.latestPoint ∧ (reachSegment i p s).inReset = s.inReset ∧ (reachSegment i p s).clock = s.clock ∧
    (reachSegment i p s).freeCount = s.freeCount ∧ (reachSegment i p s).pending = s.pending ∧ (reachSegment i p
    s).cli.replies = s.cli.replies ∧ (reachSegment i p s).cli.receiver = s.cli.receiver ∧ (reachSegment i p
    s).cli.partialFrame = s.cli.partialFrame ∧ (reachSegment i p s).cli.restartPending = s.cli.restartPending ∧
    (reachSegment i p s).cli.mask = s.cli.mask ∧ (reachSegment i p s).cli.counters = s.cli.counters ∧
    (reachSegment i p s).tsq.specimen = s.tsq.specimen ∧ (reachSegment i p s).tsq.program = s.tsq.program ∧
    (reachSegment i p s).tsq.load = s.tsq.load ∧ (reachSegment i p s).tsq.lastLoad = s.tsq.lastLoad ∧
    (reachSegment i p s).tsq.holdPoints = s.tsq.holdPoints := by
  unfold reachSegment; (try dsimp only); (repeat' split) <;> simp

@[simp] theorem onEndAction_frame (i : Nat) (a : OnEnd) (p : Point) (s : State) :
    (onEndAction i a p s).fcu = s.fcu ∧ (onEndAction i a p s).lmu = s.lmu ∧ (onEndAction i a p s).latestPoint =
    s.latestPoint ∧ (onEndAction i a p s).inReset = s.inReset ∧ (onEndAction i a p s).clock = s.clock ∧
    (onEndAction i a p s).freeCount = s.freeCount ∧ (onEndAction i a p s).pending = s.pending ∧ (onEndAction i a p
    s).cli.replies = s.cli.replies ∧ (onEndAction i a p s).cli.receiver = s.cli.receiver ∧ (onEndAction i a p
    s).cli.partialFrame = s.cli.partialFrame ∧ (onEndAction i a p s).cli.restartPending = s.cli.restartPending ∧
    (onEndAction i a p s).cli.mask = s.cli.mask ∧ (onEndAction i a p s).cli.counters = s.cli.counters ∧
    (onEndAction i a p s).tsq.specimen = s.tsq.specimen ∧ (onEndAction i a p s).tsq.program = s.tsq.program ∧
    (onEndAction i a p s).tsq.load = s.tsq.load ∧ (onEndAction i a p s).tsq.lastLoad = s.tsq.lastLoad ∧
    (onEndAction i a p s).tsq.holdPoints = s.tsq.holdPoints := by
  unfold onEndAction; (try dsimp only); (repeat' split) <;> simp

@[simp] theorem countSegmentTime_frame (s : State) :
    (countSegmentTime s).cli = s.cli ∧ (countSegmentTime s).drl = s.drl ∧ (countSegmentTime s).fcu = s.fcu ∧
    (countSegmentTime s).glc = s.glc ∧ (countSegmentTime s).exm = s.exm ∧ (countSegmentTime s).evu = s.evu ∧
    (countSegmentTime s).sms = s.sms ∧ (countSegmentTime s).lmu = s.lmu ∧ (countSegmentTime s).latestPoint =
    s.latestPoint ∧ (countSegmentTime s).inReset = s.inReset ∧ (countSegmentTime s).clock = s.clock ∧
    (countSegmentTime s).freeCount = s.freeCount ∧ (countSegmentTime s).pending = s.pending ∧ (countSegmentTime
    s).tsq.specimen = s.tsq.specimen ∧ (countSegmentTime s).tsq.program = s.tsq.program ∧ (countSegmentTime
    s).tsq.load = s.tsq.load ∧ (countSegmentTime s).tsq.lastLoad = s.tsq.lastLoad ∧ (countSegmentTime
    s).tsq.holdPoints = s.tsq.holdPoints ∧ (countSegmentTime s).tsq.state = s.tsq.state := by
  unfold countSegmentTime; simp

/-- A point taken in RUNNING adds 1 to the segment time (R28). -/
@[simp] theorem countSegmentTime_segmentTime (s : State) :
    (countSegmentTime s).tsq.segmentTime = s.tsq.segmentTime + 1 := rfl

@[simp] theorem runningPoint_frame (p : Point) (s : State) :
    (runningPoint p s).fcu = s.fcu ∧ (runningPoint p s).lmu = s.lmu ∧ (runningPoint p s).latestPoint =
    s.latestPoint ∧ (runningPoint p s).inReset = s.inReset ∧ (runningPoint p s).clock = s.clock ∧ (runningPoint p
    s).freeCount = s.freeCount ∧ (runningPoint p s).pending = s.pending ∧ (runningPoint p s).cli.replies =
    s.cli.replies ∧ (runningPoint p s).cli.receiver = s.cli.receiver ∧ (runningPoint p s).cli.partialFrame =
    s.cli.partialFrame ∧ (runningPoint p s).cli.restartPending = s.cli.restartPending ∧ (runningPoint p
    s).cli.mask = s.cli.mask ∧ (runningPoint p s).cli.counters = s.cli.counters ∧ (runningPoint p s).tsq.specimen
    = s.tsq.specimen ∧ (runningPoint p s).tsq.program = s.tsq.program ∧ (runningPoint p s).tsq.load = s.tsq.load ∧
    (runningPoint p s).tsq.lastLoad = s.tsq.lastLoad ∧ (runningPoint p s).tsq.holdPoints = s.tsq.holdPoints := by
  unfold runningPoint; (try dsimp only); (repeat' split) <;> simp

@[simp] theorem runningTaken_frame (fractured : Bool) (p : Point) (s : State) :
    (runningTaken fractured p s).fcu = s.fcu ∧ (runningTaken fractured p s).lmu = s.lmu ∧ (runningTaken fractured p s).latestPoint =
    s.latestPoint ∧ (runningTaken fractured p s).inReset = s.inReset ∧ (runningTaken fractured p s).clock = s.clock ∧ (runningTaken fractured p
    s).freeCount = s.freeCount ∧ (runningTaken fractured p s).pending = s.pending ∧ (runningTaken fractured p s).cli.replies =
    s.cli.replies ∧ (runningTaken fractured p s).cli.receiver = s.cli.receiver ∧ (runningTaken fractured p s).cli.partialFrame =
    s.cli.partialFrame ∧ (runningTaken fractured p s).cli.restartPending = s.cli.restartPending ∧ (runningTaken fractured p
    s).cli.mask = s.cli.mask ∧ (runningTaken fractured p s).cli.counters = s.cli.counters ∧ (runningTaken fractured p s).tsq.specimen
    = s.tsq.specimen ∧ (runningTaken fractured p s).tsq.program = s.tsq.program ∧ (runningTaken fractured p s).tsq.load = s.tsq.load ∧
    (runningTaken fractured p s).tsq.lastLoad = s.tsq.lastLoad ∧ (runningTaken fractured p s).tsq.holdPoints = s.tsq.holdPoints := by
  unfold runningTaken; (try dsimp only); (repeat' split) <;> simp

@[simp] theorem takeTare_frame (s : State) :
    (takeTare s).cli = s.cli ∧ (takeTare s).tsq = s.tsq ∧ (takeTare s).drl = s.drl ∧ (takeTare s).glc = s.glc ∧
    (takeTare s).exm = s.exm ∧ (takeTare s).evu = s.evu ∧ (takeTare s).sms = s.sms ∧ (takeTare s).lmu = s.lmu ∧
    (takeTare s).latestPoint = s.latestPoint ∧ (takeTare s).inReset = s.inReset ∧ (takeTare s).clock = s.clock ∧
    (takeTare s).freeCount = s.freeCount ∧ (takeTare s).pending = s.pending ∧ (takeTare s).fcu.tables =
    s.fcu.tables ∧ (takeTare s).fcu.levelTimer = s.fcu.levelTimer ∧ (takeTare s).fcu.unrestTimer =
    s.fcu.unrestTimer ∧ (takeTare s).fcu.history = s.fcu.history ∧ (takeTare s).fcu.nextIndex = s.fcu.nextIndex ∧
    (takeTare s).fcu.tareWait = s.fcu.tareWait := by
  unfold takeTare; (try dsimp only); (repeat' split) <;> simp

@[simp] theorem setStartStep_frame (x : StartStep) (s : State) :
    (setStartStep x s).cli = s.cli ∧ (setStartStep x s).drl = s.drl ∧ (setStartStep x s).fcu = s.fcu ∧
    (setStartStep x s).glc = s.glc ∧ (setStartStep x s).exm = s.exm ∧ (setStartStep x s).evu = s.evu ∧
    (setStartStep x s).sms = s.sms ∧ (setStartStep x s).lmu = s.lmu ∧ (setStartStep x s).latestPoint =
    s.latestPoint ∧ (setStartStep x s).inReset = s.inReset ∧ (setStartStep x s).clock = s.clock ∧ (setStartStep x
    s).freeCount = s.freeCount ∧ (setStartStep x s).pending = s.pending ∧ (setStartStep x s).tsq.specimen =
    s.tsq.specimen ∧ (setStartStep x s).tsq.program = s.tsq.program ∧ (setStartStep x s).tsq.load = s.tsq.load ∧
    (setStartStep x s).tsq.lastLoad = s.tsq.lastLoad ∧ (setStartStep x s).tsq.holdPoints = s.tsq.holdPoints ∧
    (setStartStep x s).tsq.state = s.tsq.state := by
  unfold setStartStep; (try dsimp only); (repeat' split) <;> simp

@[simp] theorem askZero_frame (h : Head) (s : State) :
    (askZero h s).cli = s.cli ∧ (askZero h s).tsq = s.tsq ∧ (askZero h s).drl = s.drl ∧ (askZero h s).fcu = s.fcu
    ∧ (askZero h s).evu = s.evu ∧ (askZero h s).sms = s.sms ∧ (askZero h s).lmu = s.lmu ∧ (askZero h
    s).latestPoint = s.latestPoint ∧ (askZero h s).inReset = s.inReset ∧ (askZero h s).clock = s.clock ∧ (askZero
    h s).freeCount = s.freeCount ∧ (askZero h s).pending = s.pending ∧ (askZero h s).exm.source = s.exm.source ∧
    (askZero h s).exm.removal = s.exm.removal ∧ (askZero h s).exm.frozenStrain = s.exm.frozenStrain ∧ (askZero h
    s).exm.heads = s.exm.heads := by
  unfold askZero; (try dsimp only); (repeat' split) <;> simp

@[simp] theorem beginZero_frame (s : State) :
    (beginZero s).cli = s.cli ∧ (beginZero s).drl = s.drl ∧ (beginZero s).fcu = s.fcu ∧ (beginZero s).evu = s.evu
    ∧ (beginZero s).sms = s.sms ∧ (beginZero s).lmu = s.lmu ∧ (beginZero s).latestPoint = s.latestPoint ∧
    (beginZero s).inReset = s.inReset ∧ (beginZero s).clock = s.clock ∧ (beginZero s).freeCount = s.freeCount ∧
    (beginZero s).pending = s.pending ∧ (beginZero s).tsq.specimen = s.tsq.specimen ∧ (beginZero s).tsq.program =
    s.tsq.program ∧ (beginZero s).tsq.load = s.tsq.load ∧ (beginZero s).tsq.lastLoad = s.tsq.lastLoad ∧ (beginZero
    s).tsq.holdPoints = s.tsq.holdPoints ∧ (beginZero s).tsq.state = s.tsq.state ∧ (beginZero s).exm.source =
    s.exm.source ∧ (beginZero s).exm.removal = s.exm.removal ∧ (beginZero s).exm.frozenStrain = s.exm.frozenStrain
    ∧ (beginZero s).exm.heads = s.exm.heads := by
  unfold beginZero; (try dsimp only); (repeat' split) <;> simp

@[simp] theorem waitTare_frame (s : State) :
    (waitTare s).lmu = s.lmu ∧ (waitTare s).latestPoint = s.latestPoint ∧ (waitTare s).inReset = s.inReset ∧
    (waitTare s).clock = s.clock ∧ (waitTare s).freeCount = s.freeCount ∧ (waitTare s).pending = s.pending ∧
    (waitTare s).cli.replies = s.cli.replies ∧ (waitTare s).cli.receiver = s.cli.receiver ∧ (waitTare
    s).cli.partialFrame = s.cli.partialFrame ∧ (waitTare s).cli.restartPending = s.cli.restartPending ∧ (waitTare
    s).cli.mask = s.cli.mask ∧ (waitTare s).cli.counters = s.cli.counters ∧ (waitTare s).tsq.specimen =
    s.tsq.specimen ∧ (waitTare s).tsq.program = s.tsq.program ∧ (waitTare s).tsq.load = s.tsq.load ∧ (waitTare
    s).tsq.lastLoad = s.tsq.lastLoad ∧ (waitTare s).tsq.holdPoints = s.tsq.holdPoints ∧ (waitTare s).fcu.tables =
    s.fcu.tables ∧ (waitTare s).fcu.levelTimer = s.fcu.levelTimer ∧ (waitTare s).fcu.unrestTimer =
    s.fcu.unrestTimer ∧ (waitTare s).fcu.history = s.fcu.history ∧ (waitTare s).fcu.nextIndex = s.fcu.nextIndex ∧
    (waitTare s).fcu.tareWait = s.fcu.tareWait := by
  unfold waitTare; (try dsimp only); (repeat' split) <;> simp

@[simp] theorem beginTare_frame (s : State) :
    (beginTare s).cli = s.cli ∧ (beginTare s).drl = s.drl ∧ (beginTare s).evu = s.evu ∧ (beginTare s).sms = s.sms
    ∧ (beginTare s).lmu = s.lmu ∧ (beginTare s).latestPoint = s.latestPoint ∧ (beginTare s).inReset = s.inReset ∧
    (beginTare s).clock = s.clock ∧ (beginTare s).freeCount = s.freeCount ∧ (beginTare s).pending = s.pending ∧
    (beginTare s).tsq.specimen = s.tsq.specimen ∧ (beginTare s).tsq.program = s.tsq.program ∧ (beginTare
    s).tsq.load = s.tsq.load ∧ (beginTare s).tsq.lastLoad = s.tsq.lastLoad ∧ (beginTare s).tsq.holdPoints =
    s.tsq.holdPoints ∧ (beginTare s).tsq.state = s.tsq.state ∧ (beginTare s).fcu.tables = s.fcu.tables ∧
    (beginTare s).fcu.levelTimer = s.fcu.levelTimer ∧ (beginTare s).fcu.unrestTimer = s.fcu.unrestTimer ∧
    (beginTare s).fcu.history = s.fcu.history ∧ (beginTare s).fcu.nextIndex = s.fcu.nextIndex ∧ (beginTare
    s).fcu.tareWait = s.fcu.tareWait ∧ (beginTare s).exm.source = s.exm.source ∧ (beginTare s).exm.removal =
    s.exm.removal ∧ (beginTare s).exm.frozenStrain = s.exm.frozenStrain ∧ (beginTare s).exm.heads = s.exm.heads := by
  unfold beginTare; (try dsimp only); (repeat' split) <;> simp

@[simp] theorem zeroConfirmed_frame (h : Head) (s : State) :
    (zeroConfirmed h s).cli = s.cli ∧ (zeroConfirmed h s).drl = s.drl ∧ (zeroConfirmed h s).fcu = s.fcu ∧
    (zeroConfirmed h s).evu = s.evu ∧ (zeroConfirmed h s).sms = s.sms ∧ (zeroConfirmed h s).lmu = s.lmu ∧
    (zeroConfirmed h s).latestPoint = s.latestPoint ∧ (zeroConfirmed h s).inReset = s.inReset ∧ (zeroConfirmed h
    s).clock = s.clock ∧ (zeroConfirmed h s).freeCount = s.freeCount ∧ (zeroConfirmed h s).pending = s.pending ∧
    (zeroConfirmed h s).tsq.specimen = s.tsq.specimen ∧ (zeroConfirmed h s).tsq.program = s.tsq.program ∧
    (zeroConfirmed h s).tsq.load = s.tsq.load ∧ (zeroConfirmed h s).tsq.lastLoad = s.tsq.lastLoad ∧ (zeroConfirmed
    h s).tsq.holdPoints = s.tsq.holdPoints ∧ (zeroConfirmed h s).tsq.state = s.tsq.state ∧ (zeroConfirmed h
    s).exm.source = s.exm.source ∧ (zeroConfirmed h s).exm.removal = s.exm.removal ∧ (zeroConfirmed h
    s).exm.frozenStrain = s.exm.frozenStrain := by
  unfold zeroConfirmed; (try dsimp only); (repeat' split) <;> simp

@[simp] theorem zeroOutcome_frame (h : Head) (o : SlotOutcome) (s : State) :
    (zeroOutcome h o s).fcu = s.fcu ∧ (zeroOutcome h o s).lmu = s.lmu ∧ (zeroOutcome h o s).latestPoint =
    s.latestPoint ∧ (zeroOutcome h o s).inReset = s.inReset ∧ (zeroOutcome h o s).clock = s.clock ∧ (zeroOutcome h
    o s).freeCount = s.freeCount ∧ (zeroOutcome h o s).pending = s.pending ∧ (zeroOutcome h o s).cli.replies =
    s.cli.replies ∧ (zeroOutcome h o s).cli.receiver = s.cli.receiver ∧ (zeroOutcome h o s).cli.partialFrame =
    s.cli.partialFrame ∧ (zeroOutcome h o s).cli.restartPending = s.cli.restartPending ∧ (zeroOutcome h o
    s).cli.mask = s.cli.mask ∧ (zeroOutcome h o s).cli.counters = s.cli.counters ∧ (zeroOutcome h o
    s).tsq.specimen = s.tsq.specimen ∧ (zeroOutcome h o s).tsq.program = s.tsq.program ∧ (zeroOutcome h o
    s).tsq.load = s.tsq.load ∧ (zeroOutcome h o s).tsq.lastLoad = s.tsq.lastLoad ∧ (zeroOutcome h o
    s).tsq.holdPoints = s.tsq.holdPoints := by
  unfold zeroOutcome; (try dsimp only); (repeat' split) <;> simp

@[simp] theorem testEntry_frame (p : Point) (s : State) :
    (testEntry p s).fcu = s.fcu ∧ (testEntry p s).lmu = s.lmu ∧ (testEntry p s).latestPoint = s.latestPoint ∧
    (testEntry p s).inReset = s.inReset ∧ (testEntry p s).clock = s.clock ∧ (testEntry p s).freeCount =
    s.freeCount ∧ (testEntry p s).pending = s.pending ∧ (testEntry p s).cli.replies = s.cli.replies ∧ (testEntry p
    s).cli.receiver = s.cli.receiver ∧ (testEntry p s).cli.partialFrame = s.cli.partialFrame ∧ (testEntry p
    s).cli.restartPending = s.cli.restartPending ∧ (testEntry p s).cli.mask = s.cli.mask ∧ (testEntry p
    s).cli.counters = s.cli.counters ∧ (testEntry p s).tsq.specimen = s.tsq.specimen ∧ (testEntry p s).tsq.program
    = s.tsq.program ∧ (testEntry p s).tsq.load = s.tsq.load ∧ (testEntry p s).tsq.lastLoad = s.tsq.lastLoad ∧
    (testEntry p s).tsq.holdPoints = s.tsq.holdPoints ∧ (testEntry p s).glc.heads = s.glc.heads ∧ (testEntry p
    s).glc.slot = s.glc.slot ∧ (testEntry p s).glc.current = s.glc.current ∧ (testEntry p s).exm.frozenStrain =
    s.exm.frozenStrain := by
  unfold testEntry; (try dsimp only); (repeat' split) <;> simp

@[simp] theorem startingPoint_frame (p : Point) (s : State) :
    (startingPoint p s).lmu = s.lmu ∧ (startingPoint p s).latestPoint = s.latestPoint ∧ (startingPoint p
    s).inReset = s.inReset ∧ (startingPoint p s).clock = s.clock ∧ (startingPoint p s).freeCount = s.freeCount ∧
    (startingPoint p s).pending = s.pending ∧ (startingPoint p s).cli.replies = s.cli.replies ∧ (startingPoint p
    s).cli.receiver = s.cli.receiver ∧ (startingPoint p s).cli.partialFrame = s.cli.partialFrame ∧ (startingPoint
    p s).cli.restartPending = s.cli.restartPending ∧ (startingPoint p s).cli.mask = s.cli.mask ∧ (startingPoint p
    s).cli.counters = s.cli.counters ∧ (startingPoint p s).tsq.specimen = s.tsq.specimen ∧ (startingPoint p
    s).tsq.program = s.tsq.program ∧ (startingPoint p s).tsq.load = s.tsq.load ∧ (startingPoint p s).tsq.lastLoad
    = s.tsq.lastLoad ∧ (startingPoint p s).tsq.holdPoints = s.tsq.holdPoints ∧ (startingPoint p s).fcu.tables =
    s.fcu.tables ∧ (startingPoint p s).fcu.levelTimer = s.fcu.levelTimer ∧ (startingPoint p s).fcu.unrestTimer =
    s.fcu.unrestTimer ∧ (startingPoint p s).fcu.history = s.fcu.history ∧ (startingPoint p s).fcu.nextIndex =
    s.fcu.nextIndex ∧ (startingPoint p s).fcu.tareWait = s.fcu.tareWait := by
  unfold startingPoint; (try dsimp only); (repeat' split) <;> simp

@[simp] theorem heldPoint_frame (p : Point) (s : State) :
    (heldPoint p s).fcu = s.fcu ∧ (heldPoint p s).glc = s.glc ∧ (heldPoint p s).exm = s.exm ∧ (heldPoint p s).evu
    = s.evu ∧ (heldPoint p s).lmu = s.lmu ∧ (heldPoint p s).latestPoint = s.latestPoint ∧ (heldPoint p s).inReset
    = s.inReset ∧ (heldPoint p s).clock = s.clock ∧ (heldPoint p s).freeCount = s.freeCount ∧ (heldPoint p
    s).pending = s.pending ∧ (heldPoint p s).cli.replies = s.cli.replies ∧ (heldPoint p s).cli.receiver =
    s.cli.receiver ∧ (heldPoint p s).cli.partialFrame = s.cli.partialFrame ∧ (heldPoint p s).cli.restartPending =
    s.cli.restartPending ∧ (heldPoint p s).cli.mask = s.cli.mask ∧ (heldPoint p s).cli.counters = s.cli.counters ∧
    (heldPoint p s).tsq.specimen = s.tsq.specimen ∧ (heldPoint p s).tsq.program = s.tsq.program ∧ (heldPoint p
    s).tsq.load = s.tsq.load ∧ (heldPoint p s).tsq.lastLoad = s.tsq.lastLoad ∧ (heldPoint p s).tsq.holdPoints =
    s.tsq.holdPoints := by
  unfold heldPoint; (try dsimp only); (repeat' split) <;> simp

@[simp] theorem sequencerPoint_frame (fractured : Bool) (p : Point) (s : State) :
    (sequencerPoint fractured p s).lmu = s.lmu ∧ (sequencerPoint fractured p s).latestPoint = s.latestPoint ∧
    (sequencerPoint fractured p s).inReset = s.inReset ∧ (sequencerPoint fractured p s).clock = s.clock ∧
    (sequencerPoint fractured p s).freeCount = s.freeCount ∧ (sequencerPoint fractured p s).pending = s.pending ∧
    (sequencerPoint fractured p s).cli.replies = s.cli.replies ∧ (sequencerPoint fractured p s).cli.receiver =
    s.cli.receiver ∧ (sequencerPoint fractured p s).cli.partialFrame = s.cli.partialFrame ∧ (sequencerPoint
    fractured p s).cli.restartPending = s.cli.restartPending ∧ (sequencerPoint fractured p s).cli.mask =
    s.cli.mask ∧ (sequencerPoint fractured p s).cli.counters = s.cli.counters ∧ (sequencerPoint fractured p
    s).tsq.specimen = s.tsq.specimen ∧ (sequencerPoint fractured p s).tsq.program = s.tsq.program ∧
    (sequencerPoint fractured p s).tsq.load = s.tsq.load ∧ (sequencerPoint fractured p s).tsq.lastLoad =
    s.tsq.lastLoad ∧ (sequencerPoint fractured p s).tsq.holdPoints = s.tsq.holdPoints ∧ (sequencerPoint fractured
    p s).fcu.tables = s.fcu.tables ∧ (sequencerPoint fractured p s).fcu.levelTimer = s.fcu.levelTimer ∧
    (sequencerPoint fractured p s).fcu.unrestTimer = s.fcu.unrestTimer ∧ (sequencerPoint fractured p
    s).fcu.history = s.fcu.history ∧ (sequencerPoint fractured p s).fcu.nextIndex = s.fcu.nextIndex ∧
    (sequencerPoint fractured p s).fcu.tareWait = s.fcu.tareWait := by
  unfold sequencerPoint; (try dsimp only); (repeat' split) <;> simp

@[simp] theorem driveTrip_frame (s : State) :
    (driveTrip s).tsq = s.tsq ∧ (driveTrip s).fcu = s.fcu ∧ (driveTrip s).glc = s.glc ∧ (driveTrip s).exm = s.exm
    ∧ (driveTrip s).evu = s.evu ∧ (driveTrip s).sms = s.sms ∧ (driveTrip s).lmu = s.lmu ∧ (driveTrip
    s).latestPoint = s.latestPoint ∧ (driveTrip s).inReset = s.inReset ∧ (driveTrip s).clock = s.clock ∧
    (driveTrip s).freeCount = s.freeCount ∧ (driveTrip s).pending = s.pending ∧ (driveTrip s).cli.replies =
    s.cli.replies ∧ (driveTrip s).cli.receiver = s.cli.receiver ∧ (driveTrip s).cli.partialFrame =
    s.cli.partialFrame ∧ (driveTrip s).cli.restartPending = s.cli.restartPending ∧ (driveTrip s).cli.mask =
    s.cli.mask ∧ (driveTrip s).cli.counters = s.cli.counters := by
  unfold driveTrip; (try dsimp only); (repeat' split) <;> simp

@[simp] theorem latchTrip_frame (c : TripCause) (s : State) :
    (latchTrip c s).cli = s.cli ∧ (latchTrip c s).tsq = s.tsq ∧ (latchTrip c s).drl = s.drl ∧ (latchTrip c s).fcu
    = s.fcu ∧ (latchTrip c s).glc = s.glc ∧ (latchTrip c s).exm = s.exm ∧ (latchTrip c s).evu = s.evu ∧ (latchTrip
    c s).sms = s.sms ∧ (latchTrip c s).latestPoint = s.latestPoint ∧ (latchTrip c s).inReset = s.inReset ∧
    (latchTrip c s).clock = s.clock ∧ (latchTrip c s).freeCount = s.freeCount ∧ (latchTrip c s).pending =
    s.pending ∧ (latchTrip c s).lmu.inputs = s.lmu.inputs := by
  unfold latchTrip; (try dsimp only); (repeat' split) <;> simp

@[simp] theorem handTrip_frame (s : State) :
    (handTrip s).fcu = s.fcu ∧ (handTrip s).lmu = s.lmu ∧ (handTrip s).latestPoint = s.latestPoint ∧ (handTrip
    s).inReset = s.inReset ∧ (handTrip s).clock = s.clock ∧ (handTrip s).freeCount = s.freeCount ∧ (handTrip
    s).pending = s.pending ∧ (handTrip s).cli.replies = s.cli.replies ∧ (handTrip s).cli.receiver = s.cli.receiver
    ∧ (handTrip s).cli.partialFrame = s.cli.partialFrame ∧ (handTrip s).cli.restartPending = s.cli.restartPending
    ∧ (handTrip s).cli.mask = s.cli.mask ∧ (handTrip s).cli.counters = s.cli.counters ∧ (handTrip s).tsq.specimen
    = s.tsq.specimen ∧ (handTrip s).tsq.program = s.tsq.program ∧ (handTrip s).tsq.load = s.tsq.load ∧ (handTrip
    s).tsq.lastLoad = s.tsq.lastLoad ∧ (handTrip s).tsq.holdPoints = s.tsq.holdPoints := by
  unfold handTrip; (try dsimp only); (repeat' split) <;> simp

@[simp] theorem takeCause_frame (c : TripCause) (s : State) :
    (takeCause c s).fcu = s.fcu ∧ (takeCause c s).latestPoint = s.latestPoint ∧ (takeCause c s).inReset =
    s.inReset ∧ (takeCause c s).clock = s.clock ∧ (takeCause c s).freeCount = s.freeCount ∧ (takeCause c
    s).pending = s.pending ∧ (takeCause c s).cli.replies = s.cli.replies ∧ (takeCause c s).cli.receiver =
    s.cli.receiver ∧ (takeCause c s).cli.partialFrame = s.cli.partialFrame ∧ (takeCause c s).cli.restartPending =
    s.cli.restartPending ∧ (takeCause c s).cli.mask = s.cli.mask ∧ (takeCause c s).cli.counters = s.cli.counters ∧
    (takeCause c s).tsq.specimen = s.tsq.specimen ∧ (takeCause c s).tsq.program = s.tsq.program ∧ (takeCause c
    s).tsq.load = s.tsq.load ∧ (takeCause c s).tsq.lastLoad = s.tsq.lastLoad ∧ (takeCause c s).tsq.holdPoints =
    s.tsq.holdPoints ∧ (takeCause c s).lmu.inputs = s.lmu.inputs := by
  unfold takeCause; (try dsimp only); (repeat' split) <;> simp

@[simp] theorem onInput_frame (i : SafetyInput) (f : SafetyLine → SafetyLine) (s : State) :
    (onInput i f s).cli = s.cli ∧ (onInput i f s).tsq = s.tsq ∧ (onInput i f s).drl = s.drl ∧ (onInput i f s).fcu
    = s.fcu ∧ (onInput i f s).glc = s.glc ∧ (onInput i f s).exm = s.exm ∧ (onInput i f s).evu = s.evu ∧ (onInput i
    f s).sms = s.sms ∧ (onInput i f s).latestPoint = s.latestPoint ∧ (onInput i f s).inReset = s.inReset ∧
    (onInput i f s).clock = s.clock ∧ (onInput i f s).freeCount = s.freeCount ∧ (onInput i f s).pending =
    s.pending ∧ (onInput i f s).lmu.trip = s.lmu.trip ∧ (onInput i f s).lmu.record = s.lmu.record := by
  unfold onInput; (try dsimp only); (repeat' split) <;> simp

@[simp] theorem inputAsserted_frame (i : SafetyInput) (s : State) :
    (inputAsserted i s).fcu = s.fcu ∧ (inputAsserted i s).latestPoint = s.latestPoint ∧ (inputAsserted i
    s).inReset = s.inReset ∧ (inputAsserted i s).clock = s.clock ∧ (inputAsserted i s).freeCount = s.freeCount ∧
    (inputAsserted i s).pending = s.pending ∧ (inputAsserted i s).cli.replies = s.cli.replies ∧ (inputAsserted i
    s).cli.receiver = s.cli.receiver ∧ (inputAsserted i s).cli.partialFrame = s.cli.partialFrame ∧ (inputAsserted
    i s).cli.restartPending = s.cli.restartPending ∧ (inputAsserted i s).cli.mask = s.cli.mask ∧ (inputAsserted i
    s).cli.counters = s.cli.counters ∧ (inputAsserted i s).tsq.specimen = s.tsq.specimen ∧ (inputAsserted i
    s).tsq.program = s.tsq.program ∧ (inputAsserted i s).tsq.load = s.tsq.load ∧ (inputAsserted i s).tsq.lastLoad
    = s.tsq.lastLoad ∧ (inputAsserted i s).tsq.holdPoints = s.tsq.holdPoints := by
  unfold inputAsserted; (try dsimp only); (repeat' split) <;> simp

@[simp] theorem inputReleased_frame (i : SafetyInput) (s : State) :
    (inputReleased i s).cli = s.cli ∧ (inputReleased i s).tsq = s.tsq ∧ (inputReleased i s).drl = s.drl ∧
    (inputReleased i s).fcu = s.fcu ∧ (inputReleased i s).glc = s.glc ∧ (inputReleased i s).exm = s.exm ∧
    (inputReleased i s).evu = s.evu ∧ (inputReleased i s).sms = s.sms ∧ (inputReleased i s).latestPoint =
    s.latestPoint ∧ (inputReleased i s).inReset = s.inReset ∧ (inputReleased i s).clock = s.clock ∧ (inputReleased
    i s).freeCount = s.freeCount ∧ (inputReleased i s).pending = s.pending ∧ (inputReleased i s).lmu.trip =
    s.lmu.trip ∧ (inputReleased i s).lmu.record = s.lmu.record := by
  unfold inputReleased; (try dsimp only); (repeat' split) <;> simp

@[simp] theorem sampleInput_frame (i : SafetyInput) (raw : Level) (s : State) :
    (sampleInput i raw s).fcu = s.fcu ∧ (sampleInput i raw s).latestPoint = s.latestPoint ∧ (sampleInput i raw
    s).inReset = s.inReset ∧ (sampleInput i raw s).clock = s.clock ∧ (sampleInput i raw s).freeCount = s.freeCount
    ∧ (sampleInput i raw s).pending = s.pending ∧ (sampleInput i raw s).cli.replies = s.cli.replies ∧ (sampleInput
    i raw s).cli.receiver = s.cli.receiver ∧ (sampleInput i raw s).cli.partialFrame = s.cli.partialFrame ∧
    (sampleInput i raw s).cli.restartPending = s.cli.restartPending ∧ (sampleInput i raw s).cli.mask = s.cli.mask
    ∧ (sampleInput i raw s).cli.counters = s.cli.counters ∧ (sampleInput i raw s).tsq.specimen = s.tsq.specimen ∧
    (sampleInput i raw s).tsq.program = s.tsq.program ∧ (sampleInput i raw s).tsq.load = s.tsq.load ∧ (sampleInput
    i raw s).tsq.lastLoad = s.tsq.lastLoad ∧ (sampleInput i raw s).tsq.holdPoints = s.tsq.holdPoints := by
  unfold sampleInput; (try dsimp only); (repeat' split) <;> simp

@[simp] theorem sampleInputs_frame (raw : SafetyLevels) (s : State) :
    (sampleInputs raw s).fcu = s.fcu ∧ (sampleInputs raw s).latestPoint = s.latestPoint ∧ (sampleInputs raw
    s).inReset = s.inReset ∧ (sampleInputs raw s).clock = s.clock ∧ (sampleInputs raw s).freeCount = s.freeCount ∧
    (sampleInputs raw s).pending = s.pending ∧ (sampleInputs raw s).cli.replies = s.cli.replies ∧ (sampleInputs
    raw s).cli.receiver = s.cli.receiver ∧ (sampleInputs raw s).cli.partialFrame = s.cli.partialFrame ∧
    (sampleInputs raw s).cli.restartPending = s.cli.restartPending ∧ (sampleInputs raw s).cli.mask = s.cli.mask ∧
    (sampleInputs raw s).cli.counters = s.cli.counters ∧ (sampleInputs raw s).tsq.specimen = s.tsq.specimen ∧
    (sampleInputs raw s).tsq.program = s.tsq.program ∧ (sampleInputs raw s).tsq.load = s.tsq.load ∧ (sampleInputs
    raw s).tsq.lastLoad = s.tsq.lastLoad ∧ (sampleInputs raw s).tsq.holdPoints = s.tsq.holdPoints := by
  unfold sampleInputs; (try dsimp only); (repeat' split) <;> simp

@[simp] theorem takeLimits_frame (s : State) :
    (takeLimits s).cli = s.cli ∧ (takeLimits s).tsq = s.tsq ∧ (takeLimits s).drl = s.drl ∧ (takeLimits s).fcu =
    s.fcu ∧ (takeLimits s).glc = s.glc ∧ (takeLimits s).exm = s.exm ∧ (takeLimits s).evu = s.evu ∧ (takeLimits
    s).sms = s.sms ∧ (takeLimits s).latestPoint = s.latestPoint ∧ (takeLimits s).inReset = s.inReset ∧ (takeLimits
    s).clock = s.clock ∧ (takeLimits s).freeCount = s.freeCount ∧ (takeLimits s).pending = s.pending ∧ (takeLimits
    s).lmu.trip = s.lmu.trip ∧ (takeLimits s).lmu.inputs = s.lmu.inputs ∧ (takeLimits s).lmu.record = s.lmu.record := by
  unfold takeLimits; (try dsimp only); (repeat' split) <;> simp

@[simp] theorem driveFaultPoint_frame (fault : Bool) (s : State) :
    (driveFaultPoint fault s).fcu = s.fcu ∧ (driveFaultPoint fault s).latestPoint = s.latestPoint ∧
    (driveFaultPoint fault s).inReset = s.inReset ∧ (driveFaultPoint fault s).clock = s.clock ∧ (driveFaultPoint
    fault s).freeCount = s.freeCount ∧ (driveFaultPoint fault s).pending = s.pending ∧ (driveFaultPoint fault
    s).cli.replies = s.cli.replies ∧ (driveFaultPoint fault s).cli.receiver = s.cli.receiver ∧ (driveFaultPoint
    fault s).cli.partialFrame = s.cli.partialFrame ∧ (driveFaultPoint fault s).cli.restartPending =
    s.cli.restartPending ∧ (driveFaultPoint fault s).cli.mask = s.cli.mask ∧ (driveFaultPoint fault
    s).cli.counters = s.cli.counters ∧ (driveFaultPoint fault s).tsq.specimen = s.tsq.specimen ∧ (driveFaultPoint
    fault s).tsq.program = s.tsq.program ∧ (driveFaultPoint fault s).tsq.load = s.tsq.load ∧ (driveFaultPoint
    fault s).tsq.lastLoad = s.tsq.lastLoad ∧ (driveFaultPoint fault s).tsq.holdPoints = s.tsq.holdPoints ∧
    (driveFaultPoint fault s).lmu.inputs = s.lmu.inputs := by
  unfold driveFaultPoint; (try dsimp only); (repeat' split) <;> simp

@[simp] theorem overloadPoint_frame (p : Point) (s : State) :
    (overloadPoint p s).fcu = s.fcu ∧ (overloadPoint p s).latestPoint = s.latestPoint ∧ (overloadPoint p
    s).inReset = s.inReset ∧ (overloadPoint p s).clock = s.clock ∧ (overloadPoint p s).freeCount = s.freeCount ∧
    (overloadPoint p s).pending = s.pending ∧ (overloadPoint p s).cli.replies = s.cli.replies ∧ (overloadPoint p
    s).cli.receiver = s.cli.receiver ∧ (overloadPoint p s).cli.partialFrame = s.cli.partialFrame ∧ (overloadPoint
    p s).cli.restartPending = s.cli.restartPending ∧ (overloadPoint p s).cli.mask = s.cli.mask ∧ (overloadPoint p
    s).cli.counters = s.cli.counters ∧ (overloadPoint p s).tsq.specimen = s.tsq.specimen ∧ (overloadPoint p
    s).tsq.program = s.tsq.program ∧ (overloadPoint p s).tsq.load = s.tsq.load ∧ (overloadPoint p s).tsq.lastLoad
    = s.tsq.lastLoad ∧ (overloadPoint p s).tsq.holdPoints = s.tsq.holdPoints ∧ (overloadPoint p s).lmu.inputs =
    s.lmu.inputs := by
  unfold overloadPoint; (try dsimp only); (repeat' split) <;> simp

@[simp] theorem limitPoint_frame (fault : Bool) (p : Point) (s : State) :
    (limitPoint fault p s).fcu = s.fcu ∧ (limitPoint fault p s).latestPoint = s.latestPoint ∧ (limitPoint fault p
    s).inReset = s.inReset ∧ (limitPoint fault p s).clock = s.clock ∧ (limitPoint fault p s).freeCount =
    s.freeCount ∧ (limitPoint fault p s).pending = s.pending ∧ (limitPoint fault p s).cli.replies = s.cli.replies
    ∧ (limitPoint fault p s).cli.receiver = s.cli.receiver ∧ (limitPoint fault p s).cli.partialFrame =
    s.cli.partialFrame ∧ (limitPoint fault p s).cli.restartPending = s.cli.restartPending ∧ (limitPoint fault p
    s).cli.mask = s.cli.mask ∧ (limitPoint fault p s).cli.counters = s.cli.counters ∧ (limitPoint fault p
    s).tsq.specimen = s.tsq.specimen ∧ (limitPoint fault p s).tsq.program = s.tsq.program ∧ (limitPoint fault p
    s).tsq.load = s.tsq.load ∧ (limitPoint fault p s).tsq.lastLoad = s.tsq.lastLoad ∧ (limitPoint fault p
    s).tsq.holdPoints = s.tsq.holdPoints ∧ (limitPoint fault p s).lmu.inputs = s.lmu.inputs := by
  unfold limitPoint; (try dsimp only); (repeat' split) <;> simp

@[simp] theorem clearTripEffects_frame (s : State) :
    (clearTripEffects s).tsq = s.tsq ∧ (clearTripEffects s).fcu = s.fcu ∧ (clearTripEffects s).glc = s.glc ∧
    (clearTripEffects s).exm = s.exm ∧ (clearTripEffects s).evu = s.evu ∧ (clearTripEffects s).sms = s.sms ∧
    (clearTripEffects s).latestPoint = s.latestPoint ∧ (clearTripEffects s).inReset = s.inReset ∧
    (clearTripEffects s).clock = s.clock ∧ (clearTripEffects s).freeCount = s.freeCount ∧ (clearTripEffects
    s).pending = s.pending ∧ (clearTripEffects s).cli.replies = s.cli.replies ∧ (clearTripEffects s).cli.receiver
    = s.cli.receiver ∧ (clearTripEffects s).cli.partialFrame = s.cli.partialFrame ∧ (clearTripEffects
    s).cli.restartPending = s.cli.restartPending ∧ (clearTripEffects s).cli.mask = s.cli.mask ∧ (clearTripEffects
    s).cli.counters = s.cli.counters ∧ (clearTripEffects s).drl.frame = s.drl.frame ∧ (clearTripEffects
    s).drl.encoder = s.drl.encoder ∧ (clearTripEffects s).drl.travelZero = s.drl.travelZero ∧ (clearTripEffects
    s).lmu.record = s.lmu.record := by
  unfold clearTripEffects; (try dsimp only); (repeat' split) <;> simp <;> exact ⟨rfl, rfl, rfl⟩

@[simp] theorem resetInput_frame (i : SafetyInput) (s : State) :
    (resetInput i s).fcu = s.fcu ∧ (resetInput i s).latestPoint = s.latestPoint ∧ (resetInput i s).inReset =
    s.inReset ∧ (resetInput i s).clock = s.clock ∧ (resetInput i s).freeCount = s.freeCount ∧ (resetInput i
    s).pending = s.pending ∧ (resetInput i s).cli.replies = s.cli.replies ∧ (resetInput i s).cli.receiver =
    s.cli.receiver ∧ (resetInput i s).cli.partialFrame = s.cli.partialFrame ∧ (resetInput i s).cli.restartPending
    = s.cli.restartPending ∧ (resetInput i s).cli.mask = s.cli.mask ∧ (resetInput i s).cli.counters =
    s.cli.counters ∧ (resetInput i s).tsq.specimen = s.tsq.specimen ∧ (resetInput i s).tsq.program = s.tsq.program
    ∧ (resetInput i s).tsq.load = s.tsq.load ∧ (resetInput i s).tsq.lastLoad = s.tsq.lastLoad ∧ (resetInput i
    s).tsq.holdPoints = s.tsq.holdPoints := by
  unfold resetInput; (try dsimp only); (repeat' split) <;> simp

end Sys2Proof.Laws
end

