-- ==== Sys2Proof/Laws/FramesPoint.lean ====
section
/-! SUPPORT. What the operations of the point path and the gauge-link completion leave unchanged: for every operation, the blocks and fields it does not
touch. -/

set_option linter.unusedTactic false
set_option linter.unnecessarySeqFocus false
set_option linter.unusedSimpArgs false
set_option linter.unreachableTactic false

namespace Sys2Proof.Laws

open Sys2Proof.Machine

@[simp] theorem rangeChange_frame (r : Range) (s : State) :
    (rangeChange r s).tsq = s.tsq ∧ (rangeChange r s).drl = s.drl ∧ (rangeChange r s).glc = s.glc ∧ (rangeChange r
    s).exm = s.exm ∧ (rangeChange r s).evu = s.evu ∧ (rangeChange r s).sms = s.sms ∧ (rangeChange r s).lmu = s.lmu
    ∧ (rangeChange r s).latestPoint = s.latestPoint ∧ (rangeChange r s).inReset = s.inReset ∧ (rangeChange r
    s).clock = s.clock ∧ (rangeChange r s).freeCount = s.freeCount ∧ (rangeChange r s).pending = s.pending ∧
    (rangeChange r s).cli.replies = s.cli.replies ∧ (rangeChange r s).cli.receiver = s.cli.receiver ∧ (rangeChange
    r s).cli.partialFrame = s.cli.partialFrame ∧ (rangeChange r s).cli.restartPending = s.cli.restartPending ∧
    (rangeChange r s).cli.mask = s.cli.mask ∧ (rangeChange r s).cli.counters = s.cli.counters ∧ (rangeChange r
    s).fcu.tables = s.fcu.tables ∧ (rangeChange r s).fcu.levelTimer = s.fcu.levelTimer ∧ (rangeChange r
    s).fcu.unrestTimer = s.fcu.unrestTimer ∧ (rangeChange r s).fcu.nextIndex = s.fcu.nextIndex ∧ (rangeChange r
    s).fcu.tareWait = s.fcu.tareWait := by
  unfold rangeChange; (try dsimp only); (repeat' split) <;> simp

@[simp] theorem rangeLogic_frame (u : Use) (raw : Int) (s : State) :
    (rangeLogic u raw s).tsq = s.tsq ∧ (rangeLogic u raw s).drl = s.drl ∧ (rangeLogic u raw s).glc = s.glc ∧
    (rangeLogic u raw s).exm = s.exm ∧ (rangeLogic u raw s).evu = s.evu ∧ (rangeLogic u raw s).sms = s.sms ∧
    (rangeLogic u raw s).lmu = s.lmu ∧ (rangeLogic u raw s).latestPoint = s.latestPoint ∧ (rangeLogic u raw
    s).inReset = s.inReset ∧ (rangeLogic u raw s).clock = s.clock ∧ (rangeLogic u raw s).freeCount = s.freeCount ∧
    (rangeLogic u raw s).pending = s.pending ∧ (rangeLogic u raw s).cli.replies = s.cli.replies ∧ (rangeLogic u
    raw s).cli.receiver = s.cli.receiver ∧ (rangeLogic u raw s).cli.partialFrame = s.cli.partialFrame ∧
    (rangeLogic u raw s).cli.restartPending = s.cli.restartPending ∧ (rangeLogic u raw s).cli.mask = s.cli.mask ∧
    (rangeLogic u raw s).cli.counters = s.cli.counters := by
  unfold rangeLogic; (try dsimp only); (repeat' split) <;> simp

@[simp] theorem closeTareWait_frame (s : State) :
    (closeTareWait s).tsq = s.tsq ∧ (closeTareWait s).drl = s.drl ∧ (closeTareWait s).glc = s.glc ∧ (closeTareWait
    s).exm = s.exm ∧ (closeTareWait s).evu = s.evu ∧ (closeTareWait s).sms = s.sms ∧ (closeTareWait s).lmu = s.lmu
    ∧ (closeTareWait s).latestPoint = s.latestPoint ∧ (closeTareWait s).inReset = s.inReset ∧ (closeTareWait
    s).clock = s.clock ∧ (closeTareWait s).freeCount = s.freeCount ∧ (closeTareWait s).pending = s.pending ∧
    (closeTareWait s).cli.replies = s.cli.replies ∧ (closeTareWait s).cli.receiver = s.cli.receiver ∧
    (closeTareWait s).cli.partialFrame = s.cli.partialFrame ∧ (closeTareWait s).cli.restartPending =
    s.cli.restartPending ∧ (closeTareWait s).cli.mask = s.cli.mask ∧ (closeTareWait s).cli.counters =
    s.cli.counters ∧ (closeTareWait s).fcu.tables = s.fcu.tables ∧ (closeTareWait s).fcu.levelTimer =
    s.fcu.levelTimer ∧ (closeTareWait s).fcu.unrestTimer = s.fcu.unrestTimer ∧ (closeTareWait s).fcu.history =
    s.fcu.history ∧ (closeTareWait s).fcu.nextIndex = s.fcu.nextIndex := by
  unfold closeTareWait; (try dsimp only); (repeat' split) <;> simp

@[simp] theorem tareWaitOut_frame (s : State) :
    (tareWaitOut s).tsq = s.tsq ∧ (tareWaitOut s).drl = s.drl ∧ (tareWaitOut s).glc = s.glc ∧ (tareWaitOut s).exm
    = s.exm ∧ (tareWaitOut s).evu = s.evu ∧ (tareWaitOut s).sms = s.sms ∧ (tareWaitOut s).lmu = s.lmu ∧
    (tareWaitOut s).latestPoint = s.latestPoint ∧ (tareWaitOut s).inReset = s.inReset ∧ (tareWaitOut s).clock =
    s.clock ∧ (tareWaitOut s).freeCount = s.freeCount ∧ (tareWaitOut s).pending = s.pending ∧ (tareWaitOut
    s).cli.replies = s.cli.replies ∧ (tareWaitOut s).cli.receiver = s.cli.receiver ∧ (tareWaitOut
    s).cli.partialFrame = s.cli.partialFrame ∧ (tareWaitOut s).cli.restartPending = s.cli.restartPending ∧
    (tareWaitOut s).cli.mask = s.cli.mask ∧ (tareWaitOut s).cli.counters = s.cli.counters ∧ (tareWaitOut
    s).fcu.tables = s.fcu.tables ∧ (tareWaitOut s).fcu.levelTimer = s.fcu.levelTimer ∧ (tareWaitOut
    s).fcu.unrestTimer = s.fcu.unrestTimer ∧ (tareWaitOut s).fcu.history = s.fcu.history ∧ (tareWaitOut
    s).fcu.nextIndex = s.fcu.nextIndex := by
  unfold tareWaitOut; (try dsimp only); (repeat' split) <;> simp

@[simp] theorem tareWaitPoint_frame (s : State) :
    (tareWaitPoint s).tsq = s.tsq ∧ (tareWaitPoint s).drl = s.drl ∧ (tareWaitPoint s).glc = s.glc ∧ (tareWaitPoint
    s).exm = s.exm ∧ (tareWaitPoint s).evu = s.evu ∧ (tareWaitPoint s).sms = s.sms ∧ (tareWaitPoint s).lmu = s.lmu
    ∧ (tareWaitPoint s).latestPoint = s.latestPoint ∧ (tareWaitPoint s).inReset = s.inReset ∧ (tareWaitPoint
    s).clock = s.clock ∧ (tareWaitPoint s).freeCount = s.freeCount ∧ (tareWaitPoint s).pending = s.pending ∧
    (tareWaitPoint s).cli.replies = s.cli.replies ∧ (tareWaitPoint s).cli.receiver = s.cli.receiver ∧
    (tareWaitPoint s).cli.partialFrame = s.cli.partialFrame ∧ (tareWaitPoint s).cli.restartPending =
    s.cli.restartPending ∧ (tareWaitPoint s).cli.mask = s.cli.mask ∧ (tareWaitPoint s).cli.counters =
    s.cli.counters ∧ (tareWaitPoint s).fcu.tables = s.fcu.tables ∧ (tareWaitPoint s).fcu.levelTimer =
    s.fcu.levelTimer ∧ (tareWaitPoint s).fcu.unrestTimer = s.fcu.unrestTimer ∧ (tareWaitPoint s).fcu.history =
    s.fcu.history ∧ (tareWaitPoint s).fcu.nextIndex = s.fcu.nextIndex := by
  unfold tareWaitPoint; (try dsimp only); (repeat' split) <;> simp

@[simp] theorem captureTravelZero_frame (s : State) :
    (captureTravelZero s).cli = s.cli ∧ (captureTravelZero s).tsq = s.tsq ∧ (captureTravelZero s).fcu = s.fcu ∧
    (captureTravelZero s).glc = s.glc ∧ (captureTravelZero s).exm = s.exm ∧ (captureTravelZero s).evu = s.evu ∧
    (captureTravelZero s).sms = s.sms ∧ (captureTravelZero s).lmu = s.lmu ∧ (captureTravelZero s).latestPoint =
    s.latestPoint ∧ (captureTravelZero s).inReset = s.inReset ∧ (captureTravelZero s).clock = s.clock ∧
    (captureTravelZero s).freeCount = s.freeCount ∧ (captureTravelZero s).pending = s.pending ∧ (captureTravelZero
    s).drl.frame = s.drl.frame ∧ (captureTravelZero s).drl.encoder = s.drl.encoder ∧ (captureTravelZero
    s).drl.state = s.drl.state ∧ (captureTravelZero s).drl.velocity = s.drl.velocity ∧ (captureTravelZero
    s).drl.dacCode = s.drl.dacCode := by
  unfold captureTravelZero; (try dsimp only); (repeat' split) <;> simp

/-- The point takes the travel zero that an accepted Start Test has asked for (R49). -/
@[simp] theorem captureTravelZero_captured (s : State) :
    (captureTravelZero s).drl.captureZero = false ∧
    (captureTravelZero s).drl.travelZero = if s.drl.captureZero then some s.drl.encoder else s.drl.travelZero := by
  unfold captureTravelZero; split <;> simp_all

@[simp] theorem formPoint_frame (count : Int) (s : State) :
    (formPoint count s).state.tsq = s.tsq ∧ (formPoint count s).state.glc = s.glc ∧ (formPoint count s).state.evu
    = s.evu ∧ (formPoint count s).state.sms = s.sms ∧ (formPoint count s).state.lmu = s.lmu ∧ (formPoint count
    s).state.inReset = s.inReset ∧ (formPoint count s).state.clock = s.clock ∧ (formPoint count s).state.freeCount
    = s.freeCount ∧ (formPoint count s).state.pending = s.pending ∧ (formPoint count s).state.cli.replies =
    s.cli.replies ∧ (formPoint count s).state.cli.receiver = s.cli.receiver ∧ (formPoint count
    s).state.cli.partialFrame = s.cli.partialFrame ∧ (formPoint count s).state.cli.restartPending =
    s.cli.restartPending ∧ (formPoint count s).state.cli.mask = s.cli.mask ∧ (formPoint count
    s).state.cli.counters = s.cli.counters ∧ (formPoint count s).state.drl.frame = s.drl.frame ∧ (formPoint count
    s).state.drl.encoder = s.drl.encoder ∧ (formPoint count s).state.drl.state = s.drl.state ∧ (formPoint count
    s).state.drl.velocity = s.drl.velocity ∧ (formPoint count s).state.drl.dacCode = s.drl.dacCode ∧ (formPoint
    count s).state.exm.source = s.exm.source ∧ (formPoint count s).state.exm.removal = s.exm.removal ∧ (formPoint
    count s).state.exm.frozenStrain = s.exm.frozenStrain := by
  unfold formPoint; (try dsimp only); (repeat' split) <;> simp

@[simp] theorem readyPoint_frame (ready : Bool) (s : State) :
    (readyPoint ready s).fcu = s.fcu ∧ (readyPoint ready s).latestPoint = s.latestPoint ∧ (readyPoint ready
    s).inReset = s.inReset ∧ (readyPoint ready s).clock = s.clock ∧ (readyPoint ready s).freeCount = s.freeCount ∧
    (readyPoint ready s).pending = s.pending ∧ (readyPoint ready s).cli.replies = s.cli.replies ∧ (readyPoint
    ready s).cli.receiver = s.cli.receiver ∧ (readyPoint ready s).cli.partialFrame = s.cli.partialFrame ∧
    (readyPoint ready s).cli.restartPending = s.cli.restartPending ∧ (readyPoint ready s).cli.mask = s.cli.mask ∧
    (readyPoint ready s).cli.counters = s.cli.counters ∧ (readyPoint ready s).tsq.specimen = s.tsq.specimen ∧
    (readyPoint ready s).tsq.program = s.tsq.program ∧ (readyPoint ready s).tsq.load = s.tsq.load ∧ (readyPoint
    ready s).tsq.lastLoad = s.tsq.lastLoad ∧ (readyPoint ready s).tsq.holdPoints = s.tsq.holdPoints ∧ (readyPoint
    ready s).lmu.inputs = s.lmu.inputs := by
  unfold readyPoint; (try dsimp only); (repeat' split) <;> simp

@[simp] theorem reportReadback_frame (s : State) :
    (reportReadback s).fcu = s.fcu ∧ (reportReadback s).latestPoint = s.latestPoint ∧ (reportReadback s).inReset =
    s.inReset ∧ (reportReadback s).clock = s.clock ∧ (reportReadback s).freeCount = s.freeCount ∧ (reportReadback
    s).pending = s.pending ∧ (reportReadback s).cli.replies = s.cli.replies ∧ (reportReadback s).cli.receiver =
    s.cli.receiver ∧ (reportReadback s).cli.partialFrame = s.cli.partialFrame ∧ (reportReadback
    s).cli.restartPending = s.cli.restartPending ∧ (reportReadback s).cli.mask = s.cli.mask ∧ (reportReadback
    s).cli.counters = s.cli.counters ∧ (reportReadback s).tsq.specimen = s.tsq.specimen ∧ (reportReadback
    s).tsq.program = s.tsq.program ∧ (reportReadback s).tsq.load = s.tsq.load ∧ (reportReadback s).tsq.lastLoad =
    s.tsq.lastLoad ∧ (reportReadback s).tsq.holdPoints = s.tsq.holdPoints ∧ (reportReadback s).lmu.inputs =
    s.lmu.inputs := by
  unfold reportReadback; (try dsimp only); (repeat' split) <;> simp

@[simp] theorem readbackPoint_frame (code held : Int) (s : State) :
    (readbackPoint code held s).fcu = s.fcu ∧ (readbackPoint code held s).latestPoint = s.latestPoint ∧
    (readbackPoint code held s).inReset = s.inReset ∧ (readbackPoint code held s).clock = s.clock ∧ (readbackPoint
    code held s).freeCount = s.freeCount ∧ (readbackPoint code held s).pending = s.pending ∧ (readbackPoint code
    held s).cli.replies = s.cli.replies ∧ (readbackPoint code held s).cli.receiver = s.cli.receiver ∧
    (readbackPoint code held s).cli.partialFrame = s.cli.partialFrame ∧ (readbackPoint code held
    s).cli.restartPending = s.cli.restartPending ∧ (readbackPoint code held s).cli.mask = s.cli.mask ∧
    (readbackPoint code held s).cli.counters = s.cli.counters ∧ (readbackPoint code held s).tsq.specimen =
    s.tsq.specimen ∧ (readbackPoint code held s).tsq.program = s.tsq.program ∧ (readbackPoint code held
    s).tsq.load = s.tsq.load ∧ (readbackPoint code held s).tsq.lastLoad = s.tsq.lastLoad ∧ (readbackPoint code
    held s).tsq.holdPoints = s.tsq.holdPoints ∧ (readbackPoint code held s).lmu.inputs = s.lmu.inputs := by
  unfold readbackPoint; (try dsimp only); (repeat' split) <;> simp

@[simp] theorem enableWaitOut_frame (s : State) :
    (enableWaitOut s).tsq = s.tsq ∧ (enableWaitOut s).fcu = s.fcu ∧ (enableWaitOut s).glc = s.glc ∧ (enableWaitOut
    s).exm = s.exm ∧ (enableWaitOut s).evu = s.evu ∧ (enableWaitOut s).sms = s.sms ∧ (enableWaitOut s).lmu = s.lmu
    ∧ (enableWaitOut s).latestPoint = s.latestPoint ∧ (enableWaitOut s).inReset = s.inReset ∧ (enableWaitOut
    s).clock = s.clock ∧ (enableWaitOut s).freeCount = s.freeCount ∧ (enableWaitOut s).pending = s.pending ∧
    (enableWaitOut s).cli.replies = s.cli.replies ∧ (enableWaitOut s).cli.receiver = s.cli.receiver ∧
    (enableWaitOut s).cli.partialFrame = s.cli.partialFrame ∧ (enableWaitOut s).cli.restartPending =
    s.cli.restartPending ∧ (enableWaitOut s).cli.mask = s.cli.mask ∧ (enableWaitOut s).cli.counters =
    s.cli.counters ∧ (enableWaitOut s).drl.frame = s.drl.frame ∧ (enableWaitOut s).drl.encoder = s.drl.encoder ∧
    (enableWaitOut s).drl.travelZero = s.drl.travelZero := by
  unfold enableWaitOut; (try dsimp only); (repeat' split) <;> simp <;> exact ⟨rfl, rfl, rfl⟩

@[simp] theorem enablingPoint_frame (ready : Bool) (s : State) :
    (enablingPoint ready s).tsq = s.tsq ∧ (enablingPoint ready s).fcu = s.fcu ∧ (enablingPoint ready s).glc =
    s.glc ∧ (enablingPoint ready s).exm = s.exm ∧ (enablingPoint ready s).evu = s.evu ∧ (enablingPoint ready
    s).sms = s.sms ∧ (enablingPoint ready s).lmu = s.lmu ∧ (enablingPoint ready s).latestPoint = s.latestPoint ∧
    (enablingPoint ready s).inReset = s.inReset ∧ (enablingPoint ready s).clock = s.clock ∧ (enablingPoint ready
    s).freeCount = s.freeCount ∧ (enablingPoint ready s).pending = s.pending ∧ (enablingPoint ready s).cli.replies
    = s.cli.replies ∧ (enablingPoint ready s).cli.receiver = s.cli.receiver ∧ (enablingPoint ready
    s).cli.partialFrame = s.cli.partialFrame ∧ (enablingPoint ready s).cli.restartPending = s.cli.restartPending ∧
    (enablingPoint ready s).cli.mask = s.cli.mask ∧ (enablingPoint ready s).cli.counters = s.cli.counters := by
  unfold enablingPoint; (try dsimp only); (repeat' split) <;> simp

@[simp] theorem softStop_frame (s : State) :
    (softStop s).tsq = s.tsq ∧ (softStop s).fcu = s.fcu ∧ (softStop s).glc = s.glc ∧ (softStop s).exm = s.exm ∧
    (softStop s).evu = s.evu ∧ (softStop s).sms = s.sms ∧ (softStop s).lmu = s.lmu ∧ (softStop s).latestPoint =
    s.latestPoint ∧ (softStop s).inReset = s.inReset ∧ (softStop s).clock = s.clock ∧ (softStop s).freeCount =
    s.freeCount ∧ (softStop s).pending = s.pending ∧ (softStop s).cli.replies = s.cli.replies ∧ (softStop
    s).cli.receiver = s.cli.receiver ∧ (softStop s).cli.partialFrame = s.cli.partialFrame ∧ (softStop
    s).cli.restartPending = s.cli.restartPending ∧ (softStop s).cli.mask = s.cli.mask ∧ (softStop s).cli.counters
    = s.cli.counters := by
  unfold softStop; (try dsimp only); (repeat' split) <;> simp

@[simp] theorem reportIfIdle_frame (s : State) :
    (reportIfIdle s).fcu = s.fcu ∧ (reportIfIdle s).lmu = s.lmu ∧ (reportIfIdle s).latestPoint = s.latestPoint ∧
    (reportIfIdle s).inReset = s.inReset ∧ (reportIfIdle s).clock = s.clock ∧ (reportIfIdle s).freeCount =
    s.freeCount ∧ (reportIfIdle s).pending = s.pending ∧ (reportIfIdle s).cli.replies = s.cli.replies ∧
    (reportIfIdle s).cli.receiver = s.cli.receiver ∧ (reportIfIdle s).cli.partialFrame = s.cli.partialFrame ∧
    (reportIfIdle s).cli.restartPending = s.cli.restartPending ∧ (reportIfIdle s).cli.mask = s.cli.mask ∧
    (reportIfIdle s).cli.counters = s.cli.counters ∧ (reportIfIdle s).tsq.specimen = s.tsq.specimen ∧
    (reportIfIdle s).tsq.program = s.tsq.program ∧ (reportIfIdle s).tsq.load = s.tsq.load ∧ (reportIfIdle
    s).tsq.lastLoad = s.tsq.lastLoad ∧ (reportIfIdle s).tsq.holdPoints = s.tsq.holdPoints := by
  unfold reportIfIdle; (try dsimp only); (repeat' split) <;> simp

@[simp] theorem freezePoint_frame (m : ControlMode) (p : Point) (s : State) :
    (freezePoint m p s).tsq = s.tsq ∧ (freezePoint m p s).fcu = s.fcu ∧ (freezePoint m p s).glc = s.glc ∧
    (freezePoint m p s).exm = s.exm ∧ (freezePoint m p s).evu = s.evu ∧ (freezePoint m p s).sms = s.sms ∧
    (freezePoint m p s).lmu = s.lmu ∧ (freezePoint m p s).latestPoint = s.latestPoint ∧ (freezePoint m p
    s).inReset = s.inReset ∧ (freezePoint m p s).clock = s.clock ∧ (freezePoint m p s).freeCount = s.freeCount ∧
    (freezePoint m p s).pending = s.pending ∧ (freezePoint m p s).cli.replies = s.cli.replies ∧ (freezePoint m p
    s).cli.receiver = s.cli.receiver ∧ (freezePoint m p s).cli.partialFrame = s.cli.partialFrame ∧ (freezePoint m
    p s).cli.restartPending = s.cli.restartPending ∧ (freezePoint m p s).cli.mask = s.cli.mask ∧ (freezePoint m p
    s).cli.counters = s.cli.counters ∧ (freezePoint m p s).drl.frame = s.drl.frame ∧ (freezePoint m p
    s).drl.encoder = s.drl.encoder ∧ (freezePoint m p s).drl.travelZero = s.drl.travelZero ∧ (freezePoint m p
    s).drl.state = s.drl.state ∧ (freezePoint m p s).drl.velocity = s.drl.velocity ∧ (freezePoint m p
    s).drl.dacCode = s.drl.dacCode := by
  unfold freezePoint; (try dsimp only); (repeat' split) <;> simp

@[simp] theorem Drl.strainTransfer_frame (p : Point) (d : Drl) :
    (d.strainTransfer p).frame = d.frame ∧ (d.strainTransfer p).encoder = d.encoder ∧ (d.strainTransfer p).travelZero =
    d.travelZero ∧ (d.strainTransfer p).captureZero = d.captureZero ∧ (d.strainTransfer p).state = d.state ∧
    (d.strainTransfer p).velocity = d.velocity ∧ (d.strainTransfer p).dacCode = d.dacCode ∧
    (d.strainTransfer p).mode = d.mode ∧ (d.strainTransfer p).rate = d.rate := by
  simp [Drl.strainTransfer]

@[simp] theorem Drl.ramp_frame (d : Drl) :
    d.ramp.frame = d.frame ∧ d.ramp.encoder = d.encoder ∧ d.ramp.travelZero = d.travelZero ∧
    d.ramp.captureZero = d.captureZero ∧ d.ramp.state = d.state ∧ d.ramp.velocity = d.velocity ∧
    d.ramp.dacCode = d.dacCode ∧ d.ramp.mode = d.mode ∧ d.ramp.rate = d.rate := by
  unfold Drl.ramp; split <;> simp

@[simp] theorem setpointPoint_frame (first : Bool) (m : ControlMode) (p : Point) (s : State) :
    (setpointPoint first m p s).tsq = s.tsq ∧ (setpointPoint first m p s).fcu = s.fcu ∧ (setpointPoint first m p
    s).glc = s.glc ∧ (setpointPoint first m p s).exm = s.exm ∧ (setpointPoint first m p s).evu = s.evu ∧
    (setpointPoint first m p s).sms = s.sms ∧ (setpointPoint first m p s).lmu = s.lmu ∧ (setpointPoint first m p
    s).latestPoint = s.latestPoint ∧ (setpointPoint first m p s).inReset = s.inReset ∧ (setpointPoint first m p
    s).clock = s.clock ∧ (setpointPoint first m p s).freeCount = s.freeCount ∧ (setpointPoint first m p s).pending =
    s.pending ∧ (setpointPoint first m p s).cli.replies = s.cli.replies ∧ (setpointPoint first m p s).cli.receiver =
    s.cli.receiver ∧ (setpointPoint first m p s).cli.partialFrame = s.cli.partialFrame ∧ (setpointPoint first m p
    s).cli.restartPending = s.cli.restartPending ∧ (setpointPoint first m p s).cli.mask = s.cli.mask ∧
    (setpointPoint first m p s).cli.counters = s.cli.counters ∧ (setpointPoint first m p s).drl.frame = s.drl.frame
    ∧ (setpointPoint first m p s).drl.encoder = s.drl.encoder ∧ (setpointPoint first m p s).drl.travelZero =
    s.drl.travelZero ∧ (setpointPoint first m p s).drl.state = s.drl.state ∧ (setpointPoint first m p
    s).drl.velocity = s.drl.velocity ∧ (setpointPoint first m p s).drl.dacCode = s.drl.dacCode := by
  unfold setpointPoint; (try dsimp only); (repeat' split) <;> simp

@[simp] theorem runningDrive_frame (first : Bool) (p : Point) (s : State) :
    (runningDrive first p s).fcu = s.fcu ∧ (runningDrive first p s).lmu = s.lmu ∧ (runningDrive first p
    s).latestPoint = s.latestPoint ∧ (runningDrive first p s).inReset = s.inReset ∧ (runningDrive first p s).clock
    = s.clock ∧ (runningDrive first p s).freeCount = s.freeCount ∧ (runningDrive first p s).pending = s.pending ∧
    (runningDrive first p s).cli.replies = s.cli.replies ∧ (runningDrive first p s).cli.receiver = s.cli.receiver
    ∧ (runningDrive first p s).cli.partialFrame = s.cli.partialFrame ∧ (runningDrive first p s).cli.restartPending
    = s.cli.restartPending ∧ (runningDrive first p s).cli.mask = s.cli.mask ∧ (runningDrive first p
    s).cli.counters = s.cli.counters ∧ (runningDrive first p s).tsq.specimen = s.tsq.specimen ∧ (runningDrive
    first p s).tsq.program = s.tsq.program ∧ (runningDrive first p s).tsq.load = s.tsq.load ∧ (runningDrive first
    p s).tsq.lastLoad = s.tsq.lastLoad ∧ (runningDrive first p s).tsq.holdPoints = s.tsq.holdPoints := by
  unfold runningDrive; (try dsimp only); (repeat' split) <;> simp

@[simp] theorem stoppingDrive_frame (s : State) :
    (stoppingDrive s).fcu = s.fcu ∧ (stoppingDrive s).lmu = s.lmu ∧ (stoppingDrive s).latestPoint = s.latestPoint
    ∧ (stoppingDrive s).inReset = s.inReset ∧ (stoppingDrive s).clock = s.clock ∧ (stoppingDrive s).freeCount =
    s.freeCount ∧ (stoppingDrive s).pending = s.pending ∧ (stoppingDrive s).cli.replies = s.cli.replies ∧
    (stoppingDrive s).cli.receiver = s.cli.receiver ∧ (stoppingDrive s).cli.partialFrame = s.cli.partialFrame ∧
    (stoppingDrive s).cli.restartPending = s.cli.restartPending ∧ (stoppingDrive s).cli.mask = s.cli.mask ∧
    (stoppingDrive s).cli.counters = s.cli.counters ∧ (stoppingDrive s).tsq.specimen = s.tsq.specimen ∧
    (stoppingDrive s).tsq.program = s.tsq.program ∧ (stoppingDrive s).tsq.load = s.tsq.load ∧ (stoppingDrive
    s).tsq.lastLoad = s.tsq.lastLoad ∧ (stoppingDrive s).tsq.holdPoints = s.tsq.holdPoints := by
  unfold stoppingDrive; (try dsimp only); (repeat' split) <;> simp

@[simp] theorem moveReached_frame (s : State) :
    (moveReached s).tsq = s.tsq ∧ (moveReached s).fcu = s.fcu ∧ (moveReached s).glc = s.glc ∧ (moveReached s).exm
    = s.exm ∧ (moveReached s).evu = s.evu ∧ (moveReached s).sms = s.sms ∧ (moveReached s).lmu = s.lmu ∧
    (moveReached s).latestPoint = s.latestPoint ∧ (moveReached s).inReset = s.inReset ∧ (moveReached s).clock =
    s.clock ∧ (moveReached s).freeCount = s.freeCount ∧ (moveReached s).pending = s.pending ∧ (moveReached
    s).cli.replies = s.cli.replies ∧ (moveReached s).cli.receiver = s.cli.receiver ∧ (moveReached
    s).cli.partialFrame = s.cli.partialFrame ∧ (moveReached s).cli.restartPending = s.cli.restartPending ∧
    (moveReached s).cli.mask = s.cli.mask ∧ (moveReached s).cli.counters = s.cli.counters ∧ (moveReached
    s).drl.frame = s.drl.frame ∧ (moveReached s).drl.encoder = s.drl.encoder ∧ (moveReached s).drl.travelZero =
    s.drl.travelZero := by
  unfold moveReached; (try dsimp only); (repeat' split) <;> simp <;> exact ⟨rfl, rfl, rfl⟩

@[simp] theorem movingDrive_frame (p : Point) (s : State) :
    (movingDrive p s).fcu = s.fcu ∧ (movingDrive p s).lmu = s.lmu ∧ (movingDrive p s).latestPoint = s.latestPoint
    ∧ (movingDrive p s).inReset = s.inReset ∧ (movingDrive p s).clock = s.clock ∧ (movingDrive p s).freeCount =
    s.freeCount ∧ (movingDrive p s).pending = s.pending ∧ (movingDrive p s).cli.replies = s.cli.replies ∧
    (movingDrive p s).cli.receiver = s.cli.receiver ∧ (movingDrive p s).cli.partialFrame = s.cli.partialFrame ∧
    (movingDrive p s).cli.restartPending = s.cli.restartPending ∧ (movingDrive p s).cli.mask = s.cli.mask ∧
    (movingDrive p s).cli.counters = s.cli.counters ∧ (movingDrive p s).tsq.specimen = s.tsq.specimen ∧
    (movingDrive p s).tsq.program = s.tsq.program ∧ (movingDrive p s).tsq.load = s.tsq.load ∧ (movingDrive p
    s).tsq.lastLoad = s.tsq.lastLoad ∧ (movingDrive p s).tsq.holdPoints = s.tsq.holdPoints := by
  unfold movingDrive; (try dsimp only); (repeat' split) <;> simp

@[simp] theorem drivePointWork_frame (ready first : Bool) (p : Point) (s : State) :
    (drivePointWork ready first p s).fcu = s.fcu ∧ (drivePointWork ready first p s).lmu = s.lmu ∧ (drivePointWork
    ready first p s).latestPoint = s.latestPoint ∧ (drivePointWork ready first p s).inReset = s.inReset ∧
    (drivePointWork ready first p s).clock = s.clock ∧ (drivePointWork ready first p s).freeCount = s.freeCount ∧
    (drivePointWork ready first p s).pending = s.pending ∧ (drivePointWork ready first p s).cli.replies =
    s.cli.replies ∧ (drivePointWork ready first p s).cli.receiver = s.cli.receiver ∧ (drivePointWork ready first p
    s).cli.partialFrame = s.cli.partialFrame ∧ (drivePointWork ready first p s).cli.restartPending =
    s.cli.restartPending ∧ (drivePointWork ready first p s).cli.mask = s.cli.mask ∧ (drivePointWork ready first p
    s).cli.counters = s.cli.counters ∧ (drivePointWork ready first p s).tsq.specimen = s.tsq.specimen ∧
    (drivePointWork ready first p s).tsq.program = s.tsq.program ∧ (drivePointWork ready first p s).tsq.load =
    s.tsq.load ∧ (drivePointWork ready first p s).tsq.lastLoad = s.tsq.lastLoad ∧ (drivePointWork ready first p
    s).tsq.holdPoints = s.tsq.holdPoints := by
  unfold drivePointWork; (try dsimp only); (repeat' split) <;> simp

@[simp] theorem drivePoint_frame (held : Int) (c : Conversion) (first : Bool) (p : Point) (s : State) :
    (drivePoint held c first p s).fcu = s.fcu ∧ (drivePoint held c first p s).latestPoint = s.latestPoint ∧
    (drivePoint held c first p s).inReset = s.inReset ∧ (drivePoint held c first p s).clock = s.clock ∧
    (drivePoint held c first p s).freeCount = s.freeCount ∧ (drivePoint held c first p s).pending = s.pending ∧
    (drivePoint held c first p s).cli.replies = s.cli.replies ∧ (drivePoint held c first p s).cli.receiver =
    s.cli.receiver ∧ (drivePoint held c first p s).cli.partialFrame = s.cli.partialFrame ∧ (drivePoint held c
    first p s).cli.restartPending = s.cli.restartPending ∧ (drivePoint held c first p s).cli.mask = s.cli.mask ∧
    (drivePoint held c first p s).cli.counters = s.cli.counters ∧ (drivePoint held c first p s).tsq.specimen =
    s.tsq.specimen ∧ (drivePoint held c first p s).tsq.program = s.tsq.program ∧ (drivePoint held c first p
    s).tsq.load = s.tsq.load ∧ (drivePoint held c first p s).tsq.lastLoad = s.tsq.lastLoad ∧ (drivePoint held c
    first p s).tsq.holdPoints = s.tsq.holdPoints ∧ (drivePoint held c first p s).lmu.inputs = s.lmu.inputs := by
  unfold drivePoint; (try dsimp only); (repeat' split) <;> simp

@[simp] theorem headLeftCheck_frame (h : Head) (before : HeadState) (s : State) :
    (headLeftCheck h before s).fcu = s.fcu ∧ (headLeftCheck h before s).lmu = s.lmu ∧ (headLeftCheck h before
    s).latestPoint = s.latestPoint ∧ (headLeftCheck h before s).inReset = s.inReset ∧ (headLeftCheck h before
    s).clock = s.clock ∧ (headLeftCheck h before s).freeCount = s.freeCount ∧ (headLeftCheck h before s).pending =
    s.pending ∧ (headLeftCheck h before s).cli.replies = s.cli.replies ∧ (headLeftCheck h before s).cli.receiver =
    s.cli.receiver ∧ (headLeftCheck h before s).cli.partialFrame = s.cli.partialFrame ∧ (headLeftCheck h before
    s).cli.restartPending = s.cli.restartPending ∧ (headLeftCheck h before s).cli.mask = s.cli.mask ∧
    (headLeftCheck h before s).cli.counters = s.cli.counters ∧ (headLeftCheck h before s).tsq.specimen =
    s.tsq.specimen ∧ (headLeftCheck h before s).tsq.program = s.tsq.program ∧ (headLeftCheck h before s).tsq.load
    = s.tsq.load ∧ (headLeftCheck h before s).tsq.lastLoad = s.tsq.lastLoad ∧ (headLeftCheck h before
    s).tsq.holdPoints = s.tsq.holdPoints := by
  unfold headLeftCheck; (try dsimp only); (repeat' split) <;> simp

@[simp] theorem forcedHandoverCheck_frame (before : HeadState) (s : State) :
    (forcedHandoverCheck before s).tsq = s.tsq ∧ (forcedHandoverCheck before s).drl = s.drl ∧ (forcedHandoverCheck
    before s).fcu = s.fcu ∧ (forcedHandoverCheck before s).evu = s.evu ∧ (forcedHandoverCheck before s).lmu =
    s.lmu ∧ (forcedHandoverCheck before s).latestPoint = s.latestPoint ∧ (forcedHandoverCheck before s).inReset =
    s.inReset ∧ (forcedHandoverCheck before s).clock = s.clock ∧ (forcedHandoverCheck before s).freeCount =
    s.freeCount ∧ (forcedHandoverCheck before s).pending = s.pending ∧ (forcedHandoverCheck before s).cli.replies
    = s.cli.replies ∧ (forcedHandoverCheck before s).cli.receiver = s.cli.receiver ∧ (forcedHandoverCheck before
    s).cli.partialFrame = s.cli.partialFrame ∧ (forcedHandoverCheck before s).cli.restartPending =
    s.cli.restartPending ∧ (forcedHandoverCheck before s).cli.mask = s.cli.mask ∧ (forcedHandoverCheck before
    s).cli.counters = s.cli.counters ∧ (forcedHandoverCheck before s).exm.frozenStrain = s.exm.frozenStrain ∧
    (forcedHandoverCheck before s).exm.heads = s.exm.heads := by
  unfold forcedHandoverCheck; (try dsimp only); (repeat' split) <;> simp

@[simp] theorem headGoes_frame (h : Head) (st : HeadState) (s : State) :
    (headGoes h st s).fcu = s.fcu ∧ (headGoes h st s).lmu = s.lmu ∧ (headGoes h st s).latestPoint = s.latestPoint
    ∧ (headGoes h st s).inReset = s.inReset ∧ (headGoes h st s).clock = s.clock ∧ (headGoes h st s).freeCount =
    s.freeCount ∧ (headGoes h st s).pending = s.pending ∧ (headGoes h st s).cli.replies = s.cli.replies ∧
    (headGoes h st s).cli.receiver = s.cli.receiver ∧ (headGoes h st s).cli.partialFrame = s.cli.partialFrame ∧
    (headGoes h st s).cli.restartPending = s.cli.restartPending ∧ (headGoes h st s).cli.mask = s.cli.mask ∧
    (headGoes h st s).cli.counters = s.cli.counters ∧ (headGoes h st s).tsq.specimen = s.tsq.specimen ∧ (headGoes
    h st s).tsq.program = s.tsq.program ∧ (headGoes h st s).tsq.load = s.tsq.load ∧ (headGoes h st s).tsq.lastLoad
    = s.tsq.lastLoad ∧ (headGoes h st s).tsq.holdPoints = s.tsq.holdPoints := by
  unfold headGoes; (try dsimp only); (repeat' split) <;> simp

@[simp] theorem takeStatus_frame (h : Head) (st : HeadStatus) (s : State) :
    (takeStatus h st s).fcu = s.fcu ∧ (takeStatus h st s).lmu = s.lmu ∧ (takeStatus h st s).latestPoint =
    s.latestPoint ∧ (takeStatus h st s).inReset = s.inReset ∧ (takeStatus h st s).clock = s.clock ∧ (takeStatus h
    st s).freeCount = s.freeCount ∧ (takeStatus h st s).pending = s.pending ∧ (takeStatus h st s).cli.replies =
    s.cli.replies ∧ (takeStatus h st s).cli.receiver = s.cli.receiver ∧ (takeStatus h st s).cli.partialFrame =
    s.cli.partialFrame ∧ (takeStatus h st s).cli.restartPending = s.cli.restartPending ∧ (takeStatus h st
    s).cli.mask = s.cli.mask ∧ (takeStatus h st s).cli.counters = s.cli.counters ∧ (takeStatus h st
    s).tsq.specimen = s.tsq.specimen ∧ (takeStatus h st s).tsq.program = s.tsq.program ∧ (takeStatus h st
    s).tsq.load = s.tsq.load ∧ (takeStatus h st s).tsq.lastLoad = s.tsq.lastLoad ∧ (takeStatus h st
    s).tsq.holdPoints = s.tsq.holdPoints := by
  unfold takeStatus; (try dsimp only); (repeat' split) <;> simp

@[simp] theorem askIdentify_frame (h : Head) (s : State) :
    (askIdentify h s).cli = s.cli ∧ (askIdentify h s).tsq = s.tsq ∧ (askIdentify h s).drl = s.drl ∧ (askIdentify h
    s).fcu = s.fcu ∧ (askIdentify h s).exm = s.exm ∧ (askIdentify h s).evu = s.evu ∧ (askIdentify h s).sms = s.sms
    ∧ (askIdentify h s).lmu = s.lmu ∧ (askIdentify h s).latestPoint = s.latestPoint ∧ (askIdentify h s).inReset =
    s.inReset ∧ (askIdentify h s).clock = s.clock ∧ (askIdentify h s).freeCount = s.freeCount ∧ (askIdentify h
    s).pending = s.pending := by
  unfold askIdentify; (try dsimp only); (repeat' split) <;> simp

@[simp] theorem takeAck_frame (h : Head) (k : HeadCmd) (s : State) :
    (takeAck h k s).fcu = s.fcu ∧ (takeAck h k s).lmu = s.lmu ∧ (takeAck h k s).latestPoint = s.latestPoint ∧
    (takeAck h k s).inReset = s.inReset ∧ (takeAck h k s).clock = s.clock ∧ (takeAck h k s).freeCount =
    s.freeCount ∧ (takeAck h k s).pending = s.pending ∧ (takeAck h k s).cli.replies = s.cli.replies ∧ (takeAck h k
    s).cli.receiver = s.cli.receiver ∧ (takeAck h k s).cli.partialFrame = s.cli.partialFrame ∧ (takeAck h k
    s).cli.restartPending = s.cli.restartPending ∧ (takeAck h k s).cli.mask = s.cli.mask ∧ (takeAck h k
    s).cli.counters = s.cli.counters ∧ (takeAck h k s).tsq.specimen = s.tsq.specimen ∧ (takeAck h k s).tsq.program
    = s.tsq.program ∧ (takeAck h k s).tsq.load = s.tsq.load ∧ (takeAck h k s).tsq.lastLoad = s.tsq.lastLoad ∧
    (takeAck h k s).tsq.holdPoints = s.tsq.holdPoints := by
  unfold takeAck; (try dsimp only); (repeat' split) <;> simp

@[simp] theorem takeIdentity_frame (h : Head) (i : Identity) (s : State) :
    (takeIdentity h i s).fcu = s.fcu ∧ (takeIdentity h i s).lmu = s.lmu ∧ (takeIdentity h i s).latestPoint =
    s.latestPoint ∧ (takeIdentity h i s).inReset = s.inReset ∧ (takeIdentity h i s).clock = s.clock ∧
    (takeIdentity h i s).freeCount = s.freeCount ∧ (takeIdentity h i s).pending = s.pending ∧ (takeIdentity h i
    s).cli.replies = s.cli.replies ∧ (takeIdentity h i s).cli.receiver = s.cli.receiver ∧ (takeIdentity h i
    s).cli.partialFrame = s.cli.partialFrame ∧ (takeIdentity h i s).cli.restartPending = s.cli.restartPending ∧
    (takeIdentity h i s).cli.mask = s.cli.mask ∧ (takeIdentity h i s).cli.counters = s.cli.counters ∧
    (takeIdentity h i s).tsq.specimen = s.tsq.specimen ∧ (takeIdentity h i s).tsq.program = s.tsq.program ∧
    (takeIdentity h i s).tsq.load = s.tsq.load ∧ (takeIdentity h i s).tsq.lastLoad = s.tsq.lastLoad ∧
    (takeIdentity h i s).tsq.holdPoints = s.tsq.holdPoints := by
  unfold takeIdentity; (try dsimp only); (repeat' split) <;> simp

@[simp] theorem pollsLost_frame (h : Head) (s : State) :
    (pollsLost h s).fcu = s.fcu ∧ (pollsLost h s).lmu = s.lmu ∧ (pollsLost h s).latestPoint = s.latestPoint ∧
    (pollsLost h s).inReset = s.inReset ∧ (pollsLost h s).clock = s.clock ∧ (pollsLost h s).freeCount =
    s.freeCount ∧ (pollsLost h s).pending = s.pending ∧ (pollsLost h s).cli.replies = s.cli.replies ∧ (pollsLost h
    s).cli.receiver = s.cli.receiver ∧ (pollsLost h s).cli.partialFrame = s.cli.partialFrame ∧ (pollsLost h
    s).cli.restartPending = s.cli.restartPending ∧ (pollsLost h s).cli.mask = s.cli.mask ∧ (pollsLost h
    s).cli.counters = s.cli.counters ∧ (pollsLost h s).tsq.specimen = s.tsq.specimen ∧ (pollsLost h s).tsq.program
    = s.tsq.program ∧ (pollsLost h s).tsq.load = s.tsq.load ∧ (pollsLost h s).tsq.lastLoad = s.tsq.lastLoad ∧
    (pollsLost h s).tsq.holdPoints = s.tsq.holdPoints := by
  unfold pollsLost; (try dsimp only); (repeat' split) <;> simp

@[simp] theorem pollFailed_frame (h : Head) (s : State) :
    (pollFailed h s).fcu = s.fcu ∧ (pollFailed h s).lmu = s.lmu ∧ (pollFailed h s).latestPoint = s.latestPoint ∧
    (pollFailed h s).inReset = s.inReset ∧ (pollFailed h s).clock = s.clock ∧ (pollFailed h s).freeCount =
    s.freeCount ∧ (pollFailed h s).pending = s.pending ∧ (pollFailed h s).cli.replies = s.cli.replies ∧
    (pollFailed h s).cli.receiver = s.cli.receiver ∧ (pollFailed h s).cli.partialFrame = s.cli.partialFrame ∧
    (pollFailed h s).cli.restartPending = s.cli.restartPending ∧ (pollFailed h s).cli.mask = s.cli.mask ∧
    (pollFailed h s).cli.counters = s.cli.counters ∧ (pollFailed h s).tsq.specimen = s.tsq.specimen ∧ (pollFailed
    h s).tsq.program = s.tsq.program ∧ (pollFailed h s).tsq.load = s.tsq.load ∧ (pollFailed h s).tsq.lastLoad =
    s.tsq.lastLoad ∧ (pollFailed h s).tsq.holdPoints = s.tsq.holdPoints := by
  unfold pollFailed; (try dsimp only); (repeat' split) <;> simp

@[simp] theorem takeResult_frame (t : Transaction) (r : TxResult) (s : State) :
    (takeResult t r s).fcu = s.fcu ∧ (takeResult t r s).lmu = s.lmu ∧ (takeResult t r s).latestPoint =
    s.latestPoint ∧ (takeResult t r s).inReset = s.inReset ∧ (takeResult t r s).clock = s.clock ∧ (takeResult t r
    s).freeCount = s.freeCount ∧ (takeResult t r s).pending = s.pending ∧ (takeResult t r s).cli.replies =
    s.cli.replies ∧ (takeResult t r s).cli.receiver = s.cli.receiver ∧ (takeResult t r s).cli.partialFrame =
    s.cli.partialFrame ∧ (takeResult t r s).cli.restartPending = s.cli.restartPending ∧ (takeResult t r
    s).cli.mask = s.cli.mask ∧ (takeResult t r s).cli.counters = s.cli.counters ∧ (takeResult t r s).tsq.specimen
    = s.tsq.specimen ∧ (takeResult t r s).tsq.program = s.tsq.program ∧ (takeResult t r s).tsq.load = s.tsq.load ∧
    (takeResult t r s).tsq.lastLoad = s.tsq.lastLoad ∧ (takeResult t r s).tsq.holdPoints = s.tsq.holdPoints := by
  unfold takeResult; (try dsimp only); (repeat' split) <;> simp

@[simp] theorem failureCondition_frame (h : Head) (s : State) :
    (failureCondition h s).fcu = s.fcu ∧ (failureCondition h s).lmu = s.lmu ∧ (failureCondition h s).latestPoint =
    s.latestPoint ∧ (failureCondition h s).inReset = s.inReset ∧ (failureCondition h s).clock = s.clock ∧
    (failureCondition h s).freeCount = s.freeCount ∧ (failureCondition h s).pending = s.pending ∧
    (failureCondition h s).cli.replies = s.cli.replies ∧ (failureCondition h s).cli.receiver = s.cli.receiver ∧
    (failureCondition h s).cli.partialFrame = s.cli.partialFrame ∧ (failureCondition h s).cli.restartPending =
    s.cli.restartPending ∧ (failureCondition h s).cli.mask = s.cli.mask ∧ (failureCondition h s).cli.counters =
    s.cli.counters ∧ (failureCondition h s).tsq.specimen = s.tsq.specimen ∧ (failureCondition h s).tsq.program =
    s.tsq.program ∧ (failureCondition h s).tsq.load = s.tsq.load ∧ (failureCondition h s).tsq.lastLoad =
    s.tsq.lastLoad ∧ (failureCondition h s).tsq.holdPoints = s.tsq.holdPoints := by
  unfold failureCondition; (try dsimp only); (repeat' split) <;> simp

@[simp] theorem liftMissed_frame (holds : Bool) (s : State) :
    (liftMissed holds s).fcu = s.fcu ∧ (liftMissed holds s).glc = s.glc ∧ (liftMissed holds s).evu = s.evu ∧
    (liftMissed holds s).sms = s.sms ∧ (liftMissed holds s).lmu = s.lmu ∧ (liftMissed holds s).latestPoint =
    s.latestPoint ∧ (liftMissed holds s).inReset = s.inReset ∧ (liftMissed holds s).clock = s.clock ∧ (liftMissed holds s).freeCount = s.freeCount ∧ (liftMissed holds s).pending = s.pending ∧ (liftMissed holds s).cli.replies =
    s.cli.replies ∧ (liftMissed holds s).cli.receiver = s.cli.receiver ∧ (liftMissed holds s).cli.partialFrame =
    s.cli.partialFrame ∧ (liftMissed holds s).cli.restartPending = s.cli.restartPending ∧ (liftMissed holds s).cli.mask = s.cli.mask ∧ (liftMissed holds s).cli.counters = s.cli.counters ∧ (liftMissed holds s).tsq.specimen = s.tsq.specimen ∧ (liftMissed holds s).tsq.program = s.tsq.program ∧ (liftMissed holds s).tsq.load = s.tsq.load ∧ (liftMissed holds s).tsq.lastLoad = s.tsq.lastLoad ∧ (liftMissed holds s).tsq.holdPoints = s.tsq.holdPoints ∧ (liftMissed holds s).exm.source = s.exm.source ∧ (liftMissed holds s).exm.removal = s.exm.removal ∧ (liftMissed holds s).exm.frozenStrain = s.exm.frozenStrain ∧ (liftMissed holds s).exm.heads = s.exm.heads := by
  unfold liftMissed; (try dsimp only); (repeat' split) <;> simp

@[simp] theorem liftOutcome_frame (h : Head) (o : SlotOutcome) (s : State) :
    (liftOutcome h o s).fcu = s.fcu ∧ (liftOutcome h o s).glc = s.glc ∧ (liftOutcome h o s).evu = s.evu ∧
    (liftOutcome h o s).sms = s.sms ∧ (liftOutcome h o s).lmu = s.lmu ∧ (liftOutcome h o s).latestPoint =
    s.latestPoint ∧ (liftOutcome h o s).inReset = s.inReset ∧ (liftOutcome h o s).clock = s.clock ∧ (liftOutcome h
    o s).freeCount = s.freeCount ∧ (liftOutcome h o s).pending = s.pending ∧ (liftOutcome h o s).cli.replies =
    s.cli.replies ∧ (liftOutcome h o s).cli.receiver = s.cli.receiver ∧ (liftOutcome h o s).cli.partialFrame =
    s.cli.partialFrame ∧ (liftOutcome h o s).cli.restartPending = s.cli.restartPending ∧ (liftOutcome h o
    s).cli.mask = s.cli.mask ∧ (liftOutcome h o s).cli.counters = s.cli.counters ∧ (liftOutcome h o
    s).tsq.specimen = s.tsq.specimen ∧ (liftOutcome h o s).tsq.program = s.tsq.program ∧ (liftOutcome h o
    s).tsq.load = s.tsq.load ∧ (liftOutcome h o s).tsq.lastLoad = s.tsq.lastLoad ∧ (liftOutcome h o
    s).tsq.holdPoints = s.tsq.holdPoints ∧ (liftOutcome h o s).exm.source = s.exm.source ∧ (liftOutcome h o
    s).exm.removal = s.exm.removal ∧ (liftOutcome h o s).exm.frozenStrain = s.exm.frozenStrain ∧ (liftOutcome h o
    s).exm.heads = s.exm.heads := by
  unfold liftOutcome; (try dsimp only); (repeat' split) <;> simp

@[simp] theorem clampOutcome_frame (h : Head) (o : SlotOutcome) (s : State) :
    (clampOutcome h o s).fcu = s.fcu ∧ (clampOutcome h o s).lmu = s.lmu ∧ (clampOutcome h o s).latestPoint =
    s.latestPoint ∧ (clampOutcome h o s).inReset = s.inReset ∧ (clampOutcome h o s).clock = s.clock ∧
    (clampOutcome h o s).freeCount = s.freeCount ∧ (clampOutcome h o s).pending = s.pending ∧ (clampOutcome h o
    s).cli.replies = s.cli.replies ∧ (clampOutcome h o s).cli.receiver = s.cli.receiver ∧ (clampOutcome h o
    s).cli.partialFrame = s.cli.partialFrame ∧ (clampOutcome h o s).cli.restartPending = s.cli.restartPending ∧
    (clampOutcome h o s).cli.mask = s.cli.mask ∧ (clampOutcome h o s).cli.counters = s.cli.counters ∧
    (clampOutcome h o s).tsq.specimen = s.tsq.specimen ∧ (clampOutcome h o s).tsq.program = s.tsq.program ∧
    (clampOutcome h o s).tsq.load = s.tsq.load ∧ (clampOutcome h o s).tsq.lastLoad = s.tsq.lastLoad ∧
    (clampOutcome h o s).tsq.holdPoints = s.tsq.holdPoints := by
  unfold clampOutcome; (try dsimp only); (repeat' split) <;> simp

@[simp] theorem takeOutcome_frame (h : Head) (k : HeadCmd) (o : SlotOutcome) (s : State) :
    (takeOutcome h k o s).fcu = s.fcu ∧ (takeOutcome h k o s).lmu = s.lmu ∧ (takeOutcome h k o s).latestPoint =
    s.latestPoint ∧ (takeOutcome h k o s).inReset = s.inReset ∧ (takeOutcome h k o s).clock = s.clock ∧
    (takeOutcome h k o s).freeCount = s.freeCount ∧ (takeOutcome h k o s).pending = s.pending ∧ (takeOutcome h k o
    s).cli.replies = s.cli.replies ∧ (takeOutcome h k o s).cli.receiver = s.cli.receiver ∧ (takeOutcome h k o
    s).cli.partialFrame = s.cli.partialFrame ∧ (takeOutcome h k o s).cli.restartPending = s.cli.restartPending ∧
    (takeOutcome h k o s).cli.mask = s.cli.mask ∧ (takeOutcome h k o s).cli.counters = s.cli.counters ∧
    (takeOutcome h k o s).tsq.specimen = s.tsq.specimen ∧ (takeOutcome h k o s).tsq.program = s.tsq.program ∧
    (takeOutcome h k o s).tsq.load = s.tsq.load ∧ (takeOutcome h k o s).tsq.lastLoad = s.tsq.lastLoad ∧
    (takeOutcome h k o s).tsq.holdPoints = s.tsq.holdPoints := by
  unfold takeOutcome; (try dsimp only); (repeat' split) <;> simp

@[simp] theorem freeCommand_frame (c : SlotCommand) (o : SlotOutcome) (s : State) :
    (freeCommand c o s).fcu = s.fcu ∧ (freeCommand c o s).lmu = s.lmu ∧ (freeCommand c o s).latestPoint =
    s.latestPoint ∧ (freeCommand c o s).inReset = s.inReset ∧ (freeCommand c o s).clock = s.clock ∧ (freeCommand c
    o s).freeCount = s.freeCount ∧ (freeCommand c o s).pending = s.pending ∧ (freeCommand c o s).cli.replies =
    s.cli.replies ∧ (freeCommand c o s).cli.receiver = s.cli.receiver ∧ (freeCommand c o s).cli.partialFrame =
    s.cli.partialFrame ∧ (freeCommand c o s).cli.restartPending = s.cli.restartPending ∧ (freeCommand c o
    s).cli.mask = s.cli.mask ∧ (freeCommand c o s).cli.counters = s.cli.counters ∧ (freeCommand c o
    s).tsq.specimen = s.tsq.specimen ∧ (freeCommand c o s).tsq.program = s.tsq.program ∧ (freeCommand c o
    s).tsq.load = s.tsq.load ∧ (freeCommand c o s).tsq.lastLoad = s.tsq.lastLoad ∧ (freeCommand c o
    s).tsq.holdPoints = s.tsq.holdPoints := by
  unfold freeCommand; (try dsimp only); (repeat' split) <;> simp

@[simp] theorem slotTransactionEnd_frame (c : SlotCommand) (r : TxResult) (s : State) :
    (slotTransactionEnd c r s).fcu = s.fcu ∧ (slotTransactionEnd c r s).lmu = s.lmu ∧ (slotTransactionEnd c r
    s).latestPoint = s.latestPoint ∧ (slotTransactionEnd c r s).inReset = s.inReset ∧ (slotTransactionEnd c r
    s).clock = s.clock ∧ (slotTransactionEnd c r s).freeCount = s.freeCount ∧ (slotTransactionEnd c r s).pending =
    s.pending ∧ (slotTransactionEnd c r s).cli.replies = s.cli.replies ∧ (slotTransactionEnd c r s).cli.receiver =
    s.cli.receiver ∧ (slotTransactionEnd c r s).cli.partialFrame = s.cli.partialFrame ∧ (slotTransactionEnd c r
    s).cli.restartPending = s.cli.restartPending ∧ (slotTransactionEnd c r s).cli.mask = s.cli.mask ∧
    (slotTransactionEnd c r s).cli.counters = s.cli.counters ∧ (slotTransactionEnd c r s).tsq.specimen =
    s.tsq.specimen ∧ (slotTransactionEnd c r s).tsq.program = s.tsq.program ∧ (slotTransactionEnd c r s).tsq.load
    = s.tsq.load ∧ (slotTransactionEnd c r s).tsq.lastLoad = s.tsq.lastLoad ∧ (slotTransactionEnd c r
    s).tsq.holdPoints = s.tsq.holdPoints := by
  unfold slotTransactionEnd; (try dsimp only); (repeat' split) <;> simp

@[simp] theorem slotCompletion_frame (t : Transaction) (r : TxResult) (signalled : Bool) (s : State) :
    (slotCompletion t r signalled s).fcu = s.fcu ∧ (slotCompletion t r signalled s).lmu = s.lmu ∧ (slotCompletion
    t r signalled s).latestPoint = s.latestPoint ∧ (slotCompletion t r signalled s).inReset = s.inReset ∧
    (slotCompletion t r signalled s).clock = s.clock ∧ (slotCompletion t r signalled s).freeCount = s.freeCount ∧
    (slotCompletion t r signalled s).pending = s.pending ∧ (slotCompletion t r signalled s).cli.replies =
    s.cli.replies ∧ (slotCompletion t r signalled s).cli.receiver = s.cli.receiver ∧ (slotCompletion t r signalled
    s).cli.partialFrame = s.cli.partialFrame ∧ (slotCompletion t r signalled s).cli.restartPending =
    s.cli.restartPending ∧ (slotCompletion t r signalled s).cli.mask = s.cli.mask ∧ (slotCompletion t r signalled
    s).cli.counters = s.cli.counters ∧ (slotCompletion t r signalled s).tsq.specimen = s.tsq.specimen ∧
    (slotCompletion t r signalled s).tsq.program = s.tsq.program ∧ (slotCompletion t r signalled s).tsq.load =
    s.tsq.load ∧ (slotCompletion t r signalled s).tsq.lastLoad = s.tsq.lastLoad ∧ (slotCompletion t r signalled
    s).tsq.holdPoints = s.tsq.holdPoints := by
  unfold slotCompletion; (try dsimp only); (repeat' split) <;> simp

@[simp] theorem completeTransaction_frame (t : Transaction) (r : TxResult) (s : State) :
    (completeTransaction t r s).fcu = s.fcu ∧ (completeTransaction t r s).lmu = s.lmu ∧ (completeTransaction t r
    s).latestPoint = s.latestPoint ∧ (completeTransaction t r s).inReset = s.inReset ∧ (completeTransaction t r
    s).clock = s.clock ∧ (completeTransaction t r s).freeCount = s.freeCount ∧ (completeTransaction t r s).pending
    = s.pending ∧ (completeTransaction t r s).cli.replies = s.cli.replies ∧ (completeTransaction t r
    s).cli.receiver = s.cli.receiver ∧ (completeTransaction t r s).cli.partialFrame = s.cli.partialFrame ∧
    (completeTransaction t r s).cli.restartPending = s.cli.restartPending ∧ (completeTransaction t r s).cli.mask =
    s.cli.mask ∧ (completeTransaction t r s).cli.counters = s.cli.counters ∧ (completeTransaction t r
    s).tsq.specimen = s.tsq.specimen ∧ (completeTransaction t r s).tsq.program = s.tsq.program ∧
    (completeTransaction t r s).tsq.load = s.tsq.load ∧ (completeTransaction t r s).tsq.lastLoad = s.tsq.lastLoad
    ∧ (completeTransaction t r s).tsq.holdPoints = s.tsq.holdPoints := by
  unfold completeTransaction; (try dsimp only); (repeat' split) <;> simp

@[simp] theorem startTransaction_frame (h : Head) (o : GaugeOp) (src : TxSource) (s : State) :
    (startTransaction h o src s).cli = s.cli ∧ (startTransaction h o src s).tsq = s.tsq ∧ (startTransaction h o
    src s).drl = s.drl ∧ (startTransaction h o src s).fcu = s.fcu ∧ (startTransaction h o src s).exm = s.exm ∧
    (startTransaction h o src s).evu = s.evu ∧ (startTransaction h o src s).sms = s.sms ∧ (startTransaction h o
    src s).lmu = s.lmu ∧ (startTransaction h o src s).latestPoint = s.latestPoint ∧ (startTransaction h o src
    s).inReset = s.inReset ∧ (startTransaction h o src s).clock = s.clock ∧ (startTransaction h o src s).freeCount
    = s.freeCount ∧ (startTransaction h o src s).pending = s.pending ∧ (startTransaction h o src s).glc.heads =
    s.glc.heads ∧ (startTransaction h o src s).glc.waiting = s.glc.waiting := by
  unfold startTransaction; (try dsimp only); (repeat' split) <;> simp

@[simp] theorem tickClocks_frame (s : State) :
    (tickClocks s).cli = s.cli ∧ (tickClocks s).tsq = s.tsq ∧ (tickClocks s).drl = s.drl ∧ (tickClocks s).fcu =
    s.fcu ∧ (tickClocks s).exm = s.exm ∧ (tickClocks s).evu = s.evu ∧ (tickClocks s).sms = s.sms ∧ (tickClocks
    s).lmu = s.lmu ∧ (tickClocks s).latestPoint = s.latestPoint ∧ (tickClocks s).inReset = s.inReset ∧ (tickClocks
    s).freeCount = s.freeCount ∧ (tickClocks s).pending = s.pending ∧ (tickClocks s).glc.heads = s.glc.heads ∧
    (tickClocks s).glc.waiting = s.glc.waiting ∧ (tickClocks s).glc.current = s.glc.current := by
  unfold tickClocks; (try dsimp only); (repeat' split) <;> simp

@[simp] theorem evaluationPoint_frame (unrest : Bool) (p : Point) (s : State) :
    (evaluationPoint unrest p s).1.fcu = s.fcu ∧ (evaluationPoint unrest p s).1.lmu = s.lmu ∧ (evaluationPoint
    unrest p s).1.latestPoint = s.latestPoint ∧ (evaluationPoint unrest p s).1.inReset = s.inReset ∧
    (evaluationPoint unrest p s).1.clock = s.clock ∧ (evaluationPoint unrest p s).1.freeCount = s.freeCount ∧
    (evaluationPoint unrest p s).1.pending = s.pending ∧ (evaluationPoint unrest p s).1.cli.replies =
    s.cli.replies ∧ (evaluationPoint unrest p s).1.cli.receiver = s.cli.receiver ∧ (evaluationPoint unrest p
    s).1.cli.partialFrame = s.cli.partialFrame ∧ (evaluationPoint unrest p s).1.cli.restartPending =
    s.cli.restartPending ∧ (evaluationPoint unrest p s).1.cli.mask = s.cli.mask ∧ (evaluationPoint unrest p
    s).1.cli.counters = s.cli.counters ∧ (evaluationPoint unrest p s).1.tsq.specimen = s.tsq.specimen ∧
    (evaluationPoint unrest p s).1.tsq.program = s.tsq.program ∧ (evaluationPoint unrest p s).1.tsq.load =
    s.tsq.load ∧ (evaluationPoint unrest p s).1.tsq.lastLoad = s.tsq.lastLoad ∧ (evaluationPoint unrest p
    s).1.tsq.holdPoints = s.tsq.holdPoints := by
  unfold evaluationPoint; (try dsimp only); (repeat' split) <;> simp

@[simp] theorem managerPoint_frame (fractured : Bool) (p : Point) (s : State) :
    (managerPoint fractured p s).tsq = s.tsq ∧ (managerPoint fractured p s).drl = s.drl ∧ (managerPoint fractured
    p s).fcu = s.fcu ∧ (managerPoint fractured p s).evu = s.evu ∧ (managerPoint fractured p s).lmu = s.lmu ∧
    (managerPoint fractured p s).latestPoint = s.latestPoint ∧ (managerPoint fractured p s).inReset = s.inReset ∧
    (managerPoint fractured p s).clock = s.clock ∧ (managerPoint fractured p s).freeCount = s.freeCount ∧
    (managerPoint fractured p s).pending = s.pending ∧ (managerPoint fractured p s).cli.replies = s.cli.replies ∧
    (managerPoint fractured p s).cli.receiver = s.cli.receiver ∧ (managerPoint fractured p s).cli.partialFrame =
    s.cli.partialFrame ∧ (managerPoint fractured p s).cli.restartPending = s.cli.restartPending ∧ (managerPoint
    fractured p s).cli.mask = s.cli.mask ∧ (managerPoint fractured p s).cli.counters = s.cli.counters := by
  unfold managerPoint; (try dsimp only); (repeat' split) <;> simp

@[simp] theorem consumePoint_frame (held : Int) (c : Conversion) (first : Bool) (f : Formed) :
    (consumePoint held c first f).cli.replies = f.state.cli.replies ∧ (consumePoint held c first f).cli.receiver =
    f.state.cli.receiver ∧ (consumePoint held c first f).cli.partialFrame = f.state.cli.partialFrame ∧ (consumePoint held c
    first f).cli.restartPending = f.state.cli.restartPending ∧ (consumePoint held c first f).cli.mask = f.state.cli.mask ∧
    (consumePoint held c first f).cli.counters = f.state.cli.counters ∧ (consumePoint held c first f).latestPoint =
    f.state.latestPoint ∧ (consumePoint held c first f).inReset = f.state.inReset ∧ (consumePoint held c first f).clock =
    f.state.clock ∧ (consumePoint held c first f).pending = f.state.pending ∧ (consumePoint held c first f).tsq.specimen =
    f.state.tsq.specimen ∧ (consumePoint held c first f).tsq.program = f.state.tsq.program ∧ (consumePoint held c first
    f).tsq.load = f.state.tsq.load ∧ (consumePoint held c first f).tsq.lastLoad = f.state.tsq.lastLoad ∧ (consumePoint held c
    first f).tsq.holdPoints = f.state.tsq.holdPoints := by
  unfold consumePoint; simp

@[simp] theorem conversion_frame (c : Conversion) (s : State) :
    (conversion c s).cli.replies = s.cli.replies ∧ (conversion c s).cli.receiver = s.cli.receiver ∧ (conversion c
    s).cli.partialFrame = s.cli.partialFrame ∧ (conversion c s).cli.restartPending = s.cli.restartPending ∧
    (conversion c s).cli.mask = s.cli.mask ∧ (conversion c s).cli.counters = s.cli.counters ∧ (conversion c
    s).inReset = s.inReset ∧ (conversion c s).pending = s.pending ∧ (conversion c s).tsq.specimen = s.tsq.specimen
    ∧ (conversion c s).tsq.program = s.tsq.program ∧ (conversion c s).tsq.load = s.tsq.load ∧ (conversion c
    s).tsq.lastLoad = s.tsq.lastLoad ∧ (conversion c s).tsq.holdPoints = s.tsq.holdPoints := by
  unfold conversion; (try dsimp only); (repeat' split) <;> simp

end Sys2Proof.Laws
end

