-- ==== Sys2Proof/Laws/FramesRequests.lean ====
section
/-! SUPPORT. What the operations of the requests and the events leave unchanged: for every operation, the blocks and fields it does not
touch. -/

set_option linter.unusedTactic false
set_option linter.unnecessarySeqFocus false
set_option linter.unusedSimpArgs false
set_option linter.unreachableTactic false

namespace Sys2Proof.Laws

open Sys2Proof.Machine

@[simp] theorem decideSetSpecimen_frame (p : List Byte) (s : State) :
    (decideSetSpecimen p s).state.cli = s.cli ∧ (decideSetSpecimen p s).state.drl = s.drl ∧ (decideSetSpecimen p
    s).state.fcu = s.fcu ∧ (decideSetSpecimen p s).state.glc = s.glc ∧ (decideSetSpecimen p s).state.exm = s.exm ∧
    (decideSetSpecimen p s).state.evu = s.evu ∧ (decideSetSpecimen p s).state.sms = s.sms ∧ (decideSetSpecimen p
    s).state.lmu = s.lmu ∧ (decideSetSpecimen p s).state.latestPoint = s.latestPoint ∧ (decideSetSpecimen p
    s).state.inReset = s.inReset ∧ (decideSetSpecimen p s).state.clock = s.clock ∧ (decideSetSpecimen p
    s).state.freeCount = s.freeCount ∧ (decideSetSpecimen p s).state.pending = s.pending ∧ (decideSetSpecimen p
    s).state.tsq.program = s.tsq.program ∧ (decideSetSpecimen p s).state.tsq.load = s.tsq.load ∧
    (decideSetSpecimen p s).state.tsq.lastLoad = s.tsq.lastLoad ∧ (decideSetSpecimen p s).state.tsq.holdPoints =
    s.tsq.holdPoints ∧ (decideSetSpecimen p s).state.tsq.state = s.tsq.state := by
  unfold decideSetSpecimen; (try dsimp only); (repeat' split) <;> simp [refuse, answerOk, answerAccepted]

@[simp] theorem openLoad_frame (h : PlanHeader) (total : Nat) (s : State) :
    (openLoad h total s).cli = s.cli ∧ (openLoad h total s).drl = s.drl ∧ (openLoad h total s).fcu = s.fcu ∧
    (openLoad h total s).glc = s.glc ∧ (openLoad h total s).exm = s.exm ∧ (openLoad h total s).evu = s.evu ∧
    (openLoad h total s).sms = s.sms ∧ (openLoad h total s).lmu = s.lmu ∧ (openLoad h total s).latestPoint =
    s.latestPoint ∧ (openLoad h total s).inReset = s.inReset ∧ (openLoad h total s).clock = s.clock ∧ (openLoad h
    total s).freeCount = s.freeCount ∧ (openLoad h total s).pending = s.pending ∧ (openLoad h total
    s).tsq.specimen = s.tsq.specimen ∧ (openLoad h total s).tsq.lastLoad = s.tsq.lastLoad := by
  unfold openLoad; (try dsimp only); (repeat' split) <;> simp

@[simp] theorem decideBeginProgram_frame (p : List Byte) (s : State) :
    (decideBeginProgram p s).state.cli = s.cli ∧ (decideBeginProgram p s).state.drl = s.drl ∧ (decideBeginProgram
    p s).state.fcu = s.fcu ∧ (decideBeginProgram p s).state.glc = s.glc ∧ (decideBeginProgram p s).state.exm =
    s.exm ∧ (decideBeginProgram p s).state.evu = s.evu ∧ (decideBeginProgram p s).state.sms = s.sms ∧
    (decideBeginProgram p s).state.lmu = s.lmu ∧ (decideBeginProgram p s).state.latestPoint = s.latestPoint ∧
    (decideBeginProgram p s).state.inReset = s.inReset ∧ (decideBeginProgram p s).state.clock = s.clock ∧
    (decideBeginProgram p s).state.freeCount = s.freeCount ∧ (decideBeginProgram p s).state.pending = s.pending ∧
    (decideBeginProgram p s).state.tsq.specimen = s.tsq.specimen ∧ (decideBeginProgram p s).state.tsq.lastLoad =
    s.tsq.lastLoad := by
  unfold decideBeginProgram; (try dsimp only); (repeat' split) <;> simp [refuse, answerOk, answerAccepted]

@[simp] theorem segmentsAnswer_frame (x : Status) (more : List Byte) (s : State) :
    (segmentsAnswer x more s).state.cli = s.cli ∧ (segmentsAnswer x more s).state.tsq = s.tsq ∧ (segmentsAnswer x
    more s).state.drl = s.drl ∧ (segmentsAnswer x more s).state.fcu = s.fcu ∧ (segmentsAnswer x more s).state.glc
    = s.glc ∧ (segmentsAnswer x more s).state.exm = s.exm ∧ (segmentsAnswer x more s).state.evu = s.evu ∧
    (segmentsAnswer x more s).state.sms = s.sms ∧ (segmentsAnswer x more s).state.lmu = s.lmu ∧ (segmentsAnswer x
    more s).state.latestPoint = s.latestPoint ∧ (segmentsAnswer x more s).state.inReset = s.inReset ∧
    (segmentsAnswer x more s).state.clock = s.clock ∧ (segmentsAnswer x more s).state.freeCount = s.freeCount ∧
    (segmentsAnswer x more s).state.pending = s.pending := by
  unfold segmentsAnswer; (try dsimp only); (repeat' split) <;> simp [refuse, answerOk, answerAccepted]

@[simp] theorem validateLoad_frame (l : LoadRecord) (s : State) :
    (validateLoad l s).state.cli = s.cli ∧ (validateLoad l s).state.drl = s.drl ∧ (validateLoad l s).state.fcu =
    s.fcu ∧ (validateLoad l s).state.glc = s.glc ∧ (validateLoad l s).state.exm = s.exm ∧ (validateLoad l
    s).state.evu = s.evu ∧ (validateLoad l s).state.sms = s.sms ∧ (validateLoad l s).state.lmu = s.lmu ∧
    (validateLoad l s).state.latestPoint = s.latestPoint ∧ (validateLoad l s).state.inReset = s.inReset ∧
    (validateLoad l s).state.clock = s.clock ∧ (validateLoad l s).state.freeCount = s.freeCount ∧ (validateLoad l
    s).state.pending = s.pending ∧ (validateLoad l s).state.tsq.specimen = s.tsq.specimen ∧ (validateLoad l
    s).state.tsq.holdPoints = s.tsq.holdPoints := by
  unfold validateLoad; (try dsimp only); (repeat' split) <;> simp [refuse, answerOk, answerAccepted]

@[simp] theorem storeSegments_frame (l : LoadRecord) (gs : List Segment) (s : State) :
    (storeSegments l gs s).state.cli = s.cli ∧ (storeSegments l gs s).state.drl = s.drl ∧ (storeSegments l gs
    s).state.fcu = s.fcu ∧ (storeSegments l gs s).state.glc = s.glc ∧ (storeSegments l gs s).state.exm = s.exm ∧
    (storeSegments l gs s).state.evu = s.evu ∧ (storeSegments l gs s).state.sms = s.sms ∧ (storeSegments l gs
    s).state.lmu = s.lmu ∧ (storeSegments l gs s).state.latestPoint = s.latestPoint ∧ (storeSegments l gs
    s).state.inReset = s.inReset ∧ (storeSegments l gs s).state.clock = s.clock ∧ (storeSegments l gs
    s).state.freeCount = s.freeCount ∧ (storeSegments l gs s).state.pending = s.pending ∧ (storeSegments l gs
    s).state.tsq.specimen = s.tsq.specimen ∧ (storeSegments l gs s).state.tsq.holdPoints = s.tsq.holdPoints := by
  unfold storeSegments; (try dsimp only); (repeat' split) <;> simp [refuse, answerOk, answerAccepted]

@[simp] theorem loadSegments_frame (p : List Byte) (l : LoadRecord) (s : State) :
    (loadSegments p l s).state.cli = s.cli ∧ (loadSegments p l s).state.drl = s.drl ∧ (loadSegments p l
    s).state.fcu = s.fcu ∧ (loadSegments p l s).state.glc = s.glc ∧ (loadSegments p l s).state.exm = s.exm ∧
    (loadSegments p l s).state.evu = s.evu ∧ (loadSegments p l s).state.sms = s.sms ∧ (loadSegments p l
    s).state.lmu = s.lmu ∧ (loadSegments p l s).state.latestPoint = s.latestPoint ∧ (loadSegments p l
    s).state.inReset = s.inReset ∧ (loadSegments p l s).state.clock = s.clock ∧ (loadSegments p l
    s).state.freeCount = s.freeCount ∧ (loadSegments p l s).state.pending = s.pending ∧ (loadSegments p l
    s).state.tsq.specimen = s.tsq.specimen ∧ (loadSegments p l s).state.tsq.holdPoints = s.tsq.holdPoints := by
  unfold loadSegments; (try dsimp only); (repeat' split) <;> simp [refuse, answerOk, answerAccepted]

@[simp] theorem decideProgramSegments_frame (p : List Byte) (s : State) :
    (decideProgramSegments p s).state.cli = s.cli ∧ (decideProgramSegments p s).state.drl = s.drl ∧
    (decideProgramSegments p s).state.fcu = s.fcu ∧ (decideProgramSegments p s).state.glc = s.glc ∧
    (decideProgramSegments p s).state.exm = s.exm ∧ (decideProgramSegments p s).state.evu = s.evu ∧
    (decideProgramSegments p s).state.sms = s.sms ∧ (decideProgramSegments p s).state.lmu = s.lmu ∧
    (decideProgramSegments p s).state.latestPoint = s.latestPoint ∧ (decideProgramSegments p s).state.inReset =
    s.inReset ∧ (decideProgramSegments p s).state.clock = s.clock ∧ (decideProgramSegments p s).state.freeCount =
    s.freeCount ∧ (decideProgramSegments p s).state.pending = s.pending ∧ (decideProgramSegments p
    s).state.tsq.specimen = s.tsq.specimen ∧ (decideProgramSegments p s).state.tsq.holdPoints = s.tsq.holdPoints := by
  unfold decideProgramSegments; (try dsimp only); (repeat' split) <;> simp [refuse, answerOk, answerAccepted]

@[simp] theorem decideReadProgramState_frame (p : List Byte) (s : State) :
    (decideReadProgramState p s).state.cli = s.cli ∧ (decideReadProgramState p s).state.tsq = s.tsq ∧
    (decideReadProgramState p s).state.drl = s.drl ∧ (decideReadProgramState p s).state.fcu = s.fcu ∧
    (decideReadProgramState p s).state.glc = s.glc ∧ (decideReadProgramState p s).state.exm = s.exm ∧
    (decideReadProgramState p s).state.evu = s.evu ∧ (decideReadProgramState p s).state.sms = s.sms ∧
    (decideReadProgramState p s).state.lmu = s.lmu ∧ (decideReadProgramState p s).state.latestPoint =
    s.latestPoint ∧ (decideReadProgramState p s).state.inReset = s.inReset ∧ (decideReadProgramState p
    s).state.clock = s.clock ∧ (decideReadProgramState p s).state.freeCount = s.freeCount ∧
    (decideReadProgramState p s).state.pending = s.pending := by
  unfold decideReadProgramState readOnly withEmpty; (try dsimp only); (repeat' split) <;> simp [refuse, answerOk, answerAccepted]

@[simp] theorem decideClearVisited_frame (p : List Byte) (s : State) :
    (decideClearVisited p s).state.cli = s.cli ∧ (decideClearVisited p s).state.drl = s.drl ∧ (decideClearVisited
    p s).state.fcu = s.fcu ∧ (decideClearVisited p s).state.glc = s.glc ∧ (decideClearVisited p s).state.exm =
    s.exm ∧ (decideClearVisited p s).state.evu = s.evu ∧ (decideClearVisited p s).state.sms = s.sms ∧
    (decideClearVisited p s).state.lmu = s.lmu ∧ (decideClearVisited p s).state.latestPoint = s.latestPoint ∧
    (decideClearVisited p s).state.inReset = s.inReset ∧ (decideClearVisited p s).state.clock = s.clock ∧
    (decideClearVisited p s).state.freeCount = s.freeCount ∧ (decideClearVisited p s).state.pending = s.pending ∧
    (decideClearVisited p s).state.tsq.specimen = s.tsq.specimen ∧ (decideClearVisited p s).state.tsq.program =
    s.tsq.program ∧ (decideClearVisited p s).state.tsq.load = s.tsq.load ∧ (decideClearVisited p
    s).state.tsq.lastLoad = s.tsq.lastLoad ∧ (decideClearVisited p s).state.tsq.holdPoints = s.tsq.holdPoints ∧
    (decideClearVisited p s).state.tsq.state = s.tsq.state := by
  unfold decideClearVisited withEmpty; (try dsimp only); (repeat' split) <;> simp [refuse, answerOk, answerAccepted]

@[simp] theorem decideSetHoldPoints_frame (p : List Byte) (s : State) :
    (decideSetHoldPoints p s).state.cli = s.cli ∧ (decideSetHoldPoints p s).state.drl = s.drl ∧
    (decideSetHoldPoints p s).state.fcu = s.fcu ∧ (decideSetHoldPoints p s).state.glc = s.glc ∧
    (decideSetHoldPoints p s).state.exm = s.exm ∧ (decideSetHoldPoints p s).state.evu = s.evu ∧
    (decideSetHoldPoints p s).state.sms = s.sms ∧ (decideSetHoldPoints p s).state.lmu = s.lmu ∧
    (decideSetHoldPoints p s).state.latestPoint = s.latestPoint ∧ (decideSetHoldPoints p s).state.inReset =
    s.inReset ∧ (decideSetHoldPoints p s).state.clock = s.clock ∧ (decideSetHoldPoints p s).state.freeCount =
    s.freeCount ∧ (decideSetHoldPoints p s).state.pending = s.pending ∧ (decideSetHoldPoints p
    s).state.tsq.specimen = s.tsq.specimen ∧ (decideSetHoldPoints p s).state.tsq.program = s.tsq.program ∧
    (decideSetHoldPoints p s).state.tsq.load = s.tsq.load ∧ (decideSetHoldPoints p s).state.tsq.lastLoad =
    s.tsq.lastLoad ∧ (decideSetHoldPoints p s).state.tsq.state = s.tsq.state := by
  unfold decideSetHoldPoints; (try dsimp only); (repeat' split) <;> simp [refuse, answerOk, answerAccepted]

@[simp] theorem startRefusal_frame (x : Status) (check : Nat) (detail : List Byte) (s : State) :
    (startRefusal x check detail s).state.cli = s.cli ∧ (startRefusal x check detail s).state.tsq = s.tsq ∧
    (startRefusal x check detail s).state.drl = s.drl ∧ (startRefusal x check detail s).state.fcu = s.fcu ∧
    (startRefusal x check detail s).state.glc = s.glc ∧ (startRefusal x check detail s).state.exm = s.exm ∧
    (startRefusal x check detail s).state.evu = s.evu ∧ (startRefusal x check detail s).state.sms = s.sms ∧
    (startRefusal x check detail s).state.lmu = s.lmu ∧ (startRefusal x check detail s).state.latestPoint =
    s.latestPoint ∧ (startRefusal x check detail s).state.inReset = s.inReset ∧ (startRefusal x check detail
    s).state.clock = s.clock ∧ (startRefusal x check detail s).state.freeCount = s.freeCount ∧ (startRefusal x
    check detail s).state.pending = s.pending := by
  unfold startRefusal; (try dsimp only); (repeat' split) <;> simp [refuse, answerOk, answerAccepted]

@[simp] theorem acceptTest_frame (s : State) :
    (acceptTest s).cli = s.cli ∧ (acceptTest s).drl = { s.drl with captureZero := true } ∧ (acceptTest s).glc =
    s.glc ∧ (acceptTest s).lmu = s.lmu ∧ (acceptTest s).latestPoint = s.latestPoint ∧ (acceptTest s).inReset =
    s.inReset ∧ (acceptTest s).clock = s.clock ∧ (acceptTest s).freeCount = s.freeCount ∧ (acceptTest s).pending =
    s.pending ∧ (acceptTest s).tsq.specimen = s.tsq.specimen ∧ (acceptTest s).tsq.program = s.tsq.program ∧
    (acceptTest s).tsq.load = s.tsq.load ∧ (acceptTest s).tsq.lastLoad = s.tsq.lastLoad ∧ (acceptTest
    s).tsq.holdPoints = s.tsq.holdPoints ∧ (acceptTest s).fcu.tables = s.fcu.tables ∧ (acceptTest s).fcu.levelTimer
    = s.fcu.levelTimer ∧ (acceptTest s).fcu.unrestTimer = s.fcu.unrestTimer ∧ (acceptTest s).fcu.history =
    s.fcu.history ∧ (acceptTest s).fcu.tareWait = s.fcu.tareWait ∧ (acceptTest s).exm.removal = s.exm.removal ∧
    (acceptTest s).sms.ring = s.sms.ring ∧ (acceptTest s).sms.paceCount = s.sms.paceCount ∧ (acceptTest
    s).sms.paceDelay = s.sms.paceDelay ∧ (acceptTest s).sms.recording = s.sms.recording := by
  unfold acceptTest; (try dsimp only); (repeat' split) <;> simp

@[simp] theorem startChecksLate_frame (s : State) :
    (startChecksLate s).state.cli = s.cli ∧ (startChecksLate s).state.drl.state = s.drl.state ∧ (startChecksLate
    s).state.drl.velocity = s.drl.velocity ∧ (startChecksLate s).state.drl.dacCode = s.drl.dacCode ∧
    (startChecksLate s).state.drl.mode = s.drl.mode ∧ (startChecksLate s).state.drl.rate = s.drl.rate ∧
    (startChecksLate s).state.drl.setpoint = s.drl.setpoint ∧ (startChecksLate s).state.drl.remainder =
    s.drl.remainder ∧ (startChecksLate s).state.drl.frozen = s.drl.frozen ∧ (startChecksLate s).state.drl.encoder =
    s.drl.encoder ∧ (startChecksLate s).state.drl.travelZero = s.drl.travelZero ∧ (startChecksLate
    s).state.drl.moveTarget = s.drl.moveTarget ∧ (startChecksLate s).state.drl.moveOutcome = s.drl.moveOutcome ∧
    (startChecksLate s).state.drl.mismatches = s.drl.mismatches ∧ (startChecksLate s).state.drl.frame = s.drl.frame
    ∧ (startChecksLate s).state.glc = s.glc ∧ (startChecksLate s).state.lmu = s.lmu ∧ (startChecksLate
    s).state.latestPoint = s.latestPoint ∧ (startChecksLate s).state.inReset = s.inReset ∧ (startChecksLate
    s).state.clock = s.clock ∧ (startChecksLate s).state.freeCount = s.freeCount ∧ (startChecksLate s).state.pending
    = s.pending ∧ (startChecksLate s).state.tsq.specimen = s.tsq.specimen ∧ (startChecksLate s).state.tsq.program =
    s.tsq.program ∧ (startChecksLate s).state.tsq.load = s.tsq.load ∧ (startChecksLate s).state.tsq.lastLoad =
    s.tsq.lastLoad ∧ (startChecksLate s).state.tsq.holdPoints = s.tsq.holdPoints ∧ (startChecksLate
    s).state.fcu.tables = s.fcu.tables ∧ (startChecksLate s).state.fcu.levelTimer = s.fcu.levelTimer ∧
    (startChecksLate s).state.fcu.unrestTimer = s.fcu.unrestTimer ∧ (startChecksLate s).state.fcu.history =
    s.fcu.history ∧ (startChecksLate s).state.fcu.tareWait = s.fcu.tareWait ∧ (startChecksLate s).state.exm.removal
    = s.exm.removal ∧ (startChecksLate s).state.sms.ring = s.sms.ring ∧ (startChecksLate s).state.sms.paceCount =
    s.sms.paceCount ∧ (startChecksLate s).state.sms.paceDelay = s.sms.paceDelay ∧ (startChecksLate
    s).state.sms.recording = s.sms.recording := by
  unfold startChecksLate; (try dsimp only); (repeat' split) <;> simp [refuse, answerOk, answerAccepted]

@[simp] theorem decideStartTest_frame (p : List Byte) (s : State) :
    (decideStartTest p s).state.cli = s.cli ∧ (decideStartTest p s).state.drl.state = s.drl.state ∧ (decideStartTest
    p s).state.drl.velocity = s.drl.velocity ∧ (decideStartTest p s).state.drl.dacCode = s.drl.dacCode ∧
    (decideStartTest p s).state.drl.mode = s.drl.mode ∧ (decideStartTest p s).state.drl.rate = s.drl.rate ∧
    (decideStartTest p s).state.drl.setpoint = s.drl.setpoint ∧ (decideStartTest p s).state.drl.remainder =
    s.drl.remainder ∧ (decideStartTest p s).state.drl.frozen = s.drl.frozen ∧ (decideStartTest p
    s).state.drl.encoder = s.drl.encoder ∧ (decideStartTest p s).state.drl.travelZero = s.drl.travelZero ∧
    (decideStartTest p s).state.drl.moveTarget = s.drl.moveTarget ∧ (decideStartTest p s).state.drl.moveOutcome =
    s.drl.moveOutcome ∧ (decideStartTest p s).state.drl.mismatches = s.drl.mismatches ∧ (decideStartTest p
    s).state.drl.frame = s.drl.frame ∧ (decideStartTest p s).state.glc = s.glc ∧ (decideStartTest p s).state.lmu =
    s.lmu ∧ (decideStartTest p s).state.latestPoint = s.latestPoint ∧ (decideStartTest p s).state.inReset =
    s.inReset ∧ (decideStartTest p s).state.clock = s.clock ∧ (decideStartTest p s).state.freeCount = s.freeCount ∧
    (decideStartTest p s).state.pending = s.pending ∧ (decideStartTest p s).state.tsq.specimen = s.tsq.specimen ∧
    (decideStartTest p s).state.tsq.program = s.tsq.program ∧ (decideStartTest p s).state.tsq.load = s.tsq.load ∧
    (decideStartTest p s).state.tsq.lastLoad = s.tsq.lastLoad ∧ (decideStartTest p s).state.tsq.holdPoints =
    s.tsq.holdPoints ∧ (decideStartTest p s).state.fcu.tables = s.fcu.tables ∧ (decideStartTest p
    s).state.fcu.levelTimer = s.fcu.levelTimer ∧ (decideStartTest p s).state.fcu.unrestTimer = s.fcu.unrestTimer ∧
    (decideStartTest p s).state.fcu.history = s.fcu.history ∧ (decideStartTest p s).state.fcu.tareWait =
    s.fcu.tareWait ∧ (decideStartTest p s).state.exm.removal = s.exm.removal ∧ (decideStartTest p s).state.sms.ring
    = s.sms.ring ∧ (decideStartTest p s).state.sms.paceCount = s.sms.paceCount ∧ (decideStartTest p
    s).state.sms.paceDelay = s.sms.paceDelay ∧ (decideStartTest p s).state.sms.recording = s.sms.recording := by
  unfold decideStartTest; (try dsimp only); (repeat' split) <;> simp [refuse, answerOk, answerAccepted]

@[simp] theorem decidePause_frame (p : List Byte) (s : State) :
    (decidePause p s).state.fcu = s.fcu ∧ (decidePause p s).state.glc = s.glc ∧ (decidePause p s).state.exm =
    s.exm ∧ (decidePause p s).state.evu = s.evu ∧ (decidePause p s).state.sms = s.sms ∧ (decidePause p
    s).state.lmu = s.lmu ∧ (decidePause p s).state.latestPoint = s.latestPoint ∧ (decidePause p s).state.inReset =
    s.inReset ∧ (decidePause p s).state.clock = s.clock ∧ (decidePause p s).state.freeCount = s.freeCount ∧
    (decidePause p s).state.pending = s.pending ∧ (decidePause p s).state.cli.replies = s.cli.replies ∧
    (decidePause p s).state.cli.receiver = s.cli.receiver ∧ (decidePause p s).state.cli.partialFrame =
    s.cli.partialFrame ∧ (decidePause p s).state.cli.restartPending = s.cli.restartPending ∧ (decidePause p
    s).state.cli.mask = s.cli.mask ∧ (decidePause p s).state.cli.counters = s.cli.counters ∧ (decidePause p
    s).state.tsq.specimen = s.tsq.specimen ∧ (decidePause p s).state.tsq.program = s.tsq.program ∧ (decidePause p
    s).state.tsq.load = s.tsq.load ∧ (decidePause p s).state.tsq.lastLoad = s.tsq.lastLoad ∧ (decidePause p
    s).state.tsq.holdPoints = s.tsq.holdPoints := by
  unfold decidePause withEmpty; (try dsimp only); (repeat' split) <;> simp [refuse, answerOk, answerAccepted]

@[simp] theorem resumeSegment_frame (s : State) :
    (resumeSegment s).cli = s.cli ∧ (resumeSegment s).fcu = s.fcu ∧ (resumeSegment s).glc = s.glc ∧ (resumeSegment
    s).exm = s.exm ∧ (resumeSegment s).evu = s.evu ∧ (resumeSegment s).sms = s.sms ∧ (resumeSegment s).lmu = s.lmu
    ∧ (resumeSegment s).latestPoint = s.latestPoint ∧ (resumeSegment s).inReset = s.inReset ∧ (resumeSegment
    s).clock = s.clock ∧ (resumeSegment s).freeCount = s.freeCount ∧ (resumeSegment s).pending = s.pending ∧
    (resumeSegment s).tsq.specimen = s.tsq.specimen ∧ (resumeSegment s).tsq.program = s.tsq.program ∧
    (resumeSegment s).tsq.load = s.tsq.load ∧ (resumeSegment s).tsq.lastLoad = s.tsq.lastLoad ∧ (resumeSegment
    s).tsq.holdPoints = s.tsq.holdPoints := by
  unfold resumeSegment; (try dsimp only); (repeat' split) <;> simp

@[simp] theorem resumeInto_frame (i : Nat) (s : State) :
    (resumeInto i s).cli = s.cli ∧ (resumeInto i s).drl = s.drl ∧ (resumeInto i s).fcu = s.fcu ∧ (resumeInto i
    s).glc = s.glc ∧ (resumeInto i s).exm = s.exm ∧ (resumeInto i s).evu = s.evu ∧ (resumeInto i s).sms = s.sms ∧
    (resumeInto i s).lmu = s.lmu ∧ (resumeInto i s).latestPoint = s.latestPoint ∧ (resumeInto i s).inReset =
    s.inReset ∧ (resumeInto i s).clock = s.clock ∧ (resumeInto i s).freeCount = s.freeCount ∧ (resumeInto i
    s).pending = s.pending ∧ (resumeInto i s).tsq.specimen = s.tsq.specimen ∧ (resumeInto i s).tsq.program =
    s.tsq.program ∧ (resumeInto i s).tsq.load = s.tsq.load ∧ (resumeInto i s).tsq.lastLoad = s.tsq.lastLoad ∧
    (resumeInto i s).tsq.holdPoints = s.tsq.holdPoints ∧ (resumeInto i s).tsq.state = s.tsq.state := by
  unfold resumeInto; (try dsimp only); (repeat' split) <;> simp

@[simp] theorem resumeOnEnd_frame (s : State) :
    (resumeOnEnd s).fcu = s.fcu ∧ (resumeOnEnd s).lmu = s.lmu ∧ (resumeOnEnd s).latestPoint = s.latestPoint ∧
    (resumeOnEnd s).inReset = s.inReset ∧ (resumeOnEnd s).clock = s.clock ∧ (resumeOnEnd s).freeCount =
    s.freeCount ∧ (resumeOnEnd s).pending = s.pending ∧ (resumeOnEnd s).cli.replies = s.cli.replies ∧ (resumeOnEnd
    s).cli.receiver = s.cli.receiver ∧ (resumeOnEnd s).cli.partialFrame = s.cli.partialFrame ∧ (resumeOnEnd
    s).cli.restartPending = s.cli.restartPending ∧ (resumeOnEnd s).cli.mask = s.cli.mask ∧ (resumeOnEnd
    s).cli.counters = s.cli.counters ∧ (resumeOnEnd s).tsq.specimen = s.tsq.specimen ∧ (resumeOnEnd s).tsq.program
    = s.tsq.program ∧ (resumeOnEnd s).tsq.load = s.tsq.load ∧ (resumeOnEnd s).tsq.lastLoad = s.tsq.lastLoad ∧
    (resumeOnEnd s).tsq.holdPoints = s.tsq.holdPoints := by
  unfold resumeOnEnd; (try dsimp only); (repeat' split) <;> simp

@[simp] theorem resumeHeld_frame (why : HeldReason) (s : State) :
    (resumeHeld why s).fcu = s.fcu ∧ (resumeHeld why s).lmu = s.lmu ∧ (resumeHeld why s).latestPoint =
    s.latestPoint ∧ (resumeHeld why s).inReset = s.inReset ∧ (resumeHeld why s).clock = s.clock ∧ (resumeHeld why
    s).freeCount = s.freeCount ∧ (resumeHeld why s).pending = s.pending ∧ (resumeHeld why s).cli.replies =
    s.cli.replies ∧ (resumeHeld why s).cli.receiver = s.cli.receiver ∧ (resumeHeld why s).cli.partialFrame =
    s.cli.partialFrame ∧ (resumeHeld why s).cli.restartPending = s.cli.restartPending ∧ (resumeHeld why
    s).cli.mask = s.cli.mask ∧ (resumeHeld why s).cli.counters = s.cli.counters ∧ (resumeHeld why s).tsq.specimen
    = s.tsq.specimen ∧ (resumeHeld why s).tsq.program = s.tsq.program ∧ (resumeHeld why s).tsq.load = s.tsq.load ∧
    (resumeHeld why s).tsq.lastLoad = s.tsq.lastLoad ∧ (resumeHeld why s).tsq.holdPoints = s.tsq.holdPoints := by
  unfold resumeHeld; (try dsimp only); (repeat' split) <;> simp

@[simp] theorem decideResume_frame (p : List Byte) (s : State) :
    (decideResume p s).state.fcu = s.fcu ∧ (decideResume p s).state.lmu = s.lmu ∧ (decideResume p
    s).state.latestPoint = s.latestPoint ∧ (decideResume p s).state.inReset = s.inReset ∧ (decideResume p
    s).state.clock = s.clock ∧ (decideResume p s).state.freeCount = s.freeCount ∧ (decideResume p s).state.pending
    = s.pending ∧ (decideResume p s).state.cli.replies = s.cli.replies ∧ (decideResume p s).state.cli.receiver =
    s.cli.receiver ∧ (decideResume p s).state.cli.partialFrame = s.cli.partialFrame ∧ (decideResume p
    s).state.cli.restartPending = s.cli.restartPending ∧ (decideResume p s).state.cli.mask = s.cli.mask ∧
    (decideResume p s).state.cli.counters = s.cli.counters ∧ (decideResume p s).state.tsq.specimen =
    s.tsq.specimen ∧ (decideResume p s).state.tsq.program = s.tsq.program ∧ (decideResume p s).state.tsq.load =
    s.tsq.load ∧ (decideResume p s).state.tsq.lastLoad = s.tsq.lastLoad ∧ (decideResume p s).state.tsq.holdPoints
    = s.tsq.holdPoints := by
  unfold decideResume withEmpty; (try dsimp only); (repeat' split) <;> simp [refuse, answerOk, answerAccepted]

@[simp] theorem decideAbort_frame (p : List Byte) (s : State) :
    (decideAbort p s).state.fcu = s.fcu ∧ (decideAbort p s).state.lmu = s.lmu ∧ (decideAbort p
    s).state.latestPoint = s.latestPoint ∧ (decideAbort p s).state.inReset = s.inReset ∧ (decideAbort p
    s).state.clock = s.clock ∧ (decideAbort p s).state.freeCount = s.freeCount ∧ (decideAbort p s).state.pending =
    s.pending ∧ (decideAbort p s).state.cli.replies = s.cli.replies ∧ (decideAbort p s).state.cli.receiver =
    s.cli.receiver ∧ (decideAbort p s).state.cli.partialFrame = s.cli.partialFrame ∧ (decideAbort p
    s).state.cli.restartPending = s.cli.restartPending ∧ (decideAbort p s).state.cli.mask = s.cli.mask ∧
    (decideAbort p s).state.cli.counters = s.cli.counters ∧ (decideAbort p s).state.tsq.specimen = s.tsq.specimen
    ∧ (decideAbort p s).state.tsq.program = s.tsq.program ∧ (decideAbort p s).state.tsq.load = s.tsq.load ∧
    (decideAbort p s).state.tsq.lastLoad = s.tsq.lastLoad ∧ (decideAbort p s).state.tsq.holdPoints =
    s.tsq.holdPoints := by
  unfold decideAbort withEmpty; (try dsimp only); (repeat' split) <;> simp [refuse, answerOk, answerAccepted]

@[simp] theorem capacityChanged_frame (s : State) :
    (capacityChanged s).tsq = s.tsq ∧ (capacityChanged s).drl = s.drl ∧ (capacityChanged s).glc = s.glc ∧
    (capacityChanged s).exm = s.exm ∧ (capacityChanged s).evu = s.evu ∧ (capacityChanged s).sms = s.sms ∧
    (capacityChanged s).lmu = s.lmu ∧ (capacityChanged s).latestPoint = s.latestPoint ∧ (capacityChanged
    s).inReset = s.inReset ∧ (capacityChanged s).clock = s.clock ∧ (capacityChanged s).freeCount = s.freeCount ∧
    (capacityChanged s).pending = s.pending ∧ (capacityChanged s).cli.replies = s.cli.replies ∧ (capacityChanged
    s).cli.receiver = s.cli.receiver ∧ (capacityChanged s).cli.partialFrame = s.cli.partialFrame ∧
    (capacityChanged s).cli.restartPending = s.cli.restartPending ∧ (capacityChanged s).cli.mask = s.cli.mask ∧
    (capacityChanged s).cli.counters = s.cli.counters ∧ (capacityChanged s).fcu.levelTimer = s.fcu.levelTimer ∧
    (capacityChanged s).fcu.unrestTimer = s.fcu.unrestTimer ∧ (capacityChanged s).fcu.nextIndex = s.fcu.nextIndex
    ∧ (capacityChanged s).fcu.tareWait = s.fcu.tareWait := by
  unfold capacityChanged; (try dsimp only); (repeat' split) <;> simp

@[simp] theorem takeFrame_frame (f : FrameConfig) (s : State) :
    (takeFrame f s).tsq = s.tsq ∧ (takeFrame f s).glc = s.glc ∧ (takeFrame f s).exm = s.exm ∧ (takeFrame f s).evu
    = s.evu ∧ (takeFrame f s).sms = s.sms ∧ (takeFrame f s).lmu = s.lmu ∧ (takeFrame f s).latestPoint =
    s.latestPoint ∧ (takeFrame f s).inReset = s.inReset ∧ (takeFrame f s).clock = s.clock ∧ (takeFrame f
    s).freeCount = s.freeCount ∧ (takeFrame f s).pending = s.pending ∧ (takeFrame f s).cli.replies = s.cli.replies
    ∧ (takeFrame f s).cli.receiver = s.cli.receiver ∧ (takeFrame f s).cli.partialFrame = s.cli.partialFrame ∧
    (takeFrame f s).cli.restartPending = s.cli.restartPending ∧ (takeFrame f s).cli.mask = s.cli.mask ∧ (takeFrame
    f s).cli.counters = s.cli.counters ∧ (takeFrame f s).drl.encoder = s.drl.encoder ∧ (takeFrame f
    s).drl.travelZero = s.drl.travelZero ∧ (takeFrame f s).drl.state = s.drl.state ∧ (takeFrame f s).drl.velocity
    = s.drl.velocity ∧ (takeFrame f s).drl.dacCode = s.drl.dacCode ∧ (takeFrame f s).fcu.levelTimer =
    s.fcu.levelTimer ∧ (takeFrame f s).fcu.unrestTimer = s.fcu.unrestTimer ∧ (takeFrame f s).fcu.nextIndex =
    s.fcu.nextIndex ∧ (takeFrame f s).fcu.tareWait = s.fcu.tareWait := by
  unfold takeFrame; (try dsimp only); (repeat' split) <;> simp

@[simp] theorem decideConfigureFrame_frame (p : List Byte) (s : State) :
    (decideConfigureFrame p s).state.tsq = s.tsq ∧ (decideConfigureFrame p s).state.glc = s.glc ∧
    (decideConfigureFrame p s).state.exm = s.exm ∧ (decideConfigureFrame p s).state.evu = s.evu ∧
    (decideConfigureFrame p s).state.sms = s.sms ∧ (decideConfigureFrame p s).state.lmu = s.lmu ∧
    (decideConfigureFrame p s).state.latestPoint = s.latestPoint ∧ (decideConfigureFrame p s).state.inReset =
    s.inReset ∧ (decideConfigureFrame p s).state.clock = s.clock ∧ (decideConfigureFrame p s).state.freeCount =
    s.freeCount ∧ (decideConfigureFrame p s).state.pending = s.pending ∧ (decideConfigureFrame p
    s).state.cli.replies = s.cli.replies ∧ (decideConfigureFrame p s).state.cli.receiver = s.cli.receiver ∧
    (decideConfigureFrame p s).state.cli.partialFrame = s.cli.partialFrame ∧ (decideConfigureFrame p
    s).state.cli.restartPending = s.cli.restartPending ∧ (decideConfigureFrame p s).state.cli.mask = s.cli.mask ∧
    (decideConfigureFrame p s).state.cli.counters = s.cli.counters ∧ (decideConfigureFrame p s).state.drl.encoder
    = s.drl.encoder ∧ (decideConfigureFrame p s).state.drl.travelZero = s.drl.travelZero ∧ (decideConfigureFrame p
    s).state.drl.state = s.drl.state ∧ (decideConfigureFrame p s).state.drl.velocity = s.drl.velocity ∧
    (decideConfigureFrame p s).state.drl.dacCode = s.drl.dacCode ∧ (decideConfigureFrame p s).state.fcu.levelTimer
    = s.fcu.levelTimer ∧ (decideConfigureFrame p s).state.fcu.unrestTimer = s.fcu.unrestTimer ∧
    (decideConfigureFrame p s).state.fcu.nextIndex = s.fcu.nextIndex ∧ (decideConfigureFrame p
    s).state.fcu.tareWait = s.fcu.tareWait := by
  unfold decideConfigureFrame; (try dsimp only); (repeat' split) <;> simp [refuse, answerOk, answerAccepted]

@[simp] theorem decideEnableDrive_frame (p : List Byte) (s : State) :
    (decideEnableDrive p s).state.cli = s.cli ∧ (decideEnableDrive p s).state.tsq = s.tsq ∧ (decideEnableDrive p
    s).state.fcu = s.fcu ∧ (decideEnableDrive p s).state.glc = s.glc ∧ (decideEnableDrive p s).state.exm = s.exm ∧
    (decideEnableDrive p s).state.evu = s.evu ∧ (decideEnableDrive p s).state.sms = s.sms ∧ (decideEnableDrive p
    s).state.lmu = s.lmu ∧ (decideEnableDrive p s).state.latestPoint = s.latestPoint ∧ (decideEnableDrive p
    s).state.inReset = s.inReset ∧ (decideEnableDrive p s).state.clock = s.clock ∧ (decideEnableDrive p
    s).state.freeCount = s.freeCount ∧ (decideEnableDrive p s).state.pending = s.pending := by
  unfold decideEnableDrive withEmpty; (try dsimp only); (repeat' split) <;> simp [refuse, answerOk, answerAccepted]

@[simp] theorem decideDisableDrive_frame (p : List Byte) (s : State) :
    (decideDisableDrive p s).state.cli = s.cli ∧ (decideDisableDrive p s).state.tsq = s.tsq ∧ (decideDisableDrive
    p s).state.fcu = s.fcu ∧ (decideDisableDrive p s).state.glc = s.glc ∧ (decideDisableDrive p s).state.exm =
    s.exm ∧ (decideDisableDrive p s).state.evu = s.evu ∧ (decideDisableDrive p s).state.sms = s.sms ∧
    (decideDisableDrive p s).state.lmu = s.lmu ∧ (decideDisableDrive p s).state.latestPoint = s.latestPoint ∧
    (decideDisableDrive p s).state.inReset = s.inReset ∧ (decideDisableDrive p s).state.clock = s.clock ∧
    (decideDisableDrive p s).state.freeCount = s.freeCount ∧ (decideDisableDrive p s).state.pending = s.pending := by
  unfold decideDisableDrive withEmpty; (try dsimp only); (repeat' split) <;> simp [refuse, answerOk, answerAccepted]

@[simp] theorem beginMove_frame (target : Int) (speed : Nat) (s : State) :
    (beginMove target speed s).cli = s.cli ∧ (beginMove target speed s).tsq = s.tsq ∧ (beginMove target speed
    s).fcu = s.fcu ∧ (beginMove target speed s).glc = s.glc ∧ (beginMove target speed s).exm = s.exm ∧ (beginMove
    target speed s).evu = s.evu ∧ (beginMove target speed s).sms = s.sms ∧ (beginMove target speed s).lmu = s.lmu
    ∧ (beginMove target speed s).latestPoint = s.latestPoint ∧ (beginMove target speed s).inReset = s.inReset ∧
    (beginMove target speed s).clock = s.clock ∧ (beginMove target speed s).freeCount = s.freeCount ∧ (beginMove
    target speed s).pending = s.pending ∧ (beginMove target speed s).drl.frame = s.drl.frame ∧ (beginMove target
    speed s).drl.encoder = s.drl.encoder ∧ (beginMove target speed s).drl.travelZero = s.drl.travelZero ∧
    (beginMove target speed s).drl.velocity = s.drl.velocity ∧ (beginMove target speed s).drl.dacCode =
    s.drl.dacCode := by
  unfold beginMove; (try dsimp only); (repeat' split) <;> simp

@[simp] theorem requestMove_frame (target : Int) (speed : Nat) (s : State) :
    (requestMove target speed s).state.cli = s.cli ∧ (requestMove target speed s).state.tsq = s.tsq ∧ (requestMove
    target speed s).state.fcu = s.fcu ∧ (requestMove target speed s).state.glc = s.glc ∧ (requestMove target speed
    s).state.exm = s.exm ∧ (requestMove target speed s).state.evu = s.evu ∧ (requestMove target speed s).state.sms
    = s.sms ∧ (requestMove target speed s).state.lmu = s.lmu ∧ (requestMove target speed s).state.latestPoint =
    s.latestPoint ∧ (requestMove target speed s).state.inReset = s.inReset ∧ (requestMove target speed
    s).state.clock = s.clock ∧ (requestMove target speed s).state.freeCount = s.freeCount ∧ (requestMove target
    speed s).state.pending = s.pending ∧ (requestMove target speed s).state.drl.frame = s.drl.frame ∧ (requestMove
    target speed s).state.drl.encoder = s.drl.encoder ∧ (requestMove target speed s).state.drl.travelZero =
    s.drl.travelZero ∧ (requestMove target speed s).state.drl.velocity = s.drl.velocity ∧ (requestMove target
    speed s).state.drl.dacCode = s.drl.dacCode := by
  unfold requestMove; (try dsimp only); (repeat' split) <;> simp [refuse, answerOk, answerAccepted]

@[simp] theorem decideMove_frame (p : List Byte) (s : State) :
    (decideMove p s).state.cli = s.cli ∧ (decideMove p s).state.tsq = s.tsq ∧ (decideMove p s).state.fcu = s.fcu ∧
    (decideMove p s).state.glc = s.glc ∧ (decideMove p s).state.exm = s.exm ∧ (decideMove p s).state.evu = s.evu ∧
    (decideMove p s).state.sms = s.sms ∧ (decideMove p s).state.lmu = s.lmu ∧ (decideMove p s).state.latestPoint =
    s.latestPoint ∧ (decideMove p s).state.inReset = s.inReset ∧ (decideMove p s).state.clock = s.clock ∧
    (decideMove p s).state.freeCount = s.freeCount ∧ (decideMove p s).state.pending = s.pending ∧ (decideMove p
    s).state.drl.frame = s.drl.frame ∧ (decideMove p s).state.drl.encoder = s.drl.encoder ∧ (decideMove p
    s).state.drl.travelZero = s.drl.travelZero ∧ (decideMove p s).state.drl.velocity = s.drl.velocity ∧
    (decideMove p s).state.drl.dacCode = s.drl.dacCode := by
  unfold decideMove; (try dsimp only); (repeat' split) <;> simp [refuse, answerOk, answerAccepted]

@[simp] theorem decideReturn_frame (p : List Byte) (s : State) :
    (decideReturn p s).state.cli = s.cli ∧ (decideReturn p s).state.tsq = s.tsq ∧ (decideReturn p s).state.fcu =
    s.fcu ∧ (decideReturn p s).state.glc = s.glc ∧ (decideReturn p s).state.exm = s.exm ∧ (decideReturn p
    s).state.evu = s.evu ∧ (decideReturn p s).state.sms = s.sms ∧ (decideReturn p s).state.lmu = s.lmu ∧
    (decideReturn p s).state.latestPoint = s.latestPoint ∧ (decideReturn p s).state.inReset = s.inReset ∧
    (decideReturn p s).state.clock = s.clock ∧ (decideReturn p s).state.freeCount = s.freeCount ∧ (decideReturn p
    s).state.pending = s.pending ∧ (decideReturn p s).state.drl.frame = s.drl.frame ∧ (decideReturn p
    s).state.drl.encoder = s.drl.encoder ∧ (decideReturn p s).state.drl.travelZero = s.drl.travelZero ∧
    (decideReturn p s).state.drl.velocity = s.drl.velocity ∧ (decideReturn p s).state.drl.dacCode = s.drl.dacCode := by
  unfold decideReturn; (try dsimp only); (repeat' split) <;> simp [refuse, answerOk, answerAccepted]

@[simp] theorem stopMoving_frame (s : State) :
    (stopMoving s).fcu = s.fcu ∧ (stopMoving s).lmu = s.lmu ∧ (stopMoving s).latestPoint = s.latestPoint ∧
    (stopMoving s).inReset = s.inReset ∧ (stopMoving s).clock = s.clock ∧ (stopMoving s).freeCount = s.freeCount ∧
    (stopMoving s).pending = s.pending ∧ (stopMoving s).cli.replies = s.cli.replies ∧ (stopMoving s).cli.receiver
    = s.cli.receiver ∧ (stopMoving s).cli.partialFrame = s.cli.partialFrame ∧ (stopMoving s).cli.restartPending =
    s.cli.restartPending ∧ (stopMoving s).cli.mask = s.cli.mask ∧ (stopMoving s).cli.counters = s.cli.counters ∧
    (stopMoving s).tsq.specimen = s.tsq.specimen ∧ (stopMoving s).tsq.program = s.tsq.program ∧ (stopMoving
    s).tsq.load = s.tsq.load ∧ (stopMoving s).tsq.lastLoad = s.tsq.lastLoad ∧ (stopMoving s).tsq.holdPoints =
    s.tsq.holdPoints := by
  unfold stopMoving; (try dsimp only); (repeat' split) <;> simp

@[simp] theorem decideStopMove_frame (p : List Byte) (s : State) :
    (decideStopMove p s).state.fcu = s.fcu ∧ (decideStopMove p s).state.lmu = s.lmu ∧ (decideStopMove p
    s).state.latestPoint = s.latestPoint ∧ (decideStopMove p s).state.inReset = s.inReset ∧ (decideStopMove p
    s).state.clock = s.clock ∧ (decideStopMove p s).state.freeCount = s.freeCount ∧ (decideStopMove p
    s).state.pending = s.pending ∧ (decideStopMove p s).state.cli.replies = s.cli.replies ∧ (decideStopMove p
    s).state.cli.receiver = s.cli.receiver ∧ (decideStopMove p s).state.cli.partialFrame = s.cli.partialFrame ∧
    (decideStopMove p s).state.cli.restartPending = s.cli.restartPending ∧ (decideStopMove p s).state.cli.mask =
    s.cli.mask ∧ (decideStopMove p s).state.cli.counters = s.cli.counters ∧ (decideStopMove p
    s).state.tsq.specimen = s.tsq.specimen ∧ (decideStopMove p s).state.tsq.program = s.tsq.program ∧
    (decideStopMove p s).state.tsq.load = s.tsq.load ∧ (decideStopMove p s).state.tsq.lastLoad = s.tsq.lastLoad ∧
    (decideStopMove p s).state.tsq.holdPoints = s.tsq.holdPoints := by
  unfold decideStopMove withEmpty; (try dsimp only); (repeat' split) <;> simp [refuse, answerOk, answerAccepted]

@[simp] theorem openTareWait_frame (s : State) :
    (openTareWait s).cli = s.cli ∧ (openTareWait s).tsq = s.tsq ∧ (openTareWait s).drl = s.drl ∧ (openTareWait
    s).glc = s.glc ∧ (openTareWait s).exm = s.exm ∧ (openTareWait s).evu = s.evu ∧ (openTareWait s).sms = s.sms ∧
    (openTareWait s).lmu = s.lmu ∧ (openTareWait s).latestPoint = s.latestPoint ∧ (openTareWait s).inReset =
    s.inReset ∧ (openTareWait s).clock = s.clock ∧ (openTareWait s).freeCount = s.freeCount ∧ (openTareWait
    s).pending = s.pending ∧ (openTareWait s).fcu.tables = s.fcu.tables ∧ (openTareWait s).fcu.levelTimer =
    s.fcu.levelTimer ∧ (openTareWait s).fcu.unrestTimer = s.fcu.unrestTimer ∧ (openTareWait s).fcu.history =
    s.fcu.history ∧ (openTareWait s).fcu.nextIndex = s.fcu.nextIndex := by
  unfold openTareWait; (try dsimp only); (repeat' split) <;> simp

@[simp] theorem decideTare_frame (p : List Byte) (s : State) :
    (decideTare p s).state.cli = s.cli ∧ (decideTare p s).state.tsq = s.tsq ∧ (decideTare p s).state.drl = s.drl ∧
    (decideTare p s).state.glc = s.glc ∧ (decideTare p s).state.exm = s.exm ∧ (decideTare p s).state.evu = s.evu ∧
    (decideTare p s).state.sms = s.sms ∧ (decideTare p s).state.lmu = s.lmu ∧ (decideTare p s).state.latestPoint =
    s.latestPoint ∧ (decideTare p s).state.inReset = s.inReset ∧ (decideTare p s).state.clock = s.clock ∧
    (decideTare p s).state.freeCount = s.freeCount ∧ (decideTare p s).state.pending = s.pending ∧ (decideTare p
    s).state.fcu.tables = s.fcu.tables ∧ (decideTare p s).state.fcu.levelTimer = s.fcu.levelTimer ∧ (decideTare p
    s).state.fcu.unrestTimer = s.fcu.unrestTimer ∧ (decideTare p s).state.fcu.history = s.fcu.history ∧
    (decideTare p s).state.fcu.nextIndex = s.fcu.nextIndex := by
  unfold decideTare withEmpty; (try dsimp only); (repeat' split) <;> simp [refuse, answerOk, answerAccepted]

@[simp] theorem decideLoadCalibration_frame (p : List Byte) (s : State) :
    (decideLoadCalibration p s).state.cli = s.cli ∧ (decideLoadCalibration p s).state.tsq = s.tsq ∧
    (decideLoadCalibration p s).state.drl = s.drl ∧ (decideLoadCalibration p s).state.glc = s.glc ∧
    (decideLoadCalibration p s).state.exm = s.exm ∧ (decideLoadCalibration p s).state.evu = s.evu ∧
    (decideLoadCalibration p s).state.sms = s.sms ∧ (decideLoadCalibration p s).state.lmu = s.lmu ∧
    (decideLoadCalibration p s).state.latestPoint = s.latestPoint ∧ (decideLoadCalibration p s).state.inReset =
    s.inReset ∧ (decideLoadCalibration p s).state.clock = s.clock ∧ (decideLoadCalibration p s).state.freeCount =
    s.freeCount ∧ (decideLoadCalibration p s).state.pending = s.pending ∧ (decideLoadCalibration p
    s).state.fcu.levelTimer = s.fcu.levelTimer ∧ (decideLoadCalibration p s).state.fcu.unrestTimer =
    s.fcu.unrestTimer ∧ (decideLoadCalibration p s).state.fcu.history = s.fcu.history ∧ (decideLoadCalibration p
    s).state.fcu.nextIndex = s.fcu.nextIndex ∧ (decideLoadCalibration p s).state.fcu.tareWait = s.fcu.tareWait := by
  unfold decideLoadCalibration; (try dsimp only); (repeat' split) <;> simp [refuse, answerOk, answerAccepted]

@[simp] theorem decideConfigureClassifier_frame (p : List Byte) (s : State) :
    (decideConfigureClassifier p s).state.cli = s.cli ∧ (decideConfigureClassifier p s).state.tsq = s.tsq ∧
    (decideConfigureClassifier p s).state.drl = s.drl ∧ (decideConfigureClassifier p s).state.glc = s.glc ∧
    (decideConfigureClassifier p s).state.exm = s.exm ∧ (decideConfigureClassifier p s).state.evu = s.evu ∧
    (decideConfigureClassifier p s).state.sms = s.sms ∧ (decideConfigureClassifier p s).state.lmu = s.lmu ∧
    (decideConfigureClassifier p s).state.latestPoint = s.latestPoint ∧ (decideConfigureClassifier p
    s).state.inReset = s.inReset ∧ (decideConfigureClassifier p s).state.clock = s.clock ∧
    (decideConfigureClassifier p s).state.freeCount = s.freeCount ∧ (decideConfigureClassifier p s).state.pending
    = s.pending ∧ (decideConfigureClassifier p s).state.fcu.tables = s.fcu.tables ∧ (decideConfigureClassifier p
    s).state.fcu.history = s.fcu.history ∧ (decideConfigureClassifier p s).state.fcu.nextIndex = s.fcu.nextIndex ∧
    (decideConfigureClassifier p s).state.fcu.tareWait = s.fcu.tareWait := by
  unfold decideConfigureClassifier; (try dsimp only); (repeat' split) <;> simp [refuse, answerOk, answerAccepted]

@[simp] theorem decideClearTrip_frame (p : List Byte) (s : State) :
    (decideClearTrip p s).state.tsq = s.tsq ∧ (decideClearTrip p s).state.fcu = s.fcu ∧ (decideClearTrip p
    s).state.glc = s.glc ∧ (decideClearTrip p s).state.exm = s.exm ∧ (decideClearTrip p s).state.evu = s.evu ∧
    (decideClearTrip p s).state.sms = s.sms ∧ (decideClearTrip p s).state.latestPoint = s.latestPoint ∧
    (decideClearTrip p s).state.inReset = s.inReset ∧ (decideClearTrip p s).state.clock = s.clock ∧
    (decideClearTrip p s).state.freeCount = s.freeCount ∧ (decideClearTrip p s).state.pending = s.pending ∧
    (decideClearTrip p s).state.cli.replies = s.cli.replies ∧ (decideClearTrip p s).state.cli.receiver =
    s.cli.receiver ∧ (decideClearTrip p s).state.cli.partialFrame = s.cli.partialFrame ∧ (decideClearTrip p
    s).state.cli.restartPending = s.cli.restartPending ∧ (decideClearTrip p s).state.cli.mask = s.cli.mask ∧
    (decideClearTrip p s).state.cli.counters = s.cli.counters ∧ (decideClearTrip p s).state.drl.frame =
    s.drl.frame ∧ (decideClearTrip p s).state.drl.encoder = s.drl.encoder ∧ (decideClearTrip p
    s).state.drl.travelZero = s.drl.travelZero ∧ (decideClearTrip p s).state.lmu.record = s.lmu.record := by
  unfold decideClearTrip withEmpty; (try dsimp only); (repeat' split) <;> simp [refuse, answerOk, answerAccepted]

@[simp] theorem resetHead_frame (h : Head) (s : State) :
    (resetHead h s).tsq = s.tsq ∧ (resetHead h s).drl = s.drl ∧ (resetHead h s).fcu = s.fcu ∧ (resetHead h s).glc
    = s.glc ∧ (resetHead h s).evu = s.evu ∧ (resetHead h s).sms = s.sms ∧ (resetHead h s).lmu = s.lmu ∧ (resetHead
    h s).latestPoint = s.latestPoint ∧ (resetHead h s).inReset = s.inReset ∧ (resetHead h s).clock = s.clock ∧
    (resetHead h s).freeCount = s.freeCount ∧ (resetHead h s).pending = s.pending ∧ (resetHead h s).cli.replies =
    s.cli.replies ∧ (resetHead h s).cli.receiver = s.cli.receiver ∧ (resetHead h s).cli.partialFrame =
    s.cli.partialFrame ∧ (resetHead h s).cli.restartPending = s.cli.restartPending ∧ (resetHead h s).cli.mask =
    s.cli.mask ∧ (resetHead h s).cli.counters = s.cli.counters ∧ (resetHead h s).exm.source = s.exm.source ∧
    (resetHead h s).exm.removal = s.exm.removal ∧ (resetHead h s).exm.frozenStrain = s.exm.frozenStrain := by
  unfold resetHead; (try dsimp only); (repeat' split) <;> simp

@[simp] theorem dropHead_frame (h : Head) (s : State) :
    (dropHead h s).cli = s.cli ∧ (dropHead h s).tsq = s.tsq ∧ (dropHead h s).drl = s.drl ∧ (dropHead h s).fcu =
    s.fcu ∧ (dropHead h s).evu = s.evu ∧ (dropHead h s).sms = s.sms ∧ (dropHead h s).lmu = s.lmu ∧ (dropHead h
    s).latestPoint = s.latestPoint ∧ (dropHead h s).inReset = s.inReset ∧ (dropHead h s).clock = s.clock ∧
    (dropHead h s).freeCount = s.freeCount ∧ (dropHead h s).pending = s.pending ∧ (dropHead h s).glc.slot =
    s.glc.slot ∧ (dropHead h s).glc.current = s.glc.current ∧ (dropHead h s).exm.source = s.exm.source ∧ (dropHead
    h s).exm.removal = s.exm.removal ∧ (dropHead h s).exm.frozenStrain = s.exm.frozenStrain ∧ (dropHead h
    s).exm.heads = s.exm.heads := by
  unfold dropHead; (try dsimp only); (repeat' split) <;> simp

@[simp] theorem configureHead_frame (h : Head) (configured : Bool) (s : State) :
    (configureHead h configured s).tsq = s.tsq ∧ (configureHead h configured s).drl = s.drl ∧ (configureHead h
    configured s).fcu = s.fcu ∧ (configureHead h configured s).evu = s.evu ∧ (configureHead h configured s).sms =
    s.sms ∧ (configureHead h configured s).lmu = s.lmu ∧ (configureHead h configured s).latestPoint =
    s.latestPoint ∧ (configureHead h configured s).inReset = s.inReset ∧ (configureHead h configured s).clock =
    s.clock ∧ (configureHead h configured s).freeCount = s.freeCount ∧ (configureHead h configured s).pending =
    s.pending ∧ (configureHead h configured s).cli.replies = s.cli.replies ∧ (configureHead h configured
    s).cli.receiver = s.cli.receiver ∧ (configureHead h configured s).cli.partialFrame = s.cli.partialFrame ∧
    (configureHead h configured s).cli.restartPending = s.cli.restartPending ∧ (configureHead h configured
    s).cli.mask = s.cli.mask ∧ (configureHead h configured s).cli.counters = s.cli.counters ∧ (configureHead h
    configured s).glc.slot = s.glc.slot ∧ (configureHead h configured s).glc.current = s.glc.current ∧
    (configureHead h configured s).exm.source = s.exm.source ∧ (configureHead h configured s).exm.removal =
    s.exm.removal ∧ (configureHead h configured s).exm.frozenStrain = s.exm.frozenStrain := by
  unfold configureHead; (try dsimp only); (repeat' split) <;> simp

@[simp] theorem takeFailureLimit_frame (h : Head) (limit : Nat) (s : State) :
    (takeFailureLimit h limit s).cli = s.cli ∧ (takeFailureLimit h limit s).tsq = s.tsq ∧ (takeFailureLimit h
    limit s).drl = s.drl ∧ (takeFailureLimit h limit s).fcu = s.fcu ∧ (takeFailureLimit h limit s).exm = s.exm ∧
    (takeFailureLimit h limit s).evu = s.evu ∧ (takeFailureLimit h limit s).sms = s.sms ∧ (takeFailureLimit h
    limit s).lmu = s.lmu ∧ (takeFailureLimit h limit s).latestPoint = s.latestPoint ∧ (takeFailureLimit h limit
    s).inReset = s.inReset ∧ (takeFailureLimit h limit s).clock = s.clock ∧ (takeFailureLimit h limit s).freeCount
    = s.freeCount ∧ (takeFailureLimit h limit s).pending = s.pending ∧ (takeFailureLimit h limit s).glc.slot =
    s.glc.slot ∧ (takeFailureLimit h limit s).glc.waiting = s.glc.waiting ∧ (takeFailureLimit h limit
    s).glc.current = s.glc.current := by
  unfold takeFailureLimit; (try dsimp only); (repeat' split) <;> simp

@[simp] theorem configureHeads_frame (front rear : Bool) (limitFront limitRear : Nat) (s : State) :
    (configureHeads front rear limitFront limitRear s).tsq = s.tsq ∧ (configureHeads front rear limitFront
    limitRear s).drl = s.drl ∧ (configureHeads front rear limitFront limitRear s).fcu = s.fcu ∧ (configureHeads
    front rear limitFront limitRear s).evu = s.evu ∧ (configureHeads front rear limitFront limitRear s).sms =
    s.sms ∧ (configureHeads front rear limitFront limitRear s).lmu = s.lmu ∧ (configureHeads front rear limitFront
    limitRear s).latestPoint = s.latestPoint ∧ (configureHeads front rear limitFront limitRear s).inReset =
    s.inReset ∧ (configureHeads front rear limitFront limitRear s).clock = s.clock ∧ (configureHeads front rear
    limitFront limitRear s).freeCount = s.freeCount ∧ (configureHeads front rear limitFront limitRear s).pending =
    s.pending ∧ (configureHeads front rear limitFront limitRear s).cli.replies = s.cli.replies ∧ (configureHeads
    front rear limitFront limitRear s).cli.receiver = s.cli.receiver ∧ (configureHeads front rear limitFront
    limitRear s).cli.partialFrame = s.cli.partialFrame ∧ (configureHeads front rear limitFront limitRear
    s).cli.restartPending = s.cli.restartPending ∧ (configureHeads front rear limitFront limitRear s).cli.mask =
    s.cli.mask ∧ (configureHeads front rear limitFront limitRear s).cli.counters = s.cli.counters ∧
    (configureHeads front rear limitFront limitRear s).glc.slot = s.glc.slot ∧ (configureHeads front rear
    limitFront limitRear s).glc.current = s.glc.current ∧ (configureHeads front rear limitFront limitRear
    s).exm.source = s.exm.source ∧ (configureHeads front rear limitFront limitRear s).exm.removal = s.exm.removal
    ∧ (configureHeads front rear limitFront limitRear s).exm.frozenStrain = s.exm.frozenStrain := by
  unfold configureHeads; (try dsimp only); (repeat' split) <;> simp

@[simp] theorem decideConfigureHeads_frame (p : List Byte) (s : State) :
    (decideConfigureHeads p s).state.tsq = s.tsq ∧ (decideConfigureHeads p s).state.drl = s.drl ∧
    (decideConfigureHeads p s).state.fcu = s.fcu ∧ (decideConfigureHeads p s).state.evu = s.evu ∧
    (decideConfigureHeads p s).state.sms = s.sms ∧ (decideConfigureHeads p s).state.lmu = s.lmu ∧
    (decideConfigureHeads p s).state.latestPoint = s.latestPoint ∧ (decideConfigureHeads p s).state.inReset =
    s.inReset ∧ (decideConfigureHeads p s).state.clock = s.clock ∧ (decideConfigureHeads p s).state.freeCount =
    s.freeCount ∧ (decideConfigureHeads p s).state.pending = s.pending ∧ (decideConfigureHeads p
    s).state.cli.replies = s.cli.replies ∧ (decideConfigureHeads p s).state.cli.receiver = s.cli.receiver ∧
    (decideConfigureHeads p s).state.cli.partialFrame = s.cli.partialFrame ∧ (decideConfigureHeads p
    s).state.cli.restartPending = s.cli.restartPending ∧ (decideConfigureHeads p s).state.cli.mask = s.cli.mask ∧
    (decideConfigureHeads p s).state.cli.counters = s.cli.counters ∧ (decideConfigureHeads p s).state.glc.slot =
    s.glc.slot ∧ (decideConfigureHeads p s).state.glc.current = s.glc.current ∧ (decideConfigureHeads p
    s).state.exm.source = s.exm.source ∧ (decideConfigureHeads p s).state.exm.removal = s.exm.removal ∧
    (decideConfigureHeads p s).state.exm.frozenStrain = s.exm.frozenStrain := by
  unfold decideConfigureHeads; (try dsimp only); (repeat' split) <;> simp [refuse, answerOk, answerAccepted]

@[simp] theorem requestHeadCommand_frame (h : Head) (k : HeadCmd) (s : State) :
    (requestHeadCommand h k s).state.cli = s.cli ∧ (requestHeadCommand h k s).state.tsq = s.tsq ∧
    (requestHeadCommand h k s).state.drl = s.drl ∧ (requestHeadCommand h k s).state.fcu = s.fcu ∧
    (requestHeadCommand h k s).state.exm = s.exm ∧ (requestHeadCommand h k s).state.evu = s.evu ∧
    (requestHeadCommand h k s).state.sms = s.sms ∧ (requestHeadCommand h k s).state.lmu = s.lmu ∧
    (requestHeadCommand h k s).state.latestPoint = s.latestPoint ∧ (requestHeadCommand h k s).state.inReset =
    s.inReset ∧ (requestHeadCommand h k s).state.clock = s.clock ∧ (requestHeadCommand h k s).state.freeCount =
    s.freeCount ∧ (requestHeadCommand h k s).state.pending = s.pending := by
  unfold requestHeadCommand; (try dsimp only); (repeat' split) <;> simp [refuse, answerOk, answerAccepted]

@[simp] theorem decideHeadCommand_frame (p : List Byte) (s : State) :
    (decideHeadCommand p s).state.cli = s.cli ∧ (decideHeadCommand p s).state.tsq = s.tsq ∧ (decideHeadCommand p
    s).state.drl = s.drl ∧ (decideHeadCommand p s).state.fcu = s.fcu ∧ (decideHeadCommand p s).state.exm = s.exm ∧
    (decideHeadCommand p s).state.evu = s.evu ∧ (decideHeadCommand p s).state.sms = s.sms ∧ (decideHeadCommand p
    s).state.lmu = s.lmu ∧ (decideHeadCommand p s).state.latestPoint = s.latestPoint ∧ (decideHeadCommand p
    s).state.inReset = s.inReset ∧ (decideHeadCommand p s).state.clock = s.clock ∧ (decideHeadCommand p
    s).state.freeCount = s.freeCount ∧ (decideHeadCommand p s).state.pending = s.pending := by
  unfold decideHeadCommand; (try dsimp only); (repeat' split) <;> simp [refuse, answerOk, answerAccepted]

@[simp] theorem decideHeadStatus_frame (p : List Byte) (s : State) :
    (decideHeadStatus p s).state.cli = s.cli ∧ (decideHeadStatus p s).state.tsq = s.tsq ∧ (decideHeadStatus p
    s).state.drl = s.drl ∧ (decideHeadStatus p s).state.fcu = s.fcu ∧ (decideHeadStatus p s).state.glc = s.glc ∧
    (decideHeadStatus p s).state.exm = s.exm ∧ (decideHeadStatus p s).state.evu = s.evu ∧ (decideHeadStatus p
    s).state.sms = s.sms ∧ (decideHeadStatus p s).state.lmu = s.lmu ∧ (decideHeadStatus p s).state.latestPoint =
    s.latestPoint ∧ (decideHeadStatus p s).state.inReset = s.inReset ∧ (decideHeadStatus p s).state.clock =
    s.clock ∧ (decideHeadStatus p s).state.freeCount = s.freeCount ∧ (decideHeadStatus p s).state.pending =
    s.pending := by
  unfold decideHeadStatus readOnly withEmpty; (try dsimp only); (repeat' split) <;> simp [refuse, answerOk, answerAccepted]

@[simp] theorem askWatchedLifts_frame (hs : List Head) (s : State) :
    (askWatchedLifts hs s).cli = s.cli ∧ (askWatchedLifts hs s).tsq = s.tsq ∧ (askWatchedLifts hs s).drl = s.drl ∧
    (askWatchedLifts hs s).fcu = s.fcu ∧ (askWatchedLifts hs s).evu = s.evu ∧ (askWatchedLifts hs s).sms = s.sms ∧
    (askWatchedLifts hs s).lmu = s.lmu ∧ (askWatchedLifts hs s).latestPoint = s.latestPoint ∧ (askWatchedLifts hs
    s).inReset = s.inReset ∧ (askWatchedLifts hs s).clock = s.clock ∧ (askWatchedLifts hs s).freeCount =
    s.freeCount ∧ (askWatchedLifts hs s).pending = s.pending ∧ (askWatchedLifts hs s).exm.source = s.exm.source ∧
    (askWatchedLifts hs s).exm.removal = s.exm.removal ∧ (askWatchedLifts hs s).exm.frozenStrain =
    s.exm.frozenStrain ∧ (askWatchedLifts hs s).exm.heads = s.exm.heads := by
  induction hs generalizing s with
  | nil => simp [askWatchedLifts]
  | cons h t ih => simp [askWatchedLifts, ih]

@[simp] theorem decideRemoveExtensometer_frame (p : List Byte) (s : State) :
    (decideRemoveExtensometer p s).state.tsq = s.tsq ∧ (decideRemoveExtensometer p s).state.drl = s.drl ∧
    (decideRemoveExtensometer p s).state.fcu = s.fcu ∧ (decideRemoveExtensometer p s).state.evu = s.evu ∧
    (decideRemoveExtensometer p s).state.lmu = s.lmu ∧ (decideRemoveExtensometer p s).state.latestPoint =
    s.latestPoint ∧ (decideRemoveExtensometer p s).state.inReset = s.inReset ∧ (decideRemoveExtensometer p
    s).state.clock = s.clock ∧ (decideRemoveExtensometer p s).state.freeCount = s.freeCount ∧
    (decideRemoveExtensometer p s).state.pending = s.pending ∧ (decideRemoveExtensometer p s).state.cli.replies =
    s.cli.replies ∧ (decideRemoveExtensometer p s).state.cli.receiver = s.cli.receiver ∧ (decideRemoveExtensometer
    p s).state.cli.partialFrame = s.cli.partialFrame ∧ (decideRemoveExtensometer p s).state.cli.restartPending =
    s.cli.restartPending ∧ (decideRemoveExtensometer p s).state.cli.mask = s.cli.mask ∧ (decideRemoveExtensometer
    p s).state.cli.counters = s.cli.counters ∧ (decideRemoveExtensometer p s).state.exm.frozenStrain =
    s.exm.frozenStrain ∧ (decideRemoveExtensometer p s).state.exm.heads = s.exm.heads := by
  unfold decideRemoveExtensometer withEmpty; (try dsimp only); (repeat' split) <;> simp [refuse, answerOk, answerAccepted]

@[simp] theorem countLink_frame (f : LinkCounters → LinkCounters) (s : State) :
    (countLink f s).tsq = s.tsq ∧ (countLink f s).drl = s.drl ∧ (countLink f s).fcu = s.fcu ∧ (countLink f s).glc
    = s.glc ∧ (countLink f s).exm = s.exm ∧ (countLink f s).evu = s.evu ∧ (countLink f s).sms = s.sms ∧ (countLink
    f s).lmu = s.lmu ∧ (countLink f s).latestPoint = s.latestPoint ∧ (countLink f s).inReset = s.inReset ∧
    (countLink f s).clock = s.clock ∧ (countLink f s).freeCount = s.freeCount ∧ (countLink f s).pending =
    s.pending ∧ (countLink f s).cli.replies = s.cli.replies ∧ (countLink f s).cli.receiver = s.cli.receiver ∧
    (countLink f s).cli.partialFrame = s.cli.partialFrame ∧ (countLink f s).cli.restartPending =
    s.cli.restartPending ∧ (countLink f s).cli.mask = s.cli.mask := by
  unfold countLink; (try dsimp only); (repeat' split) <;> simp

@[simp] theorem decideIdentify_frame (p : List Byte) (s : State) :
    (decideIdentify p s).state.cli = s.cli ∧ (decideIdentify p s).state.tsq = s.tsq ∧ (decideIdentify p
    s).state.drl = s.drl ∧ (decideIdentify p s).state.fcu = s.fcu ∧ (decideIdentify p s).state.glc = s.glc ∧
    (decideIdentify p s).state.exm = s.exm ∧ (decideIdentify p s).state.evu = s.evu ∧ (decideIdentify p
    s).state.sms = s.sms ∧ (decideIdentify p s).state.lmu = s.lmu ∧ (decideIdentify p s).state.latestPoint =
    s.latestPoint ∧ (decideIdentify p s).state.inReset = s.inReset ∧ (decideIdentify p s).state.clock = s.clock ∧
    (decideIdentify p s).state.freeCount = s.freeCount ∧ (decideIdentify p s).state.pending = s.pending := by
  unfold decideIdentify readOnly withEmpty; (try dsimp only); (repeat' split) <;> simp [refuse, answerOk, answerAccepted]

@[simp] theorem decideStatus_frame (p : List Byte) (s : State) :
    (decideStatus p s).state.cli = s.cli ∧ (decideStatus p s).state.tsq = s.tsq ∧ (decideStatus p s).state.drl =
    s.drl ∧ (decideStatus p s).state.fcu = s.fcu ∧ (decideStatus p s).state.glc = s.glc ∧ (decideStatus p
    s).state.exm = s.exm ∧ (decideStatus p s).state.evu = s.evu ∧ (decideStatus p s).state.sms = s.sms ∧
    (decideStatus p s).state.lmu = s.lmu ∧ (decideStatus p s).state.latestPoint = s.latestPoint ∧ (decideStatus p
    s).state.inReset = s.inReset ∧ (decideStatus p s).state.clock = s.clock ∧ (decideStatus p s).state.freeCount =
    s.freeCount ∧ (decideStatus p s).state.pending = s.pending := by
  unfold decideStatus readOnly withEmpty; (try dsimp only); (repeat' split) <;> simp [refuse, answerOk, answerAccepted]

@[simp] theorem decideReadCounters_frame (p : List Byte) (s : State) :
    (decideReadCounters p s).state.cli = s.cli ∧ (decideReadCounters p s).state.tsq = s.tsq ∧ (decideReadCounters
    p s).state.drl = s.drl ∧ (decideReadCounters p s).state.fcu = s.fcu ∧ (decideReadCounters p s).state.glc =
    s.glc ∧ (decideReadCounters p s).state.exm = s.exm ∧ (decideReadCounters p s).state.evu = s.evu ∧
    (decideReadCounters p s).state.sms = s.sms ∧ (decideReadCounters p s).state.lmu = s.lmu ∧ (decideReadCounters
    p s).state.latestPoint = s.latestPoint ∧ (decideReadCounters p s).state.inReset = s.inReset ∧
    (decideReadCounters p s).state.clock = s.clock ∧ (decideReadCounters p s).state.freeCount = s.freeCount ∧
    (decideReadCounters p s).state.pending = s.pending := by
  unfold decideReadCounters readOnly withEmpty; (try dsimp only); (repeat' split) <;> simp [refuse, answerOk, answerAccepted]

@[simp] theorem decideQueryAttention_frame (p : List Byte) (s : State) :
    (decideQueryAttention p s).state.cli = s.cli ∧ (decideQueryAttention p s).state.tsq = s.tsq ∧
    (decideQueryAttention p s).state.drl = s.drl ∧ (decideQueryAttention p s).state.fcu = s.fcu ∧
    (decideQueryAttention p s).state.glc = s.glc ∧ (decideQueryAttention p s).state.exm = s.exm ∧
    (decideQueryAttention p s).state.evu = s.evu ∧ (decideQueryAttention p s).state.sms = s.sms ∧
    (decideQueryAttention p s).state.lmu = s.lmu ∧ (decideQueryAttention p s).state.latestPoint = s.latestPoint ∧
    (decideQueryAttention p s).state.inReset = s.inReset ∧ (decideQueryAttention p s).state.clock = s.clock ∧
    (decideQueryAttention p s).state.freeCount = s.freeCount ∧ (decideQueryAttention p s).state.pending =
    s.pending := by
  unfold decideQueryAttention readOnly withEmpty; (try dsimp only); (repeat' split) <;> simp [refuse, answerOk, answerAccepted]

@[simp] theorem acknowledge_frame (k : Source) (s : State) :
    (acknowledge k s).tsq = s.tsq ∧ (acknowledge k s).drl = s.drl ∧ (acknowledge k s).fcu = s.fcu ∧ (acknowledge k
    s).glc = s.glc ∧ (acknowledge k s).exm = s.exm ∧ (acknowledge k s).evu = s.evu ∧ (acknowledge k s).sms = s.sms
    ∧ (acknowledge k s).lmu = s.lmu ∧ (acknowledge k s).latestPoint = s.latestPoint ∧ (acknowledge k s).inReset =
    s.inReset ∧ (acknowledge k s).clock = s.clock ∧ (acknowledge k s).freeCount = s.freeCount ∧ (acknowledge k
    s).pending = s.pending ∧ (acknowledge k s).cli.replies = s.cli.replies ∧ (acknowledge k s).cli.receiver =
    s.cli.receiver ∧ (acknowledge k s).cli.partialFrame = s.cli.partialFrame ∧ (acknowledge k
    s).cli.restartPending = s.cli.restartPending ∧ (acknowledge k s).cli.mask = s.cli.mask ∧ (acknowledge k
    s).cli.counters = s.cli.counters := by
  unfold acknowledge; (try dsimp only); (repeat' split) <;> simp

@[simp] theorem decideAcknowledge_frame (p : List Byte) (s : State) :
    (decideAcknowledge p s).state.tsq = s.tsq ∧ (decideAcknowledge p s).state.drl = s.drl ∧ (decideAcknowledge p
    s).state.fcu = s.fcu ∧ (decideAcknowledge p s).state.glc = s.glc ∧ (decideAcknowledge p s).state.exm = s.exm ∧
    (decideAcknowledge p s).state.evu = s.evu ∧ (decideAcknowledge p s).state.sms = s.sms ∧ (decideAcknowledge p
    s).state.lmu = s.lmu ∧ (decideAcknowledge p s).state.latestPoint = s.latestPoint ∧ (decideAcknowledge p
    s).state.inReset = s.inReset ∧ (decideAcknowledge p s).state.clock = s.clock ∧ (decideAcknowledge p
    s).state.freeCount = s.freeCount ∧ (decideAcknowledge p s).state.pending = s.pending ∧ (decideAcknowledge p
    s).state.cli.replies = s.cli.replies ∧ (decideAcknowledge p s).state.cli.receiver = s.cli.receiver ∧
    (decideAcknowledge p s).state.cli.partialFrame = s.cli.partialFrame ∧ (decideAcknowledge p
    s).state.cli.restartPending = s.cli.restartPending ∧ (decideAcknowledge p s).state.cli.mask = s.cli.mask ∧
    (decideAcknowledge p s).state.cli.counters = s.cli.counters := by
  unfold decideAcknowledge; (try dsimp only); (repeat' split) <;> simp [refuse, answerOk, answerAccepted]

@[simp] theorem decideSetMask_frame (p : List Byte) (s : State) :
    (decideSetMask p s).state.tsq = s.tsq ∧ (decideSetMask p s).state.drl = s.drl ∧ (decideSetMask p s).state.fcu
    = s.fcu ∧ (decideSetMask p s).state.glc = s.glc ∧ (decideSetMask p s).state.exm = s.exm ∧ (decideSetMask p
    s).state.evu = s.evu ∧ (decideSetMask p s).state.sms = s.sms ∧ (decideSetMask p s).state.lmu = s.lmu ∧
    (decideSetMask p s).state.latestPoint = s.latestPoint ∧ (decideSetMask p s).state.inReset = s.inReset ∧
    (decideSetMask p s).state.clock = s.clock ∧ (decideSetMask p s).state.freeCount = s.freeCount ∧ (decideSetMask
    p s).state.pending = s.pending ∧ (decideSetMask p s).state.cli.replies = s.cli.replies ∧ (decideSetMask p
    s).state.cli.receiver = s.cli.receiver ∧ (decideSetMask p s).state.cli.partialFrame = s.cli.partialFrame ∧
    (decideSetMask p s).state.cli.restartPending = s.cli.restartPending ∧ (decideSetMask p s).state.cli.counters =
    s.cli.counters := by
  unfold decideSetMask; (try dsimp only); (repeat' split) <;> simp [refuse, answerOk, answerAccepted]

@[simp] theorem decideRestart_frame (p : List Byte) (s : State) :
    (decideRestart p s).state.tsq = s.tsq ∧ (decideRestart p s).state.drl = s.drl ∧ (decideRestart p s).state.fcu
    = s.fcu ∧ (decideRestart p s).state.glc = s.glc ∧ (decideRestart p s).state.exm = s.exm ∧ (decideRestart p
    s).state.evu = s.evu ∧ (decideRestart p s).state.sms = s.sms ∧ (decideRestart p s).state.lmu = s.lmu ∧
    (decideRestart p s).state.latestPoint = s.latestPoint ∧ (decideRestart p s).state.inReset = s.inReset ∧
    (decideRestart p s).state.clock = s.clock ∧ (decideRestart p s).state.freeCount = s.freeCount ∧ (decideRestart
    p s).state.pending = s.pending ∧ (decideRestart p s).state.cli.replies = s.cli.replies ∧ (decideRestart p
    s).state.cli.receiver = s.cli.receiver ∧ (decideRestart p s).state.cli.partialFrame = s.cli.partialFrame ∧
    (decideRestart p s).state.cli.mask = s.cli.mask ∧ (decideRestart p s).state.cli.counters = s.cli.counters := by
  unfold decideRestart withEmpty; (try dsimp only); (repeat' split) <;> simp [refuse, answerOk, answerAccepted]

@[simp] theorem decideReadSamples_frame (p : List Byte) (s : State) :
    (decideReadSamples p s).state.cli = s.cli ∧ (decideReadSamples p s).state.tsq = s.tsq ∧ (decideReadSamples p
    s).state.drl = s.drl ∧ (decideReadSamples p s).state.fcu = s.fcu ∧ (decideReadSamples p s).state.glc = s.glc ∧
    (decideReadSamples p s).state.exm = s.exm ∧ (decideReadSamples p s).state.evu = s.evu ∧ (decideReadSamples p
    s).state.sms = s.sms ∧ (decideReadSamples p s).state.lmu = s.lmu ∧ (decideReadSamples p s).state.latestPoint =
    s.latestPoint ∧ (decideReadSamples p s).state.inReset = s.inReset ∧ (decideReadSamples p s).state.clock =
    s.clock ∧ (decideReadSamples p s).state.freeCount = s.freeCount ∧ (decideReadSamples p s).state.pending =
    s.pending := by
  unfold decideReadSamples; (try dsimp only); (repeat' split) <;> simp [refuse, answerOk, answerAccepted]

@[simp] theorem acceptRelease_frame (r count delay : Nat) (s : State) :
    (acceptRelease r count delay s).state.tsq = s.tsq ∧ (acceptRelease r count delay s).state.drl = s.drl ∧
    (acceptRelease r count delay s).state.fcu = s.fcu ∧ (acceptRelease r count delay s).state.glc = s.glc ∧
    (acceptRelease r count delay s).state.exm = s.exm ∧ (acceptRelease r count delay s).state.evu = s.evu ∧
    (acceptRelease r count delay s).state.lmu = s.lmu ∧ (acceptRelease r count delay s).state.latestPoint =
    s.latestPoint ∧ (acceptRelease r count delay s).state.inReset = s.inReset ∧ (acceptRelease r count delay
    s).state.clock = s.clock ∧ (acceptRelease r count delay s).state.freeCount = s.freeCount ∧ (acceptRelease r
    count delay s).state.pending = s.pending ∧ (acceptRelease r count delay s).state.cli.replies = s.cli.replies ∧
    (acceptRelease r count delay s).state.cli.receiver = s.cli.receiver ∧ (acceptRelease r count delay
    s).state.cli.partialFrame = s.cli.partialFrame ∧ (acceptRelease r count delay s).state.cli.restartPending =
    s.cli.restartPending ∧ (acceptRelease r count delay s).state.cli.mask = s.cli.mask ∧ (acceptRelease r count
    delay s).state.cli.counters = s.cli.counters := by
  unfold acceptRelease; (try dsimp only); (repeat' split) <;> simp [refuse, answerOk, answerAccepted]

@[simp] theorem decideRelease_frame (p : List Byte) (s : State) :
    (decideRelease p s).state.tsq = s.tsq ∧ (decideRelease p s).state.drl = s.drl ∧ (decideRelease p s).state.fcu
    = s.fcu ∧ (decideRelease p s).state.glc = s.glc ∧ (decideRelease p s).state.exm = s.exm ∧ (decideRelease p
    s).state.evu = s.evu ∧ (decideRelease p s).state.lmu = s.lmu ∧ (decideRelease p s).state.latestPoint =
    s.latestPoint ∧ (decideRelease p s).state.inReset = s.inReset ∧ (decideRelease p s).state.clock = s.clock ∧
    (decideRelease p s).state.freeCount = s.freeCount ∧ (decideRelease p s).state.pending = s.pending ∧
    (decideRelease p s).state.cli.replies = s.cli.replies ∧ (decideRelease p s).state.cli.receiver =
    s.cli.receiver ∧ (decideRelease p s).state.cli.partialFrame = s.cli.partialFrame ∧ (decideRelease p
    s).state.cli.restartPending = s.cli.restartPending ∧ (decideRelease p s).state.cli.mask = s.cli.mask ∧
    (decideRelease p s).state.cli.counters = s.cli.counters := by
  unfold decideRelease; (try dsimp only); (repeat' split) <;> simp [refuse, answerOk, answerAccepted]

@[simp] theorem decideReadResults_frame (p : List Byte) (s : State) :
    (decideReadResults p s).state.cli = s.cli ∧ (decideReadResults p s).state.tsq = s.tsq ∧ (decideReadResults p
    s).state.drl = s.drl ∧ (decideReadResults p s).state.fcu = s.fcu ∧ (decideReadResults p s).state.glc = s.glc ∧
    (decideReadResults p s).state.exm = s.exm ∧ (decideReadResults p s).state.evu = s.evu ∧ (decideReadResults p
    s).state.sms = s.sms ∧ (decideReadResults p s).state.lmu = s.lmu ∧ (decideReadResults p s).state.latestPoint =
    s.latestPoint ∧ (decideReadResults p s).state.inReset = s.inReset ∧ (decideReadResults p s).state.clock =
    s.clock ∧ (decideReadResults p s).state.freeCount = s.freeCount ∧ (decideReadResults p s).state.pending =
    s.pending := by
  unfold decideReadResults withEmpty; (try dsimp only); (repeat' split) <;> simp [refuse, answerOk, answerAccepted]

@[simp] theorem receive_frame (r : Receiver) (bs : List Byte) (s : State) :
    (receive r bs s).tsq = s.tsq ∧ (receive r bs s).drl = s.drl ∧ (receive r bs s).fcu = s.fcu ∧ (receive r bs
    s).glc = s.glc ∧ (receive r bs s).exm = s.exm ∧ (receive r bs s).evu = s.evu ∧ (receive r bs s).sms = s.sms ∧
    (receive r bs s).lmu = s.lmu ∧ (receive r bs s).latestPoint = s.latestPoint ∧ (receive r bs s).inReset =
    s.inReset ∧ (receive r bs s).clock = s.clock ∧ (receive r bs s).freeCount = s.freeCount ∧ (receive r bs
    s).pending = s.pending ∧ (receive r bs s).cli.replies = s.cli.replies ∧ (receive r bs s).cli.restartPending =
    s.cli.restartPending ∧ (receive r bs s).cli.mask = s.cli.mask ∧ (receive r bs s).cli.counters = s.cli.counters := by
  unfold receive; (try dsimp only); (repeat' split) <;> simp

@[simp] theorem dropFrame_frame (s : State) :
    (dropFrame s).tsq = s.tsq ∧ (dropFrame s).drl = s.drl ∧ (dropFrame s).fcu = s.fcu ∧ (dropFrame s).glc = s.glc
    ∧ (dropFrame s).exm = s.exm ∧ (dropFrame s).evu = s.evu ∧ (dropFrame s).sms = s.sms ∧ (dropFrame s).lmu =
    s.lmu ∧ (dropFrame s).latestPoint = s.latestPoint ∧ (dropFrame s).inReset = s.inReset ∧ (dropFrame s).clock =
    s.clock ∧ (dropFrame s).freeCount = s.freeCount ∧ (dropFrame s).pending = s.pending ∧ (dropFrame
    s).cli.replies = s.cli.replies ∧ (dropFrame s).cli.restartPending = s.cli.restartPending ∧ (dropFrame
    s).cli.mask = s.cli.mask ∧ (dropFrame s).cli.counters = s.cli.counters := by
  unfold dropFrame; (try dsimp only); (repeat' split) <;> simp

@[simp] theorem interbyteGap_frame (s : State) :
    (interbyteGap s).tsq = s.tsq ∧ (interbyteGap s).drl = s.drl ∧ (interbyteGap s).fcu = s.fcu ∧ (interbyteGap
    s).glc = s.glc ∧ (interbyteGap s).exm = s.exm ∧ (interbyteGap s).evu = s.evu ∧ (interbyteGap s).sms = s.sms ∧
    (interbyteGap s).lmu = s.lmu ∧ (interbyteGap s).latestPoint = s.latestPoint ∧ (interbyteGap s).inReset =
    s.inReset ∧ (interbyteGap s).clock = s.clock ∧ (interbyteGap s).freeCount = s.freeCount ∧ (interbyteGap
    s).pending = s.pending ∧ (interbyteGap s).cli.replies = s.cli.replies ∧ (interbyteGap s).cli.restartPending =
    s.cli.restartPending ∧ (interbyteGap s).cli.mask = s.cli.mask := by
  unfold interbyteGap; (try dsimp only); (repeat' split) <;> simp

@[simp] theorem popReply_frame (s : State) :
    (popReply s).tsq = s.tsq ∧ (popReply s).drl = s.drl ∧ (popReply s).fcu = s.fcu ∧ (popReply s).glc = s.glc ∧
    (popReply s).exm = s.exm ∧ (popReply s).evu = s.evu ∧ (popReply s).sms = s.sms ∧ (popReply s).lmu = s.lmu ∧
    (popReply s).latestPoint = s.latestPoint ∧ (popReply s).inReset = s.inReset ∧ (popReply s).clock = s.clock ∧
    (popReply s).freeCount = s.freeCount ∧ (popReply s).pending = s.pending ∧ (popReply s).cli.receiver =
    s.cli.receiver ∧ (popReply s).cli.partialFrame = s.cli.partialFrame ∧ (popReply s).cli.restartPending =
    s.cli.restartPending ∧ (popReply s).cli.mask = s.cli.mask := by
  unfold popReply; (try dsimp only); (repeat' split) <;> simp

@[simp] theorem holdInReset_frame (s : State) :
    (holdInReset s).cli = s.cli ∧ (holdInReset s).tsq = s.tsq ∧ (holdInReset s).fcu = s.fcu ∧ (holdInReset s).glc
    = s.glc ∧ (holdInReset s).exm = s.exm ∧ (holdInReset s).evu = s.evu ∧ (holdInReset s).sms = s.sms ∧
    (holdInReset s).lmu = s.lmu ∧ (holdInReset s).latestPoint = s.latestPoint ∧ (holdInReset s).clock = s.clock ∧
    (holdInReset s).freeCount = s.freeCount ∧ (holdInReset s).pending = s.pending ∧ (holdInReset s).drl.frame =
    s.drl.frame ∧ (holdInReset s).drl.encoder = s.drl.encoder ∧ (holdInReset s).drl.travelZero = s.drl.travelZero
    ∧ (holdInReset s).drl.state = s.drl.state := by
  unfold holdInReset; (try dsimp only); (repeat' split) <;> simp

@[simp] theorem levelExpiry_frame (s : State) :
    (levelExpiry s).tsq = s.tsq ∧ (levelExpiry s).drl = s.drl ∧ (levelExpiry s).glc = s.glc ∧ (levelExpiry s).exm
    = s.exm ∧ (levelExpiry s).evu = s.evu ∧ (levelExpiry s).sms = s.sms ∧ (levelExpiry s).lmu = s.lmu ∧
    (levelExpiry s).latestPoint = s.latestPoint ∧ (levelExpiry s).inReset = s.inReset ∧ (levelExpiry s).clock =
    s.clock ∧ (levelExpiry s).freeCount = s.freeCount ∧ (levelExpiry s).pending = s.pending ∧ (levelExpiry
    s).cli.replies = s.cli.replies ∧ (levelExpiry s).cli.receiver = s.cli.receiver ∧ (levelExpiry
    s).cli.partialFrame = s.cli.partialFrame ∧ (levelExpiry s).cli.restartPending = s.cli.restartPending ∧
    (levelExpiry s).cli.mask = s.cli.mask ∧ (levelExpiry s).cli.counters = s.cli.counters ∧ (levelExpiry
    s).fcu.tables = s.fcu.tables ∧ (levelExpiry s).fcu.unrestTimer = s.fcu.unrestTimer ∧ (levelExpiry
    s).fcu.history = s.fcu.history ∧ (levelExpiry s).fcu.nextIndex = s.fcu.nextIndex := by
  unfold levelExpiry; (try dsimp only); (repeat' split) <;> simp

@[simp] theorem countSlip_frame (s : State) :
    (countSlip s).fcu = s.fcu ∧ (countSlip s).lmu = s.lmu ∧ (countSlip s).latestPoint = s.latestPoint ∧ (countSlip
    s).inReset = s.inReset ∧ (countSlip s).clock = s.clock ∧ (countSlip s).freeCount = s.freeCount ∧ (countSlip
    s).pending = s.pending ∧ (countSlip s).cli.replies = s.cli.replies ∧ (countSlip s).cli.receiver =
    s.cli.receiver ∧ (countSlip s).cli.partialFrame = s.cli.partialFrame ∧ (countSlip s).cli.restartPending =
    s.cli.restartPending ∧ (countSlip s).cli.mask = s.cli.mask ∧ (countSlip s).cli.counters = s.cli.counters ∧
    (countSlip s).tsq.specimen = s.tsq.specimen ∧ (countSlip s).tsq.program = s.tsq.program ∧ (countSlip
    s).tsq.load = s.tsq.load ∧ (countSlip s).tsq.lastLoad = s.tsq.lastLoad ∧ (countSlip s).tsq.holdPoints =
    s.tsq.holdPoints := by
  unfold countSlip; (try dsimp only); (repeat' split) <;> simp

@[simp] theorem unrestExpiry_frame (s : State) :
    (unrestExpiry s).lmu = s.lmu ∧ (unrestExpiry s).latestPoint = s.latestPoint ∧ (unrestExpiry s).inReset =
    s.inReset ∧ (unrestExpiry s).clock = s.clock ∧ (unrestExpiry s).freeCount = s.freeCount ∧ (unrestExpiry
    s).pending = s.pending ∧ (unrestExpiry s).cli.replies = s.cli.replies ∧ (unrestExpiry s).cli.receiver =
    s.cli.receiver ∧ (unrestExpiry s).cli.partialFrame = s.cli.partialFrame ∧ (unrestExpiry s).cli.restartPending
    = s.cli.restartPending ∧ (unrestExpiry s).cli.mask = s.cli.mask ∧ (unrestExpiry s).cli.counters =
    s.cli.counters ∧ (unrestExpiry s).tsq.specimen = s.tsq.specimen ∧ (unrestExpiry s).tsq.program = s.tsq.program
    ∧ (unrestExpiry s).tsq.load = s.tsq.load ∧ (unrestExpiry s).tsq.lastLoad = s.tsq.lastLoad ∧ (unrestExpiry
    s).tsq.holdPoints = s.tsq.holdPoints ∧ (unrestExpiry s).fcu.tables = s.fcu.tables ∧ (unrestExpiry
    s).fcu.levelTimer = s.fcu.levelTimer ∧ (unrestExpiry s).fcu.history = s.fcu.history ∧ (unrestExpiry
    s).fcu.nextIndex = s.fcu.nextIndex ∧ (unrestExpiry s).fcu.tareWait = s.fcu.tareWait := by
  unfold unrestExpiry; (try dsimp only); (repeat' split) <;> simp

@[simp] theorem downRangeReached_frame (s : State) :
    (downRangeReached s).tsq = s.tsq ∧ (downRangeReached s).drl = s.drl ∧ (downRangeReached s).glc = s.glc ∧
    (downRangeReached s).exm = s.exm ∧ (downRangeReached s).evu = s.evu ∧ (downRangeReached s).sms = s.sms ∧
    (downRangeReached s).lmu = s.lmu ∧ (downRangeReached s).latestPoint = s.latestPoint ∧ (downRangeReached
    s).inReset = s.inReset ∧ (downRangeReached s).clock = s.clock ∧ (downRangeReached s).freeCount = s.freeCount ∧
    (downRangeReached s).pending = s.pending ∧ (downRangeReached s).cli.replies = s.cli.replies ∧
    (downRangeReached s).cli.receiver = s.cli.receiver ∧ (downRangeReached s).cli.partialFrame =
    s.cli.partialFrame ∧ (downRangeReached s).cli.restartPending = s.cli.restartPending ∧ (downRangeReached
    s).cli.mask = s.cli.mask ∧ (downRangeReached s).cli.counters = s.cli.counters ∧ (downRangeReached
    s).fcu.tables = s.fcu.tables ∧ (downRangeReached s).fcu.levelTimer = s.fcu.levelTimer ∧ (downRangeReached
    s).fcu.unrestTimer = s.fcu.unrestTimer ∧ (downRangeReached s).fcu.nextIndex = s.fcu.nextIndex ∧
    (downRangeReached s).fcu.tareWait = s.fcu.tareWait := by
  unfold downRangeReached; (try dsimp only); (repeat' split) <;> simp

@[simp] theorem tareWaitReached_frame (s : State) :
    (tareWaitReached s).tsq = s.tsq ∧ (tareWaitReached s).drl = s.drl ∧ (tareWaitReached s).glc = s.glc ∧
    (tareWaitReached s).exm = s.exm ∧ (tareWaitReached s).evu = s.evu ∧ (tareWaitReached s).sms = s.sms ∧
    (tareWaitReached s).lmu = s.lmu ∧ (tareWaitReached s).latestPoint = s.latestPoint ∧ (tareWaitReached
    s).inReset = s.inReset ∧ (tareWaitReached s).clock = s.clock ∧ (tareWaitReached s).freeCount = s.freeCount ∧
    (tareWaitReached s).pending = s.pending ∧ (tareWaitReached s).cli.replies = s.cli.replies ∧ (tareWaitReached
    s).cli.receiver = s.cli.receiver ∧ (tareWaitReached s).cli.partialFrame = s.cli.partialFrame ∧
    (tareWaitReached s).cli.restartPending = s.cli.restartPending ∧ (tareWaitReached s).cli.mask = s.cli.mask ∧
    (tareWaitReached s).cli.counters = s.cli.counters ∧ (tareWaitReached s).fcu.tables = s.fcu.tables ∧
    (tareWaitReached s).fcu.levelTimer = s.fcu.levelTimer ∧ (tareWaitReached s).fcu.unrestTimer =
    s.fcu.unrestTimer ∧ (tareWaitReached s).fcu.history = s.fcu.history ∧ (tareWaitReached s).fcu.nextIndex =
    s.fcu.nextIndex := by
  unfold tareWaitReached; (try dsimp only); (repeat' split) <;> simp

@[simp] theorem startTareReached_frame (s : State) :
    (startTareReached s).lmu = s.lmu ∧ (startTareReached s).latestPoint = s.latestPoint ∧ (startTareReached
    s).inReset = s.inReset ∧ (startTareReached s).clock = s.clock ∧ (startTareReached s).freeCount = s.freeCount ∧
    (startTareReached s).pending = s.pending ∧ (startTareReached s).cli.replies = s.cli.replies ∧
    (startTareReached s).cli.receiver = s.cli.receiver ∧ (startTareReached s).cli.partialFrame =
    s.cli.partialFrame ∧ (startTareReached s).cli.restartPending = s.cli.restartPending ∧ (startTareReached
    s).cli.mask = s.cli.mask ∧ (startTareReached s).cli.counters = s.cli.counters ∧ (startTareReached
    s).tsq.specimen = s.tsq.specimen ∧ (startTareReached s).tsq.program = s.tsq.program ∧ (startTareReached
    s).tsq.load = s.tsq.load ∧ (startTareReached s).tsq.lastLoad = s.tsq.lastLoad ∧ (startTareReached
    s).tsq.holdPoints = s.tsq.holdPoints ∧ (startTareReached s).fcu.tables = s.fcu.tables ∧ (startTareReached
    s).fcu.levelTimer = s.fcu.levelTimer ∧ (startTareReached s).fcu.unrestTimer = s.fcu.unrestTimer ∧
    (startTareReached s).fcu.history = s.fcu.history ∧ (startTareReached s).fcu.nextIndex = s.fcu.nextIndex ∧
    (startTareReached s).fcu.tareWait = s.fcu.tareWait := by
  unfold startTareReached; (try dsimp only); (repeat' split) <;> simp

@[simp] theorem enableWaitReached_frame (ready : Bool) (s : State) :
    (enableWaitReached ready s).tsq = s.tsq ∧ (enableWaitReached ready s).fcu = s.fcu ∧ (enableWaitReached ready
    s).glc = s.glc ∧ (enableWaitReached ready s).exm = s.exm ∧ (enableWaitReached ready s).evu = s.evu ∧
    (enableWaitReached ready s).sms = s.sms ∧ (enableWaitReached ready s).lmu = s.lmu ∧ (enableWaitReached ready
    s).latestPoint = s.latestPoint ∧ (enableWaitReached ready s).inReset = s.inReset ∧ (enableWaitReached ready
    s).clock = s.clock ∧ (enableWaitReached ready s).freeCount = s.freeCount ∧ (enableWaitReached ready s).pending
    = s.pending ∧ (enableWaitReached ready s).cli.replies = s.cli.replies ∧ (enableWaitReached ready
    s).cli.receiver = s.cli.receiver ∧ (enableWaitReached ready s).cli.partialFrame = s.cli.partialFrame ∧
    (enableWaitReached ready s).cli.restartPending = s.cli.restartPending ∧ (enableWaitReached ready s).cli.mask =
    s.cli.mask ∧ (enableWaitReached ready s).cli.counters = s.cli.counters := by
  unfold enableWaitReached; (try dsimp only); (repeat' split) <;> simp

@[simp] theorem paceDelayReached_frame (s : State) :
    (paceDelayReached s).tsq = s.tsq ∧ (paceDelayReached s).drl = s.drl ∧ (paceDelayReached s).fcu = s.fcu ∧
    (paceDelayReached s).glc = s.glc ∧ (paceDelayReached s).exm = s.exm ∧ (paceDelayReached s).evu = s.evu ∧
    (paceDelayReached s).lmu = s.lmu ∧ (paceDelayReached s).latestPoint = s.latestPoint ∧ (paceDelayReached
    s).inReset = s.inReset ∧ (paceDelayReached s).clock = s.clock ∧ (paceDelayReached s).freeCount = s.freeCount ∧
    (paceDelayReached s).pending = s.pending ∧ (paceDelayReached s).cli.replies = s.cli.replies ∧
    (paceDelayReached s).cli.receiver = s.cli.receiver ∧ (paceDelayReached s).cli.partialFrame =
    s.cli.partialFrame ∧ (paceDelayReached s).cli.restartPending = s.cli.restartPending ∧ (paceDelayReached
    s).cli.mask = s.cli.mask ∧ (paceDelayReached s).cli.counters = s.cli.counters ∧ (paceDelayReached s).sms.ring
    = s.sms.ring ∧ (paceDelayReached s).sms.paceCount = s.sms.paceCount ∧ (paceDelayReached s).sms.paceDelay =
    s.sms.paceDelay ∧ (paceDelayReached s).sms.recording = s.sms.recording := by
  unfold paceDelayReached; (try dsimp only); (repeat' split) <;> simp

@[simp] theorem inputGoesAsserted_frame (i : SafetyInput) (s : State) :
    (inputGoesAsserted i s).fcu = s.fcu ∧ (inputGoesAsserted i s).latestPoint = s.latestPoint ∧ (inputGoesAsserted
    i s).inReset = s.inReset ∧ (inputGoesAsserted i s).clock = s.clock ∧ (inputGoesAsserted i s).freeCount =
    s.freeCount ∧ (inputGoesAsserted i s).pending = s.pending ∧ (inputGoesAsserted i s).cli.replies =
    s.cli.replies ∧ (inputGoesAsserted i s).cli.receiver = s.cli.receiver ∧ (inputGoesAsserted i
    s).cli.partialFrame = s.cli.partialFrame ∧ (inputGoesAsserted i s).cli.restartPending = s.cli.restartPending ∧
    (inputGoesAsserted i s).cli.mask = s.cli.mask ∧ (inputGoesAsserted i s).cli.counters = s.cli.counters ∧
    (inputGoesAsserted i s).tsq.specimen = s.tsq.specimen ∧ (inputGoesAsserted i s).tsq.program = s.tsq.program ∧
    (inputGoesAsserted i s).tsq.load = s.tsq.load ∧ (inputGoesAsserted i s).tsq.lastLoad = s.tsq.lastLoad ∧
    (inputGoesAsserted i s).tsq.holdPoints = s.tsq.holdPoints := by
  unfold inputGoesAsserted; (try dsimp only); (repeat' split) <;> simp

@[simp] theorem inputGoesInactive_frame (i : SafetyInput) (s : State) :
    (inputGoesInactive i s).cli = s.cli ∧ (inputGoesInactive i s).tsq = s.tsq ∧ (inputGoesInactive i s).drl =
    s.drl ∧ (inputGoesInactive i s).fcu = s.fcu ∧ (inputGoesInactive i s).glc = s.glc ∧ (inputGoesInactive i
    s).exm = s.exm ∧ (inputGoesInactive i s).evu = s.evu ∧ (inputGoesInactive i s).sms = s.sms ∧
    (inputGoesInactive i s).latestPoint = s.latestPoint ∧ (inputGoesInactive i s).inReset = s.inReset ∧
    (inputGoesInactive i s).clock = s.clock ∧ (inputGoesInactive i s).freeCount = s.freeCount ∧ (inputGoesInactive
    i s).pending = s.pending ∧ (inputGoesInactive i s).lmu.trip = s.lmu.trip ∧ (inputGoesInactive i s).lmu.record
    = s.lmu.record := by
  unfold inputGoesInactive; (try dsimp only); (repeat' split) <;> simp

@[simp] theorem pollRound_frame (s : State) :
    (pollRound s).cli = s.cli ∧ (pollRound s).tsq = s.tsq ∧ (pollRound s).drl = s.drl ∧ (pollRound s).fcu = s.fcu
    ∧ (pollRound s).exm = s.exm ∧ (pollRound s).evu = s.evu ∧ (pollRound s).sms = s.sms ∧ (pollRound s).lmu =
    s.lmu ∧ (pollRound s).latestPoint = s.latestPoint ∧ (pollRound s).inReset = s.inReset ∧ (pollRound s).clock =
    s.clock ∧ (pollRound s).freeCount = s.freeCount ∧ (pollRound s).pending = s.pending ∧ (pollRound s).glc.heads
    = s.glc.heads ∧ (pollRound s).glc.slot = s.glc.slot ∧ (pollRound s).glc.waiting = s.glc.waiting ∧ (pollRound
    s).glc.current = s.glc.current := by
  unfold pollRound; (try dsimp only); (repeat' split) <;> simp

@[simp] theorem arbiter_frame (s : State) :
    (arbiter s).cli = s.cli ∧ (arbiter s).tsq = s.tsq ∧ (arbiter s).drl = s.drl ∧ (arbiter s).fcu = s.fcu ∧
    (arbiter s).exm = s.exm ∧ (arbiter s).evu = s.evu ∧ (arbiter s).sms = s.sms ∧ (arbiter s).lmu = s.lmu ∧
    (arbiter s).latestPoint = s.latestPoint ∧ (arbiter s).inReset = s.inReset ∧ (arbiter s).clock = s.clock ∧
    (arbiter s).freeCount = s.freeCount ∧ (arbiter s).pending = s.pending ∧ (arbiter s).glc.heads = s.glc.heads ∧
    (arbiter s).glc.waiting = s.glc.waiting := by
  unfold arbiter; (try dsimp only); (repeat' split) <;> simp

@[simp] theorem replyTimeout_frame (began : Bool) (s : State) :
    (replyTimeout began s).fcu = s.fcu ∧ (replyTimeout began s).lmu = s.lmu ∧ (replyTimeout began s).latestPoint =
    s.latestPoint ∧ (replyTimeout began s).inReset = s.inReset ∧ (replyTimeout began s).clock = s.clock ∧
    (replyTimeout began s).freeCount = s.freeCount ∧ (replyTimeout began s).pending = s.pending ∧ (replyTimeout
    began s).cli.replies = s.cli.replies ∧ (replyTimeout began s).cli.receiver = s.cli.receiver ∧ (replyTimeout
    began s).cli.partialFrame = s.cli.partialFrame ∧ (replyTimeout began s).cli.restartPending =
    s.cli.restartPending ∧ (replyTimeout began s).cli.mask = s.cli.mask ∧ (replyTimeout began s).cli.counters =
    s.cli.counters ∧ (replyTimeout began s).tsq.specimen = s.tsq.specimen ∧ (replyTimeout began s).tsq.program =
    s.tsq.program ∧ (replyTimeout began s).tsq.load = s.tsq.load ∧ (replyTimeout began s).tsq.lastLoad =
    s.tsq.lastLoad ∧ (replyTimeout began s).tsq.holdPoints = s.tsq.holdPoints := by
  unfold replyTimeout; (try dsimp only); (repeat' split) <;> simp

@[simp] theorem replyEnd_frame (reply : List Byte) (s : State) :
    (replyEnd reply s).fcu = s.fcu ∧ (replyEnd reply s).lmu = s.lmu ∧ (replyEnd reply s).latestPoint =
    s.latestPoint ∧ (replyEnd reply s).inReset = s.inReset ∧ (replyEnd reply s).clock = s.clock ∧ (replyEnd reply
    s).freeCount = s.freeCount ∧ (replyEnd reply s).pending = s.pending ∧ (replyEnd reply s).cli.replies =
    s.cli.replies ∧ (replyEnd reply s).cli.receiver = s.cli.receiver ∧ (replyEnd reply s).cli.partialFrame =
    s.cli.partialFrame ∧ (replyEnd reply s).cli.restartPending = s.cli.restartPending ∧ (replyEnd reply
    s).cli.mask = s.cli.mask ∧ (replyEnd reply s).cli.counters = s.cli.counters ∧ (replyEnd reply s).tsq.specimen
    = s.tsq.specimen ∧ (replyEnd reply s).tsq.program = s.tsq.program ∧ (replyEnd reply s).tsq.load = s.tsq.load ∧
    (replyEnd reply s).tsq.lastLoad = s.tsq.lastLoad ∧ (replyEnd reply s).tsq.holdPoints = s.tsq.holdPoints := by
  unfold replyEnd; (try dsimp only); (repeat' split) <;> simp

@[simp] theorem headFails_frame (h : Head) (s : State) :
    (headFails h s).fcu = s.fcu ∧ (headFails h s).lmu = s.lmu ∧ (headFails h s).latestPoint = s.latestPoint ∧
    (headFails h s).inReset = s.inReset ∧ (headFails h s).clock = s.clock ∧ (headFails h s).freeCount =
    s.freeCount ∧ (headFails h s).pending = s.pending ∧ (headFails h s).cli.replies = s.cli.replies ∧ (headFails h
    s).cli.receiver = s.cli.receiver ∧ (headFails h s).cli.partialFrame = s.cli.partialFrame ∧ (headFails h
    s).cli.restartPending = s.cli.restartPending ∧ (headFails h s).cli.mask = s.cli.mask ∧ (headFails h
    s).cli.counters = s.cli.counters ∧ (headFails h s).tsq.specimen = s.tsq.specimen ∧ (headFails h s).tsq.program
    = s.tsq.program ∧ (headFails h s).tsq.load = s.tsq.load ∧ (headFails h s).tsq.lastLoad = s.tsq.lastLoad ∧
    (headFails h s).tsq.holdPoints = s.tsq.holdPoints := by
  unfold headFails; (try dsimp only); (repeat' split) <;> simp

@[simp] theorem failedPolls_frame (h : Head) (s : State) :
    (failedPolls h s).fcu = s.fcu ∧ (failedPolls h s).lmu = s.lmu ∧ (failedPolls h s).latestPoint = s.latestPoint
    ∧ (failedPolls h s).inReset = s.inReset ∧ (failedPolls h s).clock = s.clock ∧ (failedPolls h s).freeCount =
    s.freeCount ∧ (failedPolls h s).pending = s.pending ∧ (failedPolls h s).cli.replies = s.cli.replies ∧
    (failedPolls h s).cli.receiver = s.cli.receiver ∧ (failedPolls h s).cli.partialFrame = s.cli.partialFrame ∧
    (failedPolls h s).cli.restartPending = s.cli.restartPending ∧ (failedPolls h s).cli.mask = s.cli.mask ∧
    (failedPolls h s).cli.counters = s.cli.counters ∧ (failedPolls h s).tsq.specimen = s.tsq.specimen ∧
    (failedPolls h s).tsq.program = s.tsq.program ∧ (failedPolls h s).tsq.load = s.tsq.load ∧ (failedPolls h
    s).tsq.lastLoad = s.tsq.lastLoad ∧ (failedPolls h s).tsq.holdPoints = s.tsq.holdPoints := by
  unfold failedPolls; (try dsimp only); (repeat' split) <;> simp

@[simp] theorem confirmationDue_frame (s : State) :
    (confirmationDue s).cli = s.cli ∧ (confirmationDue s).tsq = s.tsq ∧ (confirmationDue s).drl = s.drl ∧
    (confirmationDue s).fcu = s.fcu ∧ (confirmationDue s).exm = s.exm ∧ (confirmationDue s).evu = s.evu ∧
    (confirmationDue s).sms = s.sms ∧ (confirmationDue s).lmu = s.lmu ∧ (confirmationDue s).latestPoint =
    s.latestPoint ∧ (confirmationDue s).inReset = s.inReset ∧ (confirmationDue s).clock = s.clock ∧
    (confirmationDue s).freeCount = s.freeCount ∧ (confirmationDue s).pending = s.pending ∧ (confirmationDue
    s).glc.heads = s.glc.heads ∧ (confirmationDue s).glc.waiting = s.glc.waiting ∧ (confirmationDue s).glc.current
    = s.glc.current := by
  unfold confirmationDue; (try dsimp only); (repeat' split) <;> simp

@[simp] theorem confirmationOut_frame (s : State) :
    (confirmationOut s).fcu = s.fcu ∧ (confirmationOut s).lmu = s.lmu ∧ (confirmationOut s).latestPoint =
    s.latestPoint ∧ (confirmationOut s).inReset = s.inReset ∧ (confirmationOut s).clock = s.clock ∧
    (confirmationOut s).freeCount = s.freeCount ∧ (confirmationOut s).pending = s.pending ∧ (confirmationOut
    s).cli.replies = s.cli.replies ∧ (confirmationOut s).cli.receiver = s.cli.receiver ∧ (confirmationOut
    s).cli.partialFrame = s.cli.partialFrame ∧ (confirmationOut s).cli.restartPending = s.cli.restartPending ∧
    (confirmationOut s).cli.mask = s.cli.mask ∧ (confirmationOut s).cli.counters = s.cli.counters ∧
    (confirmationOut s).tsq.specimen = s.tsq.specimen ∧ (confirmationOut s).tsq.program = s.tsq.program ∧
    (confirmationOut s).tsq.load = s.tsq.load ∧ (confirmationOut s).tsq.lastLoad = s.tsq.lastLoad ∧
    (confirmationOut s).tsq.holdPoints = s.tsq.holdPoints := by
  unfold confirmationOut; (try dsimp only); (repeat' split) <;> simp

@[simp] theorem encoderStep_frame (up : Bool) (s : State) :
    (encoderStep up s).cli = s.cli ∧ (encoderStep up s).tsq = s.tsq ∧ (encoderStep up s).fcu = s.fcu ∧
    (encoderStep up s).glc = s.glc ∧ (encoderStep up s).exm = s.exm ∧ (encoderStep up s).evu = s.evu ∧
    (encoderStep up s).sms = s.sms ∧ (encoderStep up s).lmu = s.lmu ∧ (encoderStep up s).latestPoint =
    s.latestPoint ∧ (encoderStep up s).inReset = s.inReset ∧ (encoderStep up s).clock = s.clock ∧ (encoderStep up
    s).freeCount = s.freeCount ∧ (encoderStep up s).pending = s.pending ∧ (encoderStep up s).drl.frame =
    s.drl.frame ∧ (encoderStep up s).drl.travelZero = s.drl.travelZero ∧ (encoderStep up s).drl.state =
    s.drl.state ∧ (encoderStep up s).drl.velocity = s.drl.velocity ∧ (encoderStep up s).drl.dacCode =
    s.drl.dacCode := by
  unfold encoderStep; (try dsimp only); (repeat' split) <;> simp

end Sys2Proof.Laws
end

