-- ==== Sys2Proof/Laws/Steps.lean ====
section
/-! SUPPORT. What a step does, said once: `exec` on a part that is held in reset and on one that is not, the shape of a
request, and the induction over the commands that every invariant uses. -/

namespace Sys2Proof.Laws

open Sys2Proof.Machine

/-- The step takes the command at the front of the queue. -/
theorem step_front (c : Instr) (rest : List Instr) (s : State) :
    step { s with pending := c :: rest } = exec c { s with pending := rest } := rfl

/-- A command acts on a part that is not held in reset. -/
theorem live_running (f : State → State) (s : State) (h : s.inReset = false) : live f s = .next (f s) := by
  simp [live, h]

/-- A command leaves a part that is held in reset as it is. -/
theorem live_held (f : State → State) (s : State) (h : s.inReset = true) : live f s = .next s := by
  simp [live, h]

/-- A predicate kept by the effect is kept by the command. -/
theorem live_keeps {I : State → Prop} {f : State → State} {s t : State} (hs : I s) (hf : I s → I (f s))
    (h : live f s = .next t) : I t := by
  unfold live at h
  split at h <;> cases h
  · exact hs
  · exact hf hs

/-- A request with room in the queue is counted, decided and answered. -/
theorem takeRequest_room (k tag : Byte) (d : State → Answer) (s : State) (h : s.cli.restartPending = false)
    (hr : s.cli.replies.length < 4) : takeRequest k tag d s = answerRequest k tag d s := by
  simp [takeRequest, h, Config.replyCapacity, Nat.not_le.mpr hr]

/-- The three ways a request goes. -/
theorem takeRequest_cases (k tag : Byte) (d : State → Answer) (s : State) :
    takeRequest k tag d s = s ∨
    takeRequest k tag d s = countLink (fun c => { c with overruns := satSucc max32 c.overruns }) s ∨
    (s.cli.replies.length < 4 ∧ takeRequest k tag d s = answerRequest k tag d s) := by
  unfold takeRequest
  split
  · exact .inl rfl
  · split
    · exact .inr (.inl rfl)
    · exact .inr (.inr ⟨by simp_all [Config.replyCapacity], rfl⟩)

/-- The reset of a Restart takes effect only while one is pending; otherwise nothing changes (R194). -/
theorem restartEffect_cases (raw : SafetyLevels) (s : State) :
    restartEffect raw s = s ∨ (s.cli.restartPending = true ∧ restartEffect raw s = resetPart raw s) := by
  unfold restartEffect
  split
  · rename_i h
    exact .inr ⟨(Bool.and_eq_true_iff.mp h).1, rfl⟩
  · exact .inl rfl

/-- The decision of a kind is one of the table's or UNKNOWN_KIND. -/
theorem decisionOf_mem (k : Byte) : decisionOf k = decideUnknown ∨ ∃ x ∈ requestTable, decisionOf k = x.2 := by
  unfold decisionOf
  split
  · rename_i x h
    exact .inr ⟨x, List.mem_of_find?_eq_some h, rfl⟩
  · exact .inl rfl

/-- Every decision of the part. -/
def decisions : List Decision := decideUnknown :: requestTable.map (·.2)

/-- A statement about every decision is one about each. -/
theorem forall_decisions (P : Decision → Prop) :
    (∀ d ∈ decisions, P d) ↔
      P decideUnknown ∧ P decideIdentify ∧ P decideStatus ∧ P decideReadCounters ∧ P decideConfigureFrame ∧ P
      decideConfigureClassifier ∧ P decideConfigureHeads ∧ P decideLoadCalibration ∧ P decideSetSpecimen ∧ P
      decideBeginProgram ∧ P decideProgramSegments ∧ P decideReadProgramState ∧ P decideClearVisited ∧ P
      decideSetHoldPoints ∧ P decideStartTest ∧ P decidePause ∧ P decideResume ∧ P decideAbort ∧ P
      decideEnableDrive ∧ P decideDisableDrive ∧ P decideMove ∧ P decideReturn ∧ P decideStopMove ∧ P decideTare ∧
      P decideHeadCommand ∧ P decideHeadStatus ∧ P decideRemoveExtensometer ∧ P decideReadSamples ∧ P
      decideRelease ∧ P decideReadResults ∧ P decideQueryAttention ∧ P decideAcknowledge ∧ P decideSetMask ∧ P
      decideClearTrip ∧ P decideRestart := by
  simp [decisions, requestTable]

/-- No decision touches the reply queue: the interface alone places replies in it (R184). -/
theorem decide_replies : ∀ d ∈ decisions, ∀ p s, (d p s).state.cli.replies = s.cli.replies := by
  rw [forall_decisions]
  simp [decideUnknown, refuse]

/-- What a predicate must be kept by, so that every step keeps it. -/
structure Kept (I : State → Prop) : Prop where
  reset : ∀ raw s, I s → I (resetPart raw s)
  held : ∀ s, I s → I (holdInReset s)
  count : ∀ f s, I s → I (countLink f s)
  queue : ∀ k tag a, I a.state → a.state.cli.replies.length < 4 → I (queueReply k tag a)
  receive : ∀ r bs s, I s → I (receive r bs s)
  drop : ∀ s, I s → I (dropFrame s)
  pop : ∀ s, I s → I (popReply s)
  decide : ∀ d ∈ decisions, ∀ p s, I s → I (d p s).state
  conversion : ∀ c s, I s → I (conversion c s)
  level : ∀ s, I s → I (levelExpiry s)
  unrest : ∀ s, I s → I (unrestExpiry s)
  downRange : ∀ s, I s → I (downRangeReached s)
  enableWait : ∀ b s, I s → I (enableWaitReached b s)
  tareWait : ∀ s, I s → I (tareWaitReached s)
  startTare : ∀ s, I s → I (startTareReached s)
  readback : ∀ s, I s → I (reportReadback s)
  paceDelay : ∀ s, I s → I (paceDelayReached s)
  asserted : ∀ i s, I s → I (inputGoesAsserted i s)
  released : ∀ i s, I s → I (inputGoesInactive i s)
  sample : ∀ raw s, I s → I (sampleInputs raw s)
  poll : ∀ s, I s → I (pollRound s)
  arbiter : ∀ s, I s → I (arbiter s)
  timeout : ∀ b s, I s → I (replyTimeout b s)
  replyEnd : ∀ bs s, I s → I (replyEnd bs s)
  headFails : ∀ h s, I s → I (headFails h s)
  failedPolls : ∀ h s, I s → I (failedPolls h s)
  pollDue : ∀ s, I s → I (confirmationDue s)
  confirmationOut : ∀ s, I s → I (confirmationOut s)
  encoder : ∀ b s, I s → I (encoderStep b s)

theorem Kept.request {I : State → Prop} (K : Kept I) (k tag : Byte) (d : Decision) (hd : d ∈ decisions) (p : List Byte)
    (s : State) (hs : I s) : I (takeRequest k tag (d p) s) := by
  rcases takeRequest_cases k tag (d p) s with h | h | ⟨hr, h⟩ <;> rw [h]
  · exact hs
  · exact K.count _ _ hs
  · exact K.queue _ _ _ (K.decide d hd p _ (K.count _ _ hs)) (by rw [decide_replies d hd]; simpa using hr)

theorem Kept.handOn {I : State → Prop} (K : Kept I) (k tag : Byte) (p : List Byte) (s : State) (hs : I s) :
    I (handOn k tag p s) := by
  refine K.request k tag (decisionOf k) ?_ p s hs
  rcases decisionOf_mem k with h | ⟨x, hx, h⟩ <;> rw [h]
  · exact List.mem_cons_self
  · exact List.mem_cons_of_mem _ (List.mem_map_of_mem hx)

theorem Kept.byte {I : State → Prop} (K : Kept I) (b : Byte) (stop : Bool) (s : State) (hs : I s) :
    I (receiveByte b stop s) := by
  have hc : ∀ bs s, I s → I (completeFrame bs s) := by
    intro bs s hs
    unfold completeFrame
    split
    · exact hs
    · split
      · exact K.handOn _ _ _ _ hs
      · exact K.count _ _ hs
  unfold receiveByte
  split
  · unfold receiveGood
    dsimp only
    repeat' split
    all_goals first
      | exact hs
      | exact K.receive _ _ _ hs
      | exact K.count _ _ (K.drop _ hs)
      | exact hc _ _ (K.drop _ hs)
  · split
    · exact hs
    · exact K.count _ _ (K.drop _ hs)

/-- The induction over the commands: a predicate that every effect keeps is kept by every command. -/
theorem Kept.exec {I : State → Prop} (K : Kept I) (c : Instr) (s t : State) (hs : I s) (h : exec c s = .next t) :
    I t := by
  cases c with
  | powerOnReset raw => cases h; exact K.reset _ _ hs
  | resetHeld => cases h; exact K.held _ hs
  | restartTakesEffect raw =>
    refine live_keeps hs (fun hs => ?_) h
    rcases restartEffect_cases raw s with e | ⟨_, e⟩ <;> rw [e]
    · exact hs
    · exact K.reset _ _ hs
  | controlLinkByte b stop => exact live_keeps hs (K.byte b stop s) h
  | interbyteTimeout =>
    refine live_keeps hs (fun hs => ?_) h
    unfold interbyteGap
    split
    · exact hs
    · exact K.count _ _ (K.drop _ hs)
  | replySent raw =>
    refine live_keeps hs (fun hs => ?_) h
    unfold replyOut
    repeat' split
    · exact hs
    · exact K.reset _ _ (K.pop _ hs)
    · exact K.pop _ hs
  | unknownKind k tag p => exact live_keeps hs (K.handOn k tag p s) h
  | conversionComplete c => exact live_keeps hs (K.conversion c s) h
  | levelTimerExpiry => exact live_keeps hs (K.level s) h
  | unrestTimerExpiry => exact live_keeps hs (K.unrest s) h
  | downRangeCountReached => exact live_keeps hs (K.downRange s) h
  | enableWaitExpiry b => exact live_keeps hs (K.enableWait b s) h
  | tareWaitTimeout => exact live_keeps hs (K.tareWait s) h
  | startTareTimeout => exact live_keeps hs (K.startTare s) h
  | readbackMismatchLimit => exact live_keeps hs (K.readback s) h
  | paceDelayExpiry => exact live_keeps hs (K.paceDelay s) h
  | safetyInputAsserted i => exact live_keeps hs (K.asserted i s) h
  | safetyInputReleased i => exact live_keeps hs (K.released i s) h
  | safetyInputSample raw => exact live_keeps hs (K.sample raw s) h
  | pollRoundDue => exact live_keeps hs (K.poll s) h
  | gaugeTransactionStart => exact live_keeps hs (K.arbiter s) h
  | gaugeReplyTimeout b => exact live_keeps hs (K.timeout b s) h
  | gaugeTransactionEnd bs => exact live_keeps hs (K.replyEnd bs s) h
  | headFailureCondition h' => exact live_keeps hs (K.headFails h' s) h
  | failedPollLimit h' => exact live_keeps hs (K.failedPolls h' s) h
  | confirmationPollDue => exact live_keeps hs (K.pollDue s) h
  | confirmationTimeout => exact live_keeps hs (K.confirmationOut s) h
  | encoderEdge b => exact live_keeps hs (K.encoder b s) h
  | _ => exact live_keeps hs (K.request _ _ _ (by simp [decisions, requestTable]) _ s) h

/-- A predicate that every effect keeps and that does not read the queue of commands is kept by every step. -/
theorem Kept.step {I : State → Prop} (K : Kept I) (queue : ∀ s q, I s → I { s with pending := q }) (s t : State)
    (hs : I s) (h : step s = .next t) : I t := by
  unfold Machine.step at h
  split at h
  · cases h; exact hs
  · exact K.exec _ _ _ (queue _ _ hs) h

end Sys2Proof.Laws
end

