-- ==== Sys2Proof/Laws/Requests.lean ====
section
/-! SUPPORT. What the taking of a request does, said once: under `State.takesRequest` the frame is counted, the
decision is made on the counted state, and the reply joins the queue. -/

namespace Sys2Proof.Laws

open Sys2Proof.Machine

/-- The saturating count of 32 bits. -/
theorem satSucc_max32 (n : Nat) : satSucc max32 n = counted32 n := by
  unfold satSucc max32 counted32
  split <;> omega

/-- The counting of a frame touches the counters of the link alone. -/
@[simp] theorem counted_frame (s : State) :
    s.counted.tsq = s.tsq ∧ s.counted.drl = s.drl ∧ s.counted.fcu = s.fcu ∧ s.counted.glc = s.glc ∧
    s.counted.exm = s.exm ∧ s.counted.evu = s.evu ∧ s.counted.sms = s.sms ∧ s.counted.lmu = s.lmu ∧
    s.counted.latestPoint = s.latestPoint ∧ s.counted.inReset = s.inReset ∧ s.counted.clock = s.clock ∧
    s.counted.freeCount = s.freeCount ∧ s.counted.pending = s.pending ∧ s.counted.cli.replies = s.cli.replies ∧
    s.counted.cli.receiver = s.cli.receiver ∧ s.counted.cli.partialFrame = s.cli.partialFrame ∧
    s.counted.cli.restartPending = s.cli.restartPending ∧ s.counted.cli.mask = s.cli.mask ∧
    s.counted.cli.pending = s.cli.pending ∧ s.counted.cli.notices = s.cli.notices := by
  simp [State.counted]

/-- What reads no link counter reads the same on the counted state. -/
@[simp] theorem counted_reads (s : State) :
    s.counted.inTest = s.inTest ∧ s.counted.header = s.header ∧ s.counted.segments = s.segments ∧
    s.counted.area = s.area ∧ s.counted.gaugeLength = s.gaugeLength ∧ s.counted.latest = s.latest := by
  simp [State.inTest, State.header, State.segments, State.area, State.gaugeLength, State.latest]

/-- A request that completes is decided on the counted state and answered. -/
theorem request_runs (k tag : Byte) (d : State → Answer) (s : State) (h : s.takesRequest) :
    live (takeRequest k tag d) s = .next (queueReply k tag (d s.counted)) := by
  obtain ⟨h1, h2, h3⟩ := h
  rw [live_running _ _ h1, takeRequest_room _ _ _ _ h2 h3]
  simp [answerRequest, countLink, State.counted, State.onCli, satSucc_max32, counted32]

/-- A decision that leaves the counted state as it stands leaves the reply alone. -/
theorem queueReply_counted (k tag : Byte) (x : Status) (fields : List Byte) (s : State) :
    queueReply k tag ⟨x, fields, s.counted⟩ = s.replied (replyKind k) tag (x.byte :: fields) := rfl

/-- The command of a frame is the handing on of its kind, tag and payload. -/
theorem exec_ofRequest (k tag : Byte) (p : List Byte) (s : State) :
    exec (Instr.ofRequest k tag p) s = live (handOn k tag p) s := by
  rcases k with ⟨⟨n, hn⟩⟩
  simp only [Nat.reducePow] at hn
  interval_cases n <;> rfl

/-- The kind of the reply (R184). -/
theorem replyKind_eq (k : Byte) : replyKind k = if k.toNat < 128 then k + 0x80 else k := by
  revert k
  decide

end Sys2Proof.Laws
end

