-- ==== Sys2Proof/Laws/Validation.lean ====
section
/-! SUPPORT. What the checks of the model accept, said once in the terms of the statements: the validation of a program
(R4, R5, R9 to R11), the ranges and payloads of the specimen record and the frame configuration (R3, R48, R196), the
heads whose lift is retried (R128), and what the arbiter finds wanted (R99, R100). -/

namespace Sys2Proof.Laws

open Sys2Proof.Machine

/-- The check of the plan header accepts exactly the lawful headers. -/
theorem headerValid_iff (h : PlanHeader) : headerValid h = true ↔ h.lawful := by
  simp only [headerValid, headerRanges, headerRelations, yieldLimitsValid, within, Bool.and_eq_true, Bool.or_eq_true,
    decide_eq_true_eq]
  constructor
  · intro h
    refine ⟨?_, ?_, ?_, ?_, ?_, ?_⟩ <;> omega
  · rintro ⟨h1, h2, h3, h4, h5, h6⟩
    omega

/-- The check of a threshold accepts exactly the lawful end conditions. -/
theorem thresholdValid_iff (c : EndCondition) : thresholdValid c = true ↔ c.lawful := by
  obtain ⟨k, t⟩ := c
  cases k <;> cases t <;>
    simp [thresholdValid, CondKind.thresholdRange, EndCondition.lawful, magnitudeWithin, withinInt] <;> omega

/-- The check of an end condition in a segment of a mode. -/
theorem conditionValid_iff (h : PlanHeader) (m : ControlMode) (c : EndCondition) :
    conditionValid h m c = true ↔ c.lawful ∧ (c.kind = .yieldDetected ∨ c.kind = .yieldEnded → 0 < h.yieldDrop) ∧
      (m = .dwell → c.kind = .timeElapsed ∨ c.kind = .loadSettled) := by
  rw [← thresholdValid_iff]
  simp [conditionValid, CondKind.onYield, CondKind.onDwell, Nat.pos_iff_ne_zero, and_assoc]
  tauto

/-- The check of a segment accepts exactly the lawful segments. -/
theorem segmentValid_iff (h : PlanHeader) (g : Segment) : segmentValid h g = true ↔ g.lawful h := by
  obtain ⟨m, r, cs, e⟩ := g
  cases m <;> simp [segmentValid, rateValid, Segment.lawful, conditionValid_iff, Nat.pos_iff_ne_zero]

/-- A lawful program has no failing index. -/
theorem failingIndex_lawful (h : PlanHeader) (gs : List Segment) (hh : h.lawful) (hg : ∀ g ∈ gs, g.lawful h) :
    failingIndex h gs = none := by
  simp only [failingIndex, (headerValid_iff h).2 hh, if_true, List.findIdx?_eq_none_iff, Bool.not_eq_false']
  exact fun g m => (segmentValid_iff h g).2 (hg g m)

/-- An unlawful header fails with 255. -/
theorem failingIndex_header (h : PlanHeader) (gs : List Segment) (hh : ¬ h.lawful) : failingIndex h gs = some 255 := by
  rw [failingIndex, if_neg (mt (headerValid_iff h).1 hh)]

/-- Under a lawful header the first unlawful segment fails with its index. -/
theorem failingIndex_segment (h : PlanHeader) (before after : List Segment) (g : Segment) (hh : h.lawful)
    (hb : ∀ x ∈ before, x.lawful h) (hg : ¬ g.lawful h) :
    failingIndex h (before ++ g :: after) = some before.length := by
  rw [failingIndex, if_pos ((headerValid_iff h).2 hh), List.findIdx?_append, List.findIdx?_eq_none_iff.2
    (fun x m => by rw [(segmentValid_iff h x).2 (hb x m)]; rfl), List.findIdx?_cons, if_pos]
  · simp
  · simpa using mt (segmentValid_iff h g).1 hg

/-! ### The specimen record and the frame configuration -/

/-- The check of a specimen record accepts exactly the lawful records. -/
theorem specimen_inRange_iff (x : Specimen) : x.inRange = true ↔ x.lawful := by
  obtain ⟨id, a, g, l, m, t⟩ := x
  cases m <;> cases t <;>
    simp [Specimen.inRange, Specimen.lawful, plainText, List.all_eq_true, printable] <;> grind

/-- Four bytes are the encoding of the value read from them. -/
theorem u32_ofBytes (a b c d : Byte) : u32 (ofBytes [a, b, c, d]) = [a, b, c, d] := by
  have ha := a.isLt; have hb := b.isLt; have hc := c.isLt; have hd := d.isLt
  simp only [u32, ofBytes, List.foldl]
  refine congr (congrArg _ ?_) (congr (congrArg _ ?_) (congr (congrArg _ ?_) (congr (congrArg _ ?_) rfl))) <;>
    · apply BitVec.eq_of_toNat_eq
      simp only [BitVec.toNat_ofNat]
      omega

/-- Four bytes at an offset are the encoding of the value read there. -/
theorem u32_natAt (p : List Byte) (i : Nat) (h : i + 4 ≤ p.length) : u32 (natAt p i) = (p.drop i).take 4 := by
  obtain ⟨a, b, c, d, h⟩ : ∃ a b c d, (p.drop i).take 4 = [a, b, c, d] := by
    have : ((p.drop i).take 4).length = 4 := by simp; omega
    match (p.drop i).take 4, this with
    | [a, b, c, d], _ => exact ⟨a, b, c, d, rfl⟩
  rw [natAt, h, u32_ofBytes]

/-- The same for a signed value. -/
theorem i32_intAt (p : List Byte) (i : Nat) (h : i + 4 ≤ p.length) : i32 (intAt p i) = (p.drop i).take 4 := by
  rw [← u32_natAt p i h]
  simp only [i32, intAt, ofBytesSigned, natAt, BitVec.ofInt_toInt, BitVec.toNat_ofNat]
  simp only [u32]
  refine congr (congrArg _ ?_) (congr (congrArg _ ?_) (congr (congrArg _ ?_) (congr (congrArg _ ?_) rfl))) <;>
    · apply BitVec.eq_of_toNat_eq
      simp only [BitVec.toNat_ofNat]
      omega

/-- A signed value read from a payload has a place of four bytes. -/
theorem fits32_intAt (p : List Byte) (i : Nat) : fits32 (intAt p i) = true := by
  have h1 : intAt p i < 2147483648 := BitVec.toInt_lt
  have h2 : -2147483648 ≤ intAt p i := BitVec.le_toInt _
  unfold fits32
  exact Bool.and_eq_true_iff.2 ⟨decide_eq_true h2, decide_eq_true (by omega)⟩

/-- The seventeen bytes of a text that fits carry the text read from them. -/
theorem carriesText_textAt (p : List Byte) (i : Nat) (h : i + 17 ≤ p.length) (hn : (textAt p i).1 ≤ 16) :
    carriesText ((p.drop i).take 17) (textAt p i).2 := by
  have hb : (p.drop i).take 17 = byteAt p i :: (p.drop (i + 1)).take 16 := by
    rw [byteAt, List.getD_eq_getElem _ _ (by omega), List.drop_eq_getElem_cons (by omega)]
    rfl
  have hl : (textAt p i).2.length = (byteAt p i).toNat := by
    simp only [textAt] at hn ⊢
    simp
    omega
  refine ⟨((p.drop (i + 1)).take 16).drop (byteAt p i).toNat, ?_, ?_⟩
  · rw [hb, hl, List.append_assoc]
    simp [u8, textAt]
  · rw [hl]
    simp only [textAt] at hn
    simp
    omega

/-- A payload of 52 bytes carries the record that is read from it. -/
theorem carriedBy_of_specimenOf (p : List Byte) (x : Specimen) (h : p.length = 52) (hx : specimenOf p = some x) :
    x.carriedBy p := by
  have cut : p = (p.drop 0).take 17 ++ (p.drop 17).take 4 ++ (p.drop 21).take 4 ++ (p.drop 25).take 4 ++
      (p.drop 29).take 5 ++ (p.drop 34).take 18 := by
    apply List.ext_getElem <;> simp [List.getElem_append] <;> grind
  have one : ∀ i n, i + 1 + n ≤ 52 → (p.drop i).take (1 + n) = byteAt p i :: (p.drop (i + 1)).take n := by
    intro i n hi
    rw [byteAt, List.getD_eq_getElem _ _ (by omega), List.drop_eq_getElem_cons (by omega), Nat.add_comm]
    rfl
  have marker : ∀ i b, ynAt p i = some b → byteAt p i = if b then 1 else 0 := by
    intro i b hb
    unfold ynAt ynOf at hb
    grind
  unfold specimenOf at hx
  cases hn : ynAt p 29 with
  | none => simp [hn] at hx
  | some n => ?_
  cases ht : ynAt p 34 with
  | none => simp [hn, ht] at hx
  | some t => ?_
  simp only [hn, ht, bind, Option.bind] at hx
  split at hx
  · cases hx
  · rename_i hlong
    cases hx
    refine ⟨_, (p.drop 29).take 5, (p.drop 34).take 18, ?_, carriesText_textAt p 0 (by omega) (by omega), ?_, ?_⟩
    · rw [u32_natAt p 17 (by omega), u32_natAt p 21 (by omega), u32_natAt p 25 (by omega)]
      exact cut
    · refine ⟨(p.drop 30).take 4, by simp; omega, ?_⟩
      rw [one 29 4 (by omega), marker 29 n hn]
      cases n <;> simp [u8, u32_natAt p 30 (by omega)]
    · refine ⟨(p.drop 35).take 17, by simp; omega, ?_⟩
      rw [one 34 17 (by omega), marker 34 t ht]
      cases t <;> simp [u8]
      exact carriesText_textAt p 35 (by omega) (by simp at hlong; omega)

/-- The check of a frame configuration accepts exactly the lawful ones among those with a place for their limits. -/
theorem frame_inRange_iff (f : FrameConfig) :
    (f.inRange = true ∧ fits32 f.softMin = true ∧ fits32 f.softMax = true) ↔ f.lawful := by
  have h : divRound (f.capacity * 110) 100 = (((f.capacity * 110 + 50) / 100 : Nat) : Int) := by
    have e : ((f.capacity : Int) * 110).natAbs = f.capacity * 110 := by omega
    simp only [divRound, e]
    rw [if_pos (by simp)]
    norm_cast
    omega
  simp only [FrameConfig.inRange, FrameConfig.lawful, fits32, h, Bool.and_eq_true, decide_eq_true_eq]
  omega

/-- A payload of 68 bytes is that of the configuration read from it. -/
theorem payload_frameOf (p : List Byte) (h : p.length = 68) : (frameOf p).payload = p := by
  simp only [FrameConfig.payload, frameOf]
  iterate 17 first | rw [u32_natAt _ _ (by omega)] | rw [i32_intAt _ _ (by omega)]
  have last : (p.drop 64).take 4 = p.drop 64 := List.take_of_length_le (by simp; omega)
  have join : ∀ i, (p.drop i).take 4 ++ p.drop (i + 4) = p.drop i := fun i => by
    rw [← List.drop_drop, List.take_append_drop]
  simp only [List.append_assoc, last]
  iterate 16 rw [join]
  rfl

/-! ### Heads and the slot -/

/-- A LIFT stands in the model's sense exactly where one has been asked for. -/
theorem stands_lift_iff (s : State) (h : Head) : s.glc.stands h .lift = true ↔ s.liftAsked h := by
  simp only [Glc.stands, State.liftAsked, Bool.or_eq_true, List.any_eq_true, Bool.and_eq_true, decide_eq_true_eq]
  refine or_congr ?_ ⟨fun ⟨⟨a, b⟩, m, e, f⟩ => ?_, fun m => ⟨_, m, rfl, rfl⟩⟩
  · cases s.glc.slot <;> simp
  · subst e f
    exact m

/-- The lifts that the model finds missing are those of the heads left on the specimen. -/
theorem mem_liftsMissing (s : State) (h : Head) : h ∈ liftsMissing s ↔ s.leftOn h := by
  have : h ∈ [Head.front, .rear] := by cases h <;> simp
  simp [liftsMissing, liftMissing, State.leftOn, ← stands_lift_iff, this]

/-- Lifts are retried exactly where R128 says so. -/
theorem liftRetry_iff (s : State) : liftRetry s.exm = true ↔ s.retriesLifts := by
  simp [liftRetry, State.retriesLifts]

/-- A head wants stream reads exactly where R100 says so. -/
theorem wantsStream_iff (s : State) (h : Head) : wantsStream s h = true ↔ s.streams h := by
  simp [wantsStream, State.streams]

/-- The slot offers the arbiter nothing exactly where it rests. -/
theorem slotChoice_none_iff (s : State) : slotChoice s = none ↔ s.slotRests := by
  unfold slotChoice State.slotRests
  cases s.glc.slot with
  | none => simp
  | some c => cases hp : c.phase <;> simp [hp]

/-- The start of a transaction counts it under its operation. -/
theorem started_eq (o : GaugeOp) (k : GaugeCounters) : k.started o = k.oneMore o := by
  have h : ∀ n, satSucc max32 n = counted32 n := fun n => by
    have e : max32 = 4294967295 := rfl
    unfold satSucc counted32
    split <;> omega
  cases o <;> simp [GaugeCounters.started, GaugeCounters.oneMore, h]

end Sys2Proof.Laws
end

