-- ==== Sys2Proof/Tests/Slice0.lean ====
section
/-! SUPPORT. The model's own tests: the smoke test of well-formedness, worked examples of the manual, and for every
statement with hypotheses a witness that they can be met together, clause by clause. -/

namespace Sys2Proof.Tests

open Sys2Proof.Machine

-- One test after the other: a test waits for the kernel, and many waiting at once take a thread each.
set_option Elab.async false
-- The premises of the statements are long conjunctions, whose decision is found part by part.
set_option synthInstance.maxHeartbeats 200000
set_option synthInstance.maxSize 4096

/-! ### Small states -/

/-- The part after reset, able to take a request. -/
abbrev up : State := State.reset

/-- The sequencer in a state. -/
abbrev seqIn (q : SeqState) (s : State) : State := { s with tsq := { s.tsq with state := q } }

/-- The drive in a state, with max speed 20,000. -/
abbrev driveIn (d : DriveState) (s : State) : State :=
  { s with drl := { s.drl with state := d, frame := { s.drl.frame with maxSpeed := 20000 } } }

/-- The queue holds this many replies. -/
abbrev withReplies (n : Nat) (s : State) : State :=
  { s with cli := { s.cli with replies := List.replicate n ⟨0x81, 0, [0]⟩ } }

/-- A restart is pending. -/
abbrev restarting (s : State) : State := { s with cli := { s.cli with restartPending := true } }

/-- The head FRONT is configured and in a state. -/
abbrev frontIn (st : HeadState) (s : State) : State :=
  { s with exm := { s.exm with heads := { s.exm.heads with
      front := { HeadEntry.reset with configured := true, state := st } } } }

/-- A specimen of the worked example of chapter 4: A0 31,250. -/
abbrev coupon : Specimen := ⟨[0x41], 31250, 5000, 8000, none, none⟩

/-- A segment that ends the test when the maximum has been passed. -/
abbrev pull : Segment := ⟨.positionRate, 1000, [⟨.maxPassed, none⟩], .endTest⟩

/-- A plan header that allows nominal calibration and asks for nothing else. -/
abbrev plain : PlanHeader := { PlanHeader.zero with allowNominal := true, windowLength := 64, decimation := 1 }

/-- READY for a test: program, specimen, drive IDLE, trip CLEAR, ring empty. -/
abbrev ready : State :=
  driveIn .idle { up with tsq := { up.tsq with
    state := .ready, specimen := some coupon, program := some ⟨plain, [pull]⟩, lastLoad := .valid } }

/-- A record of the ring. -/
abbrev record (n : Nat) : SampleRecord := ⟨n, .testStart, none, .zero⟩

/-- RUNNING in segment 0 on travel alone, as a test begins that has no head: TEST_START is in the ring. -/
abbrev running : State :=
  { ready with
    tsq := { ready.tsq with state := .running, currentSegment := some 0 }
    drl := { ready.drl with state := .running, mode := some .positionRate, rate := 1000 }
    exm := { ready.exm with source := .estimated, removal := .closed }
    evu := { ready.evu with result := some .fresh }
    sms := { ready.sms with ring := [record 1], newest := 1, recording := true, pacing := .counting } }

/-- A trip is latched, by the input UPPER_LIMIT, which has been released since. -/
abbrev tripped : State :=
  { driveIn .tripped up with
    lmu := { up.lmu with
      trip := .latched, trips := 1, record := some ⟨.upperLimit, none, 0⟩
      inputs := { up.lmu.inputs with upperLimit := ⟨.inactive, 0, true⟩ } }
    cli := { up.cli with pending := { up.cli.pending with trip := true } } }

/-- A conversion with good lines. -/
abbrev quiet (count : Int) : Conversion := ⟨count, 0, true, false⟩

/-- The state after a command. -/
def after (c : Instr) (s : State) : State :=
  match exec c s with
  | .next t => t
  | .fault _ => s
  | .refused _ => s

/-! ### Well-formedness: each check accepts and refuses -/

theorem test_wf_payload : (Instr.identify 1 []).wf = true ∧ (Instr.startTest 1 (List.replicate 512 0)).wf = true := by
  decide +kernel
theorem test_wf_payload_long :
    ∀ c ∈ [Instr.identify 1, .status 1, .readCounters 1, .configureFrame 1, .configureClassifier 1, .configureHeads 1,
      .loadCalibration 1, .setSpecimen 1, .beginProgram 1, .programSegments 1, .readProgramState 1, .clearVisited 1,
      .setHoldPoints 1, .startTest 1, .pause 1, .resume 1, .abort 1, .enableDrive 1, .disableDrive 1, .move 1,
      .returnMove 1, .stopMove 1, .tare 1, .headCommand 1, .headStatus 1, .removeExtensometer 1, .readSamples 1,
      .release 1, .readResults 1, .queryAttention 1, .acknowledge 1, .setMask 1, .clearTrip 1, .restart 1,
      .unknownKind 0x00 1], (c (List.replicate 513 0)).wf = false := by
  simp only [List.forall_mem_cons]
  decide +kernel
theorem test_wf_unknown_kind :
    (Instr.unknownKind 0x00 1 []).wf = true ∧ (Instr.unknownKind 0x80 1 []).wf = true ∧
    (Instr.unknownKind 0x01 1 []).wf = false ∧ (Instr.unknownKind 0x7F 1 []).wf = false := by decide +kernel
theorem test_wf_readback :
    (Instr.conversionComplete ⟨0, -137625, true, false⟩).wf = true ∧
    (Instr.conversionComplete ⟨0, 137626, true, false⟩).wf = false := by decide +kernel
theorem test_wf_gauge_reply :
    (Instr.gaugeTransactionEnd (List.replicate 28 0)).wf = true ∧
    (Instr.gaugeTransactionEnd (List.replicate 29 0)).wf = false := by decide +kernel

/-! ### Worked examples of the manual -/

/-- Chapter 4's table. -/
abbrev cellTable : List Breakpoint := [⟨-8000000, -2500300⟩, ⟨0, 40⟩, ⟨4000000, 1250120⟩, ⟨8000000, 2500500⟩]

theorem test_calibration :
    calibrated 2500000 .a (some cellTable) 6000000 = 1875310 ∧
    calibrated 2500000 .a (some cellTable) 8300000 = 2594279 ∧
    calibrated 2500000 .d none 3000001 = 7500 ∧ divRound (1875264 * 1000) 31250 = 60008 := by decide +kernel
theorem test_braking : isqrt 8000000000 = 89442 ∧ isqrt 8800000 = 2966 := by decide +kernel
theorem test_rounding : divRound 5 2 = 3 ∧ divRound (-5) 2 = -3 ∧ divRound 5 (-2) = -3 ∧ divRound 4 3 = 1 := by decide +kernel
theorem test_readback : readbackMismatch 200000 0 4000 = false ∧ readbackMismatch 200000 0 4001 = true := by decide +kernel
theorem test_check_value :
    crc 0xFFFF [0x31, 0x32, 0x33, 0x34, 0x35, 0x36, 0x37, 0x38, 0x39] = 0x29B1 ∧
    crc 0 [0x31, 0x32, 0x33, 0x34, 0x35, 0x36, 0x37, 0x38, 0x39] = 0x31C3 := by decide +kernel
/-- Position rate 8,000 with P = 0 climbs by 50 a point and reaches 8,000 on the 160th (R53). -/
theorem test_acceleration :
    let f := { FrameConfig.default with maxSpeed := 20000 }
    let point : Drl → Drl := fun d => d.write (d.formed 8000)
    (point^[159] { Drl.reset with frame := f }).velocity = 7950 ∧
    (point^[160] { Drl.reset with frame := f }).velocity = 8000 := by decide +kernel
theorem test_status_fits_a_frame : (statusFields State.reset).length ≤ 511 := by decide +kernel
theorem test_table_word : decodeTableWord 8 0x01 = none := by decide +kernel

/-- A whole Identify frame, byte by byte, is answered. -/
theorem test_identify_frame :
    let bytes : List Byte := [0xC3, 0x00, 0x00, 0x05, 0x01] ++ u16 (crc 0xFFFF [0x00, 0x00, 0x05, 0x01]).toNat
    let s := bytes.foldl (fun s b => after (.controlLinkByte b true) s) up
    (s.cli.receiver = .hunt ∧ s.cli.replies.map (fun r => (r.kind, r.tag, r.payload.take 1)) = [(0x81, 0x05, [0x00])] ∧
      s.cli.counters.framesTaken = 1) := by decide +kernel

theorem test_enable :
    (after (.enableDrive 1 []) (driveIn .disabled up)).drl.state = .enabling ∧
    (after (.enableDrive 1 []) (driveIn .disabled up)).driveEnable = true := by decide +kernel

/-- A reset that finds the guard open and the lower limit asserted: the first in the order of the inputs is the first
cause, the other a further cause (R178). -/
theorem test_reset_with_open_guard :
    let t := after (.powerOnReset ⟨.inactive, .asserted, .inactive, .asserted⟩) up
    t.drl.state = .tripped ∧ t.lmu.record = some ⟨.guardOpen, none, 0x08⟩ ∧ t.lmu.trips = 1 ∧ t.attn = true := by decide +kernel

/-- With no head and no start-time tare or zero the begin point and the entry point follow one another, and the
drive runs. -/
theorem test_start_to_running :
    let v := after (.conversionComplete (quiet 0)) (after (.conversionComplete (quiet 0))
      (after (.startTest 1 []) ready))
    v.tsq.state = .running ∧ v.drl.state = .running ∧ v.exm.source = .estimated ∧ v.tsq.currentSegment = some 0 := by
  decide +kernel

/-! ### Witnesses: the hypotheses of the statements can be met together -/

/-- With 3 replies waiting a request is taken; with 4 it is not. -/
theorem test_witness_takesRequest :
    up.takesRequest ∧ (withReplies 3 up).takesRequest ∧ ¬ (withReplies 4 up).takesRequest := by decide

theorem test_witness_HeldInReset :
    ({ up with inReset := true } : State).inReset = true ∧ Instr.actsInReset .interbyteTimeout = false := by decide

theorem test_witness_ResetSamplesSafetyInputs :
    (allInputs.find? fun i => PerInputGet safeLevels i = .asserted) = none ∧
    (allInputs.find? fun i => PerInputGet (⟨.inactive, .inactive, .inactive, .asserted⟩ : SafetyLevels) i = .asserted) =
      some .lowerLimit := by decide

theorem test_witness_RestartResetsThePart :
    up.takesRequest ∧ up.inReset = false ∧ up.cli.restartPending = false ∧ (restarting up).cli.replies = [] ∧
    (let s := (restarting up).replied 0xFF 9 [0x00]
     s.inReset = false ∧ s.cli.restartPending = true ∧ s.cli.replies = [⟨0xFF, 9, [0x00]⟩]) ∧
    (let s := ((restarting up).replied 0xFF 8 [0x04]).replied 0xFF 9 [0x00]
     s.cli.restartPending = true ∧ s.cli.replies = ⟨0xFF, 8, [0x04]⟩ :: [⟨0xFF, 9, [0x00]⟩] ∧
     ([0x04] : List Byte) ≠ [0x00]) := by decide

/-- With another reply ahead the reset of a Restart waits; with its own at the front it comes (R194). -/
theorem test_restart_waits_for_its_reply :
    let s := ((restarting up).replied 0x81 8 [0x04]).replied 0xFF 9 [0x00]
    after (.restartTakesEffect safeLevels) s = s ∧
    (after (.restartTakesEffect safeLevels) (after (.replySent safeLevels) s)).cli.restartPending = false := by decide

/-- Lengths 512 and 513, the last byte but one and the last of a body, the first byte of the check. -/
theorem test_witness_LinkBytesGapsAndSentReplies_bytes :
    up.inReset = false ∧ up.cli.receiver = .hunt ∧ (0xC2 : Byte) ≠ 0xC3 ∧
    (up.withReceiver .length (some [])).cli.receiver = .length ∧
    ((0x02 : Byte).toNat * 256 + (0x00 : Byte).toNat ≤ 512 ∧ 512 < (0x02 : Byte).toNat * 256 + (0x01 : Byte).toNat) ∧
    (up.withReceiver .body (some [0, 0])).cli.partialFrame = some ([0x00, 0x00] ++ []) ∧
    ([] : List Byte).length + 1 < 0 * 256 + 0 + 2 ∧ ([7] : List Byte).length + 1 = 0 * 256 + 0 + 2 ∧
    (up.withReceiver .check (some [0, 0, 7, 1])).cli.receiver = .check ∧ ([7, 1] : List Byte).length = 0 * 256 + 0 + 2 := by
  decide

theorem test_witness_CompleteFrameIsHandedOn :
    (let s := up.withReceiver .check (some ([0, 0, 7, 1] ++ [] ++ [0x5B]))
     s.inReset = false ∧ s.cli.receiver = .check ∧ s.cli.restartPending = false ∧
     (restarting s).cli.restartPending = true) ∧
    (crc 0xFFFF [0, 0, 7, 1]).toNat / 256 * 256 + (crc 0xFFFF [0, 0, 7, 1]).toNat % 256 =
      (crc 0xFFFF [0, 0, 7, 1]).toNat ∧
    (crc 0xFFFF [0, 0, 7, 1]).toNat ≠ 0 := by decide +kernel

theorem test_witness_LinkBytesGapsAndSentReplies_gaps :
    (up.withReceiver .body (some [0, 0])).cli.receiver ≠ .hunt ∧ up.cli.receiver = .hunt ∧ up.inReset = false ∧
    up.cli.restartPending = false ∧ up.cli.replies = [] ∧
    (withReplies 1 up).cli.replies = ⟨0x81, 0, [0]⟩ :: [] := by decide

theorem test_witness_FramesTurnedAwayOrUnknown :
    (restarting up).inReset = false ∧ (restarting up).cli.restartPending = true ∧
    4 ≤ (withReplies 4 up).cli.replies.length ∧ (withReplies 4 up).cli.restartPending = false ∧
    up.takesRequest ∧ requestKinds.contains 0x00 = false ∧ requestKinds.contains 0x7E = false ∧
    requestKinds.contains 0x80 = false ∧ requestKinds.contains 0x7F = true := by decide

theorem test_witness_WrongLengthRefused :
    requestLength 0x01 = some 0 ∧ ([0] : List Byte).length ≠ 0 ∧ requestLength 0x21 = some 85 ∧
    ([] : List Byte).length ≠ 85 ∧ up.takesRequest := by decide

theorem test_witness_AttentionRequests :
    up.takesRequest ∧ ([] : List Byte).length ≠ 1 ∧ ([0, 0] : List Byte).length ≠ 1 ∧
    (Source.testEnd ≠ .trip ∧ Source.testEnd ≠ .samples ∧ Source.notice ≠ .trip ∧ Source.notice ≠ .samples) ∧
    (0 : Byte).toNat = 0 ∧ 8 < (9 : Byte).toNat ∧ ([0] : List Byte) ≠ [] := by decide

theorem test_witness_ReadingRequestsChangeNothing :
    up.takesRequest ∧ up.evu.result = none ∧ running.takesRequest ∧ running.evu.result = some .fresh := by decide

/-- The bounds of a specimen: A0 100 and 5,000,000 with Le = Lc, and one short of it. -/
theorem test_witness_SpecimenAndSegmentSetsChange_specimen :
    up.takesRequest ∧ up.inTest = false ∧ running.takesRequest ∧ running.inTest = true ∧
    ({ coupon with area := 100, gaugeLength := 8000 } : Specimen).lawful ∧
    ({ coupon with area := 5000000 } : Specimen).lawful ∧ ¬ ({ coupon with area := 99 } : Specimen).lawful := by
  simp only [← Laws.specimen_inRange_iff]
  decide +kernel

/-- The coupon, its places filled with other bytes, is carried and taken; a presence byte of 2 carries no record. -/
theorem test_specimen_fill :
    (let p := [1, 0x41] ++ List.replicate 15 0xEE ++ u32 31250 ++ u32 5000 ++ u32 8000 ++ [0, 9, 9, 9, 9, 0] ++
       List.replicate 17 0xDD
     coupon.carriedBy p ∧ (after (.setSpecimen 1 p) up).tsq.specimen = some coupon) ∧
    (let p := [1, 0x41] ++ List.replicate 15 0 ++ u32 31250 ++ u32 5000 ++ u32 8000 ++ [2, 0, 0, 0, 0, 0] ++
       List.replicate 17 0
     p.length = 52 ∧ after (.setSpecimen 1 p) up = up.replied 0xA0 1 [0x05]) :=
  ⟨⟨Laws.carriedBy_of_specimenOf _ _ (by decide +kernel) (by decide +kernel), by decide +kernel⟩, by decide +kernel⟩

/-- A plan header at one end of every range of section 1.3, and one at the other. -/
abbrev low : PlanHeader := { PlanHeader.zero with
  sigmaHi := 1, nMin := 5, eMin := 1000, eMax := 1001, maxPassedDrop := 1, fractureFraction := 10, abruptFraction := 10
  fractureArmForce := 1, protectStrain := 1, windowLength := 10, decimation := 1 }
abbrev high : PlanHeader := { PlanHeader.zero with
  offsetStrain := 50000, sigmaLo := 499999, sigmaHi := 500000, nMin := 1000, eMin := 999999, eMax := 1000000
  yieldDrop := 10000, yieldSearchLimit := 2000000, yieldSpanLimit := 1, transientSkip := 2000, maxPassedDrop := 500
  fractureFraction := 900, abruptFraction := 900, fractureArmForce := 20000000, removalStrain := 2000000
  protectStrain := 2000000, windowLength := 500, decimation := 1000, headsRequired := 2 }

theorem test_lawful_headers :
    headerValid low = true ∧ headerValid high = true ∧ headerValid { low with yieldSearchLimit := 2000001 } = true ∧
    ∀ h ∈ [{ low with sigmaLo := 1 }, { low with nMin := 4 }, { low with eMin := 1001 }, { low with eMin := 999 },
      { low with maxPassedDrop := 0 }, { low with fractureFraction := 9 }, { low with abruptFraction := 9 },
      { low with fractureArmForce := 0 }, { low with protectStrain := 0 }, { low with windowLength := 9 },
      { low with decimation := 0 }, { low with offsetStrain := 1 }, { low with removalStrain := 2 },
      { high with offsetStrain := 50001 }, { high with yieldDrop := 10001 }, { high with yieldSpanLimit := 0 },
      { high with yieldSearchLimit := 2000001 }, { high with transientSkip := 2001 }, { high with headsRequired := 3 }],
      headerValid h = false := by decide

/-- What is lawful the check accepts (Laws.headerValid_iff, Laws.segmentValid_iff): each rate and threshold at its bound and one beyond it, and what stands in the wrong segment. -/
theorem test_lawful_segments :
    (∀ x ∈ [(CondKind.forceAbove, some (-20000000)), (.stressAbove, some 2000000000), (.strainAbove, some 2000000),
        (.travelAbove, some (-2000000000)), (.timeElapsed, some 1), (.timeElapsed, some 86400000),
        (.yieldDetected, none), (.yieldEnded, none), (.maxPassed, none), (.loadSettled, none)],
      segmentValid high ⟨.strainRate, -100000, [⟨x.1, x.2⟩], .next⟩ = true) ∧
    (∀ x ∈ [(CondKind.forceAbove, some (-20000001)), (.forceAbove, none), (.stressAbove, some 2000000001),
        (.strainAbove, some 2000001), (.travelAbove, some (-2000000001)), (.timeElapsed, some 0),
        (.timeElapsed, some 86400001), (.maxPassed, some 0)],
      segmentValid high ⟨.strainRate, 100000, [⟨x.1, x.2⟩], .next⟩ = false) ∧
    segmentValid low ⟨.positionRate, 200000, [⟨.maxPassed, none⟩], .next⟩ = true ∧
    segmentValid low ⟨.positionRate, 200001, [⟨.maxPassed, none⟩], .next⟩ = false ∧
    segmentValid low ⟨.stressRate, -100001, [⟨.maxPassed, none⟩], .next⟩ = false ∧
    segmentValid low ⟨.strainRate, 0, [⟨.maxPassed, none⟩], .next⟩ = false ∧
    segmentValid low ⟨.stressRate, 0, [⟨.yieldEnded, none⟩], .next⟩ = false ∧
    segmentValid low ⟨.dwell, 0, [⟨.timeElapsed, some 5⟩, ⟨.loadSettled, none⟩], .next⟩ = true ∧
    segmentValid low ⟨.dwell, 1, [⟨.loadSettled, none⟩], .next⟩ = false ∧
    segmentValid low ⟨.dwell, 0, [⟨.maxPassed, none⟩], .next⟩ = false := by decide

/-- LOADING with 3 segments of 4 received. -/
abbrev loading : State :=
  seqIn .loading { up with tsq := { up.tsq with load := some ⟨4, plain, [pull, pull, pull]⟩ } }

theorem test_witness_ProgramIsLoaded :
    up.takesRequest ∧ up.inTest = false ∧ plain.fits = true ∧ (1 ≤ 16 ∧ 16 ≤ 16 ∧ 16 < 17) ∧ running.inTest = true ∧
    running.takesRequest ∧ (List.replicate 85 (2 : Byte)).length = 85 ∧ (24 ∈ [24, 73, 74, 80]) ∧
    1 < ((List.replicate 85 (2 : Byte)).getD 24 0).toNat ∧ 2 < ((List.replicate 85 (3 : Byte)).getD 79 0).toNat ∧
    pull.fits = true ∧ (List.replicate 12 (9 : Byte)).length = 18 - 6 * pull.conditions.length ∧
    loading.takesRequest ∧ loading.tsq.state = .loading ∧
    loading.tsq.load = some ⟨4, plain, [pull, pull, pull]⟩ ∧ 4 ≤ 16 ∧
    3 + [pull].length = 4 ∧ (3 : Byte).toNat = 3 ∧ (2 : Byte).toNat ≠ 3 ∧
    (let l : LoadRecord := ⟨4, plain, [pull]⟩
     l.segments.length + [pull, pull].length < l.total ∧ (1 : Byte).toNat = l.segments.length) ∧
    headerValid plain = false ∧
    up.tsq.state = .empty ∧ ready.tsq.state = .ready ∧ ready.takesRequest ∧
    ([] : List Byte).length ≠ 25 * (1 : Byte).toNat ∧ ([] : List Byte).length = 25 * (0 : Byte).toNat ∧
    (List.replicate 125 (0 : Byte)).length = 25 * (5 : Byte).toNat ∧ 4 < (5 : Byte).toNat ∧ 4 < 3 + (2 : Byte).toNat ∧
    ([3] : List Byte).length < 2 := by decide +kernel

/-- The segment that fails under a lawful header is the second of three. -/
theorem test_witness_ProgramIsLoaded_segment :
    low.lawful ∧ ¬ plain.lawful ∧ pull.lawful low ∧ ¬ (⟨.dwell, 1, [], .next⟩ : Segment).lawful low :=
  ⟨(Laws.headerValid_iff _).1 (by decide), mt (Laws.headerValid_iff _).2 (by decide), (Laws.segmentValid_iff _ _).1 (by decide), mt (Laws.segmentValid_iff _ _).2 (by decide)⟩

/-- A record is refused for each of its codes one past its range, and for 0 and 4 conditions; its last unread bytes are
not looked at. -/
theorem test_undefined_records :
    let r : List Byte := pull.recordWith (List.replicate 12 255)
    let with_ : Nat → Byte → Option Segment := fun i b => segmentOf (r.set i b)
    segmentOf r = some pull ∧ with_ 0 3 ≠ none ∧ with_ 0 4 = none ∧ with_ 5 0 = none ∧ with_ 5 2 = none ∧
    with_ 5 4 = none ∧ with_ 6 8 ≠ none ∧ with_ 6 9 = none ∧ with_ 7 2 = none ∧ with_ 24 3 = none ∧
    with_ 13 9 = some pull := by decide

theorem test_witness_SpecimenAndSegmentSetsChange_sets :
    up.takesRequest ∧ up.inTest = false ∧ running.inTest = true ∧
    (List.replicate 16 (15 : Byte)).length = (16 : Byte).toNat ∧ (∀ i ∈ List.replicate 16 (15 : Byte), i.toNat ≤ 15) ∧
    (List.replicate 17 (0 : Byte)).length = (17 : Byte).toNat ∧ 16 < (List.replicate 17 (0 : Byte)).length ∧
    (15 < (16 : Byte).toNat) ∧ ([0] : List Byte).length ≠ (2 : Byte).toNat := by decide

theorem test_witness_StartTestIsDecided_accepted : ready.takesRequest ∧ ∀ k ≤ 9, startCheck k [] ready := by
  refine ⟨by decide, fun k hk => ?_⟩
  rcases (by omega : k = 9 ∨ k ≤ 8) with rfl | hk
  · intro h i
    cases h <;> simp [PerHead.get, Exm.reset, State.resetValues, State.reset, HeadEntry.reset]
  · interval_cases k <;> first | exact rfl | exact .inl rfl | (show _ ≤ _; decide)

/-- A state in which check `k` is the first that fails: nine of ten with an empty payload. -/
abbrev failing : Nat → State
  | 1 => up
  | 2 => { ready with fcu := { ready.fcu with tareWait := some 0 } }
  | 3 => { ready with tsq := { ready.tsq with specimen := none } }
  | 4 => { ready with lmu := { ready.lmu with trip := .latched } }
  | 5 => driveIn .disabled ready
  | 6 => { ready with tsq := { ready.tsq with program := some ⟨{ plain with allowNominal := false }, [pull]⟩ } }
  | 7 => { ready with sms := { ready.sms with ring := List.replicate 1009 (record 1) } }
  | 8 => { ready with tsq := { ready.tsq with program := some ⟨{ plain with headsRequired := 1 }, [pull]⟩ } }
  | 9 => { ready with exm := { ready.exm with heads := { ready.exm.heads with
      front := { HeadEntry.reset with state := .clamped, identity := some ⟨1, 5026, 1, [0x41]⟩ } } } }
  | _ => ready

theorem test_witness_StartTestIsDecided_refused (k : Nat) (hk : k ≤ 9) :
    let p : List Byte := if k = 0 then [0] else []
    (failing k).takesRequest ∧ (∀ j < k, startCheck j p (failing k)) ∧ ¬ startCheck k p (failing k) := by
  rcases (by omega : k = 6 ∨ k = 7 ∨ k = 9 ∨ k ≠ 6 ∧ k ≠ 7 ∧ k ≠ 9) with rfl | rfl | rfl | hn
  · refine ⟨by decide, fun j hj => ?_, fun h => ?_⟩
    · interval_cases j <;> first | exact rfl | exact .inl rfl
    · exact absurd h (by simp [startCheck, State.header]; exact ⟨.a, by decide⟩)
  · have hl : (failing 7).sms.ring.length = 1009 := List.length_replicate
    refine ⟨by decide, fun j hj => ?_, fun h => absurd (hl ▸ show (failing 7).sms.ring.length ≤ 1008 from h) (by omega)⟩
    interval_cases j <;> first | exact rfl | exact .inl rfl
  · refine ⟨by decide, fun j hj => ?_, fun h => absurd (h .front _ rfl rfl) (by decide)⟩
    interval_cases j <;> first | exact rfl | exact .inl rfl | (show _ ≤ _; decide)
  · interval_cases k <;> first | (exfalso; omega) | skip
    all_goals
      refine ⟨by decide, fun j hj => ?_, fun h => ?_⟩
      · interval_cases j <;> first | exact rfl | exact .inl rfl | (show _ ≤ _; decide)
      · revert h
        first | (show ¬ ((_ : SeqState) = _ ∨ _ = _); decide) | (show ¬ _ = _; decide) | (show ¬ _ ≤ _; decide)

/-- A running test with a command, held with the drive in HOLDING, held at a hold point, held after a limit. -/
abbrev moving : State := { running with drl := { running.drl with velocity := 40 } }

/-- HELD for a reason with the drive in a state. -/
abbrev heldFor (why : HeldReason) (at_ : Option Nat) (d : DriveState) (s : State) : State :=
  { s with
    tsq := { s.tsq with state := .held, heldReason := some why, heldAt := at_ }
    drl := { s.drl with state := d } }

theorem test_witness_PauseAndAbort :
    running.takesRequest ∧ running.tsq.state = .running ∧ running.drl.state = .running ∧
    (heldFor .paused none .holding running).tsq.state = .held ∧ (heldFor .paused none .holding running).drl.state = .holding ∧
    (seqIn .starting ready).tsq.state = .starting ∧ moving.drl.velocity ≠ 0 ∧ moving.takesRequest ∧
    up.tsq.state ≠ .starting ∧ up.tsq.state ≠ .running ∧ up.tsq.state ≠ .held := by decide

/-- The same test with two segments, the second a hold point or not. -/
abbrev twoSegments (points : BitVec 16) : State :=
  { running with tsq := { running.tsq with program := some ⟨plain, [pull, pull]⟩, holdPoints := points } }

theorem test_witness_ResumeContinuesAHeldTest :
    (let s := heldFor .slip none .idle running
     s.takesRequest ∧ s.tsq.state = .held ∧ s.tsq.resumeEntry = none ∧ s.drl.mode = some .positionRate ∧
     HeldReason.slip ≠ .holdPoint ∧ HeldReason.slip ≠ .onEnd ∧ s.drl.state = .idle) ∧
    (let s := heldFor .holdPoint (some 1) .holding (twoSegments 2)
     s.takesRequest ∧ s.tsq.heldAt = some 1 ∧ s.tsq.heldReason = some .holdPoint) ∧
    (let s := heldFor .onEnd none .holding (twoSegments 0)
     s.tsq.currentSegment = some 0 ∧ 0 + 1 < s.segments.length ∧ s.tsq.holdPoints.getLsbD (0 + 1) = false) ∧
    (twoSegments 2).tsq.holdPoints.getLsbD (0 + 1) = true ∧
    (let s := heldFor .onEnd none .holding running
     s.tsq.currentSegment = some 0 ∧ s.segments.length ≤ 0 + 1 ∧ s.drl.state = .holding) ∧
    (heldFor .limit none .stopping running).drl.state = .stopping ∧ up.tsq.state ≠ .held := by decide

theorem test_witness_DriveIsEnabledAndDisabled :
    up.takesRequest ∧ up.drl.state = .disabled ∧ up.drl.frame.maxSpeed = 0 ∧
    (driveIn .disabled up).drl.frame.maxSpeed ≠ 0 ∧ (driveIn .enabling up).drl.state = .enabling ∧
    (driveIn .idle up).drl.state ≠ .disabled ∧ (driveIn .idle up).drl.state ≠ .enabling ∧ running.inTest = true ∧
    up.inTest = false ∧ (driveIn .moving up).drl.state = .moving ∧ ([0] : List Byte) ≠ [] := by decide

theorem test_witness_ConfigureFrameReplacesConfiguration :
    up.takesRequest ∧ up.inTest = false ∧ up.drl.state = .disabled ∧
    (let f := { FrameConfig.default with maxSpeed := 200000, softMin := -2147483648, softMax := 2147483647 }
     f.lawful ∧ f.capacity = up.drl.frame.capacity) ∧
    (let f := { FrameConfig.default with capacity := 20000000, overloadLimit := 22000000 }
     f.lawful ∧ f.capacity ≠ up.drl.frame.capacity) ∧
    up.fcu.range = .a ∧ ({ up.fcu with range := .b } : Fcu).range ≠ .a ∧
    (let f := { FrameConfig.default with maxSpeed := 200001 }
     ¬ f.lawful ∧ f.payload.length = 68 ∧ after (.configureFrame 1 f.payload) up = up.replied 0x90 1 [0x05]) ∧
    ¬ ({ FrameConfig.default with capacity := 20000000, overloadLimit := 22000001 } : FrameConfig).lawful ∧
    running.inTest = true ∧ (driveIn .idle up).drl.state ≠ .disabled := by
  unfold FrameConfig.lawful
  decide +kernel

theorem test_witness_MovesBeginAndStop_begin :
    (let s := driveIn .idle up
     s.takesRequest ∧ s.drl.state = .idle ∧ s.inTest = false ∧ fits32 s.lmu.softMin = true ∧ fits32 s.lmu.softMax = true ∧
     1 ≤ 20000 ∧ 20000 ≤ s.drl.frame.maxSpeed ∧ s.drl.frame.maxSpeed < 20001 ∧ s.lmu.softMin ≤ 2147483647 ∧
     (2147483647 : Int) ≤ s.lmu.softMax ∧ s.drl.travelZero = none) ∧
    (let s := { driveIn .idle up with drl := { (driveIn .idle up).drl with travelZero := some 500 } }
     s.drl.travelZero = some 500 ∧ s.lmu.softMin ≤ positionOf 500 s.drl.frame.encoderScale ∧
     positionOf 500 s.drl.frame.encoderScale ≤ s.lmu.softMax) ∧
    up.drl.state ≠ .idle ∧ ([] : List Byte).length ≠ 8 := by decide

/-- A move in flight. -/
abbrev inMove (v : Int) (s : State) : State :=
  { driveIn .moving s with drl := { (driveIn .moving s).drl with velocity := v, moveTarget := some 10, moveSpeed := 5000 } }

theorem test_witness_MovesBeginAndStop_stop :
    (inMove 40 up).takesRequest ∧ (inMove 40 up).drl.state = .moving ∧ (inMove 40 up).drl.velocity ≠ 0 ∧
    (inMove 0 up).drl.velocity = 0 ∧ (inMove 0 up).drl.moveTarget.isSome = true ∧
    (driveIn .stopping (inMove 40 up)).drl.moveTarget.isSome = true ∧ (driveIn .stopping up).drl.moveTarget = none ∧
    up.drl.state ≠ .moving ∧ up.drl.state ≠ .stopping := by decide

/-- The force channel of a state is changed. -/
abbrev withFcu (f : Fcu → Fcu) (s : State) : State := { s with fcu := f s.fcu }

theorem test_witness_TareAndClassifierRequests_tare :
    running.inTest = true ∧ up.inTest = false ∧ up.fcu.tareWait = none ∧ up.fcu.settled = false ∧
    (withFcu (fun f => { f with settled := true }) up).fcu.settled = true ∧
    (withFcu (fun f => { f with tareWait := some 0 }) up).fcu.tareWait.isSome = true ∧ up.takesRequest := by decide

/-- Two breakpoints and twelve are a table, one and equal counts are none. -/
theorem test_witness_LoadCalibrationReplacesTable :
    let good : List Breakpoint → Prop := fun t =>
      2 ≤ t.length ∧ t.length ≤ 12 ∧ (∀ b ∈ t, b.count.natAbs ≤ 8388607 ∧ b.force.natAbs ≤ 20000000) ∧
      t.Pairwise fun a b => a.count < b.count
    good [⟨-8388607, -20000000⟩, ⟨8388607, 20000000⟩] ∧
    good ((List.range 12).map fun i => ⟨(i : Int), 0⟩) ∧ ¬ good [⟨0, 0⟩] ∧ ¬ good [⟨0, 0⟩, ⟨0, 1⟩] ∧
    ¬ good ((List.range 13).map fun i => ⟨(i : Int), 0⟩) ∧
    (∀ b ∈ [(⟨-8388607, -20000000⟩ : Breakpoint), ⟨8388607, 20000000⟩], fits32 b.count = true ∧ fits32 b.force = true) ∧
    up.takesRequest ∧ up.inTest = false ∧ running.inTest = true ∧ 3 < (4 : Byte).toNat ∧
    ([] : List Byte).length ≠ 8 * (2 : Byte).toNat := by decide

theorem test_witness_TareAndClassifierRequests_classifier :
    let good := fun pl cl pu cu : Nat => 1 ≤ pl ∧ pl ≤ 256 ∧ 1 ≤ cl ∧ cl ≤ 255 ∧ 1 ≤ pu ∧ pu ≤ 256 ∧ 1 ≤ cu ∧ cu ≤ 255
    up.takesRequest ∧ good 1 1 256 255 ∧ ¬ good 0 1 1 1 ∧ ¬ good 257 1 1 1 ∧ ¬ good 1 1 1 256 ∧
    ([] : List Byte).length ≠ 16 := by decide

theorem test_witness_ConfigureHeadsTakesBothHeads :
    let good := fun (front rear : Byte) (lf lr : Nat) =>
      front.toNat ≤ 1 ∧ rear.toNat ≤ 1 ∧ 1 ≤ lf ∧ lf ≤ 255 ∧ 1 ≤ lr ∧ lr ≤ 255
    good 1 0 1 255 ∧ ¬ good 2 0 1 1 ∧ ¬ good 0 0 0 1 ∧ ¬ good 0 0 1 256 ∧ up.takesRequest ∧ up.inTest = false ∧
    running.inTest = true ∧ ((frontIn .present up).exm.heads.get .front).configured = true ∧
    ((frontIn .present up).exm.heads.get .front).state ≠ .absent ∧ (up.exm.heads.get .rear).configured = false := by decide

/-- The slot holds a command of FRONT in a phase. -/
abbrev slotIn (k : HeadCmd) (ph : Phase) (s : State) : State :=
  { s with glc := { s.glc with slot := some ⟨.front, k, .computer, ph, 5, true⟩ } }

theorem test_witness_HeadCommandEntersTheSlot :
    (frontIn .present up).takesRequest ∧ ((frontIn .present up).exm.heads.get .front).configured = true ∧
    ((frontIn .present up).exm.heads.get .front).state = .present ∧ (frontIn .present up).inTest = false ∧
    (frontIn .present up).glc.slot = none ∧ (slotIn .clamp .linkWait (frontIn .present up)).glc.slot ≠ none ∧
    (frontIn .present up).exm.source ≠ .extensometer ∧ ((frontIn .clamped up).exm.heads.get .front).state = .clamped ∧
    ((frontIn .present up).exm.heads.get .front).state ≠ .clamped ∧ (up.exm.heads.get .front).configured = false ∧
    1 < (2 : Byte).toNat ∧ 3 < (4 : Byte).toNat := by decide

/-- The strain of a running test comes from the head FRONT, which measures. -/
abbrev measuring : State :=
  { frontIn .measuring running with exm := { (frontIn .measuring running).exm with
      source := .extensometer, removal := .watching } }

theorem test_witness_RemoveExtensometerHandsOver :
    measuring.takesRequest ∧ measuring.tsq.state.evaluated = true ∧ measuring.exm.removal = .watching ∧
    (measuring.exm.heads.get .front).state = .measuring ∧
    (let s := { measuring with exm := { measuring.exm with source := .estimated, removal := .handedOver } }
     s.takesRequest ∧ s.retriesLifts ∧ s.leftOn .front ∧ ¬ s.leftOn .rear ∧ s.glc.slot = none ∧
     (after (.removeExtensometer 1 []) s).glc.slot = some ⟨.front, .lift, .exm, .linkWait, 0, false⟩ ∧
     ¬ (slotIn .lift .onLink s).leftOn .front ∧ (slotIn .zero .onLink s).leftOn .front ∧
     (after (.removeExtensometer 1 []) (slotIn .zero .onLink s)).glc.waiting = [⟨.front, .lift⟩]) ∧
    (let s := { frontIn .clamped up with exm := { (frontIn .clamped up).exm with source := .frozen, removal := .closed } }
     s.retriesLifts ∧ s.leftOn .front) ∧
    up.tsq.state.evaluated = false ∧ ¬ up.retriesLifts ∧ ¬ up.leftOn .front ∧ ¬ up.leftOn .rear := by
  simp only [← Laws.liftRetry_iff, ← Laws.mem_liftsMissing]
  decide +kernel

/-- A ring of 20 records after mark 0. -/
abbrev stored : State :=
  { up with sms := { up.sms with ring := (List.range 20).map fun i => record (i + 1), newest := 20, pacing := .counting } }

theorem test_witness_SamplesAreReadAndReleased :
    stored.takesRequest ∧ stored.sms.ring = [] ++ record 1 :: (List.range 19).map (fun i => record (i + 2)) ∧
    (1 ≤ 20 ∧ 20 ≤ 20 ∧ 20 < 21) ∧ (∀ x ∈ stored.sms.ring, x.seq ≠ 21) ∧ 255 ≤ 255 ∧ 1000 ≤ 1000 ∧
    0 = stored.sms.releaseMark ∧ 20 ≠ stored.sms.releaseMark ∧
    stored.sms.ring = (List.range 19).map (fun i => record (i + 1)) ++ record 20 :: [] ∧
    (∀ y ∈ (List.range 19).map (fun i => record (i + 1)), y.seq ≠ 20) ∧ ([] : List Byte).length ≠ 12 := by decide +kernel

theorem test_witness_ClearTripClearsTheTrip :
    up.takesRequest ∧ up.lmu.trip = .clear ∧ tripped.takesRequest ∧ tripped.lmu.trip = .latched ∧
    (∀ i ∈ allInputs, (PerInputGet tripped.lmu.inputs i).latch = true → (PerInputGet tripped.lmu.inputs i).level = .inactive) ∧
    (let inputs := PerInputSet tripped.lmu.inputs .upperLimit ⟨.asserted, 19, true⟩
     PerInputGet inputs .upperLimit = ⟨.asserted, (PerInputGet inputs .upperLimit).count, true⟩) := by decide

/-- The begin point of a test; a later point with a travel zero; a discarded conversion; 8,299,999 and 8,300,000 in a
lower range. -/
theorem test_witness_ConversionFormsThePoint :
    (after (.startTest 1 []) ready).drl.captureZero = true ∧ (after (.startTest 1 []) ready).inReset = false ∧
    up.drl.travelZero = none ∧ up.drl.captureZero = false ∧ up.fcu.nextIndex ≠ 4294967295 ∧
    (withFcu (fun f => { f with nextIndex := 4294967295 }) up).fcu.nextIndex = 4294967295 ∧
    up.fcu.discardPending = false ∧ up.fcu.range = .a ∧
    (let s := withFcu (fun f => { f with range := .b }) up
     s.fcu.range ≠ .a ∧ (clampTo (-8388607) 8388607 (-8299999)).natAbs < 8300000 ∧
     8300000 ≤ (clampTo (-8388607) 8388607 8300000).natAbs) ∧
    (withFcu (fun f => { f with discardPending := true }) up).fcu.discardPending = true ∧
    up.area = 0 ∧ ready.area = 31250 ∧ up.exm.source = .none ∧
    (cellTable = [⟨-8000000, -2500300⟩] ++ ⟨0, 40⟩ :: ⟨4000000, 1250120⟩ :: [⟨8000000, 2500500⟩] ∧
     cellTable.Pairwise (fun a b => a.count < b.count) ∧ (0 : Int) ≤ 4000000 ∧ (4000000 : Int) ≤ 4000000) := by decide

/-- A test aborted before its first point still takes the travel zero from that point (R49). -/
theorem test_travel_zero_after_abort :
    let s := after (.abort 2 []) (after (.startTest 1 []) ready)
    let t := after (.conversionComplete (quiet 0)) s
    s.tsq.state = .ended ∧ t.drl.travelZero = some 0 ∧ t.drl.captureZero = false := by decide +kernel

theorem test_witness_DriveOnAPoint :
    (let s := driveIn .idle up
     s.inReset = false ∧ s.inTest = false ∧ s.drl.state = .idle ∧ s.drl.velocity = 0 ∧ s.drl.mismatches < 3 ∧
     (quiet 0).driveReady = true ∧ (quiet 0).driveFault = false ∧ s.lmu.overloadCount = 0 ∧ s.sms.recording = false) ∧
    (let s := inMove 40 up
     s.inTest = false ∧ s.drl.state = .moving ∧ s.drl.moveTarget = some 10 ∧ (10 - s.drl.position).natAbs ≤ 10) ∧
    (let s := { inMove 40 up with drl := { (inMove 40 up).drl with moveTarget := some 11 } }
     s.calm (quiet 0) ∧ s.inTest = false ∧ 10 < (11 - s.drl.position).natAbs ∧
     2966 * 2966 ≤ 2 * s.drl.frame.stopDecel * (11 - s.drl.position).natAbs ∧
     2 * s.drl.frame.stopDecel * (11 - s.drl.position).natAbs < (2966 + 1) * (2966 + 1)) ∧
    (let s := driveIn .stopping (inMove 40 up)
     s.calm (quiet 0) ∧ s.inTest = false ∧ s.drl.moveTarget.isSome = true) ∧
    (let s := heldFor .limit none .stopping moving
     s.calm (quiet 0) ∧ s.tsq.state = .held ∧ s.tsq.resumeEntry = none ∧ s.header.slipAction ≠ .abort ∧
     s.evu.phase ≠ .fractured ∧ (after (.conversionComplete (quiet 0)) s).tsq = s.tsq ∧
     (after (.conversionComplete (quiet 0)) s).drl.state = .idle) ∧
    (let s := seqIn .ending (driveIn .stopping moving)
     s.calm (quiet 0) ∧ s.tsq.state = .ending ∧ s.drl.moveTarget = none) ∧
    (let s := driveIn .enabling up
     s.inReset = false ∧ s.inTest = false ∧ s.drl.enableWait + 1 < 1000) := by decide

/-- A part whose force is the count, with overload limit 100, at a mismatch and an overload count. -/
abbrev weighed (m n : Nat) (s : State) : State :=
  { s with
    drl := { s.drl with mismatches := m, frame := { s.drl.frame with fullScaleSpeed := 131071, overloadLimit := 100 } }
    fcu := { s.fcu with tables := { s.fcu.tables with a := some [⟨0, 0⟩, ⟨8000000, 8000000⟩] } }
    lmu := { s.lmu with overloadCount := n } }

/-- A conversion of a count and a readback with good lines. -/
abbrev reading (y r : Int) : Conversion := ⟨y, r, true, false⟩

/-- The bounds of a calm point: 2 % of full scale, the third and the fourth miss, the overload limit, the lines. -/
theorem test_calm :
    let s := fun m n => weighed m n (driveIn .idle up)
    ¬ (s 3 0).misread (reading 0 2621) ∧ (s 3 0).misread (reading 0 2622) ∧ (s 3 0).calm (reading 0 (-2621)) ∧
    ¬ (s 3 0).calm (reading 0 (-2622)) ∧ (s 2 0).calm (reading 0 2622) ∧ (s 0 0).calm (reading 101 0) ∧
    (s 0 1).calm (reading 100 0) ∧ ¬ (s 0 1).calm (reading (-101) 0) ∧ ¬ (s 0 0).calm ⟨0, 0, false, false⟩ ∧
    (weighed 0 0 (driveIn .enabling up)).calm ⟨0, 0, false, false⟩ ∧ ¬ (s 0 0).calm ⟨0, 0, true, true⟩ := by decide

/-- The causes a point finds, each at its bound, alone and together, in CLEAR and in LATCHED, in and outside a test. -/
theorem test_witness_TripCausesFoundOnAPoint :
    let t := fun m n c => after (.conversionComplete c) (weighed m n (inMove 0 up))
    let further := fun b => (some ⟨.upperLimit, none, b⟩ : Option TripRecord)
    ((t 2 0 (reading 0 2622)).drl.mismatches = 3 ∧ (t 2 0 (reading 0 2622)).lmu.trip = .clear ∧
      (t 3 0 (reading 0 2621)).drl.mismatches = 0 ∧ (t 3 0 (reading 0 2621)).lmu.trip = .clear ∧
      (t 3 0 (reading 0 2622)).lmu.record = some ⟨.commandReadback, some ⟨0, 0, 0⟩, 0⟩ ∧
      (t 3 0 (reading 0 2622)).drl.mismatches = 0 ∧ (t 3 0 (reading 0 2622)).drl.moveOutcome = some .tripped) ∧
    ((t 0 1 (reading 100 0)).lmu.overloadCount = 0 ∧ (t 0 0 (reading 101 0)).lmu.overloadCount = 1 ∧
      (t 0 0 (reading 101 0)).lmu.trip = .clear ∧
      (t 0 1 (reading (-101) 0)).lmu.record = some ⟨.overload, some ⟨0, -101, 0⟩, 0⟩) ∧
    (t 0 0 ⟨0, 0, true, true⟩).lmu.record = some ⟨.driveFault, some ⟨0, 0, 0⟩, 0⟩ ∧
    (t 3 1 ⟨101, 2622, false, true⟩).lmu.record = some ⟨.driveReadyLost, some ⟨0, 101, 0⟩, 0x70⟩ ∧
    (after (.conversionComplete ⟨0, 0, true, true⟩) tripped).lmu.record = further 0x10 ∧
    (after (.conversionComplete (quiet 0)) tripped).lmu.record = further 0 := by decide +kernel

/-- A step of the move profile and of a stop (R57, R62), and a soft limit met (R64). -/
theorem test_drive_on_a_point :
    let s := { inMove 40 up with drl := { (inMove 40 up).drl with moveTarget := some 11 } }
    let limited := { s with drl := { s.drl with frame := { s.drl.frame with softMax := 0 } } }
    let p := Instr.conversionComplete (quiet 0)
    (after p s).drl.velocity = 90 ∧ (after p s).drl.dacCode = dacOf 90 200000 ∧
    (after p limited).drl.state = .idle ∧ (after p limited).drl.moveOutcome = some .limit ∧
    (after p (driveIn .stopping (inMove 240 up))).drl.velocity = 40 ∧
    (after p (seqIn .ending (driveIn .stopping moving))).drl.state = .idle := by decide +kernel

theorem test_witness_RunningDriveFollowsItsSegment :
    running.calm (quiet 0) ∧ running.tsq.state = .running ∧ running.drl.state = .running ∧
    running.drl.mode = some .positionRate ∧
    (let s := after (.conversionComplete (quiet 0)) running
     s.tsq.state = .running ∧ s.tsq.segmentTime = running.tsq.segmentTime + 1) ∧
    (let d := { Drl.reset with rate := 1, remainder := 1999 }
     d.frozen = false ∧ d.remainder.natAbs ≤ 1999 ∧ d.remainder * d.rate ≥ 0) ∧
    (let d := { Drl.reset with rate := -5, remainder := -1999 }
     d.frozen = false ∧ d.remainder.natAbs ≤ 1999 ∧ d.remainder * d.rate ≥ 0) := by decide

/-- The first estimated point after a handover in STRAIN_RATE keeps the command even at rate 4,000 (R56); the next
point corrects. -/
theorem test_strain_transfer :
    let s := { running with
      drl := { running.drl with mode := some .strainRate, rate := 4000, velocity := 40, setpoint := 5000 }
      exm := { running.exm with removal := .handedOver } }
    let t := after (.conversionComplete (quiet 0)) s
    t.drl.velocity = 40 ∧ t.drl.setpoint = 0 ∧ t.drl.remainder = 0 ∧
    (after (.conversionComplete (quiet 0)) t).drl.setpoint = 2 := by decide +kernel

/-- A fresh and a held value of two heads, and one head alone. -/
abbrev twoHeads (f r : HeadEntry → HeadEntry) : State :=
  let e := { HeadEntry.reset with configured := true, state := .measuring, testHead := true, lastGood := 50 }
  { running with exm := { running.exm with
      heads := ⟨f e, r e⟩, source := .extensometer, removal := .watching } }

theorem test_witness_StrainIsFormedOnAPoint :
    (let s := twoHeads (fun e => { e with readOk := true }) (fun e => { e with readFailed := true })
     s.inReset = false ∧ s.exm.source = .extensometer ∧ s.exm.heads.front.state = .measuring ∧
     s.exm.heads.rear.state = .measuring ∧ s.exm.heads.front.judged = .fresh ∧ s.exm.heads.rear.judged = .substituted ∧
     (after (.conversionComplete (quiet 0)) s).latest.strain = 10 ∧
     (after (.conversionComplete (quiet 0)) s).latest.flags.oneSided = true ∧
     (after (.conversionComplete (quiet 0)) s).exm.window = [(0, 10)] ∧ 1 ≤ s.header.windowLength) ∧
    (let s := twoHeads id (fun e => { e with state := .lost })
     s.exm.heads.front.judged = .carried ∧ s.exm.heads.rear.state ≠ .measuring ∧
     (after (.conversionComplete (quiet 0)) s).latest.flags.carried = true ∧
     (after (.conversionComplete (quiet 0)) s).exm.window = []) ∧
    running.exm.source = .estimated ∧ running.exm.ratio = none ∧
    (let s := { running with exm := { running.exm with source := .frozen, frozenStrain := some 7 } }
     (after (.conversionComplete (quiet 0)) s).latest.strain = 7) := by decide +kernel

/-- The classifier in a state. -/
abbrev classified (c : Classifier) (s : State) : State := withFcu (fun f => { f with classifier := c }) s

/-- A slip in the ELASTIC phase of a test. -/
abbrev elastic : State := classified .falling { running with evu := { running.evu with phase := .elastic } }

/-- The same slip with a slip action. -/
abbrev slipping (a : SlipAction) : State :=
  { elastic with
    tsq := { elastic.tsq with program := some ⟨{ plain with slipAction := a }, [pull]⟩ }
    drl := { elastic.drl with velocity := 40 } }

theorem test_witness_ForceEvents :
    (1 ≤ 1 ∧ 1 ≤ 2 ∧ 0 + 1 < 1 * 2 ∧ 1 ≤ 256 ∧ 65278 + 1 < 256 * 255) ∧
    (withFcu (fun f => { f with tareWait := some 0 }) up).fcu.tareWait.isSome = true ∧
    (slipping .hold).header.slipAction = .hold ∧ (slipping .abort).header.slipAction = .abort ∧
    (slipping .abort).tsq.state = .running ∧ (slipping .abort).drl.state = .running ∧
    (slipping .abort).drl.velocity ≠ 0 ∧ (slipping .abort).evu.result = some .fresh ∧
    (heldFor .paused none .holding (slipping .abort)).tsq.state = .held ∧
    (seqIn .ending (slipping .abort)).tsq.state.evaluated = true ∧
    up.inReset = false ∧ up.fcu.classifier = .quiet ∧ up.fcu.tareWait = none ∧
    (classified .rising up).fcu.classifier ≠ .quiet ∧ (classified .rising up).fcu.classifier ≠ .level ∧
    (classified .erratic up).fcu.classifier = .erratic ∧ up.tsq.state.evaluated = false ∧
    elastic.fcu.classifier = .falling ∧ elastic.tsq.state.evaluated = true ∧ elastic.evu.phase = .elastic ∧
    elastic.evu.result = some .fresh ∧ elastic.header.slipAction = .carryOn ∧ elastic.inReset = false ∧
    up.inTest = false ∧ up.fcu.range ≠ .d ∧ running.inTest = true ∧
    (withFcu (fun f => { f with range := .d }) up).fcu.range = .d := by decide

/-- The start-time tare waits. -/
abbrev taring : State := { ready with tsq := { ready.tsq with state := .starting, startStep := some .tare } }

/-- The entry point waits. -/
abbrev entering : State := { taring with tsq := { taring.tsq with startStep := some .entry } }

theorem test_witness_StartStepsOnAPoint :
    taring.calm (quiet 0) ∧ taring.tsq.state = .starting ∧ taring.drl.state = .idle ∧ taring.fcu.tareWait = none ∧
    (let s := { taring with tsq := { taring.tsq with startTareCount := 19999 } }
     20000 ≤ s.tsq.startTareCount + 1 ∧ (after (.conversionComplete (quiet 0)) s).tsq.state = .ended) ∧
    taring.tsq.startTareCount + 1 < 20000 ∧ (after (.conversionComplete (quiet 0)) taring).tsq.startTareCount = 1 ∧
    entering.calm (quiet 0) ∧ entering.tsq.holdPoints.getLsbD 0 = false ∧ entering.segments[0]? = some pull ∧
    (after (.conversionComplete (quiet 0)) entering).tsq =
      { entering.tsq with state := .running, visited := 1, currentSegment := some 0, startStep := none } ∧
    (let s := { entering with tsq := { entering.tsq with holdPoints := 1 } }
     s.tsq.holdPoints.getLsbD 0 = true ∧ (after (.conversionComplete (quiet 0)) s).tsq.heldAt = some 0) ∧
    (let s := { seqIn .starting ready with exm := { ready.exm with heads := { ready.exm.heads with
        rear := { HeadEntry.reset with configured := true, state := .clamped, testHead := true } } } }
     let z := { s with tsq := { s.tsq with program := some ⟨{ plain with zeroAtStart := true }, [pull]⟩ } }
     s.tsq.startStep = none ∧ s.header.tareAtStart = false ∧
     (after (.conversionComplete (quiet 0)) s).tsq.startStep = some .entry ∧
     (after (.conversionComplete (quiet 0)) z).tsq.startStep = some .zero ∧
     (after (.conversionComplete (quiet 0)) z).glc.stands .rear .zero = true) := by decide +kernel

/-- A segment that ends on its 3rd RUNNING point after entry, with an on-end action. -/
abbrev timed (a : OnEnd) (points : BitVec 16) : State :=
  { moving with tsq := { running.tsq with
    program := some ⟨plain, [⟨.positionRate, 1000, [⟨.travelAbove, some 5⟩, ⟨.timeElapsed, some 1⟩], a⟩, pull]⟩
    segmentTime := 1, holdPoints := points } }

/-- The point on which a test breaks. -/
abbrev breaking : State :=
  { moving with
    evu := { running.evu with phase := .hardening, fractureArmed := true, fmax := some { Point.zero with force := 10000 } }
    tsq := { running.tsq with program := some ⟨{ plain with fractureFraction := 80 }, [pull]⟩, segmentTime := 7 } }

/-- A point on which a LIMIT hold takes the test out of RUNNING first does not count (R28, log 48). -/
theorem test_limit_point :
    let t := after (.conversionComplete (quiet 0)) { moving with
      drl := { moving.drl with frame := { moving.drl.frame with softMax := 0 } } }
    t.tsq.state = .held ∧ t.tsq.heldReason = some .limit ∧ t.tsq.segmentTime = 0 := by decide +kernel

/-- The fracture point counts in the segment time (R28, R37). -/
theorem test_fracture_point :
    let t := after (.conversionComplete (quiet 0)) breaking
    t.evu.phase = .fractured ∧ t.tsq.state = .ending ∧ t.tsq.pendingEnd = some .fracture ∧ t.tsq.segmentTime = 8 := by
  decide +kernel

/-- A DRIVE_FAULT on the point on which a test ends FRACTURE leaves that end; one on a point that does not end the test
ends it TRIPPED, and so does DRIVE_READY lost on either (R174, log 13). -/
theorem test_trip_of_a_test :
    let s := { breaking with drl := { breaking.drl with velocity := 0, rate := 0 } }
    let t := fun c s => (after (.conversionComplete c) s).tsq.endReason
    t ⟨0, 0, true, true⟩ s = some .fracture ∧ t ⟨0, 0, false, true⟩ s = some .tripped ∧
    t ⟨0, 0, true, true⟩ running = some .tripped ∧ t ⟨0, 0, false, false⟩ running = some .tripped := by decide +kernel

theorem test_witness_RunningTestOnAPoint :
    (let s := timed .next 0
     s.calm (quiet 0) ∧ s.tsq.state = .running ∧ s.tsq.currentSegment = some 0 ∧ s.header.slipAction = .carryOn ∧
     s.evu.phase ≠ .fractured ∧ s.drl.state = .running ∧ s.drl.frame.softMin < s.drl.position ∧
     s.drl.position < s.drl.frame.softMax ∧ 0 + 1 < s.segments.length ∧ s.segments[0 + 1]? = some pull) ∧
    (let t := fun a points => after (.conversionComplete (quiet 0)) (timed a points)
     (t .next 0).tsq.currentSegment = some 1 ∧ (t .next 0).tsq.segmentTime = 0 ∧ (t .next 0).tsq.visited = 2 ∧
     (t .next 2).tsq.heldAt = some 1 ∧ (t .next 2).tsq.segmentTime = 2 ∧ (t .hold 0).tsq.heldReason = some .onEnd ∧
     (t .endTest 0).tsq.pendingEnd = some .complete ∧ (t .endTest 0).drl.state = .stopping) ∧
    (let s := heldFor .holdPoint (some 0) .holding { running with tsq := { running.tsq with resumeEntry := some 0 } }
     s.calm (quiet 0) ∧ s.tsq.state = .held ∧ s.drl.state = .holding ∧ s.evu.phase ≠ .fractured ∧
     s.segments[0]? = some pull ∧ (after (.conversionComplete (quiet 0)) s).tsq.state = .running) := by decide +kernel

theorem test_witness_WaitsAndDelaysEnd :
    (withFcu (fun f => { f with tareWait := some 19999 }) up).fcu.tareWait.isSome = true ∧ up.fcu.tareWait = none ∧
    taring.inReset = false ∧ taring.tsq.state = .starting ∧ taring.tsq.startStep = some .tare ∧
    taring.fcu.settled = false ∧ (withFcu (fun f => { f with settled := true }) taring).fcu.settled = true ∧
    up.tsq.state ≠ .starting ∧
    (driveIn .enabling up).inReset = false ∧ (driveIn .enabling up).drl.state = .enabling ∧ up.drl.state ≠ .enabling ∧
    stored.sms.pacing = .counting ∧ up.sms.pacing ≠ .counting := by decide

theorem test_witness_TripCausesAreTaken_readback :
    moving.inReset = false ∧ moving.lmu.trip = .clear ∧ moving.inTest = true ∧ (inMove 40 up).inTest = false ∧
    (inMove 40 up).drl.state = .moving ∧ (inMove 40 up).lmu.trip = .clear ∧
    (inMove 40 up).drl.moveTarget.isSome = true ∧ tripped.lmu.trip = .latched ∧
    tripped.lmu.record = some ⟨.upperLimit, none, 0⟩ := by decide

/-- An input at count 18, at count 19, and asserted. -/
theorem test_witness_TripCausesAreTaken_inputs :
    (PerInputGet up.lmu.inputs .estop).level = .inactive ∧ up.inReset = false ∧ up.lmu.trip = .clear ∧
    tripped.lmu.trip = .latched ∧ tripped.lmu.record = some ⟨.upperLimit, none, 0⟩ ∧
    (PerInputGet tripped.lmu.inputs .lowerLimit).level = .inactive ∧
    (let inputs := PerInputSet up.lmu.inputs .guardOpen ⟨.asserted, 0, true⟩
     (PerInputGet inputs .guardOpen).level = .asserted) ∧
    (∀ i ∈ allInputs, PerInputGet (⟨.asserted, .inactive, .inactive, .inactive⟩ : SafetyLevels) i = .asserted →
      (PerInputGet (PerInputSet up.lmu.inputs .estop ⟨.inactive, 18, false⟩) i).count + 1 < 20) ∧
    19 ≤ (PerInputGet (PerInputSet up.lmu.inputs .estop ⟨.inactive, 19, false⟩) .estop).count := by decide

/-- A POLL of FRONT is on the link. -/
abbrev polling (op : GaugeOp) : State :=
  { frontIn .clamped up with glc := { up.glc with current := some ⟨.front, op, .stream, 0⟩ } }

theorem test_witness_GaugeLinkStarts :
    up.inReset = false ∧ up.glc.current = none ∧ up.glc.roundList = [] ∧ up.glc.slot = none ∧
    ¬ up.streams .front ∧ ¬ up.streams .rear ∧ up.slotRests ∧
    ({ up.glc with roundList := [.front] } : Glc).roundList = .front :: [] ∧
    (slotIn .lift .linkWait up).glc.slot = some ⟨.front, .lift, .computer, .linkWait, 5, true⟩ ∧
    (slotIn .lift .linkWait up).exm.source ≠ .extensometer ∧ up.glc.lastFromSlot = false ∧
    (slotIn .clamp .confirming up).glc.slot = some ⟨.front, .clamp, .computer, .confirming, 5, true⟩ ∧
    (frontIn .clamped up).streams .front ∧ ¬ (frontIn .clamped up).streams .rear ∧ (frontIn .clamped up).slotRests ∧
    ({ up with exm := { up.exm with source := .extensometer }, glc := (slotIn .lift .linkWait up).glc } : State).slotRests ∧
    (slotIn .zero .onLink up).slotRests ∧ ¬ (slotIn .clamp .confirming up).slotRests ∧
    ¬ (slotIn .lift .linkWait up).slotRests ∧ (polling .poll).glc.current ≠ none := by
  simp only [← Laws.wantsStream_iff, ← Laws.slotChoice_none_iff]
  decide

/-- A transaction is counted when it starts, so a Read Counters during it shows it. -/
theorem test_started_counts :
    (after .gaugeTransactionStart (frontIn .clamped up)).glc.counters = ⟨0, 1, 0, 0, 0, 0, 0⟩ ∧
    (after .gaugeTransactionStart (slotIn .zero .linkWait up)).glc.counters = ⟨0, 0, 1, 0, 0, 0, 0⟩ ∧
    (after (.gaugeReplyTimeout false) (after .gaugeTransactionStart (frontIn .clamped up))).glc.counters =
      ⟨0, 1, 0, 0, 1, 0, 0⟩ := by decide +kernel

/-- What FRONT answers to READ: extension 1,000, clamped, seated, not zeroed. -/
abbrev readPayload : List Byte := [0x00, 0x00, 0x03, 0xE8, 0x01, 0x01, 0x00]

/-- An identity and its payload: kind 5, gauge length 5,000, travel range 70,000, serial AB. -/
abbrev someIdentity : Identity := ⟨5, 5000, 70000, [0x41, 0x42]⟩
abbrev identityPayload : List Byte := [5, 0x13, 0x88, 0x00, 0x01, 0x11, 0x70, 0x41, 0x42] ++ List.replicate 14 0

theorem test_reply_payloads :
    GaugeOp.read.carries readPayload (.extension 1000 ⟨.clamped, true, false⟩) ∧
    GaugeOp.poll.carries [2, 0, 1] (.status ⟨.moving, false, true⟩) ∧ (GaugeOp.command .lift).carries [1] (.ack .lift) ∧
    GaugeOp.identify.carries identityPayload (.identity someIdentity) ∧
    GaugeOp.read.reply .front readPayload = gaugeMessage .front .read readPayload := by
  unfold GaugeOp.carries; decide +kernel

theorem test_witness_TransactionsEnd :
    (polling .read).inReset = false ∧ (polling .read).glc.current = some ⟨.front, .read, .stream, 0⟩ ∧
    (GaugeOp.read.reply .front readPayload).length = GaugeOp.read.length ∧
    acceptReply .front .read (GaugeOp.read.reply .front readPayload) =
      .success (.extension 1000 ⟨.clamped, true, false⟩) ∧
    ((polling .read).exm.heads.get .front).configured = true ∧
    ([1, 2] : List Byte).length < GaugeOp.read.length ∧
    (List.replicate 12 (0 : Byte)).length = GaugeOp.read.length ∧ ([0] : List Byte) ++ List.replicate 11 0 ≠ 1 :: [] ∧
    acceptReply .front .read (List.replicate 12 0) = .failure .badCheck ∧
    (after (.gaugeTransactionEnd (List.replicate 12 0)) (polling .read)).glc.counters = ⟨0, 0, 0, 0, 0, 0, 1⟩ := by
  decide +kernel

/-- A transaction of the slot's own command is on the link, for FRONT in a state. -/
abbrev sending (k : HeadCmd) (st : HeadState) : State :=
  { slotIn k .onLink (frontIn st up) with glc := { (slotIn k .onLink (frontIn st up)).glc with
      current := some ⟨.front, k.op, .slot, 0⟩ } }

theorem test_witness_RepliesMoveHeads :
    (let s := polling .poll
     s.inReset = false ∧ s.glc.current = some ⟨.front, .poll, .stream, 0⟩ ∧
     (s.exm.heads.get .front).configured = true ∧ s.glc.slot = none ∧
     ((after (.gaugeTransactionEnd (GaugeOp.poll.reply .front [0, 0, 0])) s).exm.heads.get .front).state = .present ∧
     ((after (.gaugeReplyTimeout true) s).exm.heads.get .front).failedPolls = 1) ∧
    (let s := { polling .poll with glc := { (slotIn .clamp .confirming up).glc with
        current := some ⟨.front, .poll, .slot, 0⟩ } }
     (after (.gaugeTransactionEnd (GaugeOp.poll.reply .front [1, 1, 0])) s).glc.slot = none) ∧
    (let s := sending .clamp .present
     s.glc.slot = some ⟨.front, .clamp, .computer, .onLink, 5, true⟩ ∧ s.glc.current = some ⟨.front, .command .clamp, .slot, 0⟩ ∧
     (GaugeOp.command .clamp).carries [0] (.ack .clamp) ∧
     ((after (.gaugeTransactionEnd ((GaugeOp.command .clamp).reply .front [0])) s).exm.heads.get .front).state = .clamping ∧
     ((after (.gaugeReplyTimeout false) s).glc.heads.get .front).lastCommand = some ⟨.clamp, .computer, .failed⟩) ∧
    (let s := sending .identify .absent
     let t := after (.gaugeTransactionEnd (GaugeOp.identify.reply .front identityPayload)) s
     (t.exm.heads.get .front).state = .present ∧ (t.exm.heads.get .front).identity = some someIdentity ∧
     t.glc.slot = none ∧ t.cli.pending.headCmdDone = true) ∧
    (let s := { sending .lift .measuring with
       tsq := running.tsq, exm := { (frontIn .measuring up).exm with source := .extensometer, removal := .watching } }
     s.inTest = true ∧ s.exm.source = .extensometer ∧ s.exm.heads.rear.state ≠ .measuring ∧
     (after (.gaugeTransactionEnd ((GaugeOp.command .lift).reply .front [1])) s).exm.trigger = some .headLost) := by
  unfold GaugeOp.carries; decide +kernel

theorem test_witness_HeadsAreLost :
    measuring.inReset = false ∧ (measuring.exm.heads.get .front).state = .measuring ∧
    ((frontIn .present up).exm.heads.get .front).state ≠ .measuring ∧
    ((frontIn .present up).exm.heads.get .front).state ≠ .lifting ∧ (frontIn .present up).glc.slot = none ∧
    ((frontIn .present up).exm.heads.get .front).configured = true ∧
    ((frontIn .clamping up).exm.heads.get .front).state = .clamping ∧
    (up.exm.heads.get .front).configured = false ∧ ((frontIn .lifting up).exm.heads.get .front).state = .lifting ∧
    (let s := { taring with exm := { taring.exm with heads := { taring.exm.heads with
        front := { HeadEntry.reset with configured := true, state := .clamped, testHead := true } } } }
     s.tsq.state = .starting ∧ (s.exm.heads.get .front).testHead = true) := by decide

theorem test_witness_ConfirmationRunsOut :
    (slotIn .clamp .confirming up).inReset = false ∧
    (slotIn .clamp .confirming up).glc.slot = some ⟨.front, .clamp, .computer, .confirming, 5, true⟩ ∧
    (slotIn .lift .confirming up).glc.slot = some ⟨.front, .lift, .computer, .confirming, 5, true⟩ ∧
    (slotIn .lift .confirming up).exm.liftWatch.get .front = false ∧ up.glc.slot = none ∧
    (let s := slotIn .lift .confirming { running with exm := { running.exm with
        liftWatch := ⟨true, false⟩, liftHolds := ⟨true, false⟩ } }
     s.exm.liftWatch.get .front = true ∧ s.exm.liftHolds.get .front = true ∧ s.tsq.state = .running ∧
     s.drl.state = .running ∧ (after .confirmationTimeout s).tsq.heldReason = some .liftUnconfirmed) ∧
    (let s := slotIn .lift .confirming { up with exm := { up.exm with liftWatch := ⟨true, false⟩ } }
     s.exm.liftWatch.get .front = true ∧ s.tsq.state ≠ .running ∧
     (after .confirmationTimeout s).cli.notices.liftUnconfirmed = true ∧
     (after .confirmationTimeout s).tsq = s.tsq) := by decide

/-- A start that waits for the ZERO of FRONT, whose head is CLAMPED, with or without a test head REAR; the slot's
command, in CONFIRMING, is that ZERO. -/
abbrev zeroing (rear : Bool) : State :=
  slotIn .zero .confirming { taring with
    tsq := { taring.tsq with startStep := some .zero }
    exm := { taring.exm with
      zeroAsked := some .front
      heads := ⟨{ HeadEntry.reset with configured := true, state := .clamped, testHead := true },
        { HeadEntry.reset with configured := true, state := .clamped, testHead := rear }⟩ } }

/-- The same on the link: a transaction of FRONT, with its failure limit one failure away or not. -/
abbrev onLinkTo (op : GaugeOp) (src : TxSource) (limit : Nat) (s : State) : State :=
  { s with glc := { s.glc with
      current := some ⟨.front, op, src, 0⟩, heads := { s.glc.heads with front := ⟨limit, 0, 0, .none, none⟩ } } }

theorem test_witness_SlotOutcomesAreTaken_missed :
    (zeroing true).inReset = false ∧
    (zeroing true).glc.slot = some ⟨.front, .zero, .computer, .confirming, 5, true⟩ ∧
    (zeroing true).exm.zeroAsked = some .front ∧ (zeroing true).tsq.state = .starting ∧
    (let c := fun k => after k (zeroing true)
     (c .confirmationTimeout).tsq.startCause = some .zeroUnconfirmed ∧
     (c (.headFailureCondition .front)).tsq.startCause = some .zeroUnconfirmed) ∧
    (let s := onLinkTo .poll .round 1 (zeroing true)
     let t := after (.gaugeReplyTimeout false) s
     (s.glc.heads.get .front).limit ≤ (s.glc.heads.get .front).consecutive + 1 ∧ t.tsq.startCause = some .zeroUnconfirmed ∧
     (after (.gaugeReplyTimeout false) (onLinkTo .poll .round 2 (zeroing true))).tsq.state = .starting) ∧
    (let s := onLinkTo (.command .zero) .slot 8 (slotIn .zero .onLink (zeroing true))
     (after (.gaugeTransactionEnd (List.replicate 6 0)) s).tsq.startCause = some .zeroUnconfirmed ∧
     ((after (.gaugeReplyTimeout true) s).glc.heads.get .front).lastCommand = some ⟨.zero, .computer, .failed⟩) ∧
    (let s := slotIn .zero .confirming (frontIn .clamped up)
     s.exm.zeroAsked = none ∧ (after .confirmationTimeout s).tsq = s.tsq) ∧
    (let s := slotIn .clamp .confirming { up with exm := { up.exm with heads := { up.exm.heads with
        front := { HeadEntry.reset with configured := true, state := .clamping, latest := some ⟨.moving, false, false⟩
                                        failedPolls := 2 } } } }
     let t := after .confirmationTimeout s
     (t.exm.heads.get .front).state = .present ∧ t.glc.stands .front .lift = true ∧
     ((after (.gaugeReplyTimeout true) (onLinkTo .poll .round 1 s)).exm.heads.get .front).state = .absent) ∧
    (let s := slotIn .lift .confirming { running with exm := { running.exm with
        liftWatch := ⟨true, false⟩, liftHolds := ⟨true, false⟩ } }
     (after (.headFailureCondition .front) s).tsq.heldReason = some .liftUnconfirmed) := by decide +kernel

theorem test_witness_SlotOutcomesAreTaken_confirmed :
    let reply := Instr.gaugeTransactionEnd (GaugeOp.poll.reply .front [1, 1, 1])
    let t := fun rear => after reply (onLinkTo .poll .slot 8 (zeroing rear))
    GaugeOp.poll.carries [1, 1, 1] (.status ⟨.clamped, true, true⟩) ∧
    (t true).exm.zeroAsked = some .rear ∧ (t true).glc.stands .rear .zero = true ∧
    (t true).tsq = (zeroing true).tsq ∧ (t false).tsq.startStep = some .entry ∧ (t false).exm.zeroAsked = none ∧
    ((t false).exm.heads.get .front).zeroed = true := by
  unfold GaugeOp.carries; decide +kernel

/-- A LIFT asked for in a test that is aborted adds its notice in the next test and does not hold it (R129). -/
theorem test_lift_of_an_ended_test :
    let asked := after (.removeExtensometer 1 []) { measuring with drl := { measuring.drl with velocity := 0 } }
    let ended := after (.abort 2 []) asked
    let next := slotIn .lift .confirming { running with exm := { running.exm with
      liftWatch := ended.exm.liftWatch, liftHolds := ended.exm.liftHolds } }
    asked.exm.liftHolds.get .front = true ∧ ended.tsq.state = .ended ∧ ended.exm.liftWatch.get .front = true ∧
    ended.exm.liftHolds.get .front = false ∧
    (after .confirmationTimeout next).cli.notices.liftUnconfirmed = true ∧
    (after .confirmationTimeout next).tsq = next.tsq := by decide +kernel

/-- Two points on a line of slope 20 per 1,000: E = 200,000; with equal strains no slope. -/
theorem test_witness_ElasticFitIsComputed :
    let e := { Evu.reset with fit := .collecting, result := some .fresh, sums := ⟨2, 0 + 1000, 0 + 20000, 1000000, 20000000⟩ }
    e.result = some .fresh ∧ ResultRecord.fresh.e = .opened ∧ ResultRecord.fresh.x0 = .opened ∧ e.sums.n < 3 ∧
    2 ≤ e.sums.n ∧ 0 < (2 : Int) * 1000000 - 1000 * 1000 ∧ 0 < (2 : Int) * 20000000 - 1000 * 20000 ∧
    divRound (10000 * (2 * 20000000 - 1000 * 20000)) (2 * 1000000 - 1000 * 1000) = 200000 ∧
    (200000 : Int) ≤ 200000 ∧ (200000 : Int) < 200001 ∧ (199999 : Int) < 200000 ∧
    ((2 : Int) * 2000000 - 2000 * 2000 ≤ 0) ∧ PlanHeader.zero.fallback = false ∧
    divRound (1000 * 205000 - 20000 * 10000) (2 * 205000) = 12 ∧
    (closeFit { PlanHeader.zero with nMin := 3, fallback := true } (some 205000) 9 e).line = some ⟨205000, 12, true⟩ := by
  decide

/-- A RUNNING test whose force is the count and whose stress is the force, with one head that has sent its strain. -/
abbrev judging (hd : PlanHeader) (strain : Int) (e : Evu) : State :=
  { running with
    tsq := { running.tsq with
      specimen := some { coupon with area := 1000 }
      program := some ⟨{ hd with windowLength := 64, decimation := 1 }, [pull]⟩ }
    fcu := { up.fcu with tables := { up.fcu.tables with a := some [⟨0, 0⟩, ⟨8000000, 8000000⟩] } }
    exm := { running.exm with
      heads := ⟨{ HeadEntry.reset with
        configured := true, state := .measuring, testHead := true, lastGood := strain * 5, readOk := true },
        HeadEntry.reset⟩
      source := .extensometer, removal := .watching }
    evu := { e with result := some .fresh } }

/-- A point of a stress. -/
abbrev stressed (y : Int) : Point := { Point.zero with force := y, stress := y }

theorem test_witness_ElasticFitOnAPoint :
    let hd := { PlanHeader.zero with sigmaLo := 100, sigmaHi := 200, nMin := 2, eMin := 1, eMax := 999999 }
    let s := judging hd 50 { Evu.reset with phase := .elastic, fit := .collecting, sums := ⟨2, 50, 300, 2500, 12500⟩ }
    let t := fun y => after (.conversionComplete (quiet y)) s
    s.evaluates (quiet 150) ∧ s.evu.phase ≠ .fractured ∧ s.evu.fit = .collecting ∧ s.evu.result = some .fresh ∧
    (t 150).evu.sums = ⟨3, 100, 450, 5000, 20000⟩ ∧ (t 99).evu.sums = s.evu.sums ∧ (t 150).inTest = true ∧
    (t 201).evu.fit = .done ∧ (t 201).cli.pending.result = true := by decide +kernel

theorem test_witness_ProofStressIsFixed :
    let hd := { PlanHeader.zero with offsetStrain := 20 }
    let e := { Evu.reset with
      phase := .hardening, fit := .done, line := some ⟨10000, 0, false⟩, search := .opened, searchPrev := some ⟨10, 100⟩ }
    let s := fun x => judging hd x e
    let t := fun x => after (.conversionComplete (quiet 120)) (s x)
    (s 150).evaluates (quiet 120) ∧ (s 150).exm.source = .extensometer ∧ (s 150).evu.search = .opened ∧
    (t 150).evu.result.map (·.rp) = some (.fixed 110 0) ∧ (t 150).evu.search = .closed ∧
    (t 139).evu.searchPrev = some ⟨19, 120⟩ ∧ (t 139).inTest = true ∧
    (let h := { hd with sigmaHi := 100, nMin := 2, eMin := 1, eMax := 999999 }
     let s := judging h 150 { Evu.reset with
       phase := .elastic, fit := .collecting, sums := ⟨2, 50, 300, 2500, 12500⟩ }
     let t := after (.conversionComplete (quiet 120)) s
     s.evu.line = none ∧ t.evu.line = some ⟨40000, -13, false⟩ ∧ t.evu.result.map (·.rp) = some (.fixed 120 0)) := by
  decide +kernel

theorem test_witness_YieldIsFound :
    let hd := { PlanHeader.zero with
      yieldDrop := 10, yieldSearchLimit := 500, yieldSpanLimit := 500, transientSkip := 1, maxPassedDrop := 1000 }
    let e := { Evu.reset with phase := .elastic, maxPassedArmed := true, smax := some (stressed 200) }
    let t := fun c x => after (.conversionComplete (quiet 190)) (classified c (judging hd x e))
    let k := fun c => { Evu.reset with
      phase := .yielding, smax := some (stressed 200), tracker := some ⟨100, 1, c⟩ }
    let u := fun c y => after (.conversionComplete (quiet y)) (judging hd 50 (k c))
    (judging hd 50 e).evaluates (quiet 190) ∧ (judging hd 50 e).evu.phase = .elastic ∧
    (t .falling 50).evu.phase = .yielding ∧ (t .falling 50).evu.result.map (·.reh) = some (.fixed 200 0) ∧
    (t .falling 50).inTest = true ∧ (t .rising 50).evu.phase = .elastic ∧ (t .rising 500).evu.phase = .elastic ∧
    (t .rising 501).evu.phase = .hardening ∧
    (u none 199).evu.tracker.map (·.candidate.map (·.stress)) = some (some 199) ∧
    (u (some (stressed 180)) 190).evu.tracker = some ⟨100, 2, some (stressed 180)⟩ ∧
    (u (some (stressed 180)) 200).evu.result.map (·.rel) = some (.fixed 180 0) ∧
    (u none 200).evu.result.map (·.rel) = some (.absent .transientOnly) ∧
    (let s := judging { hd with yieldDrop := 0, sigmaHi := 100 } 50 { Evu.reset with phase := .elastic }
     (after (.conversionComplete (quiet 101)) s).evu.phase = .hardening ∧
     (after (.conversionComplete (quiet 100)) s).evu.phase = .elastic) := by decide +kernel

theorem test_witness_MaximumAndFractureAreFixed :
    let hd := { PlanHeader.zero with maxPassedDrop := 100, fractureFraction := 500, abruptFraction := 1000 }
    let e := { Evu.reset with
      phase := .hardening, maxPassedArmed := true, fmax := some (stressed 1000), prev := some (stressed 990) }
    let s := fun armed => judging { hd with fractureArmForce := if armed then 0 else 99999 } 50 e
    let t := fun armed y => after (.conversionComplete (quiet y)) (s armed)
    (s true).evaluates (quiet 900) ∧ (s true).calm (quiet 900) ∧ (s true).evu.phase = .hardening ∧
    (s true).evu.prev = some (stressed 990) ∧ (s true).evu.result = some .fresh ∧
    (t false 901).evu.phase = .hardening ∧ (t false 900).evu.phase = .necking ∧
    (t false 900).evu.result.map (·.rm) = some (.fixed 1000 0) ∧
    (t true 500).evu.phase = .necking ∧ (t true 499).evu.phase = .fractured ∧
    (t true 499).evu.result.map (·.fractureForce) = some (.fixed 990 0) ∧
    (t true 499).evu.result.map (·.a) = some (.absent .fitFailed) ∧
    (t true 499).glc.stands .front .lift = true := by decide +kernel

theorem test_witness_ExtensometerComesOff :
    let hd := { PlanHeader.zero with removalStrain := 100, protectStrain := 300, offsetStrain := 20 }
    let e := { Evu.reset with phase := .hardening }
    let open_ := fun x => judging hd x e
    let t := fun s => after (.conversionComplete (quiet 120)) s
    (open_ 99).evaluates (quiet 120) ∧ (open_ 99).exm.removal = .watching ∧ (t (open_ 99)).exm.removal = .watching ∧
    (t (open_ 100)).exm.removal = .deferred ∧ (t (open_ 299)).exm.removal = .deferred ∧
    (t (open_ 300)).exm.removal = .handedOver ∧ (t (open_ 300)).exm.trigger = some .strain ∧
    (let s := { open_ 300 with exm := { (open_ 300).exm with removal := .deferred, trigger := some .necking } }
     (t s).exm.trigger = some .necking ∧ (t s).exm.source = .estimated) ∧
    (let s := judging hd 50 { Evu.reset with phase := .yielding, search := .opened, prev := some { Point.zero with source := .extensometer } }
     let s := { s with exm := { s.exm with source := .estimated, removal := .handedOver } }
     s.evaluates (quiet 120) ∧ s.exm.source ≠ .extensometer ∧
     (t s).evu.result.map (·.rp) = some (.absent .extensometerRemoved) ∧ (t s).evu.phase = .hardening) ∧
    (let s := judging { hd with fallback := true } 50 { Evu.reset with phase := .elastic, fit := .collecting }
     let s := { s with
       exm := { s.exm with source := .estimated, removal := .handedOver }
       tsq := { s.tsq with specimen := some { coupon with nominalModulus := some 205000 } } }
     s.evu.prev = none ∧ (t s).evu.result.map (·.e) = some (.fixed 205000 0) ∧
     (t s).evu.search = .notOpen) := by decide +kernel

/-- A test whose fields are all OPEN and whose fit collects, in HOLDING, with a fallback modulus or none. -/
abbrev unfinished (fallback : Bool) : State :=
  let s := judging { PlanHeader.zero with offsetStrain := 20, fallback := fallback } 50
    { Evu.reset with phase := .elastic, fit := .collecting, sums := ⟨2, 1000, 20000, 1000000, 20000000⟩ }
  heldFor .paused none .holding { s with tsq := { s.tsq with
    specimen := some { coupon with area := 1000, nominalModulus := some 205000 } } }

theorem test_witness_ResultFieldsCloseAtEntryAndEnd_end :
    let t := fun b => after (.abort 1 []) (unfinished b)
    let tripped := after (.conversionComplete ⟨0, 0, false, false⟩) (unfinished false)
    (unfinished true).inTest = true ∧ (unfinished true).evu.result = some .fresh ∧
    (unfinished true).fallback = some 205000 ∧ (unfinished false).fallback = none ∧
    (t true).tsq.state = .ended ∧ (t true).tsq.endReason = some .aborted ∧ EndReason.aborted ≠ .fracture ∧
    (t true).evu.result.map (fun r => (r.e, r.x0, r.rp, r.fitCount)) =
      some (.fixed 205000 0, .fixed 12 0, .absent .testAborted, 2) ∧ (t true).evu.search = .closed ∧
    (t false).evu.result.map (fun r => (r.e, r.x0, r.rm)) =
      some (.absent .testAborted, .absent .testAborted, .absent .testAborted) ∧ (t false).evu.search = .notOpen ∧
    (t false).cli.pending.result = false ∧ (unfinished false).lmu.trip = .clear ∧
    ¬ (unfinished false).readyUnwatched ∧ tripped.tsq.endReason = some .tripped ∧
    tripped.evu.result.map (·.a) = some (.absent .testAborted) ∧
    (let s := heldFor .onEnd none .holding running
     (after (.resume 1 []) s).evu.result.map (·.rm) = some (.absent .notReached)) ∧
    (let s := { taring with evu := { up.evu with result := some .fresh }, tsq := { taring.tsq with startTareCount := 19999 } }
     s.tsq.startStep ≠ some .entry ∧
     (after (.conversionComplete (quiet 0)) s).evu.result.map (·.e) = some (.absent .testAborted)) ∧
    (let s := { seqIn .ending (driveIn .stopping moving) with tsq := { moving.tsq with
        state := .ending, pendingEnd := some .complete } }
     s.calm (quiet 0) ∧
     (after (.conversionComplete (quiet 0)) s).evu.result.map (·.rm) = some (.absent .notReached)) := by decide +kernel

theorem test_witness_ResultFieldsCloseAtEntryAndEnd_entry :
    let s := fun hd m => { entering with
      tsq := { entering.tsq with
        program := some ⟨hd, [pull]⟩, specimen := some { coupon with nominalModulus := m } }
      evu := { up.evu with result := some .fresh } }
    let r := fun s => (after (.conversionComplete (quiet 0)) s).evu.result.map fun r => (r.e, r.rp, r.reh, r.rm)
    (s plain none).calm (quiet 0) ∧ (s plain none).drl.state = .idle ∧ (s plain none).tsq.startStep = some .entry ∧
    r (s plain none) = some (.absent .notRequested, .absent .notRequested, .absent .notRequested, .opened) ∧
    r (s { plain with fallback := true, offsetStrain := 1, yieldDrop := 1 } (some 205000)) =
      some (.fixed 205000 0, .opened, .opened, .opened) ∧
    (let q := s plain none
     let q := { q with exm := { q.exm with heads := { q.exm.heads with
       rear := { HeadEntry.reset with configured := true, state := .clamped, testHead := true } } } }
     r q = some (.opened, .absent .notRequested, .absent .notRequested, .opened) ∧
     (after (.conversionComplete (quiet 0)) q).evu.fit = .collecting) := by decide +kernel

/-- The test RUNNING with a ring of `n` records, at a decimation number, with decimation 3. -/
abbrev storing (n number level : Nat) : State :=
  { running with
    tsq := { running.tsq with program := some ⟨{ plain with decimation := 3 }, [pull]⟩ }
    sms := { running.sms with
      ring := List.replicate n (record 1), decimation := number, thinning := level, thinnedPending := true } }

theorem test_witness_SampleStoreTakesAPoint :
    let t := fun n number level => (after (.conversionComplete (quiet 0)) (storing n number level)).sms
    (storing 1 3 0).evaluates (quiet 0) ∧ (storing 1 3 0).sms.recording = true ∧ 4294967294 < 4294967295 ∧
    (t 1 3 0).ring.length = 2 ∧ ((t 1 3 0).ring.getLast?.map (·.point.flags.thinned)) = some true ∧
    (t 1 4 0).ring.length = 1 ∧ (t 1 4 0).thinnedPending = true ∧ (t 1 4 0).pointsNotStored = 0 ∧
    (t 768 3 0).thinning = 0 ∧ (t 769 3 0).thinning = 1 ∧ (t 769 3 0).pointsNotStored = 1 ∧ (t 769 6 0).ring.length = 770 ∧
    (t 1008 6 1).thinning = 2 ∧ (t 1007 6 1).thinning = 1 ∧ (t 512 6 2).thinning = 0 ∧ (t 513 6 2).thinning = 2 ∧
    (entering.calm (quiet 0) ∧ entering.tsq.startStep = some .entry ∧
     (after (.conversionComplete (quiet 0)) entering).sms.ring.map (·.kind) = [.testStart, .segmentStart, .point]) ∧
    (let s := seqIn .held (storing 769 3 0)
     let s := { s with tsq := { s.tsq with resumeEntry := some 0 } }
     (after (.conversionComplete (quiet 0)) s).sms.segStartsNotStored = 1) ∧
    (let t := after (.conversionComplete (quiet 0)) { breaking with drl := { breaking.drl with velocity := 0, rate := 0 }, sms := running.sms }
     t.tsq.state = .ended ∧ t.sms.ring.getLast?.map (·.kind) = some .testEnd) := by decide +kernel

/-- A deferred removal goes ahead on the point on which a Resume enters segment 0: the HANDOVER mark comes before the
SEGMENT_START (log 11), so that one let go at level 2 does not show on the mark but on the next record. -/
theorem test_witness_SampleStoreTakesAPoint_handover :
    let s := fun n number level pending => { storing n number level with
      tsq := { (storing n number level).tsq with state := .held, heldReason := some .paused, resumeEntry := some 0 }
      exm := { measuring.exm with removal := .deferred }
      sms := { (storing n number level).sms with thinnedPending := pending } }
    let t := fun n number level pending => (after (.conversionComplete (quiet 0)) (s n number level pending)).sms
    let added := fun m n => (m.ring.drop n).map fun r => (r.kind, r.point.flags.thinned)
    (s 1 3 0 true).evaluates (quiet 0) ∧ (s 1009 4 2 false).evaluates (quiet 0) ∧
    added (t 1 3 0 true) 1 = [(.handover, true), (.segmentStart, false), (.point, false)] ∧
    added (t 1009 4 2 false) 1009 = [(.handover, false)] ∧ (t 1009 4 2 false).thinnedPending = true ∧
    (t 1009 4 2 false).segStartsNotStored = 1 := by decide +kernel

/-- Pacing at each of its bounds: the first record, the count, the delay, a mark, and in RAISED nothing. -/
theorem test_witness_PacingCallsTheComputer :
    let paced := fun p stored delay => { storing 1 3 0 with sms := { (storing 1 3 0).sms with
      pacing := p, storedSinceRaise := stored, delayCount := delay } }
    let t := fun s => let m := (after (.conversionComplete (quiet 0)) s).sms
      (m.pacing, m.storedSinceRaise, m.delayCount)
    (paced .waiting 0 0).inReset = false ∧ t (paced .waiting 7 7) = (.counting, 1, 0) ∧
    t (paced .counting 30 198) = (.counting, 31, 199) ∧ t (paced .counting 31 0) = (.raised, 0, 0) ∧
    t (paced .counting 0 199) = (.raised, 0, 0) ∧ t (paced .raised 5 6) = (.raised, 5, 6) ∧
    (after (.conversionComplete (quiet 0)) (paced .counting 0 199)).cli.pending.samples = true ∧
    t { paced .counting 30 5 with sms := { (paced .counting 30 5).sms with decimation := 4 } } = (.counting, 30, 6) ∧
    (let s := heldFor .paused none .holding (paced .counting 3 4)
     let u := after (.abort 1 []) s
     u.sms.ring.map (·.kind) = [.testStart, .testEnd] ∧ u.sms.pacing = .raised ∧ u.cli.pending.samples = true) ∧
    (let u := after (.removeExtensometer 1 []) { measuring with sms := { measuring.sms with pacing := .waiting } }
     u.sms.pacing = .raised ∧ u.sms.storedSinceRaise = 0) := by decide +kernel

/-- A range and a history of 16 forces that swing about 0 by 60. -/
abbrev ranged (r : Machine.Range) (f : Fcu → Fcu) : State :=
  withFcu (fun g => f { g with range := r, history := (List.range 16).map fun i => if i % 2 = 0 then 60 else -60 }) up

theorem test_witness_RangeAndClassifierOnAPoint :
    let t := fun s n => (after (.conversionComplete (quiet n)) s).fcu
    let s := fun r => ranged r id
    (s .b).inReset = false ∧ (t (s .b) 7200000).range = .b ∧ (t (s .b) 7200001).range = .a ∧
    (t (s .c) (-8300000)).range = .b ∧ (t (s .a) 8300000).range = .a ∧
    (t (ranged .a fun g => { g with downCount := 199 }) 1199999).range = .b ∧
    (t (ranged .a fun g => { g with downCount := 199 }) 1200000).downCount = 0 ∧
    (t (ranged .d fun g => { g with downCount := 199 }) 0).range = .d ∧
    (t (ranged .b fun g => { g with discardPending := true }) 7200001).range = .b ∧
    (t (ranged .a fun g => { g with discardPending := true }) 0).history = (s .a).fcu.history ∧
    (s .a).fcu.history = 60 :: (s .a).fcu.history.drop 1 ∧ ((s .a).fcu.history.drop 1).length = 15 ∧
    (t (s .a) 48000).classifier = .erratic ∧ (t (s .a) 48000).slope = 0 ∧ (t (s .a) 0).classifier = .quiet ∧
    (t (s .a) 4000000).classifier = .rising ∧ (t (s .a) (-4000000)).classifier = .falling ∧
    (t (withFcu (fun g => { g with history := [] }) up) 5).history.length = 1 ∧
    (let s := ranged .a fun g => { g with levelTimer := ⟨1, 1, 1, 1⟩ }
     (t s 0).settled = true ∧ (t (withFcu (fun g => { g with settled := true }) s) 48000).settled = false) := by
  decide +kernel

/-- The timers at their last count and before it, the tare wait at 19,998 and 19,999 points, and a slip with each
action. -/
theorem test_witness_RangeAndClassifierOnAPoint_timers :
    let t := fun s => (after (.conversionComplete (quiet 0)) s)
    let shaken := fun x => withFcu (fun f => { f with classifier := .falling, unrestTimer := x, unrestEvents := 65535 }) up
    let waiting := fun n => withFcu (fun f => { f with tareWait := some n, tareOutcome := .pending }) (classified .rising up)
    let slips := fun a => withFcu (fun f => { f with unrestTimer := ⟨1, 1, 1, 1⟩ }) (slipping a)
    (t (shaken ⟨3, 2, 2, 2⟩)).fcu.unrestTimer = ⟨3, 2, 1, 2⟩ ∧ (t (shaken ⟨3, 2, 1, 2⟩)).fcu.unrestTimer = ⟨3, 2, 3, 1⟩ ∧
    (t (shaken ⟨3, 2, 1, 1⟩)).fcu.unrestTimer = ⟨3, 2, 3, 2⟩ ∧ (t (shaken ⟨3, 2, 1, 1⟩)).fcu.unrestEvents = 65535 ∧
    (t (classified .quiet (shaken ⟨3, 2, 2, 2⟩))).fcu.unrestTimer = ⟨3, 2, 2, 2⟩ ∧
    (t (waiting 19998)).fcu.tareWait = some 19999 ∧ (t (waiting 19999)).fcu.tareWait = none ∧
    (t (waiting 19999)).fcu.tareOutcome = .notSettled ∧ (waiting 0).tsq.state ≠ .starting ∧
    (t (withFcu (fun f => { f with settled := true }) (waiting 19999))).fcu.tareOutcome = .ok ∧
    (slips .hold).evaluates (quiet 0) ∧ (slips .hold).evu.result = some .fresh ∧
    (t (slips .carryOn)).evu.result.map (·.slipCount) = some 1 ∧ (t (slips .carryOn)).tsq.segmentTime = 1 ∧
    (t (slips .hold)).tsq.heldReason = some .slip ∧ (t (slips .hold)).tsq.segmentTime = 0 ∧
    (t (slips .abort)).tsq.state = .ending ∧ (t (slips .abort)).drl.state = .stopping ∧
    (t (heldFor .paused none .holding (slips .abort))).tsq.endReason = some .aborted := by decide +kernel

theorem test_witness_PayloadsAreReadBack :
    coupon.lawful ∧ ({ coupon with id := List.replicate 16 0x7E, heatId := some [] } : Specimen).lawful ∧
    plain.fits = true ∧ ({ plain with nMin := 4294967295 } : PlanHeader).fits = true ∧ (∀ g ∈ [pull], g.fits = true) ∧
    (⟨.dwell, -2147483648, [⟨.timeElapsed, some 2147483647⟩, ⟨.maxPassed, none⟩, ⟨.loadSettled, none⟩], .next⟩ :
      Segment).fits = true ∧
    FrameConfig.default.lawful ∧ (∀ b ∈ cellTable, fits32 b.count = true ∧ fits32 b.force = true) := by
  simp only [← Laws.specimen_inRange_iff, ← Laws.frame_inRange_iff]
  decide

/-! ### The invariants hold in states that a run reaches, and their steps answer -/

theorem test_witness_LinkAndMeasuringRecordsStayConsistent_link :
    QueueBounded (withReplies 4 up) ∧ ReceiverConsistent (up.withReceiver .body (some [2, 0])) ∧
    ReceiverConsistent (up.withReceiver .check (some [0, 0, 7, 1])) ∧
    ∃ t, step { withReplies 4 up with pending := [.identify 1 []] } = .next t :=
  ⟨Nat.le_refl 4, show 2 ≤ 2 ∧ 2 < frameLengthField [2, 0] + 4 ∧ frameLengthField [2, 0] ≤ 512 by decide,
    show frameLengthField [0, 0, 7, 1] + 4 ≤ 4 ∧ 4 < frameLengthField [0, 0, 7, 1] + 6 ∧
      frameLengthField [0, 0, 7, 1] ≤ 512 by decide, _, rfl⟩

theorem test_witness_AttentionTripAndCommandStayConsistent_attention :
    NoticeConsistent up ∧ TripConsistent tripped ∧ TripConsistent up ∧
    (∃ t, step { up with pending := [.acknowledge 1 [8]] } = .next t) ∧
    ∃ t, step { tripped with pending := [.clearTrip 1 []] } = .next t :=
  ⟨⟨fun _ => ⟨.restarted, rfl⟩, fun _ => rfl⟩, by unfold TripConsistent; decide, by unfold TripConsistent; decide,
    ⟨_, rfl⟩, _, rfl⟩

/-- RUNNING with the command at max speed. -/
abbrev fast : State := { running with drl := running.drl.write 20000 }

theorem test_witness_AttentionTripAndCommandStayConsistent_command :
    DriveBounded fast ∧ ∃ t, step { fast with pending := [.conversionComplete (quiet 0)] } = .next t :=
  ⟨by unfold DriveBounded; decide, _, rfl⟩

theorem test_witness_LinkAndMeasuringRecordsStayConsistent_measuring :
    ForceConsistent up ∧ GaugeConsistent (slotIn .clamp .linkWait up) ∧
    ∃ t, step { up with pending := [.levelTimerExpiry] } = .next t :=
  ⟨by unfold ForceConsistent Timer.consistent; decide, by unfold GaugeConsistent GlcHead.consistent; decide, _, rfl⟩

theorem test_witness_TestConsistent :
    TestConsistent running ∧ running.inTest = true ∧ running.evu.result = some .fresh ∧
    ∃ t, step { running with pending := [.conversionComplete (quiet 500)] } = .next t := by
  refine ⟨⟨⟨?_, ?_⟩, ?_, ?_, ?_, ?_, ?_⟩, rfl, rfl, _, rfl⟩
  · refine ⟨by decide, by decide, ?_⟩
    intro l h
    exact nomatch (h : none = some l)
  · unfold RunRecordConsistent; decide
  · unfold StrainConsistent; decide
  · refine ⟨by decide, by decide, by decide, by decide, ?_, by decide⟩
    intro r h
    exact nomatch (h : true = false)
  · exact ⟨by decide, rfl⟩
  · exact ⟨by decide, fun _ => by decide⟩
  · unfold PacingConsistent; decide

end Sys2Proof.Tests
end

section
/-! The sequencer's and the strain's records stay in agreement (O57). `TestRecordsAgree` is kept by every operation that
touches them, from the ending and the holding of a test up to the point path, the completion of a transaction and the
requests; the operations that leave them alone keep it by their frame lemmas. -/

namespace Sys2Proof.Proofs

open Sys2Proof.Machine Sys2Proof.Laws

/-- The records that O57 speaks of: the sequencer's agree with its state, the strain's with one another and the test. -/
def TestRecordsAgree (s : State) : Prop := SequencerConsistent s ∧ StrainConsistent s

/-- What reads the records of the sequencer and of the strain alone. -/
theorem TestRecordsAgree.of_same {s t : State} (h : TestRecordsAgree s)
    (hsame : t.tsq = s.tsq ∧ t.exm.source = s.exm.source ∧ t.exm.removal = s.exm.removal ∧
      t.exm.frozenStrain = s.exm.frozenStrain) : TestRecordsAgree t := by
  obtain ⟨htsq, hsource, hremoval, hfrozen⟩ := hsame
  simpa only [TestRecordsAgree, SequencerConsistent, StrainConsistent, htsq, hsource, hremoval, hfrozen] using h

theorem enterEnded_tsq (why : EndReason) (cause : Option StartCause) (s : State) :
    (enterEnded why cause s).tsq =
      { s.tsq with
        state := .ended, endReason := some why, startCause := cause, currentSegment := none, segmentTime := 0
        heldReason := none, heldAt := none, pendingEnd := none, startStep := none, startTareCount := 0
        resumeEntry := none } := by
  simp [enterEnded]

theorem extTestEnd_strain (s : State) :
    (extTestEnd s).exm.source = .none ∧ (extTestEnd s).exm.removal = .idle ∧
    (extTestEnd s).exm.frozenStrain = none := by
  unfold extTestEnd
  dsimp only
  split <;> simp

theorem enterEnded_strain (why : EndReason) (cause : Option StartCause) (s : State) :
    (enterEnded why cause s).exm.source = .none ∧ (enterEnded why cause s).exm.removal = .idle ∧
    (enterEnded why cause s).exm.frozenStrain = none := by
  simp [enterEnded, extTestEnd_strain]

theorem inTest_program {t : Tsq} (h : ProgramConsistent t) (hin : t.state.inTest = true) :
    t.load = none ∧ t.program.isSome = true := by
  obtain ⟨hload, hprogram, -⟩ := h
  cases hs : t.state <;> simp_all [SeqState.inTest]

theorem enterEnded_agrees {s : State} (h : SequencerConsistent s) (hin : s.inTest = true) {why : EndReason}
    {cause : Option StartCause} (hc : cause.isSome = true ↔ why = .startFailed) :
    TestRecordsAgree (enterEnded why cause s) := by
  obtain ⟨hload, hprogram⟩ := inTest_program h.1 hin
  obtain ⟨hsource, hremoval, hfrozen⟩ := enterEnded_strain why cause s
  simp [TestRecordsAgree, SequencerConsistent, ProgramConsistent, RunRecordConsistent, StrainConsistent,
    enterEnded_tsq, hload, hprogram, hsource, hremoval, hfrozen, hc, SeqState.evaluated]

/-! ### Holding and ending a test -/

theorem enterHeld_tsq (why : HeldReason) (heldAt : Option Nat) (s : State) :
    (enterHeld why heldAt s).tsq =
      { s.tsq with
        state := .held, heldReason := some why, heldAt := heldAt, startStep := none, resumeEntry := none } := by
  unfold enterHeld
  dsimp only
  split <;> simp

/-- A test that is STARTING, RUNNING or HELD may be held. -/
theorem enterHeld_sequencer {s : State} (h : SequencerConsistent s) (hin : s.inTest = true)
    (hne : s.tsq.state ≠ .ending) {why : HeldReason} {heldAt : Option Nat}
    (hat : heldAt.isSome = true ↔ why = .holdPoint) : SequencerConsistent (enterHeld why heldAt s) := by
  obtain ⟨hload, hprogram⟩ := inTest_program h.1 hin
  obtain ⟨-, -, hpending, htripped, hfailed, -, hcause, -, -⟩ := h.2
  have hnone : s.tsq.pendingEnd = none := by simpa [hne] using hpending
  simp [SequencerConsistent, ProgramConsistent, RunRecordConsistent, enterHeld_tsq, hload, hprogram, hnone, hcause, hat]

/-- The strain records of a test on whose points the Evaluation Unit acts stay in agreement while the test does so. -/
theorem strainConsistent_of_evaluated {s t : State} (h : StrainConsistent s)
    (hs : s.tsq.state.evaluated = true) (ht : t.tsq.state.evaluated = true)
    (hexm : t.exm = s.exm) : StrainConsistent t := by
  simpa only [StrainConsistent, hexm, hs, ht] using h

theorem evaluated_inTest {q : SeqState} (h : q.evaluated = true) : q.inTest = true := by
  cases q <;> simp_all [SeqState.evaluated, SeqState.inTest]

theorem enterHeld_agrees {s : State} (h : TestRecordsAgree s) (hq : s.tsq.state = .running ∨ s.tsq.state = .held)
    {why : HeldReason} {heldAt : Option Nat} (hat : heldAt.isSome = true ↔ why = .holdPoint) :
    TestRecordsAgree (enterHeld why heldAt s) := by
  have heval : s.tsq.state.evaluated = true := by rcases hq with hq | hq <;> rw [hq] <;> rfl
  refine ⟨enterHeld_sequencer h.1 (evaluated_inTest heval) ?_ hat,
    strainConsistent_of_evaluated h.2 heval ?_ (by simp)⟩
  · rcases hq with hq | hq <;> simp [hq]
  · rw [enterHeld_tsq]; rfl

theorem holdCause_agrees {s : State} (h : TestRecordsAgree s) {why : HeldReason} (hwhy : why ≠ .holdPoint) :
    TestRecordsAgree (holdCause why s) := by
  unfold holdCause
  split
  · exact enterHeld_agrees h (.inl ‹_›) (by simpa using hwhy)
  · exact h

theorem enterEnding_agrees {s : State} (h : TestRecordsAgree s) (hq : s.tsq.state = .running ∨ s.tsq.state = .held)
    {why : EndReason} (hwhy : why ≠ .tripped ∧ why ≠ .startFailed) : TestRecordsAgree (enterEnding why s) := by
  have ending : TestRecordsAgree ((s.onTsq fun t =>
      { t with state := .ending, pendingEnd := some why, heldReason := none, heldAt := none
               resumeEntry := none }).onDrl Drl.stop) := by
    have heval : s.tsq.state.evaluated = true := by rcases hq with hq | hq <;> rw [hq] <;> rfl
    obtain ⟨hload, hprogram⟩ := inTest_program h.1.1 (evaluated_inTest heval)
    obtain ⟨-, -, -, -, -, hstep, hcause, -, -⟩ := h.1.2
    have hnone : s.tsq.startStep = none := by rcases hq with hq | hq <;> simpa [hq] using hstep
    refine ⟨?_, strainConsistent_of_evaluated h.2 heval rfl rfl⟩
    simp [SequencerConsistent, ProgramConsistent, RunRecordConsistent, hload, hprogram, hcause, hnone, hwhy]
  unfold enterEnding
  dsimp only
  split
  · exact enterEnded_agrees ending.1 rfl (by simpa using hwhy.2)
  · exact ending

theorem reportIdle_agrees {s : State} (h : TestRecordsAgree s) : TestRecordsAgree (reportIdle s) := by
  unfold reportIdle
  split
  · exact h.of_same (by simp)
  · split
    · rename_i why hstate hpending
      refine enterEnded_agrees h.1 (by simp [State.inTest, hstate, SeqState.inTest]) ?_
      obtain ⟨-, -, -, -, hfailed, -⟩ := h.1.2
      simpa [hpending] using hfailed
    · exact h

theorem reportIfIdle_agrees {s : State} (h : TestRecordsAgree s) : TestRecordsAgree (reportIfIdle s) := by
  unfold reportIfIdle
  split
  · exact reportIdle_agrees h
  · exact h

theorem slipAction_agrees {s : State} (h : TestRecordsAgree s) : TestRecordsAgree (slipAction s) := by
  unfold slipAction
  split
  · exact enterHeld_agrees h (.inl ‹_›) (by simp)
  · exact enterEnding_agrees h (.inl ‹_›) (by simp)
  · exact enterEnding_agrees h (.inr ‹_›) (by simp)
  · exact h

theorem handTrip_agrees {s : State} (h : TestRecordsAgree s) : TestRecordsAgree (handTrip s) := by
  have driven : TestRecordsAgree (driveTrip s) := h.of_same (by simp)
  have ended : TestRecordsAgree (if (driveTrip s).inTest then enterEnded .tripped none (driveTrip s)
      else driveTrip s) := by
    split
    · exact enterEnded_agrees driven.1 ‹_› (by simp)
    · exact driven
  unfold handTrip
  exact ended.of_same (by simp)

theorem takeCause_agrees {s : State} (h : TestRecordsAgree s) (c : TripCause) : TestRecordsAgree (takeCause c s) := by
  unfold takeCause
  split
  · exact handTrip_agrees (h.of_same (by simp))
  · exact h.of_same (by simp)

/-! ### Segments -/

theorem enterSegment_tsq (i : Nat) (p : Point) (s : State) :
    (enterSegment i p s).tsq =
      { s.tsq with
        state := .running, visited := joinSet s.tsq.visited i, currentSegment := some i, segmentTime := 0
        heldReason := none, heldAt := none, startStep := none, resumeEntry := none } := by
  unfold enterSegment
  dsimp only
  split <;> simp

theorem enterSegment_sequencer {s : State} (h : SequencerConsistent s) (hin : s.inTest = true)
    (hne : s.tsq.state ≠ .ending) (i : Nat) (p : Point) : SequencerConsistent (enterSegment i p s) := by
  obtain ⟨hload, hprogram⟩ := inTest_program h.1 hin
  obtain ⟨-, -, hpending, -, -, -, hcause, -, -⟩ := h.2
  have hnone : s.tsq.pendingEnd = none := by simpa [hne] using hpending
  simp [SequencerConsistent, ProgramConsistent, RunRecordConsistent, enterSegment_tsq, hload, hprogram, hnone, hcause]

theorem reachSegment_sequencer {s : State} (h : SequencerConsistent s) (hin : s.inTest = true)
    (hne : s.tsq.state ≠ .ending) (i : Nat) (p : Point) : SequencerConsistent (reachSegment i p s) := by
  unfold reachSegment
  split
  · exact enterHeld_sequencer h hin hne (by simp)
  · exact enterSegment_sequencer h hin hne i p

theorem reachSegment_evaluated (i : Nat) (p : Point) (s : State) :
    (reachSegment i p s).tsq.state.evaluated = true := by
  unfold reachSegment
  split
  · rw [enterHeld_tsq]; rfl
  · rw [enterSegment_tsq]; rfl

/-- A segment entered or held at, in a test whose strain records already fit a test under evaluation. -/
theorem reachSegment_agrees {s : State} (h : TestRecordsAgree s) (hq : s.tsq.state = .running ∨ s.tsq.state = .held)
    (i : Nat) (p : Point) : TestRecordsAgree (reachSegment i p s) := by
  have heval : s.tsq.state.evaluated = true := by rcases hq with hq | hq <;> rw [hq] <;> rfl
  refine ⟨reachSegment_sequencer h.1 (evaluated_inTest heval) ?_ i p,
    strainConsistent_of_evaluated h.2 heval (reachSegment_evaluated i p s) (by simp)⟩
  rcases hq with hq | hq <;> simp [hq]

theorem onEndAction_agrees {s : State} (h : TestRecordsAgree s) (hq : s.tsq.state = .running) (i : Nat) (a : OnEnd)
    (p : Point) : TestRecordsAgree (onEndAction i a p s) := by
  cases a with
  | next =>
    unfold onEndAction
    dsimp only
    split
    · exact enterEnding_agrees h (.inl hq) (by simp)
    · exact reachSegment_agrees h (.inl hq) _ p
  | hold => exact enterHeld_agrees h (.inl hq) (by simp)
  | endTest => exact enterEnding_agrees h (.inl hq) (by simp)

theorem runningPoint_agrees {s : State} (h : TestRecordsAgree s) (hq : s.tsq.state = .running) (p : Point) :
    TestRecordsAgree (runningPoint p s) := by
  unfold runningPoint
  split
  · exact h
  · split
    · exact h
    · split
      · exact onEndAction_agrees h hq _ _ p
      · exact h

theorem runningTaken_agrees {s : State} (h : TestRecordsAgree s) (hq : s.tsq.state = .running) (fractured : Bool)
    (p : Point) : TestRecordsAgree (runningTaken fractured p s) := by
  have counted : TestRecordsAgree (countSegmentTime s) := h
  unfold runningTaken
  dsimp only
  split
  · exact enterEnding_agrees counted (.inl hq) (by simp)
  · exact runningPoint_agrees counted hq p

theorem heldPoint_agrees {s : State} (h : TestRecordsAgree s) (hq : s.tsq.state = .held) (p : Point) :
    TestRecordsAgree (heldPoint p s) := by
  have heval : s.tsq.state.evaluated = true := by rw [hq]; rfl
  unfold heldPoint
  split
  · refine ⟨enterSegment_sequencer h.1 (evaluated_inTest heval) (by simp [hq]) _ p,
      strainConsistent_of_evaluated h.2 heval ?_ (by simp)⟩
    rw [enterSegment_tsq]; rfl
  · exact h

/-! ### The start of a test -/

theorem failStart_agrees {s : State} (h : TestRecordsAgree s) (hin : s.inTest = true) (cause : StartCause) :
    TestRecordsAgree (failStart cause s) := enterEnded_agrees h.1 hin (by simp)

/-- A start step belongs to STARTING. -/
theorem startStep_agrees {s : State} (h : TestRecordsAgree s) (hq : s.tsq.state = .starting) (x : StartStep) (n : Nat) :
    TestRecordsAgree (s.onTsq fun t => { t with startStep := some x, startTareCount := n }) := by
  obtain ⟨hheld, hat, hpending, htripped, hfailed, -, hcause, hsegment, hentry⟩ := h.1.2
  exact ⟨⟨h.1.1, hheld, hat, hpending, htripped, hfailed, fun _ => hq, hcause, hsegment, hentry⟩, h.2⟩

theorem setStartStep_agrees {s : State} (h : TestRecordsAgree s) (hq : s.tsq.state = .starting) (x : StartStep) :
    TestRecordsAgree (setStartStep x s) := startStep_agrees h hq x s.tsq.startTareCount

theorem askZero_agrees {s : State} (h : TestRecordsAgree s) (x : Head) : TestRecordsAgree (askZero x s) :=
  h.of_same (by simp)

theorem beginZero_agrees {s : State} (h : TestRecordsAgree s) (hq : s.tsq.state = .starting) :
    TestRecordsAgree (beginZero s) := by
  have step := fun x => setStartStep_agrees h hq x
  unfold beginZero
  split
  · exact askZero_agrees (step _) _
  · split
    · exact askZero_agrees (step _) _
    · exact step _

theorem takeTare_agrees {s : State} (h : TestRecordsAgree s) : TestRecordsAgree (takeTare s) := h

theorem waitTare_agrees {s : State} (h : TestRecordsAgree s) (hq : s.tsq.state = .starting) :
    TestRecordsAgree (waitTare s) := by
  unfold waitTare
  split
  · exact beginZero_agrees (takeTare_agrees h) hq
  · split
    · exact failStart_agrees (h.of_same (by simp)) (by simp [State.inTest, hq, SeqState.inTest]) _
    · exact h

theorem beginTare_agrees {s : State} (h : TestRecordsAgree s) (hq : s.tsq.state = .starting) :
    TestRecordsAgree (beginTare s) := by
  have begun : TestRecordsAgree (s.onTsq fun t => { t with startStep := some .tare, startTareCount := 0 }) :=
    startStep_agrees h hq .tare 0
  unfold beginTare
  dsimp only
  split
  · split
    · exact beginZero_agrees (takeTare_agrees begun) hq
    · exact begun
  · exact beginZero_agrees begun hq

theorem zeroOutcome_agrees {s : State} (h : TestRecordsAgree s) (x : Head) (o : SlotOutcome) :
    TestRecordsAgree (zeroOutcome x o s) := by
  unfold zeroOutcome
  split
  · rename_i hasked
    have hq : s.tsq.state = .starting := hasked.2
    have hin : s.inTest = true := by simp [State.inTest, hq, SeqState.inTest]
    cases o with
    | confirmed =>
      dsimp only
      unfold zeroConfirmed
      dsimp only
      split
      · exact askZero_agrees (h.of_same (by simp)) _
      · exact setStartStep_agrees (h.of_same (by simp)) (by simpa using hq) _
    | unconfirmed => exact failStart_agrees h hin _
    | failed => exact failStart_agrees h hin _
  · exact h

/-- At the entry point the source leaves NONE and the removal state leaves IDLE together (R117). -/
theorem extTestEntry_strain (s : State) :
    (extTestEntry s).exm.source = .extensometer ∧ (extTestEntry s).exm.removal = .watching ∨
    (extTestEntry s).exm.source = .estimated ∧ (extTestEntry s).exm.removal = .closed := by
  unfold extTestEntry
  dsimp only
  split <;> simp

theorem testEntry_agrees {s : State} (h : TestRecordsAgree s) (hq : s.tsq.state = .starting) (p : Point) :
    TestRecordsAgree (testEntry p s) := by
  have hin : s.inTest = true := by simp [State.inTest, hq, SeqState.inTest]
  have hsource : s.exm.source = .none := by simpa [hq, SeqState.evaluated] using h.2.2.2.1
  have hfrozen : s.exm.frozenStrain = none := by simpa [hsource] using h.2.2.1
  unfold testEntry
  dsimp only
  refine ⟨reachSegment_sequencer ?_ (by simpa [State.inTest] using hin) (by simp [hq]) 0 p, ?_⟩
  · obtain ⟨hheld, hat, hpending, htripped, hfailed, -, hcause, hsegment, hentry⟩ := h.1.2
    simp only [SequencerConsistent, onTsq_tsq, storeMark_frame, evalEntry_frame, extTestEntry_frame]
    exact ⟨h.1.1, hheld, hat, hpending, htripped, hfailed, nofun, hcause, hsegment, hentry⟩
  · simp only [StrainConsistent, reachSegment_evaluated]
    rcases extTestEntry_strain s with ⟨hs, hr⟩ | ⟨hs, hr⟩ <;> simp [hs, hr, hfrozen]

theorem startingPoint_agrees {s : State} (h : TestRecordsAgree s) (hq : s.tsq.state = .starting) (p : Point) :
    TestRecordsAgree (startingPoint p s) := by
  unfold startingPoint
  split
  · exact beginTare_agrees h hq
  · exact waitTare_agrees h hq
  · exact h
  · exact testEntry_agrees h hq p

theorem sequencerPoint_agrees {s : State} (h : TestRecordsAgree s) (fractured : Bool) (p : Point) :
    TestRecordsAgree (sequencerPoint fractured p s) := by
  unfold sequencerPoint
  split
  · exact startingPoint_agrees h ‹_› p
  · exact runningTaken_agrees h ‹_› fractured p
  · split
    · exact enterEnding_agrees h (.inr ‹_›) (by simp)
    · exact heldPoint_agrees h ‹_› p
  all_goals exact h

/-! ### Handover and fracture -/

theorem handover_strain (k : Trigger) (s : State) :
    (handover k s).exm.source = .estimated ∧ (handover k s).exm.removal = .handedOver := by
  simp [handover]

/-- A handover is taken from the strain source EXTENSOMETER, which a test under evaluation alone has. -/
theorem handover_agrees {s : State} (h : TestRecordsAgree s) (hsource : s.exm.source = .extensometer) (k : Trigger) :
    TestRecordsAgree (handover k s) := by
  obtain ⟨hto, hremoval⟩ := handover_strain k s
  have hfrozen : s.exm.frozenStrain = none := by simpa [hsource] using h.2.2.1
  have heval : s.tsq.state.evaluated = true := by simpa [hsource] using h.2.2.2.1
  refine ⟨by simpa [SequencerConsistent] using h.1, ?_⟩
  simp [StrainConsistent, hto, hremoval, hfrozen, heval]

theorem removalCheck_agrees {s : State} (h : TestRecordsAgree s) (p : Point) : TestRecordsAgree (removalCheck p s) := by
  have hext : s.exm.removal = .watching ∨ s.exm.removal = .deferred → s.exm.source = .extensometer := h.2.1.2
  unfold removalCheck
  split
  · rename_i hwatching
    have hsource := hext (.inl hwatching)
    split
    · split
      · obtain ⟨-, hfrozen, hnone, hidle⟩ := h.2
        refine ⟨h.1, ?_, hfrozen, hnone, ?_⟩
        · simp [hsource]
        · simpa [hwatching] using hidle
      · exact handover_agrees h hsource _
    · exact h
  · rename_i hdeferred
    split
    · exact handover_agrees h (hext (.inr hdeferred)) _
    · exact h
  all_goals exact h

theorem fractureFreeze_strain (p : Point) (s : State) :
    (fractureFreeze p s).exm.source = .frozen ∧ (fractureFreeze p s).exm.frozenStrain = some p.strain ∧
    (fractureFreeze p s).exm.removal =
      if s.exm.removal = .watching ∨ s.exm.removal = .deferred then .closed else s.exm.removal := by
  unfold fractureFreeze
  dsimp only
  split <;> simp

theorem fractureFreeze_agrees {s : State} (h : TestRecordsAgree s) (heval : s.tsq.state.evaluated = true) (p : Point) :
    TestRecordsAgree (fractureFreeze p s) := by
  obtain ⟨hsource, hfrozen, hremoval⟩ := fractureFreeze_strain p s
  have hidle : s.exm.removal ≠ .idle := h.2.2.2.2.2 heval
  refine ⟨by simpa [SequencerConsistent] using h.1, ?_⟩
  simp only [StrainConsistent, hsource, hfrozen, hremoval, fractureFreeze_frame, heval]
  split <;> simp_all

/-! ### The evaluation of a point -/

@[simp] theorem fractureEffects_slip (x : EvalInput) (o : EvalOut) : (fractureEffects x o).slip = o.slip := by
  unfold fractureEffects
  grind [EvalOut.on, EvalOut.mark, fixMaximum]

@[simp] theorem on_flags (f : Evu → Evu) (o : EvalOut) : (o.on f).fractured = o.fractured ∧ (o.on f).slip = o.slip :=
  ⟨rfl, rfl⟩

@[simp] theorem mark_flags (k : RecordKind) (p : Point) (o : EvalOut) :
    (o.mark k p).fractured = o.fractured ∧ (o.mark k p).slip = o.slip := ⟨rfl, rfl⟩

@[simp] theorem fixMaximum_flags (x : EvalInput) (o : EvalOut) :
    (fixMaximum x o).fractured = o.fractured ∧ (fixMaximum x o).slip = o.slip := ⟨rfl, rfl⟩

@[simp] theorem stepSource_flags (x : EvalInput) (o : EvalOut) :
    (stepSource x o).fractured = o.fractured ∧ (stepSource x o).slip = o.slip := by
  unfold stepSource; split <;> simp

@[simp] theorem stepFmax_flags (x : EvalInput) (o : EvalOut) :
    (stepFmax x o).fractured = o.fractured ∧ (stepFmax x o).slip = o.slip := by
  unfold stepFmax; repeat' split
  all_goals simp

@[simp] theorem stepYield_flags (x : EvalInput) (o : EvalOut) :
    (stepYield x o).fractured = o.fractured ∧ (stepYield x o).slip = o.slip := by
  unfold stepYield elasticYield upperYield endYield
  dsimp only
  repeat' split
  all_goals simp

@[simp] theorem stepMaxPassed_flags (x : EvalInput) (o : EvalOut) :
    (stepMaxPassed x o).fractured = o.fractured ∧ (stepMaxPassed x o).slip = o.slip := by
  unfold stepMaxPassed; dsimp only; split <;> simp

@[simp] theorem stepFit_flags (x : EvalInput) (o : EvalOut) :
    (stepFit x o).fractured = o.fractured ∧ (stepFit x o).slip = o.slip := by
  unfold stepFit; repeat' split
  all_goals simp

@[simp] theorem stepSearch_flags (x : EvalInput) (o : EvalOut) :
    (stepSearch x o).fractured = o.fractured ∧ (stepSearch x o).slip = o.slip := by
  unfold stepSearch crossing; dsimp only; repeat' split
  all_goals simp

@[simp] theorem stepMaxEffects_flags (x : EvalInput) (o : EvalOut) :
    (stepMaxEffects x o).fractured = o.fractured ∧ (stepMaxEffects x o).slip = o.slip := by
  unfold stepMaxEffects; split <;> simp

@[simp] theorem stepSlip_fractured (x : EvalInput) (o : EvalOut) : (stepSlip x o).fractured = o.fractured := by
  unfold stepSlip; split <;> simp

theorem unbrokenSteps_fractured (x : EvalInput) (o : EvalOut) : (unbrokenSteps x o).fractured = o.fractured := by
  simp [unbrokenSteps, stepPrev]

theorem evaluate_slip_of_fractured (x : EvalInput) (e : Evu) (h : (evaluate x e).fractured = true) :
    (evaluate x e).slip = false := by
  unfold evaluate at h ⊢
  dsimp only at h ⊢
  split at h
  · simp at h
  · rw [if_neg ‹_›]
    split at h
    · rw [if_pos ‹_›]
      simp
    · simp [unbrokenSteps_fractured] at h

theorem setHeadState_agrees {s : State} (h : TestRecordsAgree s) (x : Head) (st : HeadState) :
    TestRecordsAgree (setHeadState x st s) := h.of_same (by simp)

theorem recoveryLift_agrees {s : State} (h : TestRecordsAgree s) (x : Head) : TestRecordsAgree (recoveryLift x s) :=
  h.of_same (by simp)

theorem onHead_agrees {s : State} (h : TestRecordsAgree s) (x : Head) (f : HeadEntry → HeadEntry) :
    TestRecordsAgree (onHead x f s) := h.of_same (by simp)

theorem onGlc_agrees {s : State} (h : TestRecordsAgree s) (f : Glc → Glc) : TestRecordsAgree (s.onGlc f) :=
  h.of_same (by simp)

theorem onLmu_agrees {s : State} (h : TestRecordsAgree s) (f : Lmu → Lmu) : TestRecordsAgree (s.onLmu f) :=
  h.of_same (by simp)

theorem raise_agrees {s : State} (h : TestRecordsAgree s) (k : Source) : TestRecordsAgree (raise k s) :=
  h.of_same (by simp)

theorem addNotice_agrees {s : State} (h : TestRecordsAgree s) (n : Notice) : TestRecordsAgree (addNotice n s) :=
  h.of_same (by simp)

theorem evaluationPoint_agrees {s : State} (h : TestRecordsAgree s) (unrest : Bool) (p : Point) :
    TestRecordsAgree (evaluationPoint unrest p s).1 := by
  unfold evaluationPoint
  split
  · dsimp only
    have applied := h.of_same (t := applyEval (evaluate (s.evalInput unrest p) s.evu) s) (by simp)
    split
    · exact slipAction_agrees applied
    · exact applied
  · exact h

/-- Fracture is detected in a test under evaluation, which no slip on the same point has taken further. -/
theorem evaluationPoint_evaluated (unrest : Bool) (p : Point) (s : State) (h : (evaluationPoint unrest p s).2 = true) :
    (evaluationPoint unrest p s).1.tsq.state.evaluated = true := by
  unfold evaluationPoint at h ⊢
  split
  · rename_i heval
    rw [if_pos heval] at h
    simp [evaluate_slip_of_fractured _ _ h, heval]
  · rename_i heval
    simp [heval] at h

theorem managerPoint_agrees {s : State} (h : TestRecordsAgree s) {fractured : Bool}
    (heval : fractured = true → s.tsq.state.evaluated = true) (p : Point) :
    TestRecordsAgree (managerPoint fractured p s) := by
  unfold managerPoint
  split
  · exact fractureFreeze_agrees h (heval ‹_›) p
  · split
    · exact removalCheck_agrees h p
    · exact h

/-! ### The Drive Loop and the Limit Monitor on a point -/

theorem readyPoint_agrees {s : State} (h : TestRecordsAgree s) (ready : Bool) :
    TestRecordsAgree (readyPoint ready s) := by
  have sampled := h.of_same (t := s.onDrl fun d => { d with readyLevel := ready }) (by simp)
  unfold readyPoint
  dsimp only
  split
  · exact takeCause_agrees sampled _
  · exact sampled

theorem reportReadback_agrees {s : State} (h : TestRecordsAgree s) : TestRecordsAgree (reportReadback s) :=
  takeCause_agrees (h.of_same (t := s.onDrl _) (by simp)) _

theorem readbackPoint_agrees {s : State} (h : TestRecordsAgree s) (code held : Int) :
    TestRecordsAgree (readbackPoint code held s) := by
  unfold readbackPoint
  split
  · split
    · exact reportReadback_agrees h
    · exact h.of_same (by simp)
  · exact h.of_same (by simp)

theorem runningDrive_agrees {s : State} (h : TestRecordsAgree s) (first : Bool) (p : Point) :
    TestRecordsAgree (runningDrive first p s) := by
  unfold runningDrive
  split
  · exact h
  · dsimp only
    split
    · exact reportIfIdle_agrees (holdCause_agrees (h.of_same (by simp)) (by simp))
    · exact h.of_same (by simp)

theorem movingDrive_agrees {s : State} (h : TestRecordsAgree s) (p : Point) : TestRecordsAgree (movingDrive p s) := by
  unfold movingDrive
  split
  · exact h
  · split
    · exact h.of_same (by simp)
    · dsimp only
      split
      · exact reportIfIdle_agrees (h.of_same (by simp))
      · exact h.of_same (by simp)

theorem drivePoint_agrees {s : State} (h : TestRecordsAgree s) (held : Int) (c : Conversion) (first : Bool)
    (p : Point) :
    TestRecordsAgree (drivePoint held c first p s) := by
  have checked : TestRecordsAgree (readbackPoint c.readback held (readyPoint c.driveReady s)) :=
    readbackPoint_agrees (readyPoint_agrees h _) _ _
  unfold drivePoint drivePointWork
  split
  · exact checked.of_same (by simp)
  · exact runningDrive_agrees checked first p
  · exact reportIfIdle_agrees (checked.of_same (by simp))
  · exact movingDrive_agrees checked p
  all_goals exact checked

theorem driveFaultPoint_agrees {s : State} (h : TestRecordsAgree s) (fault : Bool) :
    TestRecordsAgree (driveFaultPoint fault s) := by
  unfold driveFaultPoint
  dsimp only
  split
  · exact takeCause_agrees (onLmu_agrees h _) _
  · exact onLmu_agrees h _

theorem overloadPoint_agrees {s : State} (h : TestRecordsAgree s) (p : Point) :
    TestRecordsAgree (overloadPoint p s) := by
  unfold overloadPoint
  split
  · split
    · exact h.of_same (by simp)
    · exact takeCause_agrees h _
  · exact h.of_same (by simp)

theorem limitPoint_agrees {s : State} (h : TestRecordsAgree s) (fault : Bool) (p : Point) :
    TestRecordsAgree (limitPoint fault p s) := overloadPoint_agrees (driveFaultPoint_agrees h fault) p

theorem offerPoint_agrees {s : State} (h : TestRecordsAgree s) (p : Point) : TestRecordsAgree (offerPoint p s) :=
  h.of_same (by simp)

theorem consumePoint_agrees {f : Formed} (h : TestRecordsAgree f.state) (held : Int) (c : Conversion) (first : Bool) :
    TestRecordsAgree (consumePoint held c first f) := by
  have paced : TestRecordsAgree (pacingPoint f.state) := h.of_same (by simp)
  have evaluated := evaluationPoint_agrees (drivePoint_agrees paced held c first f.point) f.unrest f.point
  have managed := managerPoint_agrees evaluated (evaluationPoint_evaluated _ _ _) f.point
  exact offerPoint_agrees (limitPoint_agrees (sequencerPoint_agrees managed _ _) _ _) _

theorem conversion_agrees {s : State} (h : TestRecordsAgree s) (c : Conversion) :
    TestRecordsAgree (conversion c s) :=
  consumePoint_agrees (h.of_same (by simp)) _ c _

/-! ### Safety inputs and reset -/

theorem inputAsserted_agrees {s : State} (h : TestRecordsAgree s) (i : SafetyInput) :
    TestRecordsAgree (inputAsserted i s) := takeCause_agrees (h.of_same (by simp)) _

theorem sampleInput_agrees {s : State} (h : TestRecordsAgree s) (i : SafetyInput) (raw : Level) :
    TestRecordsAgree (sampleInput i raw s) := by
  unfold sampleInput
  dsimp only
  split
  · exact h.of_same (by simp)
  · split
    · exact h.of_same (by simp)
    · split
      · exact inputAsserted_agrees h i
      · exact h.of_same (by simp)

theorem resetInput_agrees {s : State} (h : TestRecordsAgree s) (i : SafetyInput) :
    TestRecordsAgree (resetInput i s) := by
  unfold resetInput
  split
  · exact takeCause_agrees (h.of_same (by simp)) _
  · exact h

theorem resetPart_agrees (raw : SafetyLevels) (s : State) : TestRecordsAgree (resetPart raw s) := by
  have values : TestRecordsAgree (State.resetValues raw s.pending) := by
    simp [TestRecordsAgree, SequencerConsistent, ProgramConsistent, RunRecordConsistent, StrainConsistent,
      State.resetValues, Tsq.reset, Exm.reset, SeqState.evaluated]
  exact resetInput_agrees (resetInput_agrees (resetInput_agrees (resetInput_agrees values _) _) _) _

/-! ### The completion of a transaction -/

theorem headLeftCheck_agrees {s : State} (h : TestRecordsAgree s) (x : Head) (before : HeadState) :
    TestRecordsAgree (headLeftCheck x before s) := by
  unfold headLeftCheck
  split
  · rename_i hleft
    have hq : s.tsq.state = .starting := by simp_all
    exact failStart_agrees h (by rw [State.inTest, hq]; rfl) _
  · exact h

theorem forcedHandoverCheck_agrees {s : State} (h : TestRecordsAgree s) (before : HeadState) :
    TestRecordsAgree (forcedHandoverCheck before s) := by
  unfold forcedHandoverCheck
  split
  · exact handover_agrees h (by simp_all) _
  · exact h

theorem headGoes_agrees {s : State} (h : TestRecordsAgree s) (x : Head) (st : HeadState) :
    TestRecordsAgree (headGoes x st s) :=
  forcedHandoverCheck_agrees (headLeftCheck_agrees (setHeadState_agrees h x st) x _) _

theorem takeStatus_agrees {s : State} (h : TestRecordsAgree s) (x : Head) (st : HeadStatus) :
    TestRecordsAgree (takeStatus x st s) := by
  unfold takeStatus
  dsimp only
  refine recoveryLift_agrees ?_ x
  split
  · exact headGoes_agrees (onHead_agrees h _ _) _ _
  · exact onHead_agrees h _ _

theorem takeAck_agrees {s : State} (h : TestRecordsAgree s) (x : Head) (k : HeadCmd) :
    TestRecordsAgree (takeAck x k s) := by
  unfold takeAck
  dsimp only
  split
  · exact headGoes_agrees (onHead_agrees h _ _) _ _
  · exact onHead_agrees h _ _

theorem takeIdentity_agrees {s : State} (h : TestRecordsAgree s) (x : Head) (i : Identity) :
    TestRecordsAgree (takeIdentity x i s) := by
  unfold takeIdentity
  dsimp only
  split
  · exact recoveryLift_agrees (headGoes_agrees (onHead_agrees h _ _) _ _) x
  · exact onHead_agrees h _ _

theorem pollsLost_agrees {s : State} (h : TestRecordsAgree s) (x : Head) : TestRecordsAgree (pollsLost x s) :=
  headGoes_agrees (onHead_agrees h _ _) _ _

theorem pollFailed_agrees {s : State} (h : TestRecordsAgree s) (x : Head) : TestRecordsAgree (pollFailed x s) := by
  unfold pollFailed
  split
  · split
    · exact pollsLost_agrees h x
    · exact onHead_agrees h _ _
  · exact h

theorem takeResult_agrees {s : State} (h : TestRecordsAgree s) (t : Transaction) (r : TxResult) :
    TestRecordsAgree (takeResult t r s) := by
  unfold takeResult
  split
  · split
    · exact takeStatus_agrees (h.of_same (by simp)) _ _
    · exact takeStatus_agrees (onHead_agrees h _ _) _ _
    · exact takeAck_agrees h _ _
    · exact takeIdentity_agrees h _ _
    · split
      · exact pollFailed_agrees h _
      · exact onHead_agrees h _ _
      · exact h
      · exact h
  · exact h

theorem failureCondition_agrees {s : State} (h : TestRecordsAgree s) (x : Head) :
    TestRecordsAgree (failureCondition x s) := by
  unfold failureCondition
  dsimp only
  split
  · exact headGoes_agrees (addNotice_agrees h _) _ _
  · exact h

theorem liftMissed_agrees {s : State} (h : TestRecordsAgree s) (holds : Bool) :
    TestRecordsAgree (liftMissed holds s) := by
  unfold liftMissed
  dsimp only
  split
  · exact holdCause_agrees (addNotice_agrees h _) (by simp)
  · exact addNotice_agrees h _

theorem liftOutcome_agrees {s : State} (h : TestRecordsAgree s) (x : Head) (o : SlotOutcome) :
    TestRecordsAgree (liftOutcome x o s) := by
  have unwatched : TestRecordsAgree (setWatch x false s) := h.of_same (by simp)
  unfold liftOutcome
  split
  · cases o with
    | confirmed => exact unwatched
    | unconfirmed => exact liftMissed_agrees unwatched _
    | failed => exact liftMissed_agrees unwatched _
  · exact h

theorem clampOutcome_agrees {s : State} (h : TestRecordsAgree s) (x : Head) (o : SlotOutcome) :
    TestRecordsAgree (clampOutcome x o s) := by
  unfold clampOutcome
  split
  · exact recoveryLift_agrees (headGoes_agrees h _ _) x
  · exact h

theorem takeOutcome_agrees {s : State} (h : TestRecordsAgree s) (x : Head) (k : HeadCmd) (o : SlotOutcome) :
    TestRecordsAgree (takeOutcome x k o s) := by
  cases k with
  | clamp => exact clampOutcome_agrees h x o
  | lift => exact liftOutcome_agrees h x o
  | zero => exact zeroOutcome_agrees h x o
  | identify => exact h

theorem freeCommand_agrees {s : State} (h : TestRecordsAgree s) (c : SlotCommand) (o : SlotOutcome) :
    TestRecordsAgree (freeCommand c o s) := by
  have taken := fun f => takeOutcome_agrees (onGlc_agrees h f) c.head c.kind o
  unfold freeCommand
  dsimp only
  refine onGlc_agrees ?_ _
  split
  · exact raise_agrees (taken _) _
  · exact taken _

theorem slotCompletion_agrees {s : State} (h : TestRecordsAgree s) (t : Transaction) (r : TxResult) (signalled : Bool) :
    TestRecordsAgree (slotCompletion t r signalled s) := by
  have ended : ∀ c, TestRecordsAgree (slotTransactionEnd c r s) := by
    intro c
    unfold slotTransactionEnd
    split
    · exact freeCommand_agrees h c _
    · split
      · exact freeCommand_agrees h c _
      · exact onGlc_agrees h _
  unfold slotCompletion
  split
  · exact h
  · split
    · exact h
    · split
      · exact ended _
      · exact h
    · split
      · split
        · exact freeCommand_agrees h _ _
        · split
          · split
            · exact freeCommand_agrees h _ _
            · exact h
          · exact h
      · exact h

theorem completeTransaction_agrees {s : State} (h : TestRecordsAgree s) (t : Transaction) (r : TxResult) :
    TestRecordsAgree (completeTransaction t r s) := by
  have taken := fun f => takeResult_agrees (onGlc_agrees h f) t r
  unfold completeTransaction
  dsimp only
  refine onGlc_agrees (slotCompletion_agrees ?_ _ _ _) _
  split
  · exact failureCondition_agrees (taken _) _
  · exact taken _

/-! ### Requests -/

theorem onTsq_agrees {s : State} (h : TestRecordsAgree s) (f : Tsq → Tsq) (hseq : SequencerConsistent (s.onTsq f))
    (heval : (f s.tsq).state.evaluated = s.tsq.state.evaluated) : TestRecordsAgree (s.onTsq f) := by
  refine ⟨hseq, ?_⟩
  simpa only [StrainConsistent, onTsq_exm, onTsq_tsq, heval] using h.2

/-- Outside a test the run record holds nothing but the end of the last test. -/
theorem outside_test {t : Tsq} (h : RunRecordConsistent t) (hin : t.state.inTest = false) :
    t.heldReason = none ∧ t.heldAt = none ∧ t.pendingEnd = none ∧ t.startStep = none ∧ t.currentSegment = none ∧
    t.resumeEntry = none := by
  obtain ⟨hheld, hat, hpending, -, -, hstep, -, hsegment, hentry⟩ := h
  cases hs : t.state <;> simp_all [SeqState.inTest]

theorem decideSetSpecimen_agrees {s : State} (h : TestRecordsAgree s) (p : List Byte) :
    TestRecordsAgree (decideSetSpecimen p s).state := by
  unfold decideSetSpecimen
  repeat' split
  all_goals exact h

theorem decideBeginProgram_agrees {s : State} (h : TestRecordsAgree s) (p : List Byte) :
    TestRecordsAgree (decideBeginProgram p s).state := by
  unfold decideBeginProgram
  split
  · exact h
  · split
    · exact h
    · split
      · exact h
      · rename_i hin _ _ _
        dsimp only
        split
        · rename_i htotal
          refine onTsq_agrees h _ ?_ ?_
          · obtain ⟨hheld, hat, hpending, hstep, hsegment, hentry⟩ :=
              outside_test h.1.2 (by simpa [State.inTest] using hin)
            obtain ⟨-, -, -, -, -, -, hcause, -⟩ := h.1.2
            simp [SequencerConsistent, ProgramConsistent, RunRecordConsistent, hheld, hat, hpending, hstep, hsegment,
              hentry, hcause]
            omega
          · cases hs : s.tsq.state <;> simp_all [State.inTest, SeqState.inTest, SeqState.evaluated]
        · exact h

/-- The load record is consumed by the validation: READY with a program, or EMPTY without one (R9). -/
theorem validateLoad_agrees {s : State} (h : TestRecordsAgree s) (hq : s.tsq.state = .loading) (l : LoadRecord)
    (x : Option LoadRecord) :
    TestRecordsAgree (validateLoad l (s.onTsq fun t => { t with load := x })).state := by
  obtain ⟨hheld, hat, hpending, hstep, hsegment, hentry⟩ := outside_test h.1.2 (by rw [hq]; rfl)
  obtain ⟨-, -, -, -, -, -, hcause, -⟩ := h.1.2
  have fits : s.tsq.state.evaluated = false := by rw [hq]; rfl
  unfold validateLoad
  split
  · refine onTsq_agrees (s := s) h (fun t => { t with
      state := .ready, load := none, program := some ⟨l.header, l.segments⟩, lastLoad := .valid }) ?_ (by rw [fits]; rfl)
    simp [SequencerConsistent, ProgramConsistent, RunRecordConsistent, hheld, hat, hpending, hstep, hsegment, hentry,
      hcause]
  · rename_i i _
    refine onTsq_agrees (s := s) h (fun t => { t with
      state := .empty, load := none, program := none, lastLoad := .invalid i }) ?_ (by rw [fits]; rfl)
    simp [SequencerConsistent, ProgramConsistent, RunRecordConsistent, hheld, hat, hpending, hstep, hsegment, hentry,
      hcause]

theorem storeSegments_agrees {s : State} (h : TestRecordsAgree s) (hq : s.tsq.state = .loading) {l : LoadRecord}
    (hl : s.tsq.load = some l) (gs : List Segment) : TestRecordsAgree (storeSegments l gs s).state := by
  unfold storeSegments
  dsimp only
  split
  · exact validateLoad_agrees h hq _ _
  · rename_i hmore
    refine onTsq_agrees h _ ⟨?_, h.1.2⟩ rfl
    obtain ⟨hload, hprogram, htotal⟩ := h.1.1
    exact ⟨by simp [hq], hprogram, by
      rintro l' ⟨rfl⟩
      exact ⟨Nat.not_le.mp hmore, (htotal l hl).2⟩⟩

theorem decideProgramSegments_agrees {s : State} (h : TestRecordsAgree s) (p : List Byte) :
    TestRecordsAgree (decideProgramSegments p s).state := by
  unfold decideProgramSegments
  split
  · exact h
  · split
    · exact h
    · split
      · rename_i hq hl
        unfold loadSegments
        dsimp only
        split
        · exact h
        · split
          · exact h
          · split
            · exact h
            · exact storeSegments_agrees h hq hl _
      · exact h

/-- An answer to a request with an empty payload leaves what the decision or the refusal leaves. -/
theorem withEmpty_agrees {s : State} (h : TestRecordsAgree s) (p : List Byte) {a : Answer}
    (ha : TestRecordsAgree a.state) : TestRecordsAgree (withEmpty p s a).state := by
  cases p with
  | nil => exact ha
  | cons => exact h

theorem decideClearVisited_agrees {s : State} (h : TestRecordsAgree s) (p : List Byte) :
    TestRecordsAgree (decideClearVisited p s).state := by
  refine withEmpty_agrees h p ?_
  split
  · exact h
  · exact h

theorem decideSetHoldPoints_agrees {s : State} (h : TestRecordsAgree s) (p : List Byte) :
    TestRecordsAgree (decideSetHoldPoints p s).state := by
  unfold decideSetHoldPoints
  repeat' split
  all_goals exact h

/-- The acceptance of a Start Test finds the program loaded and the records of the last test closed (R21, R117). -/
theorem acceptTest_agrees {s : State} (h : TestRecordsAgree s) (hq : s.tsq.state = .ready ∨ s.tsq.state = .ended) :
    TestRecordsAgree (acceptTest s) := by
  have hin : s.tsq.state.inTest = false := by rcases hq with hq | hq <;> rw [hq] <;> rfl
  obtain ⟨hheld, hat, hpending, -, -, -⟩ := outside_test h.1.2 hin
  have hidle : s.exm.removal = .idle := by
    have := h.2.2.2.2
    rcases hq with hq | hq <;> simpa [hq, SeqState.evaluated] using this
  obtain ⟨hload, hprogram, -⟩ := h.1.1
  have hnoload : s.tsq.load = none := by rcases hq with hq | hq <;> simpa [hq] using hload
  have hsome : s.tsq.program.isSome = true := by rcases hq with hq | hq <;> simp [hprogram, hq]
  constructor
  · simp [acceptTest, SequencerConsistent, ProgramConsistent, RunRecordConsistent, hheld, hat, hpending, hnoload, hsome]
  · simp [acceptTest, StrainConsistent, hidle, SeqState.evaluated, extTestAccepted]

theorem startChecksLate_agrees {s : State} (h : TestRecordsAgree s)
    (hq : s.tsq.state = .ready ∨ s.tsq.state = .ended) : TestRecordsAgree (startChecksLate s).state := by
  unfold startChecksLate
  split
  · exact h
  · split
    · exact h
    · split
      · exact h
      · split
        · exact h
        · exact acceptTest_agrees h hq

theorem decideStartTest_agrees {s : State} (h : TestRecordsAgree s) (p : List Byte) :
    TestRecordsAgree (decideStartTest p s).state := by
  unfold decideStartTest
  split
  · exact h
  · split
    · exact h
    · rename_i hq
      have late := startChecksLate_agrees h (by tauto)
      split
      · exact h
      · split
        · exact h
        · split
          · exact h
          · split
            · exact h
            · exact late

theorem decidePause_agrees {s : State} (h : TestRecordsAgree s) (p : List Byte) :
    TestRecordsAgree (decidePause p s).state := by
  refine withEmpty_agrees h p ?_
  split
  · exact enterHeld_agrees h (.inl ‹_›) (by simp)
  all_goals exact h

theorem resumeInto_agrees {s : State} (h : TestRecordsAgree s) (hq : s.tsq.state = .held) (i : Nat) :
    TestRecordsAgree (resumeInto i s) := by
  obtain ⟨hheld, hat, hpending, htripped, hfailed, hstep, hcause, hsegment, -⟩ := h.1.2
  exact ⟨⟨h.1.1, hheld, hat, hpending, htripped, hfailed, hstep, hcause, hsegment, fun _ => hq⟩, h.2⟩

theorem resumeSegment_agrees {s : State} (h : TestRecordsAgree s) (hq : s.tsq.state = .held)
    (hentry : s.tsq.resumeEntry = none) : TestRecordsAgree (resumeSegment s) := by
  have heval : s.tsq.state.evaluated = true := by rw [hq]; rfl
  obtain ⟨hload, hprogram⟩ := inTest_program h.1.1 (evaluated_inTest heval)
  obtain ⟨-, -, hpending, -, -, hstep, hcause, -, -⟩ := h.1.2
  have hnostep : s.tsq.startStep = none := by simpa [hq] using hstep
  have hnoend : s.tsq.pendingEnd = none := by simpa [hq] using hpending
  refine ⟨?_, strainConsistent_of_evaluated h.2 heval rfl rfl⟩
  simp [resumeSegment, SequencerConsistent, ProgramConsistent, RunRecordConsistent, hload, hprogram, hnostep, hnoend,
    hcause, hentry]

theorem resumeHeld_agrees {s : State} (h : TestRecordsAgree s) (hq : s.tsq.state = .held) (why : HeldReason) :
    TestRecordsAgree (resumeHeld why s) := by
  unfold resumeHeld
  split
  · exact h
  · rename_i hentry
    have same := resumeSegment_agrees h hq hentry
    cases why with
    | holdPoint => exact resumeInto_agrees h hq _
    | onEnd =>
      dsimp only
      unfold resumeOnEnd
      dsimp only
      split
      · exact enterEnding_agrees h (.inr hq) (by simp)
      · split
        · exact enterHeld_agrees h (.inr hq) (by simp)
        · exact resumeInto_agrees h hq _
    | paused => exact same
    | slip => exact same
    | limit => exact same
    | liftUnconfirmed => exact same

theorem decideResume_agrees {s : State} (h : TestRecordsAgree s) (p : List Byte) :
    TestRecordsAgree (decideResume p s).state := by
  refine withEmpty_agrees h p ?_
  split
  · split
    · exact h
    · exact resumeHeld_agrees h ‹_› _
  · exact h

theorem decideAbort_agrees {s : State} (h : TestRecordsAgree s) (p : List Byte) :
    TestRecordsAgree (decideAbort p s).state := by
  refine withEmpty_agrees h p ?_
  split
  · rename_i hq
    exact enterEnded_agrees h.1 (by rw [State.inTest, hq]; rfl) (by simp)
  · exact enterEnding_agrees h (.inl ‹_›) (by simp)
  · exact enterEnding_agrees h (.inr ‹_›) (by simp)
  all_goals exact h

theorem decideStopMove_agrees {s : State} (h : TestRecordsAgree s) (p : List Byte) :
    TestRecordsAgree (decideStopMove p s).state := by
  refine withEmpty_agrees h p ?_
  split
  · exact reportIfIdle_agrees (s := s.onDrl _) (h.of_same (by simp))
  · split
    · exact h
    · exact h
  all_goals exact h

theorem decideRemoveExtensometer_agrees {s : State} (h : TestRecordsAgree s) (p : List Byte) :
    TestRecordsAgree (decideRemoveExtensometer p s).state := by
  refine withEmpty_agrees h p ?_
  split
  · rename_i hwatched
    exact handover_agrees h (h.2.1.2 (by simp_all)) _
  · split
    · exact h.of_same (t := askWatchedLifts _ s) (by simp)
    · exact h

theorem decide_agrees : ∀ d ∈ decisions, ∀ p s, TestRecordsAgree s → TestRecordsAgree (d p s).state := by
  rw [forall_decisions]
  refine ⟨?_, ?_, ?_, ?_, ?_, ?_, ?_, ?_, fun p s h => decideSetSpecimen_agrees h p,
    fun p s h => decideBeginProgram_agrees h p, fun p s h => decideProgramSegments_agrees h p, ?_,
    fun p s h => decideClearVisited_agrees h p, fun p s h => decideSetHoldPoints_agrees h p,
    fun p s h => decideStartTest_agrees h p, fun p s h => decidePause_agrees h p,
    fun p s h => decideResume_agrees h p, fun p s h => decideAbort_agrees h p, ?_, ?_, ?_, ?_,
    fun p s h => decideStopMove_agrees h p, ?_, ?_, ?_, fun p s h => decideRemoveExtensometer_agrees h p,
    ?_, ?_, ?_, ?_, ?_, ?_, ?_, ?_⟩
  all_goals exact fun p s h => h.of_same (by simp [decideUnknown, refuse])

/-! ### Events -/

theorem countSlip_agrees {s : State} (h : TestRecordsAgree s) : TestRecordsAgree (countSlip s) := by
  unfold countSlip
  split
  · exact slipAction_agrees (h.of_same (by simp))
  · exact h

theorem startTareReached_agrees {s : State} (h : TestRecordsAgree s) : TestRecordsAgree (startTareReached s) := by
  unfold startTareReached
  split
  · rename_i hstep
    split
    · exact beginZero_agrees (takeTare_agrees h) hstep.1
    · exact failStart_agrees (s := s.onFcu _) (h.of_same (by simp)) (by rw [State.inTest, onFcu_tsq, hstep.1]; rfl) _
  · exact h

theorem unrestExpiry_agrees {s : State} (h : TestRecordsAgree s) : TestRecordsAgree (unrestExpiry s) := by
  unfold unrestExpiry
  split
  · exact countSlip_agrees (s := s.onFcu _) (h.of_same (by simp))
  · exact h

theorem headFails_agrees {s : State} (h : TestRecordsAgree s) (x : Head) : TestRecordsAgree (headFails x s) := by
  have failed := fun f => failureCondition_agrees (onGlc_agrees h f) x
  unfold headFails
  dsimp only
  split
  · exact freeCommand_agrees (failed _) _ _
  · exact failed _

theorem failedPolls_agrees {s : State} (h : TestRecordsAgree s) (x : Head) : TestRecordsAgree (failedPolls x s) := by
  unfold failedPolls
  dsimp only
  split
  · exact pollsLost_agrees h x
  · exact h

theorem inputGoesAsserted_agrees {s : State} (h : TestRecordsAgree s) (i : SafetyInput) :
    TestRecordsAgree (inputGoesAsserted i s) := by
  unfold inputGoesAsserted
  split
  · exact inputAsserted_agrees h i
  · exact h

theorem replyTimeout_agrees {s : State} (h : TestRecordsAgree s) (began : Bool) :
    TestRecordsAgree (replyTimeout began s) := by
  unfold replyTimeout
  split
  · exact completeTransaction_agrees h _ _
  · exact h

theorem replyEnd_agrees {s : State} (h : TestRecordsAgree s) (reply : List Byte) :
    TestRecordsAgree (replyEnd reply s) := by
  unfold replyEnd
  split
  · split
    · exact completeTransaction_agrees h _ _
    · exact h
  · exact h

theorem confirmationOut_agrees {s : State} (h : TestRecordsAgree s) : TestRecordsAgree (confirmationOut s) := by
  unfold confirmationOut
  split
  · exact freeCommand_agrees h _ _
  · exact h

theorem testRecordsAgree_kept : Kept TestRecordsAgree where
  reset raw s _ := resetPart_agrees raw s
  held _ h := h.of_same (by simp)
  count _ _ h := h.of_same (by simp)
  queue _ _ _ h _ := h.of_same (by simp [queueReply])
  receive _ _ _ h := h.of_same (by simp)
  drop _ h := h.of_same (by simp)
  pop _ h := h.of_same (by simp)
  decide := decide_agrees
  conversion c _ h := conversion_agrees h c
  level _ h := h.of_same (by simp)
  unrest _ h := unrestExpiry_agrees h
  downRange _ h := h.of_same (by simp)
  enableWait _ _ h := h.of_same (by simp)
  tareWait _ h := h.of_same (by simp)
  startTare _ h := startTareReached_agrees h
  readback _ h := reportReadback_agrees h
  paceDelay _ h := h.of_same (by simp)
  asserted i _ h := inputGoesAsserted_agrees h i
  released _ _ h := h.of_same (by simp)
  sample _ _ h := sampleInput_agrees (sampleInput_agrees (sampleInput_agrees (sampleInput_agrees h _ _) _ _) _ _) _ _
  poll _ h := h.of_same (by simp)
  arbiter _ h := h.of_same (by simp)
  timeout b _ h := replyTimeout_agrees h b
  replyEnd bs _ h := replyEnd_agrees h bs
  headFails x _ h := headFails_agrees h x
  failedPolls x _ h := failedPolls_agrees h x
  pollDue _ h := h.of_same (by simp)
  confirmationOut _ h := confirmationOut_agrees h
  encoder _ _ h := h.of_same (by simp)

theorem step_testRecordsAgree {s t : State} (h : TestRecordsAgree s) (hstep : step s = .next t) : TestRecordsAgree t :=
  testRecordsAgree_kept.step (fun _ _ h => h) s t h hstep

/-- Settles O57: the sequencer's and the strain's records agree by themselves from step to step, so that no other part
of `TestConsistent` is needed. -/
theorem sequencerAndStrainStayConsistent : Obligations.SequencerAndStrainStayConsistent :=
  ⟨fun _ _ ⟨hseq, hstrain, _⟩ hstep => (step_testRecordsAgree ⟨hseq, hstrain⟩ hstep).1,
    fun _ _ ⟨hseq, hstrain, _⟩ hstep => (step_testRecordsAgree ⟨hseq, hstrain⟩ hstep).2⟩
end Sys2Proof.Proofs
end

section
/-! The records after a reset (O4) and the refusal of a payload of the wrong length (O11). -/

namespace Sys2Proof.Proofs

open Sys2Proof.Machine Sys2Proof.Laws

/-! ### Reset -/

/-- An input sampled inactive brings nothing at the reset (R178). -/
theorem resetInput_inactive {i : SafetyInput} {s : State} (h : (PerInputGet s.lmu.inputs i).level = .inactive) :
    resetInput i s = s := by
  simp [resetInput, h]

/-- With the four safety contacts closed a reset leaves every block at its reset values. -/
theorem resetPart_safeLevels (s : State) : resetPart safeLevels s = State.resetValues safeLevels s.pending := by
  have closed : ∀ i, (PerInputGet (State.resetValues safeLevels s.pending).lmu.inputs i).level = .inactive := by
    intro i
    cases i <;> rfl
  simp only [resetPart, resetInput_inactive (closed _)]

/-- Settles O4: the values by evaluation of the reset records. -/
theorem resetRecords : Obligations.ResetRecords := by
  refine ⟨fun s => congrArg Host.Outcome.next (resetPart_safeLevels s), ?_⟩
  refine ⟨by decide, by decide, by decide, by decide, by decide, by decide, by decide, by decide, ?_, by decide⟩
  refine ⟨by decide, by decide, by decide, by decide, ?_, ?_, ?_, by decide, by decide⟩
  · intro k; cases k <;> rfl
  · intro k; cases k <;> rfl
  · intro n; cases n <;> rfl

/-! ### Payloads of the wrong length -/

/-- A decision refuses every payload of another length than `n`, and changes nothing. -/
def RefusesOtherLengths (n : Nat) (d : Decision) : Prop := ∀ p s, p.length ≠ n → d p s = refuse .badLength s

theorem withEmpty_badLength {p : List Byte} (h : p.length ≠ 0) (s : State) (a : Answer) :
    withEmpty p s a = refuse .badLength s := by
  cases p with
  | nil => simp at h
  | cons => rfl

/-- A payload that is not one byte is none of the decision's. -/
theorem decideAcknowledge_badLength : RefusesOtherLengths 1 decideAcknowledge := by
  intro p s h
  match p, h with
  | [], _ => rfl
  | _ :: _ :: _, _ => rfl

theorem decideSetMask_badLength : RefusesOtherLengths 1 decideSetMask := by
  intro p s h
  match p, h with
  | [], _ => rfl
  | _ :: _ :: _, _ => rfl

/-- The requests of one length refuse any other: by the empty payload that they take, or by their first check. -/
theorem requestTable_refusesOtherLengths :
    ∀ x ∈ requestTable, ∀ n, requestLength x.1 = some n → RefusesOtherLengths n x.2 := by
  have fixed : ∀ {m : Nat} {d : Decision}, RefusesOtherLengths m d →
      ∀ n, some m = some n → RefusesOtherLengths n d := by
    rintro m d hd n ⟨rfl⟩
    exact hd
  have empty : ∀ {d : Decision} (a : State → Answer), (∀ p s, d p s = withEmpty p s (a s)) →
      ∀ n, some 0 = some n → RefusesOtherLengths n d := by
    intro d a hd
    exact fixed fun p s h => (hd p s).trans (withEmpty_badLength h s _)
  have unruled : ∀ {d : Decision} (n : Nat), none = some n → RefusesOtherLengths n d := nofun
  have first : ∀ {m : Nat} {d : Decision} (a : List Byte → State → Answer),
      (∀ p s, d p s = if p.length ≠ m then refuse .badLength s else a p s) →
      ∀ n, some m = some n → RefusesOtherLengths n d := by
    intro m d a hd
    exact fixed fun p s h => (hd p s).trans (if_pos h)
  simp only [requestTable, List.forall_mem_append, List.forall_mem_cons, List.not_mem_nil, false_implies, implies_true,
    and_true]
  refine ⟨⟨⟨empty _ fun _ _ => rfl, empty _ fun _ _ => rfl, empty _ fun _ _ => rfl, first _ fun _ _ => rfl,
    first _ fun _ _ => rfl, first _ fun _ _ => rfl, unruled, first _ fun _ _ => rfl, first _ fun _ _ => rfl, unruled⟩,
    empty _ fun _ _ => rfl, empty _ fun _ _ => rfl, unruled, unruled, empty _ fun _ _ => rfl, empty _ fun _ _ => rfl,
    empty _ fun _ _ => rfl, empty _ fun _ _ => rfl, empty _ fun _ _ => rfl, first _ fun _ _ => rfl,
    first _ fun _ _ => rfl, empty _ fun _ _ => rfl⟩,
    empty _ fun _ _ => rfl, first _ fun _ _ => rfl, empty _ fun _ _ => rfl, empty _ fun _ _ => rfl,
    first _ fun _ _ => rfl, first _ fun _ _ => rfl, empty _ fun _ _ => rfl, empty _ fun _ _ => rfl,
    fixed decideAcknowledge_badLength, fixed decideSetMask_badLength, empty _ fun _ _ => rfl, empty _ fun _ _ => rfl⟩

theorem requestTable_kinds : requestTable.map Prod.fst = requestKinds := rfl

/-- A kind with a length of its own names a request, and its reply's kind is the kind with 80h added (R184). -/
theorem requestLength_kind : ∀ kind : Byte, (requestLength kind).isSome = true →
    requestKinds.contains kind = true ∧ replyKind kind = kind + 0x80 := by
  decide

/-- The decision of a kind that names a request is the one that the table gives it. -/
theorem decisionOf_table {kind : Byte} (h : requestKinds.contains kind = true) :
    ∃ x ∈ requestTable, x.1 = kind ∧ decisionOf kind = x.2 := by
  unfold decisionOf
  split
  · rename_i x hx
    exact ⟨x, List.mem_of_find?_eq_some hx, by simpa using List.find?_some hx, rfl⟩
  · rename_i hnone
    rw [← requestTable_kinds, List.contains_iff_mem, List.mem_map] at h
    obtain ⟨x, hx, hkind⟩ := h
    exact absurd hkind (by simpa using List.find?_eq_none.1 hnone x hx)

theorem decisionOf_refusesOtherLengths {kind : Byte} {n : Nat} (h : requestLength kind = some n) :
    RefusesOtherLengths n (decisionOf kind) := by
  obtain ⟨x, hx, rfl, hd⟩ := decisionOf_table (requestLength_kind kind (by simp [h])).1
  rw [hd]
  exact requestTable_refusesOtherLengths x hx n h

/-- Settles O11: the request is handed on by its kind, and its decision refuses the length. -/
theorem wrongLengthRefused : Obligations.WrongLengthRefused := by
  intro kind n tag p s hlength hp hs
  have hkind := (requestLength_kind kind (by simp [hlength])).2
  rw [exec_ofRequest]
  calc live (handOn kind tag p) s
      = .next (queueReply kind tag (decisionOf kind p s.counted)) := request_runs kind tag (decisionOf kind p) s hs
    _ = .next (queueReply kind tag (refuse .badLength s.counted)) := by
        rw [decisionOf_refusesOtherLengths hlength p s.counted hp]
    _ = .next (s.replied (kind + 0x80) tag [0x04]) := by rw [← hkind]; rfl

end Sys2Proof.Proofs
end

section
/-! Reading a payload back (R196): the fields at an offset, and the specimen record (O14). -/

namespace Sys2Proof.Proofs

open Sys2Proof.Machine Sys2Proof.Laws

/-! ### Fields at an offset -/

theorem ofBytes_u32 {n : Nat} (h : n < 4294967296) : ofBytes (u32 n) = n := by
  simp only [ofBytes, u32, List.foldl, BitVec.toNat_ofNat]
  omega

theorem ofBytesSigned_i32 {x : Int} (h : fits32 x = true) : ofBytesSigned (i32 x) = x := by
  obtain ⟨hlo, hhi⟩ : -2147483648 ≤ x ∧ x ≤ 2147483647 := by simpa [fits32] using h
  rw [ofBytesSigned, i32, ofBytes_u32 (BitVec.isLt _), BitVec.ofNat_toNat, BitVec.setWidth_eq,
    BitVec.toInt_ofInt_eq_self (by decide) (by simpa using hlo) (by simp; omega)]

theorem byteAt_append {a : List Byte} {i : Nat} (h : a.length = i) (b : Byte) (rest : List Byte) :
    byteAt (a ++ b :: rest) i = b := by
  simp [byteAt, ← h]

theorem natAt_append {a : List Byte} {i n : Nat} (h : a.length = i) (hn : n < 4294967296) (rest : List Byte) :
    natAt (a ++ (u32 n ++ rest)) i = n := by
  rw [natAt, List.drop_left' h, List.take_left' (by rfl), ofBytes_u32 hn]

/-- A text with any fill is read as its length and its characters. -/
theorem textAt_append {a bs t : List Byte} {i : Nat} (h : a.length = i) (ht : carriesText bs t) (rest : List Byte) :
    textAt (a ++ (bs ++ rest)) i = (t.length, t) := by
  obtain ⟨fill, rfl, hfill⟩ := ht
  have hcount : (byteAt (a ++ (u8 t.length ++ t ++ fill ++ rest)) i).toNat = t.length := by
    rw [show a ++ (u8 t.length ++ t ++ fill ++ rest) = a ++ BitVec.ofNat 8 t.length :: (t ++ fill ++ rest) by simp [u8],
      byteAt_append h, BitVec.toNat_ofNat]
    omega
  have hdrop : (a ++ (u8 t.length ++ t ++ fill ++ rest)).drop (i + 1) = t ++ (fill ++ rest) := by
    rw [← List.drop_drop, List.drop_left' h]
    simp [u8]
  rw [textAt, hcount, hdrop, List.take_take, Nat.min_eq_left (by omega), List.take_left' rfl]

/-- The presence byte of an optional field. -/
theorem ynAt_append {α : Type} {size i : Nat} {carries : List Byte → α → Prop} {a bs : List Byte} {x : Option α}
    (h : a.length = i) (hx : carriesOption size carries bs x) (rest : List Byte) :
    ynAt (a ++ (bs ++ rest)) i = some x.isSome := by
  obtain ⟨place, -, hx⟩ := hx
  cases x with
  | none => subst hx; simp [ynAt, u8, byteAt_append h, ynOf]
  | some => obtain ⟨rfl, -⟩ := hx; simp [ynAt, u8, byteAt_append h, ynOf]

theorem carriesText_length {bs t : List Byte} (h : carriesText bs t) : bs.length = 17 := by
  obtain ⟨fill, rfl, hfill⟩ := h
  simp [u8]
  omega

theorem carriesOption_length {α : Type} {size : Nat} {carries : List Byte → α → Prop} {bs : List Byte} {x : Option α}
    (h : carriesOption size carries bs x) : bs.length = size + 1 := by
  obtain ⟨place, rfl, hx⟩ := h
  cases x with
  | none => simp [hx, u8]
  | some => simp [hx.1, u8]

/-- The place of an optional number, read where it is present. -/
theorem natAt_option {a bs : List Byte} {i : Nat} {x : Option Nat} (h : a.length = i)
    (hx : carriesOption 4 (fun bs m => bs = u32 m) bs x) (hm : ∀ m, x = some m → m < 4294967296) (rest : List Byte) :
    (if x.isSome then some (natAt (a ++ (bs ++ rest)) (i + 1)) else none) = x := by
  obtain ⟨place, -, hx⟩ := hx
  cases x with
  | none => rfl
  | some m =>
    obtain ⟨rfl, rfl⟩ := hx
    have hread := natAt_append (a := a ++ u8 1) (i := i + 1) (by simp [h, u8]) (hm m rfl) rest
    simp only [List.append_assoc] at hread
    simp [hread]

/-- The place of an optional text, read where it is present. -/
theorem textAt_option {a bs : List Byte} {i : Nat} {x : Option (List Byte)} (h : a.length = i)
    (hx : carriesOption 17 carriesText bs x) (rest : List Byte) :
    (x.isSome = true → (textAt (a ++ (bs ++ rest)) (i + 1)).1 ≤ 16) ∧
    (if x.isSome then some (textAt (a ++ (bs ++ rest)) (i + 1)).2 else none) = x := by
  obtain ⟨place, hlength, hx⟩ := hx
  cases x with
  | none => exact ⟨nofun, rfl⟩
  | some t =>
    obtain ⟨rfl, ht⟩ := hx
    have hread := textAt_append (a := a ++ u8 1) (i := i + 1) (by simp [h, u8]) ht rest
    obtain ⟨fill, rfl, hfill⟩ := ht
    simp only [List.append_assoc] at hread ⊢
    simp [hread]
    omega

/-! ### The specimen record -/

/-- A payload that carries a lawful record is 52 bytes long, and the record is read from it (R3). -/
theorem specimenOf_carried {x : Specimen} {p : List Byte} (hx : x.lawful) (hp : x.carriedBy p) :
    p.length = 52 ∧ specimenOf p = some x := by
  obtain ⟨id, nominal, heat, rfl, hid, hnominal, hheat⟩ := hp
  obtain ⟨⟨-, hidlen, -⟩, ⟨-, harea, hle, hlc, hlcmax⟩, hmodulus, hheatlen⟩ := hx
  have lid := carriesText_length hid
  have lnominal := carriesOption_length hnominal
  have lheat := carriesOption_length hheat
  have l32 : ∀ n, (u32 n).length = 4 := fun _ => rfl
  refine ⟨by simp [lid, lnominal, lheat, l32], ?_⟩
  have rid := textAt_append (a := []) (i := 0) rfl hid
    (u32 x.area ++ (u32 x.gaugeLength ++ (u32 x.parallelLength ++ (nominal ++ heat))))
  have rarea := natAt_append lid (show x.area < 4294967296 by omega)
    (u32 x.gaugeLength ++ (u32 x.parallelLength ++ (nominal ++ heat)))
  have rle := natAt_append (a := id ++ u32 x.area) (i := 21) (by simp [lid, l32])
    (show x.gaugeLength < 4294967296 by omega) (u32 x.parallelLength ++ (nominal ++ heat))
  have rlc := natAt_append (a := id ++ u32 x.area ++ u32 x.gaugeLength) (i := 25) (by simp [lid, l32])
    (show x.parallelLength < 4294967296 by omega) (nominal ++ heat)
  have before29 : (id ++ u32 x.area ++ u32 x.gaugeLength ++ u32 x.parallelLength).length = 29 := by simp [lid, l32]
  have before34 : (id ++ u32 x.area ++ u32 x.gaugeLength ++ u32 x.parallelLength ++ nominal).length = 34 := by
    simp [lid, l32, lnominal]
  have rhas := ynAt_append before29 hnominal heat
  have rnominal := natAt_option before29 hnominal (fun m hm => by have := hmodulus m hm; omega) heat
  have rhas' := ynAt_append before34 hheat []
  obtain ⟨rlong, rheat⟩ := textAt_option before34 hheat []
  simp only [List.append_assoc, List.nil_append, List.append_nil] at rid rarea rle rlc rhas rnominal rhas' rlong rheat ⊢
  have short : ¬ (16 < x.id.length ∨ x.heatId.isSome = true ∧ 16 < (textAt (id ++ (u32 x.area ++ (u32 x.gaugeLength ++
      (u32 x.parallelLength ++ (nominal ++ heat))))) 35).1) := by
    rintro (hlong | ⟨hsome, hlong⟩)
    · omega
    · exact absurd (rlong hsome) (by simpa using hlong)
  simp only [specimenOf, rid, rarea, rle, rlc, rhas, rhas', Option.bind_eq_bind, Option.bind_some, if_neg short,
    rnominal, rheat]

/-! ### Set Specimen, Clear Visited, Set Hold Points -/

theorem decideSetSpecimen_taken {s : State} {x : Specimen} {p : List Byte} (hin : s.inTest = false) (hx : x.lawful)
    (hp : x.carriedBy p) :
    decideSetSpecimen p s = answerOk (s.onTsq fun t => { t with specimen := some x }) := by
  obtain ⟨hlength, hread⟩ := specimenOf_carried hx hp
  simp [decideSetSpecimen, specimenLength, hlength, hin, hread, (specimen_inRange_iff x).2 hx]

theorem decideSetSpecimen_locked {s : State} {p : List Byte} (hlength : p.length = 52) (hin : s.inTest = true) :
    decideSetSpecimen p s = refuse .locked s := by
  simp [decideSetSpecimen, specimenLength, hlength, hin]

/-- A payload is refused where the record read from it, which it carries, is not lawful. -/
theorem decideSetSpecimen_outOfRange {s : State} {p : List Byte} (hlength : p.length = 52) (hin : s.inTest = false)
    (hnone : ∀ x : Specimen, x.lawful → ¬ x.carriedBy p) : decideSetSpecimen p s = refuse .outOfRange s := by
  simp only [decideSetSpecimen, specimenLength, hlength, hin, ne_eq, not_true_eq_false, if_false, Bool.false_eq_true]
  split
  · rfl
  · rename_i x hx
    rw [if_neg]
    exact fun hrange => hnone x ((specimen_inRange_iff x).1 hrange) (carriedBy_of_specimenOf p x hlength hx)

/-- An index is in the set of a list's indices exactly where the list holds its byte. -/
theorem setOfIndices_getLsbD (is : List Byte) {j : Nat} (hj : j < 16) :
    (setOfIndices is).getLsbD j = true ↔ BitVec.ofNat 8 j ∈ is := by
  induction is with
  | nil => simp [setOfIndices]
  | cons i rest ih =>
    have hi : i.toNat = j ↔ BitVec.ofNat 8 j = i := by
      rw [BitVec.toNat_eq, BitVec.toNat_ofNat]
      omega
    rw [setOfIndices, joinSet, BitVec.getLsbD_or, BitVec.getLsbD_ofNat, Bool.or_eq_true, ih, List.mem_cons,
      Nat.testBit_two_pow, ← hi, or_comm]
    simp [hj]

theorem decideSetHoldPoints_taken {s : State} {n : Byte} {is : List Byte} (hcount : is.length = n.toNat)
    (hlength : is.length ≤ 16) (hindex : ∀ i ∈ is, i.toNat ≤ 15) :
    decideSetHoldPoints (n :: is) s = answerOk (s.onTsq fun t => { t with holdPoints := setOfIndices is }) := by
  have hnone : ¬ (16 < is.length ∨ (is.any fun i => decide (15 < i.toNat)) = true) := by
    rintro (h | h)
    · omega
    · obtain ⟨i, hi, h⟩ := List.any_eq_true.1 h
      exact absurd (hindex i hi) (by simpa using h)
  simp only [decideSetHoldPoints]
  rw [if_neg (by simpa using hcount), if_neg hnone]

theorem decideSetHoldPoints_outOfRange {s : State} {n : Byte} {is : List Byte} (hcount : is.length = n.toNat)
    (h : 16 < is.length ∨ ∃ i ∈ is, 15 < i.toNat) : decideSetHoldPoints (n :: is) s = refuse .outOfRange s := by
  have hany : 16 < is.length ∨ (is.any fun i => decide (15 < i.toNat)) = true := by simpa [List.any_eq_true] using h
  simp only [decideSetHoldPoints]
  rw [if_neg (by simpa using hcount), if_pos hany]

/-- Settles O14: each decision on the counted state, as its checks come. -/
theorem specimenAndSegmentSetsChange : Obligations.SpecimenAndSegmentSetsChange := by
  refine ⟨fun s tag hs => ?_, fun s tag hs => ?_, fun s tag n is hs => ?_⟩
  · have run := fun p => request_runs 0x20 tag (decideSetSpecimen p) s hs
    refine ⟨fun x p hin hx hp => (run p).trans ?_, fun p hlength hin => (run p).trans ?_,
      fun p hlength hin hnone => (run p).trans ?_⟩
    · rw [decideSetSpecimen_taken (by simpa using hin) hx hp]; rfl
    · rw [decideSetSpecimen_locked hlength (by simpa using hin)]; rfl
    · rw [decideSetSpecimen_outOfRange hlength (by simpa using hin) hnone]; rfl
  · have run := request_runs 0x24 tag (decideClearVisited []) s hs
    refine ⟨fun hin => run.trans ?_, fun hin => run.trans ?_⟩
    · simp only [decideClearVisited, withEmpty, counted_reads, hin]; rfl
    · simp only [decideClearVisited, withEmpty, counted_reads, hin]; rfl
  · have run := fun p => request_runs 0x25 tag (decideSetHoldPoints p) s hs
    refine ⟨fun hcount hlength hindex => ⟨setOfIndices is, fun i hi => setOfIndices_getLsbD is hi, (run _).trans ?_⟩,
      fun hcount h => (run _).trans ?_, fun hcount => (run _).trans ?_, (run _).trans rfl⟩
    · rw [decideSetHoldPoints_taken hcount hlength hindex]; rfl
    · rw [decideSetHoldPoints_outOfRange hcount h]; rfl
    · simp only [decideSetHoldPoints]
      rw [if_pos hcount]; rfl

end Sys2Proof.Proofs
end
section
/-! Loading a program (O15): the plan header and the segment records read from their payloads (R7, R8, R196), and what
Begin Program and Program Segments decide. -/

namespace Sys2Proof.Proofs

open Sys2Proof.Machine Sys2Proof.Laws

/-! ### Codes -/

theorem ynOf_toNat (b : Bool) : ynOf (BitVec.ofNat 8 b.toNat) = some b := by cases b <;> rfl

theorem slipActionOf_ctorIdx (x : SlipAction) : slipActionOf (BitVec.ofNat 8 x.ctorIdx) = some x := by cases x <;> rfl

theorem controlModeOf_ctorIdx (x : ControlMode) : controlModeOf (BitVec.ofNat 8 x.ctorIdx) = some x := by
  cases x <;> rfl

theorem onEndOf_ctorIdx (x : OnEnd) : onEndOf (BitVec.ofNat 8 x.ctorIdx) = some x := by cases x <;> rfl

theorem condKindOf_ctorIdx (x : CondKind) : condKindOf (BitVec.ofNat 8 x.ctorIdx) = some x := by cases x <;> rfl

/-- A code beyond an enumeration's last names nothing. -/
theorem enumAt_none {α : Type} {xs : List α} {b : Byte} : enumAt xs b = none ↔ xs.length ≤ b.toNat := by
  simp [enumAt]

theorem slipActionOf_none {b : Byte} : slipActionOf b = none ↔ 2 < b.toNat := enumAt_none

theorem controlModeOf_none {b : Byte} : controlModeOf b = none ↔ 3 < b.toNat := enumAt_none

theorem onEndOf_none {b : Byte} : onEndOf b = none ↔ 2 < b.toNat := enumAt_none

theorem condKindOf_none {b : Byte} : condKindOf b = none ↔ 8 < b.toNat := enumAt_none

theorem ynOf_none {b : Byte} : ynOf b = none ↔ 1 < b.toNat := by
  revert b
  decide

/-! ### The plan header -/

/-- The header of a Begin Program payload is the one that the payload was made from (R7, R196). -/
theorem headerOf_payload {h : PlanHeader} (hfits : h.fits = true) (rest : List Byte) :
    headerOf (h.payload ++ rest) = some h := by
  obtain ⟨p, hp⟩ : ∃ p, h.payload ++ rest = p := ⟨_, rfl⟩
  rw [hp]
  delta PlanHeader.payload at hp
  simp only [List.append_assoc] at hp
  have read : ∀ i n, (p.drop i).take 4 = u32 n → n < 4294967296 → natAt p i = n :=
    fun i n he hn => by rw [natAt, he, ofBytes_u32 hn]
  have mark : ∀ i b, byteAt p i = BitVec.ofNat 8 b.toNat → ynAt p i = some b :=
    fun i b he => by rw [ynAt, he, ynOf_toNat]
  subst hp
  simp only [PlanHeader.fits, List.all_cons, List.all_nil, Bool.and_true, Bool.and_eq_true, decide_eq_true_eq] at hfits
  obtain ⟨h0, h1, h2, h3, h4, h5, h6, h7, h8, h9, h10, h11, h12, h13, h14, h15, h16, h17, h18⟩ := hfits
  rw [headerOf, mark 24 h.fallback rfl, mark 73 h.tareAtStart rfl, mark 74 h.zeroAtStart rfl,
    mark 80 h.allowNominal rfl, read 0 h.offsetStrain rfl h0, read 4 h.sigmaLo rfl h1, read 8 h.sigmaHi rfl h2,
    read 12 h.nMin rfl h3, read 16 h.eMin rfl h4, read 20 h.eMax rfl h5, read 25 h.yieldDrop rfl h6,
    read 29 h.yieldSearchLimit rfl h7, read 33 h.yieldSpanLimit rfl h8, read 37 h.transientSkip rfl h9,
    read 41 h.maxPassedDrop rfl h10, read 45 h.fractureFraction rfl h11, read 49 h.abruptFraction rfl h12,
    read 53 h.fractureArmForce rfl h13, read 57 h.removalStrain rfl h14, read 61 h.protectStrain rfl h15,
    read 65 h.windowLength rfl h16, read 69 h.decimation rfl h17, read 75 h.headsRequired rfl h18]
  exact congrArg (Option.bind · _) (slipActionOf_ctorIdx h.slipAction)

/-- A header is read only where its yes-or-no fields and the slip action hold codes that name something (R7). -/
theorem headerOf_codes {p : List Byte} {h : PlanHeader} (hread : headerOf p = some h) :
    (∀ i ∈ [24, 73, 74, 80], (p.getD i 0).toNat ≤ 1) ∧ (p.getD 79 0).toNat ≤ 2 := by
  simp only [headerOf, Option.bind_eq_bind, Option.bind_eq_some_iff] at hread
  obtain ⟨_, h24, _, h73, _, h74, _, h79, _, h80, -⟩ := hread
  have yes : ∀ {i b}, ynAt p i = some b → (p.getD i 0).toNat ≤ 1 := by
    intro i b hi
    have hmark : ynOf (byteAt p i) ≠ none := by rw [← ynAt, hi]; nofun
    exact Nat.not_lt.1 (mt ynOf_none.2 hmark)
  refine ⟨by simp only [List.forall_mem_cons]; exact ⟨yes h24, yes h73, yes h74, yes h80, nofun⟩, ?_⟩
  have hslip : slipActionOf (byteAt p 79) ≠ none := by simp [h79]
  exact Nat.not_lt.1 (mt slipActionOf_none.2 hslip)

/-! ### Lists of records -/

/-- The `k`-th of the records of one length that stand one after the other. -/
theorem take_drop_flatten {α : Type} (rs : List (List α)) (m : Nat) (hm : ∀ r ∈ rs, r.length = m) (rest : List α)
    {k : Nat} {r : List α} (hk : rs[k]? = some r) : ((rs.flatten ++ rest).drop (m * k)).take m = r := by
  induction rs generalizing k with
  | nil => simp at hk
  | cons x xs ih =>
    obtain ⟨hx, hxs⟩ := List.forall_mem_cons.1 hm
    cases k with
    | zero =>
      obtain rfl : x = r := by simpa using hk
      simp [← hx]
    | succ k =>
      rw [List.flatten_cons, List.append_assoc, Nat.mul_succ, Nat.add_comm, ← List.drop_drop, List.drop_left' hx]
      exact ih hxs (by simpa using hk)

/-- The reading of records one by one yields the list that they were made from. -/
theorem mapM_range {α : Type} (f : Nat → Option α) (xs : List α) (h : ∀ k x, xs[k]? = some x → f k = some x) :
    (List.range xs.length).mapM f = some xs := by
  induction xs using List.reverseRecOn with
  | nil => rfl
  | append_singleton xs x ih =>
    have hlast : f xs.length = some x := h _ _ (by simp)
    have hinit := ih fun k y hy => h k y (by rw [List.getElem?_append_left (List.getElem?_eq_some_iff.1 hy).1, hy])
    simp [List.range_succ, List.mapM_append, hinit, hlast]

theorem mapM_none {α β : Type} {f : α → Option β} {as : List α} {a : α} (ha : a ∈ as) (hf : f a = none) :
    as.mapM f = none := by
  induction as with
  | nil => simp at ha
  | cons x xs ih =>
    rw [List.mapM_cons]
    rcases List.mem_cons.1 ha with rfl | ha
    · simp [hf]
    · cases f x <;> simp [ih ha]

/-! ### Segment records -/

theorem conditionPayload_length (c : EndCondition) : c.payload.length = 6 := by
  obtain ⟨k, t⟩ := c
  cases t <;> rfl

theorem conditionOf_payload {c : EndCondition} (h : ∀ t, c.threshold = some t → fits32 t = true) :
    conditionOf c.payload = some c := by
  obtain ⟨k, t⟩ := c
  have hkind : condKindOf (byteAt (EndCondition.payload ⟨k, t⟩) 0) = some k := condKindOf_ctorIdx k
  have hmark : ynAt (EndCondition.payload ⟨k, t⟩) 1 = some t.isSome := by cases t <;> rfl
  simp only [conditionOf, hkind, hmark, Option.bind_eq_bind, Option.bind_some]
  cases t with
  | none => rfl
  | some t =>
    have hread : intAt (EndCondition.payload ⟨k, some t⟩) 2 = t := ofBytesSigned_i32 (h t rfl)
    simp [hread]

/-- The 25 bytes of a segment record are read as its segment, whatever stands in the condition entries beyond the
declared count. -/
theorem segmentOf_recordWith {g : Segment} {unread : List Byte} (hfits : g.fits = true)
    (hunread : unread.length = 18 - 6 * g.conditions.length) :
    (g.recordWith unread).length = 25 ∧ segmentOf (g.recordWith unread) = some g := by
  obtain ⟨⟨⟨hone, hthree⟩, hrate⟩, hconditions⟩ :
      ((1 ≤ g.conditions.length ∧ g.conditions.length ≤ 3) ∧ fits32 g.rate = true) ∧
      ∀ c ∈ g.conditions, ∀ t, c.threshold = some t → fits32 t = true := by
    simp only [Segment.fits, Bool.and_eq_true, decide_eq_true_eq, List.all_eq_true] at hfits
    refine ⟨hfits.1, fun c hc t ht => ?_⟩
    simpa [ht] using hfits.2 c hc
  have hflat : (g.conditions.map EndCondition.payload).flatten.length = 6 * g.conditions.length := by
    simp [List.length_flatten, Function.comp_def, conditionPayload_length, Nat.mul_comm]
  have hrecord : g.recordWith unread = BitVec.ofNat 8 g.mode.ctorIdx :: (i32 g.rate ++
      (BitVec.ofNat 8 g.conditions.length :: ((g.conditions.map EndCondition.payload).flatten ++ (unread ++
        [BitVec.ofNat 8 g.onEnd.ctorIdx])))) := by
    simp [Segment.recordWith, u8]
  refine ⟨by simp [hrecord, hflat, hunread, i32, u32]; omega, ?_⟩
  have hmode : controlModeOf (byteAt (g.recordWith unread) 0) = some g.mode := by
    rw [hrecord]; exact controlModeOf_ctorIdx _
  have hread : intAt (g.recordWith unread) 1 = g.rate := by rw [hrecord]; exact ofBytesSigned_i32 hrate
  have hcount : (byteAt (g.recordWith unread) 5).toNat = g.conditions.length := by
    rw [hrecord]
    exact (BitVec.toNat_ofNat _ _).trans (Nat.mod_eq_of_lt (by omega))
  have haction : onEndOf (byteAt (g.recordWith unread) 24) = some g.onEnd := by
    have hlast := byteAt_append (a := u8 g.mode.ctorIdx ++ i32 g.rate ++ u8 g.conditions.length ++
      (g.conditions.map EndCondition.payload).flatten ++ unread) (i := 24)
      (by simp [hflat, hunread, i32, u32, u8]; omega) (BitVec.ofNat 8 g.onEnd.ctorIdx) []
    exact (congrArg onEndOf hlast).trans (onEndOf_ctorIdx _)
  have hentries : (List.range g.conditions.length).mapM
      (fun k => conditionOf (((g.recordWith unread).drop (6 + 6 * k)).take 6)) = some g.conditions := by
    refine mapM_range _ _ fun k c hk => ?_
    have hdrop : (g.recordWith unread).drop 6 = (g.conditions.map EndCondition.payload).flatten ++ (unread ++
        [BitVec.ofNat 8 g.onEnd.ctorIdx]) := by
      rw [hrecord]; rfl
    rw [← List.drop_drop, hdrop, take_drop_flatten _ 6 (by simp [conditionPayload_length]) _ (r := c.payload)
      (by simp [hk])]
    exact conditionOf_payload (hconditions c (List.mem_of_getElem? hk))
  rw [segmentOf, hmode, haction]
  simp only [hcount, List.take_range, Nat.min_eq_left hthree, hentries, hread, Option.bind_eq_bind, Option.bind_some]
  rw [if_pos ⟨hone, hthree⟩]

/-- The byte at a place of a record cut from a payload. -/
theorem byteAt_take_drop (p : List Byte) (i n : Nat) {j : Nat} (h : j < n) :
    byteAt ((p.drop i).take n) j = byteAt p (i + j) := by
  simp [byteAt, h]

/-- A condition entry with an undefined kind or threshold marker is not read (R8, log 20). -/
theorem conditionOf_undefined {p : List Byte} (h : 8 < (byteAt p 0).toNat ∨ 1 < (byteAt p 1).toNat) :
    conditionOf p = none := by
  rcases h with h | h
  · have hkind : condKindOf (byteAt p 0) = none := condKindOf_none.2 h
    simp [conditionOf, hkind]
  · have hmark : ynAt p 1 = none := ynOf_none.2 h
    cases hkind : condKindOf (byteAt p 0) <;> simp [conditionOf, hkind, hmark]

/-- A segment is read only from a record whose codes name something and whose condition count is 1 to 3 (R8). -/
theorem segmentOf_undefined {r : List Byte} (h : undefinedRecord r) : segmentOf r = none := by
  by_contra hread
  obtain ⟨g, hread⟩ := Option.ne_none_iff_exists'.1 hread
  simp only [segmentOf, Option.bind_eq_bind, Option.bind_eq_some_iff] at hread
  obtain ⟨_, hmode, _, hentries, _, haction, hcount⟩ := hread
  split at hcount
  case isFalse => cases hcount
  rename_i hrange
  rcases h with h | h | h | h | ⟨j, hj, hj3, h⟩
  · exact absurd hmode (by simp [controlModeOf_none.2 (show 3 < (byteAt r 0).toNat from h)])
  · exact absurd h (Nat.ne_of_gt hrange.1)
  · exact absurd hrange.2 (Nat.not_le.2 h)
  · exact absurd haction (by simp [onEndOf_none.2 (show 2 < (byteAt r 24).toNat from h)])
  · rw [mapM_none (a := j)] at hentries
    · cases hentries
    · rw [List.take_range, List.mem_range]
      exact lt_min hj hj3
    · refine conditionOf_undefined ?_
      rw [byteAt_take_drop _ _ _ (by decide), byteAt_take_drop _ _ _ (by decide), Nat.add_right_comm 6 _ 1]
      exact h

/-- The segments of a Program Segments payload are read from its records, whatever stands in the entries that are not
declared (R8). -/
theorem segmentsOf_records (rs : List (Segment × List Byte)) (a b : Byte)
    (h : ∀ r ∈ rs, r.1.fits = true ∧ r.2.length = 18 - 6 * r.1.conditions.length) :
    segmentsOf rs.length ([a, b] ++ (rs.map fun r => r.1.recordWith r.2).flatten) = some (rs.map Prod.fst) ∧
    ((rs.map fun r => r.1.recordWith r.2).flatten).length = 25 * rs.length := by
  have read := fun r hr => segmentOf_recordWith (h r hr).1 (h r hr).2
  have hlength : ∀ x ∈ rs.map (fun r => r.1.recordWith r.2), x.length = 25 := by
    simp only [List.mem_map]
    rintro _ ⟨r, hr, rfl⟩
    exact (read r hr).1
  constructor
  · rw [segmentsOf, ← List.length_map (as := rs) Prod.fst]
    refine mapM_range _ _ fun k g hk => ?_
    obtain ⟨r, hr, rfl⟩ : ∃ r, rs[k]? = some r ∧ r.1 = g := by simpa using hk
    have hcut := take_drop_flatten _ 25 hlength [] (k := k) (r := r.1.recordWith r.2) (by simp [hr])
    rw [List.append_nil] at hcut
    rw [← List.drop_drop, show ∀ l : List Byte, ([a, b] ++ l).drop 2 = l from fun _ => rfl, hcut]
    exact (read r (List.mem_of_getElem? hr)).2
  · rw [List.length_flatten, List.map_congr_left hlength, List.map_const', List.sum_replicate]
    simp [Nat.mul_comm]

/-- No segments are read from a payload that holds an undefined record (R8). -/
theorem segmentsOf_undefined {n : Nat} (a b : Byte) (rest : List Byte)
    (h : ∃ k < n, undefinedRecord ((rest.drop (25 * k)).take 25)) : segmentsOf n ([a, b] ++ rest) = none := by
  obtain ⟨k, hk, hrecord⟩ := h
  refine mapM_none (List.mem_range.2 hk) ?_
  rw [← List.drop_drop, show ∀ l : List Byte, ([a, b] ++ l).drop 2 = l from fun _ => rfl]
  exact segmentOf_undefined hrecord

/-! ### Begin Program -/

theorem headerPayload_length (h : PlanHeader) : h.payload.length = headerLength := by
  delta PlanHeader.payload
  simp only [List.append_assoc]
  rfl

theorem natAt_headerLength {h : PlanHeader} {total : Nat} (htotal : total < 4294967296) :
    natAt (h.payload ++ u32 total) headerLength = total := by
  rw [natAt, List.drop_left' (headerPayload_length h), List.take_of_length_le (Nat.le_refl 4), ofBytes_u32 htotal]

/-- Begin Program on the fields that its payload carries (R7). -/
theorem decideBeginProgram_payload {s : State} {h : PlanHeader} {total : Nat} (hin : s.inTest = false)
    (hfits : h.fits = true) (htotal : total < 4294967296) :
    decideBeginProgram (h.payload ++ u32 total) s =
      if 1 ≤ total ∧ total ≤ 16 then ⟨.ok, u32 total, openLoad h total s⟩ else refuse .outOfRange s := by
  have hlength : (h.payload ++ u32 total).length = beginLength := by
    rw [List.length_append, headerPayload_length]; rfl
  simp [decideBeginProgram, hlength, hin, headerOf_payload hfits, natAt_headerLength htotal]

theorem decideBeginProgram_locked {s : State} {p : List Byte} (hlength : p.length = 85) (hin : s.inTest = true) :
    decideBeginProgram p s = refuse .locked s := by
  simp [decideBeginProgram, beginLength, headerLength, hlength, hin]

theorem decideBeginProgram_undefined {s : State} {p : List Byte} (hlength : p.length = 85) (hin : s.inTest = false)
    (h : (∃ i ∈ [24, 73, 74, 80], 1 < (p.getD i 0).toNat) ∨ 2 < (p.getD 79 0).toNat) :
    decideBeginProgram p s = refuse .outOfRange s := by
  have hnone : headerOf p = none := by
    by_contra hread
    obtain ⟨x, hread⟩ := Option.ne_none_iff_exists'.1 hread
    obtain ⟨hmarks, hslip⟩ := headerOf_codes hread
    rcases h with ⟨i, hi, h⟩ | h
    · exact absurd (hmarks i hi) (Nat.not_le.2 h)
    · exact absurd hslip (Nat.not_le.2 h)
  simp [decideBeginProgram, beginLength, headerLength, hlength, hin, hnone]

/-! ### Program Segments -/

/-- What stands in every reply to Program Segments while the load record is `l` (R8). -/
theorem standing_loading {t : Tsq} {l : LoadRecord} (hl : t.load = some l) :
    t.nextExpected = l.segments.length ∧ t.remaining = l.total - l.segments.length := by
  simp [Tsq.nextExpected, Tsq.remaining, Tsq.totalCount, hl]

theorem decideProgramSegments_badLength {s : State} {p : List Byte}
    (h : p.length < 2 ∨ p.length ≠ 2 + 25 * (byteAt p 1).toNat) :
    decideProgramSegments p s = segmentsAnswer .badLength [] s := by
  rw [decideProgramSegments, if_pos h]

/-- Program Segments with the length of its count, by the sequencer's state (R8). -/
theorem decideProgramSegments_fits {s : State} {start n : Byte} {rest : List Byte} (h : rest.length = 25 * n.toNat) :
    decideProgramSegments (start :: n :: rest) s =
      if s.inTest then segmentsAnswer .locked [] s
      else match s.tsq.state, s.tsq.load with
        | .loading, some l => loadSegments (start :: n :: rest) l s
        | _, _ => segmentsAnswer .wrongState [] s := by
  have hlength : ¬ ((start :: n :: rest).length < 2 ∨
      (start :: n :: rest).length ≠ 2 + 25 * (byteAt (start :: n :: rest) 1).toNat) := by
    have hbyte : byteAt (start :: n :: rest) 1 = n := rfl
    simp only [hbyte, List.length_cons]
    omega
  exact if_neg hlength

/-- A request in LOADING that is in sequence and in range stores its segments (R8). -/
theorem loadSegments_stored {s : State} {start n : Byte} {rest : List Byte} {l : LoadRecord} {gs : List Segment}
    (hstart : start.toNat = l.segments.length) (hn : 1 ≤ n.toNat ∧ n.toNat ≤ 4)
    (hroom : l.segments.length + n.toNat ≤ l.total) (hread : segmentsOf n.toNat ([start, n] ++ rest) = some gs) :
    loadSegments (start :: n :: rest) l s = storeSegments l gs s := by
  have h0 : byteAt (start :: n :: rest) 0 = start := rfl
  have h1 : byteAt (start :: n :: rest) 1 = n := rfl
  have hread' : segmentsOf n.toNat (start :: n :: rest) = some gs := hread
  simp only [loadSegments, h0, h1]
  rw [if_neg (by simpa using hstart), if_neg (by omega), hread']

theorem loadSegments_outOfSequence {s : State} {start n : Byte} {rest : List Byte} {l : LoadRecord}
    (hstart : start.toNat ≠ l.segments.length) :
    loadSegments (start :: n :: rest) l s = segmentsAnswer .outOfSequence [] s := by
  have h0 : byteAt (start :: n :: rest) 0 = start := rfl
  simp only [loadSegments, h0]
  rw [if_pos hstart]

theorem loadSegments_outOfRange {s : State} {start n : Byte} {rest : List Byte} {l : LoadRecord}
    (hstart : start.toNat = l.segments.length)
    (h : n.toNat = 0 ∨ 4 < n.toNat ∨ l.total < l.segments.length + n.toNat ∨
      ∃ k < n.toNat, undefinedRecord ((rest.drop (25 * k)).take 25)) :
    loadSegments (start :: n :: rest) l s = segmentsAnswer .outOfRange [] s := by
  have h0 : byteAt (start :: n :: rest) 0 = start := rfl
  have h1 : byteAt (start :: n :: rest) 1 = n := rfl
  simp only [loadSegments, h0, h1]
  rw [if_neg (by simpa using hstart)]
  split
  · rfl
  · have hundefined : ∃ k < n.toNat, undefinedRecord ((rest.drop (25 * k)).take 25) := by
      rcases h with h | h | h | h
      · omega
      · omega
      · omega
      · exact h
    have hread : segmentsOf n.toNat (start :: n :: rest) = none := segmentsOf_undefined start n rest hundefined
    rw [hread]

/-! ### Segments stored, and the complete program validated -/

theorem segmentsAnswer_standing {s : State} {k r : Nat} (x : Status) (more : List Byte)
    (hk : s.tsq.nextExpected = k) (hr : s.tsq.remaining = r) :
    segmentsAnswer x more s = ⟨x, u8 k ++ u32 r ++ more, s⟩ := by
  rw [segmentsAnswer, hk, hr]

theorem storeSegments_more {s : State} {l : LoadRecord} {gs : List Segment} (h : (l.segments ++ gs).length < l.total) :
    storeSegments l gs s =
      ⟨.ok, u8 (l.segments ++ gs).length ++ u32 (l.total - (l.segments ++ gs).length),
        s.onTsq fun t => { t with load := some { l with segments := l.segments ++ gs } }⟩ := by
  obtain ⟨hk, hr⟩ := standing_loading (t := { s.tsq with load := some { l with segments := l.segments ++ gs } }) rfl
  exact (if_neg (Nat.not_le.2 h)).trans ((segmentsAnswer_standing _ _ hk hr).trans (by rw [List.append_nil]))

/-- The load record that holds all its segments is validated (R9). -/
theorem storeSegments_complete {s : State} {l : LoadRecord} {gs : List Segment}
    (h : (l.segments ++ gs).length = l.total) :
    storeSegments l gs s =
      validateLoad { l with segments := l.segments ++ gs }
        (s.onTsq fun t => { t with load := some { l with segments := l.segments ++ gs } }) :=
  if_pos (Nat.le_of_eq h.symm)

/-- What stands in every reply to Program Segments while no load record stands (R12). -/
theorem standing_notLoading {t : Tsq} (hl : t.load = none) :
    t.nextExpected = t.totalCount ∧ t.remaining = 0 := by
  simp [Tsq.nextExpected, Tsq.remaining, hl]

theorem validateLoad_valid {s : State} {l : LoadRecord} (hi : failingIndex l.header l.segments = none) :
    validateLoad l s =
      ⟨.ok, u8 l.segments.length ++ u32 0,
        s.onTsq fun t => { t with
          state := .ready, load := none, program := some ⟨l.header, l.segments⟩, lastLoad := .valid }⟩ := by
  obtain ⟨hk, hr⟩ := standing_notLoading (t := { s.tsq with
    state := .ready, load := none, program := some ⟨l.header, l.segments⟩, lastLoad := .valid }) rfl
  delta validateLoad
  rw [hi]
  exact (segmentsAnswer_standing _ _ hk hr).trans (by rw [List.append_nil]; rfl)

theorem validateLoad_invalid {s : State} {l : LoadRecord} {i : Nat}
    (hi : failingIndex l.header l.segments = some i) :
    validateLoad l s =
      ⟨.invalidProgram, u8 0 ++ u32 0 ++ u8 i,
        s.onTsq fun t => { t with state := .empty, load := none, program := none, lastLoad := .invalid i }⟩ := by
  obtain ⟨hk, hr⟩ := standing_notLoading (t := { s.tsq with
    state := .empty, load := none, program := none, lastLoad := .invalid i }) rfl
  delta validateLoad
  rw [hi]
  exact segmentsAnswer_standing _ _ hk hr

/-! ### A program is loaded -/

theorem programSegments_runs {s : State} (hs : s.takesRequest) (tag : Byte) (p : List Byte) :
    exec (.programSegments tag p) s = .next (queueReply 0x22 tag (decideProgramSegments p s.counted)) :=
  request_runs 0x22 tag (decideProgramSegments p) s hs

/-- A refusal of Program Segments carries what stands, and changes nothing (R8). -/
theorem programSegments_refused {s : State} (hs : s.takesRequest) {tag : Byte} {p : List Byte} {x : Status}
    (h : decideProgramSegments p s.counted = segmentsAnswer x [] s.counted) :
    exec (.programSegments tag p) s =
      .next (s.replied 0xA2 tag (x.byte :: (u8 s.tsq.nextExpected ++ u32 s.tsq.remaining))) := by
  rw [programSegments_runs hs, h, segmentsAnswer, List.append_nil, queueReply_counted]
  rfl

/-- Segments in sequence and in range are stored in the load record (R8). -/
theorem programSegments_stores {s : State} (hs : s.takesRequest) (tag start : Byte) (rs : List (Segment × List Byte))
    {l : LoadRecord} (hq : s.tsq.state = .loading) (hl : s.tsq.load = some l) (hstart : start.toNat = l.segments.length)
    (hone : 1 ≤ rs.length) (hfour : rs.length ≤ 4) (hroom : l.segments.length + rs.length ≤ l.total)
    (hrs : ∀ r ∈ rs, r.1.fits = true ∧ r.2.length = 18 - 6 * r.1.conditions.length) :
    exec (.programSegments tag
        ([start, BitVec.ofNat 8 rs.length] ++ (rs.map fun r => r.1.recordWith r.2).flatten)) s =
      .next (queueReply 0x22 tag (storeSegments l (rs.map Prod.fst) s.counted)) := by
  obtain ⟨hread, hlength⟩ := segmentsOf_records rs start (BitVec.ofNat 8 rs.length) hrs
  have hn : (BitVec.ofNat 8 rs.length).toNat = rs.length := by
    rw [BitVec.toNat_ofNat]
    omega
  have hin : s.counted.inTest = false := by simp [State.inTest, hq, SeqState.inTest]
  rw [programSegments_runs hs]
  have fits := decideProgramSegments_fits (s := s.counted) (start := start) (hlength.trans (by rw [hn]))
  refine congrArg (fun a => Host.Outcome.next (queueReply 0x22 tag a)) (fits.trans ?_)
  simp only [hin, counted_frame, hq, hl]
  exact loadSegments_stored hstart (by omega) (by omega) (by rw [hn]; exact hread)

/-- Settles O15: Begin Program on the fields of its payload, Program Segments by the sequencer's state and its checks,
and the validation of the complete program through `failingIndex`. -/
theorem programIsLoaded : Obligations.ProgramIsLoaded := by
  refine ⟨fun s tag h total hs hfits htotal => ?_, fun s tag p hs hlength => ?_,
    fun s tag start rs l hs hq hl _ hstart hone hfour hroom hrs => ?_, fun s tag start n rest hs => ?_,
    fun s tag p hs hlength => programSegments_refused hs (decideProgramSegments_badLength (.inl hlength))⟩
  · have run := request_runs 0x21 tag (decideBeginProgram (h.payload ++ u32 total)) s hs
    refine ⟨fun hin hone hmax => run.trans ?_, fun hin hout => run.trans ?_⟩
    · rw [decideBeginProgram_payload (by simpa using hin) hfits htotal, if_pos ⟨hone, hmax⟩]; rfl
    · rw [decideBeginProgram_payload (by simpa using hin) hfits htotal, if_neg (by omega)]; rfl
  · have run := request_runs 0x21 tag (decideBeginProgram p) s hs
    refine ⟨fun hin => run.trans ?_, fun hin hcode => run.trans ?_⟩
    · rw [decideBeginProgram_locked hlength (by simpa using hin)]; rfl
    · rw [decideBeginProgram_undefined hlength (by simpa using hin) hcode]; rfl
  · have run := programSegments_stores hs tag start rs hq hl hstart hone hfour hroom hrs
    refine ⟨fun hmore => run.trans ?_, fun hcomplete => ⟨fun hh hg => run.trans ?_, fun hh => run.trans ?_,
      fun before g after hh hall hbefore hg => run.trans ?_⟩⟩
    · rw [storeSegments_more hmore]; rfl
    · rw [storeSegments_complete hcomplete,
        validateLoad_valid (l := { l with segments := l.segments ++ _ }) (failingIndex_lawful _ _ hh hg), hcomplete]
      rfl
    · rw [storeSegments_complete hcomplete,
        validateLoad_invalid (l := { l with segments := l.segments ++ _ }) (failingIndex_header _ _ hh)]
      rfl
    · have hi : failingIndex l.header (l.segments ++ rs.map Prod.fst) = some before.length := by
        rw [hall]; exact failingIndex_segment _ _ _ _ hh hbefore hg
      rw [storeSegments_complete hcomplete,
        validateLoad_invalid (l := { l with segments := l.segments ++ rs.map Prod.fst }) hi]
      rfl
  · refine ⟨fun hlength => programSegments_refused hs (decideProgramSegments_badLength (.inr ?_)), fun hlength => ?_⟩
    · show rest.length + 1 + 1 ≠ 2 + 25 * n.toNat
      omega
    have fits := decideProgramSegments_fits (s := s.counted) (start := start) hlength
    refine ⟨fun hin => programSegments_refused (x := .locked) hs (fits.trans ?_),
      fun hq => programSegments_refused (x := .wrongState) hs (fits.trans ?_), fun l hq hl => ?_⟩
    · rw [if_pos (by simpa using hin)]
    · rcases hq with hq | hq | hq <;> simp [State.inTest, SeqState.inTest, hq]
    · have loading : decideProgramSegments (start :: n :: rest) s.counted =
          loadSegments (start :: n :: rest) l s.counted := by
        rw [fits]
        simp [State.inTest, SeqState.inTest, hq, hl]
      obtain ⟨hk, hr⟩ := standing_loading hl
      have refused : ∀ x, loadSegments (start :: n :: rest) l s.counted = segmentsAnswer x [] s.counted →
          exec (.programSegments tag (start :: n :: rest)) s = .next (s.replied 0xA2 tag
            (x.byte :: (u8 l.segments.length ++ u32 (l.total - l.segments.length)))) := fun x h => by
        rw [← hr, ← hk]
        exact programSegments_refused hs (loading.trans h)
      exact ⟨fun hstart => refused .outOfSequence (loadSegments_outOfSequence hstart),
        fun hstart hrange => refused .outOfRange (loadSegments_outOfRange hstart hrange)⟩

end Sys2Proof.Proofs
end
section
/-! A point of a RUNNING or HELD test (O35): what a calm conversion leaves as it was up to the sequencer, the phase after
the evaluation, and what the sequencer does with the point (R27 to R30, R34, R37, R38). -/

namespace Sys2Proof.Proofs

open Sys2Proof.Machine Sys2Proof.Laws

/-! ### The phase after an evaluation (R135, R147) -/

@[simp] theorem onResult_phase (f : ResultRecord → ResultRecord) (e : Evu) : (e.onResult f).phase = e.phase := rfl

@[simp] theorem fixLine_phase (l : ElasticLine) (i : Nat) (e : Evu) : (fixLine l i e).phase = e.phase := rfl

@[simp] theorem openSearch_phase (hd : PlanHeader) (e : Evu) : (openSearch hd e).phase = e.phase := by
  unfold openSearch; split <;> rfl

@[simp] theorem failFit_phase (hd : PlanHeader) (nominal : Option Nat) (why : Absence) (i : Nat) (e : Evu) :
    (failFit hd nominal why i e).phase = e.phase := by
  unfold failFit
  cases fallbackModulus hd nominal with
  | none => rfl
  | some m => dsimp only; split <;> simp

@[simp] theorem closeFit_phase (hd : PlanHeader) (nominal : Option Nat) (i : Nat) (e : Evu) :
    (closeFit hd nominal i e).phase = e.phase := by
  unfold closeFit
  dsimp only
  repeat' split
  all_goals simp

@[simp] theorem mark_evu (k : RecordKind) (p : Point) (o : EvalOut) : (o.mark k p).evu = o.evu := rfl

@[simp] theorem on_evu (f : Evu → Evu) (o : EvalOut) : (o.on f).evu = f o.evu := rfl

@[simp] theorem fixMaximum_phase (x : EvalInput) (o : EvalOut) : (fixMaximum x o).evu.phase = o.evu.phase := rfl

@[simp] theorem stepFmax_phase (x : EvalInput) (o : EvalOut) : (stepFmax x o).evu.phase = o.evu.phase := by
  unfold stepFmax
  repeat' split
  all_goals simp

@[simp] theorem armFracture_phase (x : EvalInput) (e : Evu) : (armFracture x e).phase = e.phase := by
  unfold armFracture; split <;> rfl

@[simp] theorem rearm_phase (x : EvalInput) (e : Evu) : (rearm x e).phase = e.phase := by
  unfold rearm
  repeat' split
  all_goals rfl

@[simp] theorem stepFit_phase (x : EvalInput) (o : EvalOut) : (stepFit x o).evu.phase = o.evu.phase := by
  unfold stepFit
  repeat' split
  all_goals simp

@[simp] theorem stepSearch_phase (x : EvalInput) (o : EvalOut) : (stepSearch x o).evu.phase = o.evu.phase := by
  unfold stepSearch crossing
  dsimp only
  repeat' split
  all_goals simp

@[simp] theorem stepMaxEffects_phase (x : EvalInput) (o : EvalOut) :
    (stepMaxEffects x o).evu.phase = o.evu.phase := by
  unfold stepMaxEffects; split <;> simp

@[simp] theorem stepSlip_phase (x : EvalInput) (o : EvalOut) : (stepSlip x o).evu.phase = o.evu.phase := by
  unfold stepSlip; split <;> simp

@[simp] theorem stepPrev_phase (x : EvalInput) (o : EvalOut) : (stepPrev x o).evu.phase = o.evu.phase := rfl

/-- The end of the extensometer's strain takes a phase at most from YIELDING to HARDENING (R148). -/
theorem closeExtensometer_unbroken (x : EvalInput) {e : Evu} (h : e.phase ≠ .fractured) :
    (closeExtensometer x e).phase ≠ .fractured := by
  unfold closeExtensometer
  dsimp only
  repeat' split
  all_goals simp [h]

theorem stepSource_unbroken (x : EvalInput) {o : EvalOut} (h : o.evu.phase ≠ .fractured) :
    (stepSource x o).evu.phase ≠ .fractured := by
  unfold stepSource
  split
  · exact closeExtensometer_unbroken x h
  · exact h

/-- The elastic-stage and yield-phase work goes to YIELDING or HARDENING alone (R142, R143). -/
theorem stepYield_unbroken (x : EvalInput) {o : EvalOut} (h : o.evu.phase ≠ .fractured) :
    (stepYield x o).evu.phase ≠ .fractured := by
  have trackSmax_phase : ∀ e, (trackSmax x.point e).phase = e.phase := fun e => by
    unfold trackSmax
    repeat' split
    all_goals rfl
  unfold stepYield elasticYield upperYield endYield
  dsimp only
  repeat' split
  all_goals simp [h, trackSmax_phase]

theorem stepMaxPassed_unbroken (x : EvalInput) {o : EvalOut} (h : o.evu.phase ≠ .fractured) :
    (stepMaxPassed x o).evu.phase ≠ .fractured := by
  unfold stepMaxPassed
  dsimp only
  split <;> simp [h]

theorem unbrokenSteps_unbroken (x : EvalInput) {o : EvalOut} (h : o.evu.phase ≠ .fractured) :
    (unbrokenSteps x o).evu.phase ≠ .fractured := by
  simpa [unbrokenSteps] using stepMaxPassed_unbroken x (stepYield_unbroken x h)

theorem fractureEffects_breaks (x : EvalInput) (o : EvalOut) :
    (fractureEffects x o).evu.phase = .fractured ∧ (fractureEffects x o).fractured = true := ⟨rfl, rfl⟩

/-- The phase is FRACTURED after a point of a test that was not, exactly when fracture was detected on the point. -/
theorem evaluate_fractured_iff (x : EvalInput) {e : Evu} (h : e.phase ≠ .fractured) :
    (evaluate x e).fractured = true ↔ (evaluate x e).evu.phase = .fractured := by
  unfold evaluate
  rw [if_neg h]
  dsimp only
  split
  · simp [fractureEffects_breaks]
  · have unbroken := unbrokenSteps_unbroken x
      (o := (stepFmax x (stepSource x ⟨e, [], false, false⟩)).on (armFracture x)) (by simpa using stepSource_unbroken x h)
    simp [unbroken, unbrokenSteps_fractured]

@[simp] theorem applyEval_evu (o : EvalOut) (s : State) : (applyEval o s).evu = o.evu := by
  unfold applyEval
  dsimp only
  repeat' split
  all_goals simp

@[simp] theorem evalTestEnd_phase (why : EndReason) (s : State) : (evalTestEnd why s).evu.phase = s.evu.phase := by
  simp only [evalTestEnd, onEvu_evu, onResult_phase]
  split <;> simp

@[simp] theorem enterEnded_phase (why : EndReason) (cause : Option StartCause) (s : State) :
    (enterEnded why cause s).evu.phase = s.evu.phase := by
  simp [enterEnded]

@[simp] theorem enterEnding_phase (why : EndReason) (s : State) : (enterEnding why s).evu.phase = s.evu.phase := by
  unfold enterEnding
  dsimp only
  split <;> simp

/-! ### Ending, holding and entering on a point (R27, R31, R38, R55) -/

theorem header_congr {s t : State} (h : t.tsq = s.tsq) : t.header = s.header := by simp only [State.header, h]

theorem segments_congr {s t : State} (h : t.tsq.program = s.tsq.program) : t.segments = s.segments := by
  simp only [State.segments, h]

/-- The test ends for a reason: through ENDING with the drive STOPPING, or at once with the drive IDLE (R38). -/
def EndsFor (why : EndReason) (time : Nat) (t : State) : Prop :=
  t.tsq.state = .ending ∧ t.tsq.pendingEnd = some why ∧ t.tsq.segmentTime = time ∧ t.drl.state = .stopping ∨
  t.tsq.state = .ended ∧ t.tsq.endReason = some why ∧ t.drl.state = .idle

/-- The test of `s` is held for a reason at a segment time, the drive HOLDING with command 0 and HELD pending (R31). -/
def HeldFor (s : State) (time : Nat) (why : HeldReason) (heldAt : Option Nat) (t : State) : Prop :=
  t.tsq = { s.tsq with
    state := .held, segmentTime := time, heldReason := some why, heldAt := heldAt, startStep := none
    resumeEntry := none } ∧
  t.drl.state = .holding ∧ t.drl.velocity = 0 ∧ t.drl.dacCode = 0 ∧ t.cli.pending.held = true

theorem enterEnded_drl (why : EndReason) (cause : Option StartCause) (s : State) :
    (enterEnded why cause s).drl = s.drl.testEnd := by
  simp [enterEnded]

/-- A drive that stands still after its stop request ends the test at once (R38). -/
theorem enterEnding_idle {s : State} (why : EndReason) (h : s.drl.stop.state = .idle) :
    (enterEnding why s).tsq.state = .ended ∧ (enterEnding why s).tsq.endReason = some why ∧
    (enterEnding why s).drl.state = .idle := by
  simp [enterEnding, h, enterEnded_tsq, enterEnded_drl, Drl.testEnd]

/-- A drive that still moves after its stop request leaves the test ENDING (R38). -/
theorem enterEnding_moving {s : State} (why : EndReason) (h : s.drl.stop.state ≠ .idle) :
    (enterEnding why s).tsq.state = .ending ∧ (enterEnding why s).tsq.pendingEnd = some why ∧
    (enterEnding why s).tsq.segmentTime = s.tsq.segmentTime ∧ (enterEnding why s).drl = s.drl.stop := by
  simp [enterEnding, h]

/-- A stop request takes a RUNNING drive to STOPPING, or to IDLE where its command is 0 (R57). -/
theorem stop_of_running {d : Drl} (h : d.state = .running) : d.stop.state = .idle ∨ d.stop.state = .stopping := by
  unfold Drl.stop Drl.enterStopping
  rw [h]
  dsimp only
  split
  · exact .inl rfl
  · exact .inr rfl

/-- After a stop request a HOLDING or IDLE drive stands IDLE (R57). -/
theorem stop_of_rest {d : Drl} (h : d.state = .holding ∨ d.state = .idle) : d.stop.state = .idle := by
  unfold Drl.stop
  rcases h with h | h <;> rw [h]
  · rfl
  · exact h

theorem enterEnding_endsFor {s : State} (why : EndReason) (h : s.drl.state = .running) :
    EndsFor why s.tsq.segmentTime (enterEnding why s) := by
  rcases stop_of_running h with hstop | hstop
  · exact .inr (enterEnding_idle why hstop)
  · obtain ⟨hstate, hpending, htime, hdrl⟩ := enterEnding_moving (s := s) why (by simp [hstop])
    exact .inl ⟨hstate, hpending, htime, by rw [hdrl, hstop]⟩

theorem enterHeld_heldFor {s u : State} {time : Nat} (hu : u.tsq = { s.tsq with segmentTime := time })
    (hdrive : u.drl.state = .running) {why : HeldReason} (hwhy : why ≠ .limit) (heldAt : Option Nat) :
    HeldFor s time why heldAt (enterHeld why heldAt u) := by
  refine ⟨by rw [enterHeld_tsq, hu], ?_⟩
  unfold enterHeld Drl.hold
  simp [hwhy, hdrive, Drl.rest, raise, SourceSet.add]

theorem quantity_eq_value (m : ControlMode) (p : Point) : m.quantity p = p.value m := by cases m <;> rfl

theorem enterSegment_drl {i : Nat} {g : Segment} {s : State} (hg : s.segments[i]? = some g) (p : Point) :
    (enterSegment i p s).drl = s.drl.transfer g.mode g.rate p := by
  have hg' : ∀ f, (s.onTsq f).tsq.program = s.tsq.program → (s.onTsq f).segments[i]? = some g := fun f hf => by
    rw [segments_congr hf, hg]
  unfold enterSegment
  dsimp only
  rw [hg' _ rfl]
  simp

/-- A segment is entered from a drive that is RUNNING, HOLDING or IDLE (R27, R55). -/
theorem enterSegment_enteredOn {s u : State} {time : Nat} (hu : u.tsq = { s.tsq with segmentTime := time })
    (hdrive : u.drl.state = .running ∨ u.drl.state = .holding ∨ u.drl.state = .idle) {i : Nat} {g : Segment}
    (hg : u.segments[i]? = some g) (p : Point) : s.enteredOn (enterSegment i p u) i g p := by
  refine ⟨by rw [enterSegment_tsq, hu]; rfl, ?_⟩
  rw [enterSegment_drl hg]
  refine ⟨?_, rfl, rfl, quantity_eq_value g.mode p, rfl⟩
  rcases hdrive with h | h | h <;> simp [Drl.transfer, h, DriveState.afterTransfer]

/-! ### End conditions and on-end actions (R5, R29, R30) -/

theorem atOrAbove_iff (x : Int) (threshold : Option Int) :
    atOrAbove x threshold = true ↔ ∃ t, threshold = some t ∧ t ≤ x := by
  cases threshold <;> simp [atOrAbove]

theorem conditionMet_iff (x : EndCondition) (p : Point) (time : Nat) (phase : EvalPhase) (settled : Bool) :
    conditionMet x p time phase settled = true ↔ x.metOn p time phase settled := by
  unfold conditionMet EndCondition.metOn
  cases x.kind
  case timeElapsed => cases x.threshold <;> simp
  case yieldDetected => cases phase <;> simp [EvalPhase.ctorIdx]
  case yieldEnded => cases phase <;> simp [EvalPhase.ctorIdx]
  case maxPassed => cases phase <;> simp [EvalPhase.ctorIdx]
  case loadSettled => rfl
  all_goals exact atOrAbove_iff _ _

theorem segmentEnds_iff (g : Segment) (p : Point) (s : State) :
    segmentEnds g p s = true ↔ ∃ x ∈ g.conditions, x.metOn p s.tsq.segmentTime s.evu.phase s.fcu.settled := by
  simp only [segmentEnds, List.any_eq_true, conditionMet_iff]

/-! ### What the sequencer does with a point -/

/-- A point of segment `i` that fracture was not detected on (R29). -/
theorem runningTaken_unbroken {u : State} {i : Nat} {g : Segment} (hi : u.tsq.currentSegment = some i)
    (hg : u.segments[i]? = some g) (p : Point) :
    runningTaken false p u =
      if segmentEnds g p (countSegmentTime u) then onEndAction i g.onEnd p (countSegmentTime u)
      else countSegmentTime u := by
  have hi' : (countSegmentTime u).tsq.currentSegment = some i := hi
  have hg' : (countSegmentTime u).segments[i]? = some g := hg
  simp only [runningTaken, runningPoint, hi', hg']
  rfl

theorem onEndAction_last {u : State} {i : Nat} (h : u.segments.length ≤ i + 1) (p : Point) :
    onEndAction i .next p u = enterEnding .complete u := by
  simp [onEndAction, isLast, h]

theorem onEndAction_next {u : State} {i : Nat} (h : i + 1 < u.segments.length) (p : Point) :
    onEndAction i .next p u = reachSegment (i + 1) p u := by
  simp [onEndAction, isLast, h]

theorem reachSegment_holdPoint {u : State} {i : Nat} (h : u.tsq.holdPoints.getLsbD i = true) (p : Point) :
    reachSegment i p u = enterHeld .holdPoint (some i) u := if_pos h

theorem reachSegment_enters {u : State} {i : Nat} (h : u.tsq.holdPoints.getLsbD i = false) (p : Point) :
    reachSegment i p u = enterSegment i p u := if_neg (by simp [inSet, h])

/-! ### The point up to the sequencer -/

theorem captureTravelZero_mismatches (s : State) : (captureTravelZero s).drl.mismatches = s.drl.mismatches := by
  unfold captureTravelZero; split <;> rfl

/-- Beside the travel zero, forming a point leaves the drive's record as it was. -/
theorem formPoint_drl (count : Int) (s : State) : (formPoint count s).state.drl = (captureTravelZero s).drl := by
  simp [formPoint]

theorem formPoint_latestPoint (count : Int) (s : State) :
    (formPoint count s).state.latestPoint = some (formPoint count s).point := by
  simp [formPoint]

theorem formPoint_position (count : Int) (s : State) : (formPoint count s).point.position = s.drl.position := by
  simp [formPoint, makePoint, Drl.position]

theorem formPoint_force (count : Int) (s : State) :
    (formPoint count s).point.force = (s.fcu.convert s.drl.frame.capacity (saturate count)).force := by
  simp [formPoint, makePoint]

/-- DRIVE_READY present, or not asked for, is sampled and no more (R47). -/
theorem readyPoint_calm {ready : Bool} {s : State} (h : ready = true ∨ s.readyUnwatched) :
    readyPoint ready s = s.onDrl fun d => { d with readyLevel := ready } := by
  have hquiet : (s.drl.state.watchesReady && !ready) = false := by
    rcases h with h | h | h | h <;> simp [h, DriveState.watchesReady]
  simp [readyPoint, hquiet]

/-- A readback that agrees, or that misses at most the third time in a row, is counted and no more (R59). -/
theorem readbackPoint_calm {code held : Int} {s : State}
    (h : s.drl.mismatches < 3 ∨ readbackMismatch s.drl.frame.fullScaleSpeed code held = false) :
    ∃ n, readbackPoint code held s = s.onDrl fun d => { d with mismatches := n } := by
  unfold readbackPoint
  split
  · next hmiss =>
    have hfew : ¬ 4 ≤ s.drl.mismatches + 1 := by
      rcases h with h | h
      · omega
      · simp [h] at hmiss
    rw [if_neg hfew]
    exact ⟨_, rfl⟩
  · exact ⟨_, rfl⟩

/-- A force within the overload limit, or the first beyond it, is counted and no more (R171). -/
theorem overloadPoint_calm {p : Point} {s : State}
    (h : s.lmu.overloadCount = 0 ∨ p.force.natAbs ≤ s.lmu.overloadLimit) :
    ∃ n, overloadPoint p s = s.onLmu fun m => { m with overloadCount := n } := by
  unfold overloadPoint
  split
  · next hover =>
    rw [if_pos (h.resolve_right (Nat.not_le.2 hover))]
    exact ⟨_, rfl⟩
  · exact ⟨_, rfl⟩

/-- A point without DRIVE_FAULT and with no overload changes the Limit Monitor's record alone (R170, R171). -/
theorem limitPoint_calm {p : Point} {s : State} (h : s.lmu.overloadCount = 0 ∨ p.force.natAbs ≤ s.lmu.overloadLimit) :
    ∃ f, limitPoint false p s = s.onLmu f := by
  obtain ⟨n, hn⟩ := overloadPoint_calm (p := p) (s := s.onLmu fun m => { m with driveFault := .inactive }) h
  exact ⟨fun m => { m with driveFault := .inactive, overloadCount := n }, hn⟩

/-- The drive on a point that brings it no reason to stop: it rests, or it runs inside the soft limits. -/
def Steady (s : State) : Prop :=
  s.drl.state = .holding ∨ s.drl.state = .idle ∨
  s.drl.state = .running ∧ s.drl.frame.softMin < s.drl.position ∧ s.drl.position < s.drl.frame.softMax

/-- A command formed inside the soft limits is written, and the drive stays RUNNING (R53, R64). -/
theorem runningDrive_inside {first : Bool} {p : Point} {s : State} (hmin : s.lmu.softMin < p.position)
    (hmax : p.position < s.lmu.softMax) :
    (runningDrive first p s).tsq = s.tsq ∧ (runningDrive first p s).evu = s.evu ∧
    (runningDrive first p s).drl.state = s.drl.state := by
  unfold runningDrive
  split
  · exact ⟨rfl, rfl, rfl⟩
  · have inside : ∀ v, limitReached s.lmu.softMin s.lmu.softMax p.position v = false := fun v => by
      simp [limitReached, Int.not_le.2 hmin, Int.not_le.2 hmax]
    simp [inside, Drl.write]

/-- The work of a drive that is steady on the point, with the limits of the frame in force. -/
theorem drivePointWork_steady {ready first : Bool} {p : Point} {s : State} (h : Steady s)
    (hposition : p.position = s.drl.position) (hmin : s.lmu.softMin = s.drl.frame.softMin)
    (hmax : s.lmu.softMax = s.drl.frame.softMax) :
    (drivePointWork ready first p s).tsq = s.tsq ∧ (drivePointWork ready first p s).evu = s.evu ∧
    (drivePointWork ready first p s).drl.state = s.drl.state := by
  rcases h with h | h | ⟨h, hlow, hhigh⟩
  · simp [drivePointWork, h]
  · simp [drivePointWork, h]
  · have run := runningDrive_inside (first := first) (p := p) (s := s) (by rw [hmin, hposition]; exact hlow)
      (by rw [hmax, hposition]; exact hhigh)
    simpa [drivePointWork, h] using run

/-- Under slip action CONTINUE an evaluated point changes neither the test nor the drive, and fracture is detected on it
exactly when it leaves the phase FRACTURED (R35, R147). -/
theorem evaluationPoint_carriesOn {unrest : Bool} {p : Point} {s : State} (hq : s.tsq.state.evaluated = true)
    (hslip : s.header.slipAction = .carryOn) (hphase : s.evu.phase ≠ .fractured) :
    (evaluationPoint unrest p s).1.tsq = s.tsq ∧ (evaluationPoint unrest p s).1.drl = s.drl ∧
    ((evaluationPoint unrest p s).2 = true ↔ (evaluationPoint unrest p s).1.evu.phase = .fractured) := by
  have slips : ∀ u : State, u.tsq = s.tsq → slipAction u = u := fun u hu => by
    simp [slipAction, header_congr hu, hslip]
  have fractures := evaluate_fractured_iff (s.evalInput unrest p) hphase
  unfold evaluationPoint
  rw [if_pos hq]
  dsimp only
  split
  · rw [slips _ (by simp)]
    simpa using fractures
  · simpa using fractures

/-- `u` is a state in which the sequencer takes the point `p` of a calm conversion in `s`; `fractured` says that fracture
was detected on it. -/
structure ReachesSequencer (s : State) (c : Conversion) (u : State) (p : Point) (fractured : Bool) : Prop where
  runs : exec (.conversionComplete c) s = .next (offerPoint p (limitPoint false p (sequencerPoint fractured p u)))
  point : u.latestPoint = some p
  test : u.tsq = s.tsq
  drive : u.drl.state = s.drl.state
  phase : fractured = true ↔ u.evu.phase = .fractured
  force : u.lmu.overloadCount = 0 ∨ p.force.natAbs ≤ u.lmu.overloadLimit

/-- The drive's whole part of a calm point. -/
theorem drivePoint_calm {held : Int} {c : Conversion} {first : Bool} {p : Point} {s : State}
    (hready : c.driveReady = true ∨ s.readyUnwatched)
    (hread : s.drl.mismatches < 3 ∨ readbackMismatch s.drl.frame.fullScaleSpeed c.readback held = false)
    (hsteady : Steady s) (hposition : p.position = s.drl.position) (hmin : s.lmu.softMin = s.drl.frame.softMin)
    (hmax : s.lmu.softMax = s.drl.frame.softMax) :
    (drivePoint held c first p s).tsq = s.tsq ∧ (drivePoint held c first p s).evu = s.evu ∧
    (drivePoint held c first p s).drl.state = s.drl.state ∧ (drivePoint held c first p s).lmu = s.lmu := by
  obtain ⟨n, hn⟩ := readbackPoint_calm (s := s.onDrl fun d => { d with readyLevel := c.driveReady }) hread
  have work := drivePointWork_steady (ready := c.driveReady) (first := first) (p := p)
    (s := (s.onDrl fun d => { d with readyLevel := c.driveReady }).onDrl fun d => { d with mismatches := n })
    hsteady hposition hmin hmax
  rw [drivePoint, readyPoint_calm hready, hn]
  refine ⟨work.1, work.2.1, work.2.2, ?_⟩
  simp

/-- The point that a conversion forms, with the limits of the frame taken (R48, R68). -/
def formedOn (s : State) (c : Conversion) : Formed := formPoint c.count (takeLimits (tickClocks s))

theorem exec_conversionComplete {s : State} {c : Conversion} (h : s.inReset = false) :
    exec (.conversionComplete c) s =
      .next (consumePoint s.drl.velocity c (firstEstimated (formedOn s c).point s) (formedOn s c)) :=
  live_running (conversion c) s h

theorem formedOn_point (s : State) (c : Conversion) :
    (formedOn s c).point.position = s.drl.position ∧ (formedOn s c).point.force = s.forceOn c ∧
    (formedOn s c).state.latestPoint = some (formedOn s c).point := by
  refine ⟨?_, ?_, formPoint_latestPoint _ _⟩
  · rw [formedOn, formPoint_position]; simp
  · rw [formedOn, formPoint_force]; simp [State.forceOn]

/-- What forming a point leaves as it was. -/
theorem formedOn_frame (s : State) (c : Conversion) :
    (formedOn s c).state.tsq = s.tsq ∧ (formedOn s c).state.evu = s.evu ∧
    (formedOn s c).state.drl.state = s.drl.state ∧ (formedOn s c).state.drl.frame = s.drl.frame ∧
    (formedOn s c).state.drl.position = s.drl.position ∧ (formedOn s c).state.drl.mismatches = s.drl.mismatches := by
  have hmiss : (formedOn s c).state.drl.mismatches = s.drl.mismatches := by
    rw [formedOn, formPoint_drl, captureTravelZero_mismatches]; simp
  refine ⟨?_, ?_, ?_, ?_, ?_, hmiss⟩ <;> simp [formedOn, Drl.position]

/-- The limits in force on a point are those of the frame configuration (R48, R167). -/
theorem formedOn_lmu (s : State) (c : Conversion) :
    (formedOn s c).state.lmu.softMin = s.drl.frame.softMin ∧
    (formedOn s c).state.lmu.softMax = s.drl.frame.softMax ∧
    (formedOn s c).state.lmu.overloadLimit = s.drl.frame.overloadLimit ∧
    (formedOn s c).state.lmu.overloadCount = s.lmu.overloadCount := by
  simp [formedOn, takeLimits]

/-- A calm conversion brings the sequencer its point with the test and the drive as they were. -/
theorem conversion_reachesSequencer {s : State} {c : Conversion} (hcalm : s.calm c)
    (hq : s.tsq.state = .running ∨ s.tsq.state = .held) (hslip : s.header.slipAction = .carryOn)
    (hphase : s.evu.phase ≠ .fractured) (hsteady : Steady s) :
    ∃ u fractured, ReachesSequencer s c u (formedOn s c).point fractured := by
  obtain ⟨hrun, hready, hread, hfault, hforce⟩ := hcalm
  obtain ⟨htsq, hevu, hstate, hframe, hplace, hmiss⟩ := formedOn_frame s c
  obtain ⟨hmin, hmax, hlimit, hcount⟩ := formedOn_lmu s c
  obtain ⟨hposition, hpointForce, hlatest⟩ := formedOn_point s c
  have hexec := exec_conversionComplete (c := c) hrun
  generalize formedOn s c = f at *
  generalize firstEstimated f.point s = first at *
  have drive := drivePoint_calm (held := s.drl.velocity) (c := c) (first := first) (p := f.point)
    (s := pacingPoint f.state) (by simpa [State.readyUnwatched, hstate] using hready)
    (by simpa [readbackMismatch, State.misread, hmiss, hframe] using hread)
    (by simpa [Steady, hstate, hframe, hplace] using hsteady) (by simp [hposition, hplace]) (by simp [hmin, hframe])
    (by simp [hmax, hframe])
  have hdlatest : (drivePoint s.drl.velocity c first f.point (pacingPoint f.state)).latestPoint = some f.point := by
    simp [hlatest]
  rw [consumePoint] at hexec
  generalize drivePoint s.drl.velocity c first f.point (pacingPoint f.state) = d at *
  obtain ⟨hdtsq, hdevu, hdstate, hdlmu⟩ := drive
  simp only [pacingPoint_frame, htsq, hevu, hstate] at hdtsq hdevu hdstate hdlmu
  obtain ⟨hetsq, hedrl, hbreaks⟩ := evaluationPoint_carriesOn (unrest := f.unrest) (p := f.point) (s := d)
    (by rcases hq with hq | hq <;> simp [hdtsq, hq, SeqState.evaluated]) (by rw [header_congr hdtsq, hslip])
    (by rw [hdevu]; exact hphase)
  refine ⟨managerPoint (evaluationPoint f.unrest f.point d).2 f.point (evaluationPoint f.unrest f.point d).1,
    (evaluationPoint f.unrest f.point d).2, ⟨?_, ?_, ?_, ?_, ?_, ?_⟩⟩
  · rw [hexec, hfault]
  · simp [hdlatest]
  · simp [hetsq, hdtsq]
  · simp [hedrl, hdstate]
  · simpa using hbreaks
  · simpa [hdlmu, hcount, hlimit, hpointForce] using hforce

/-! ### The point after the sequencer -/

theorem storeRecord_keepsHeld {mark : Bool} {k : RecordKind} {i : Option Nat} {p : Point} {s : State}
    (h : s.cli.pending.held = true) : (storeRecord mark k i p s).cli.pending.held = true := by
  unfold storeRecord pacingStored pacingCount
  dsimp only
  repeat' split
  all_goals exact h

theorem offerPoint_keepsHeld {p : Point} {s : State} (h : s.cli.pending.held = true) :
    (offerPoint p s).cli.pending.held = true := by
  have decided : (decideThinning (countOffered s)).cli.pending.held = true := by
    unfold decideThinning
    dsimp only
    split
    · show (SourceSet.add _ _).held = true
      simp [SourceSet.add, h]
    · simp [h]
  unfold offerPoint decidePoint
  dsimp only
  repeat' split
  · exact storeRecord_keepsHeld decided
  · exact decided
  · exact decided
  · exact h

/-- `t` stands as `v` in the test, the drive, the evaluation and the Force Unit, and HELD is pending if it was. -/
structure StandsAs (v t : State) : Prop where
  tsq : t.tsq = v.tsq
  drl : t.drl = v.drl
  evu : t.evu = v.evu
  fcu : t.fcu = v.fcu
  held : v.cli.pending.held = true → t.cli.pending.held = true

theorem EndsFor.of_stands {v t : State} (h : StandsAs v t) {why : EndReason} {time : Nat} (hv : EndsFor why time v) :
    EndsFor why time t := by
  simpa only [EndsFor, h.tsq, h.drl] using hv

theorem HeldFor.of_stands {s v t : State} (h : StandsAs v t) {time : Nat} {why : HeldReason} {heldAt : Option Nat}
    (hv : HeldFor s time why heldAt v) : HeldFor s time why heldAt t := by
  obtain ⟨htsq, hstate, hvelocity, hdac, hpending⟩ := hv
  exact ⟨h.tsq.trans htsq, h.drl ▸ hstate, h.drl ▸ hvelocity, h.drl ▸ hdac, h.held hpending⟩

theorem enteredOn_of_stands {s v t : State} (h : StandsAs v t) {i : Nat} {g : Segment} {p : Point}
    (hv : s.enteredOn v i g p) : s.enteredOn t i g p := by
  simpa only [State.enteredOn, h.tsq, h.drl] using hv

/-- The point of a calm conversion changes the test, the drive and the evaluation no further once the sequencer has
taken it. -/
theorem ReachesSequencer.ends {s u : State} {c : Conversion} {p : Point} {fractured : Bool}
    (h : ReachesSequencer s c u p fractured) :
    ∃ t, exec (.conversionComplete c) s = .next t ∧ t.latestPoint = some p ∧
      StandsAs (sequencerPoint fractured p u) t := by
  obtain ⟨f, hlimit⟩ := limitPoint_calm (s := sequencerPoint fractured p u) (by simpa using h.force)
  refine ⟨_, h.runs, by simp [h.point], ?_⟩
  rw [hlimit]
  exact ⟨by simp, by simp, by simp, by simp, fun hheld => offerPoint_keepsHeld hheld⟩

/-! ### The test after the point -/

@[simp] theorem onEndAction_phase (i : Nat) (a : OnEnd) (p : Point) (s : State) :
    (onEndAction i a p s).evu.phase = s.evu.phase := by
  cases a with
  | next => unfold onEndAction; dsimp only; split <;> simp
  | hold => simp [onEndAction]
  | endTest => simp [onEndAction]

/-- Nothing that the sequencer does on a point of a RUNNING test touches the phase. -/
theorem runningTaken_phase (fractured : Bool) (p : Point) (s : State) :
    (runningTaken fractured p s).evu.phase = s.evu.phase := by
  unfold runningTaken runningPoint
  dsimp only
  repeat' split
  all_goals simp

/-- The end of segment `i` on a point, by its on-end action (R30): what becomes of the test of `s`, whose record `u` has
with the segment time counted. -/
theorem onEndAction_outcomes {s u : State} {time i : Nat} (hu : u.tsq = { s.tsq with segmentTime := time })
    (hdrive : u.drl.state = .running) (p : Point) :
    HeldFor s time .onEnd none (onEndAction i .hold p u) ∧
    EndsFor .complete time (onEndAction i .endTest p u) ∧
    (s.segments.length ≤ i + 1 → EndsFor .complete time (onEndAction i .next p u)) ∧
    (i + 1 < s.segments.length → s.tsq.holdPoints.getLsbD (i + 1) = true →
      HeldFor s time .holdPoint (some (i + 1)) (onEndAction i .next p u)) ∧
    (∀ g, s.segments[i + 1]? = some g → s.tsq.holdPoints.getLsbD (i + 1) = false →
      s.enteredOn (onEndAction i .next p u) (i + 1) g p) := by
  have hsegments : u.segments = s.segments := segments_congr (by rw [hu])
  have hholds : u.tsq.holdPoints = s.tsq.holdPoints := by rw [hu]
  have hends : EndsFor .complete time (enterEnding .complete u) := by
    have h := enterEnding_endsFor .complete hdrive
    rwa [hu] at h
  refine ⟨enterHeld_heldFor hu hdrive (by decide) none, hends, fun hlast => ?_, fun hnext hpoint => ?_,
    fun g hg hpoint => ?_⟩
  · rw [onEndAction_last (by rw [hsegments]; exact hlast)]
    exact hends
  · rw [onEndAction_next (by rw [hsegments]; exact hnext), reachSegment_holdPoint (by rw [hholds]; exact hpoint)]
    exact enterHeld_heldFor hu hdrive (by decide) _
  · have hnext : i + 1 < s.segments.length := (List.getElem?_eq_some_iff.1 hg).1
    rw [onEndAction_next (by rw [hsegments]; exact hnext), reachSegment_enters (by rw [hholds]; exact hpoint)]
    exact enterSegment_enteredOn hu (.inl hdrive) (by rw [hsegments]; exact hg) p

/-- The fracture point of a RUNNING test ends it FRACTURE, counted (R28, R37). -/
theorem runningTest_fracture {s u t : State} {c : Conversion} {p : Point} (reach : ReachesSequencer s c u p true)
    (hq : s.tsq.state = .running) (hdrive : s.drl.state = .running) (stands : StandsAs (sequencerPoint true p u) t) :
    t.evu.phase = .fractured ∧ EndsFor .fracture (s.tsq.segmentTime + 1) t := by
  have htaken : sequencerPoint true p u = enterEnding .fracture (countSegmentTime u) := by
    simp [sequencerPoint, reach.test, hq, runningTaken]
  rw [htaken] at stands
  have hends := enterEnding_endsFor .fracture (s := countSegmentTime u) (reach.drive.trans hdrive)
  rw [countSegmentTime_segmentTime, reach.test] at hends
  refine ⟨?_, hends.of_stands stands⟩
  rw [stands.evu, enterEnding_phase]
  exact reach.phase.1 rfl

/-- Any other point of a RUNNING test is counted, and then its segment's on-end action follows where a condition is met
(R28, R29). -/
theorem runningTest_unbroken {s u t : State} {c : Conversion} {p : Point} {i : Nat} {g : Segment}
    (reach : ReachesSequencer s c u p false) (hq : s.tsq.state = .running) (hi : s.tsq.currentSegment = some i)
    (hg : s.segments[i]? = some g) (stands : StandsAs (sequencerPoint false p u) t) :
    t.evu.phase ≠ .fractured ∧
    ((¬ ∃ x ∈ g.conditions, x.metOn p (s.tsq.segmentTime + 1) t.evu.phase t.fcu.settled) →
      t.tsq = { s.tsq with segmentTime := s.tsq.segmentTime + 1 }) ∧
    ((∃ x ∈ g.conditions, x.metOn p (s.tsq.segmentTime + 1) t.evu.phase t.fcu.settled) →
      StandsAs (onEndAction i g.onEnd p (countSegmentTime u)) t) := by
  have htaken : sequencerPoint false p u = runningTaken false p u := by simp [sequencerPoint, reach.test, hq]
  rw [htaken] at stands
  have hpassed : t.evu.phase = u.evu.phase := by rw [stands.evu, runningTaken_phase]
  have hsettled : t.fcu.settled = u.fcu.settled := by rw [stands.fcu]; simp
  have hmet : segmentEnds g p (countSegmentTime u) = true ↔
      ∃ x ∈ g.conditions, x.metOn p (s.tsq.segmentTime + 1) t.evu.phase t.fcu.settled := by
    rw [segmentEnds_iff, countSegmentTime_segmentTime, reach.test, hpassed, hsettled]
    simp only [countSegmentTime_frame]
  have hsegments : u.segments = s.segments := segments_congr (by rw [reach.test])
  rw [runningTaken_unbroken (by rw [reach.test]; exact hi) (by rw [hsegments]; exact hg)] at stands
  refine ⟨fun h => Bool.false_ne_true (reach.phase.2 (hpassed.symm.trans h)), fun hnot => ?_, fun hyes => ?_⟩
  · rw [if_neg (mt hmet.1 hnot)] at stands
    rw [stands.tsq, ← reach.test]
    rfl
  · rwa [if_pos (hmet.2 hyes)] at stands

/-- The fracture point of a HELD test whose drive rests ends it FRACTURE at once (R37, R38). -/
theorem heldTest_fracture {s u t : State} {c : Conversion} {p : Point} (reach : ReachesSequencer s c u p true)
    (hq : s.tsq.state = .held) (hdrive : s.drl.state = .holding ∨ s.drl.state = .idle)
    (stands : StandsAs (sequencerPoint true p u) t) :
    t.evu.phase = .fractured ∧ t.tsq.state = .ended ∧ t.tsq.endReason = some .fracture ∧ t.drl.state = .idle := by
  have htaken : sequencerPoint true p u = enterEnding .fracture u := by simp [sequencerPoint, reach.test, hq]
  rw [htaken] at stands
  rw [stands.evu, enterEnding_phase, stands.tsq, stands.drl]
  exact ⟨reach.phase.1 rfl, enterEnding_idle .fracture (stop_of_rest (by rwa [reach.drive]))⟩

/-- Any other point of a HELD test is taken for the segment that a taken Resume waits for (R34). -/
theorem heldTest_unbroken {s u t : State} {c : Conversion} {p : Point} (reach : ReachesSequencer s c u p false)
    (hq : s.tsq.state = .held) (stands : StandsAs (sequencerPoint false p u) t) :
    t.evu.phase ≠ .fractured ∧ (s.tsq.resumeEntry = none → StandsAs u t) ∧
    (∀ j, s.tsq.resumeEntry = some j → StandsAs (enterSegment j p u) t) := by
  have htaken : sequencerPoint false p u = heldPoint p u := by simp [sequencerPoint, reach.test, hq]
  rw [htaken] at stands
  refine ⟨fun h => Bool.false_ne_true (reach.phase.2 ?_), fun hnone => ?_, fun j hj => ?_⟩
  · rw [← h, stands.evu]
    simp
  · have hstays : heldPoint p u = u := by simp [heldPoint, reach.test, hnone]
    rwa [hstays] at stands
  · have henters : heldPoint p u = enterSegment j p u := by simp [heldPoint, reach.test, hj]
    rwa [henters] at stands

/-- Settles O35: a calm conversion brings the sequencer its point with the test as it was, and the sequencer alone
changes the test on it. -/
theorem runningTestOnAPoint : Obligations.RunningTestOnAPoint := by
  refine ⟨fun s c i g hcalm hq hi hg hslip hphase hdrive hmin hmax => ?_, fun s c hcalm hq hslip hphase hdrive => ?_⟩
  · obtain ⟨u, fractured, reach⟩ :=
      conversion_reachesSequencer hcalm (.inl hq) hslip hphase (.inr (.inr ⟨hdrive, hmin, hmax⟩))
    obtain ⟨t, hexec, hlatest, stands⟩ := reach.ends
    refine ⟨t, _, hexec, hlatest, ?_⟩
    cases fractured with
    | true =>
      obtain ⟨hbroken, hends⟩ := runningTest_fracture reach hq hdrive stands
      exact ⟨fun _ => hends, fun hn => absurd hbroken hn, fun hn => absurd hbroken hn⟩
    | false =>
      obtain ⟨hunbroken, hunmet, hmet⟩ := runningTest_unbroken reach hq hi hg stands
      have hcounted : (countSegmentTime u).tsq = { s.tsq with segmentTime := s.tsq.segmentTime + 1 } := by
        rw [← reach.test]; rfl
      obtain ⟨hhold, hend, hlast, hpoint, henter⟩ :=
        onEndAction_outcomes (i := i) hcounted (reach.drive.trans hdrive) (formedOn s c).point
      refine ⟨fun h => absurd h hunbroken, fun _ => hunmet, fun _ hyes => ?_⟩
      have acts := hmet hyes
      refine ⟨fun ha => ?_, fun ha => ?_, fun ha h => ?_, fun ha h h' => ?_, fun g' ha h h' => ?_⟩ <;> rw [ha] at acts
      · exact hhold.of_stands acts
      · exact hend.of_stands acts
      · exact (hlast h).of_stands acts
      · exact (hpoint h h').of_stands acts
      · exact enteredOn_of_stands acts (henter g' h h')
  · obtain ⟨u, fractured, reach⟩ := conversion_reachesSequencer hcalm (.inr hq) hslip hphase (hdrive.imp_right .inl)
    obtain ⟨t, hexec, hlatest, stands⟩ := reach.ends
    refine ⟨t, _, hexec, hlatest, ?_⟩
    cases fractured with
    | true =>
      obtain ⟨hbroken, hends⟩ := heldTest_fracture reach hq hdrive stands
      exact ⟨fun _ => hends, fun hn => absurd hbroken hn, fun _ _ hn => absurd hbroken hn⟩
    | false =>
      obtain ⟨hunbroken, hstays, henters⟩ := heldTest_unbroken reach hq stands
      have hsegments : u.segments = s.segments := segments_congr (by rw [reach.test])
      refine ⟨fun h => absurd h hunbroken, fun _ hnone => ?_, fun j g _ hj hg => ?_⟩
      · have same := hstays hnone
        exact ⟨same.tsq.trans reach.test, by rw [same.drl, reach.drive]⟩
      · exact enteredOn_of_stands (henters j hj) (enterSegment_enteredOn (time := s.tsq.segmentTime) reach.test
          (.inr (by rwa [reach.drive])) (by rw [hsegments]; exact hg) _)

end Sys2Proof.Proofs
end

section
/-! Pause, Abort and Resume (O18, O19): what holding, ending and resuming a test make of its records (R31, R32, R34, R36,
R38, R39). -/

namespace Sys2Proof.Proofs

open Sys2Proof.Machine Sys2Proof.Laws

/-! ### Holding a test (R31, R57) -/

theorem hold_of_running_or_idle {d : Drl} (h : d.state = .running ∨ d.state = .idle) : d.hold = d.rest .holding := by
  unfold Drl.hold
  rcases h with h | h <;> rw [h]

/-- The state `s` with its test held for a reason, the drive HOLDING with command 0, and HELD pending (R31). -/
def heldNow (why : HeldReason) (heldAt : Option Nat) (s : State) : State :=
  { s with
    tsq := { s.tsq with
      state := .held, heldReason := some why, heldAt := heldAt, startStep := none, resumeEntry := none }
    drl := { s.drl with state := .holding, velocity := 0, dacCode := 0 }
    cli := { s.cli with pending := { s.cli.pending with held := true } } }

theorem enterHeld_eq_heldNow {s : State} {why : HeldReason} (hwhy : why ≠ .limit) (heldAt : Option Nat)
    (h : s.drl.state = .running ∨ s.drl.state = .idle) : enterHeld why heldAt s = heldNow why heldAt s := by
  unfold enterHeld
  dsimp only
  rw [if_neg hwhy]
  simp only [State.onDrl, State.onTsq, hold_of_running_or_idle h]
  rfl

/-! ### Ending a test (R38, R39, R151) -/

theorem close_ne_opened (why : Absence) (x : Field) : x.close why ≠ .opened := by cases x <;> nofun

/-- A test that ends leaves no field of its result OPEN (R151). -/
theorem closeAll_openCount (why : Absence) (r : ResultRecord) : (r.closeAll why).openCount = 0 := by
  simp [ResultRecord.openCount, ResultRecord.fields, ResultRecord.closeAll, close_ne_opened]

theorem evalTestEnd_openCount (why : EndReason) (s : State) : (evalTestEnd why s).evu.openCount = 0 := by
  simp only [evalTestEnd, onEvu_evu, Evu.onResult, Evu.openCount]
  generalize (if s.evu.fit = .collecting then _ else s.evu) = e
  cases e.result with
  | none => rfl
  | some r => exact closeAll_openCount why.absence r

theorem storeMark_recording (k : RecordKind) (p : Point) (s : State) :
    (storeMark k p s).sms.recording = recordingAfter k s.sms.recording := by
  simp [storeMark, storeRecord, Sms.join]

theorem enterEnded_evu (why : EndReason) (cause : Option StartCause) (s : State) :
    (enterEnded why cause s).evu.openCount = 0 := by
  simp [enterEnded, evalTestEnd_openCount]

theorem enterEnded_recording (why : EndReason) (cause : Option StartCause) (s : State) :
    (enterEnded why cause s).sms.recording = false := by
  simp [enterEnded, storeMark_recording, recordingAfter]

theorem enterEnded_raises (why : EndReason) (cause : Option StartCause) (s : State) :
    (enterEnded why cause s).cli.pending.testEnd = true := rfl

/-- The test of `s` has ended in `t` for a reason, at once (R39): the records of the test, the drive, the strain, the
evaluation and the store, and TEST_END. -/
structure EndedAtOnce (why : EndReason) (s t : State) : Prop where
  tsq : t.tsq.state = .ended ∧ t.tsq.endReason = some why ∧ t.tsq.currentSegment = none ∧ t.tsq.segmentTime = 0
  kept : t.tsq.program = s.tsq.program ∧ t.tsq.specimen = s.tsq.specimen ∧ t.fcu = s.fcu ∧ t.lmu = s.lmu
  drl : t.drl.mode = none ∧ t.drl.frozen = false
  source : t.exm.source = .none
  evu : t.evu.openCount = 0
  recording : t.sms.recording = false
  raised : t.cli.pending.testEnd = true
  replies : t.cli.replies = s.cli.replies

theorem enterEnded_endsAtOnce (why : EndReason) (cause : Option StartCause) (s : State) :
    EndedAtOnce why s (enterEnded why cause s) where
  tsq := by simp [enterEnded_tsq]
  kept := by simp
  drl := by simp [enterEnded_drl, Drl.testEnd]
  source := (enterEnded_strain why cause s).1
  evu := enterEnded_evu why cause s
  recording := enterEnded_recording why cause s
  raised := enterEnded_raises why cause s
  replies := by simp

/-- A test whose drive stands still after its stop request ends at once (R38). -/
theorem enterEnding_endsAtOnce {s : State} (why : EndReason) (h : s.drl.stop.state = .idle) :
    EndedAtOnce why s (enterEnding why s) := by
  unfold enterEnding
  dsimp only
  rw [onDrl_drl, onTsq_drl, if_pos h]
  obtain ⟨tsq, kept, drl, source, evu, recording, raised, replies⟩ := enterEnded_endsAtOnce why none
    ((s.onTsq fun t => { t with
      state := .ending, pendingEnd := some why, heldReason := none, heldAt := none, resumeEntry := none }).onDrl Drl.stop)
  exact ⟨tsq, kept, drl, source, evu, recording, raised, replies⟩

theorem stop_of_moving {d : Drl} (h : d.state = .running) (hv : d.velocity ≠ 0) :
    d.stop = { d with state := .stopping } := by
  unfold Drl.stop Drl.enterStopping
  rw [h]
  exact if_neg hv

/-- A test whose drive still moves after its stop request is ENDING (R38). -/
theorem enterEnding_of_moving {s : State} (why : EndReason) (h : s.drl.state = .running) (hv : s.drl.velocity ≠ 0) :
    enterEnding why s = { s with
      tsq := { s.tsq with
        state := .ending, pendingEnd := some why, heldReason := none, heldAt := none, resumeEntry := none }
      drl := { s.drl with state := .stopping } } := by
  have hstop := stop_of_moving h hv
  unfold enterEnding
  dsimp only
  rw [if_neg (by simp [hstop])]
  simp only [State.onDrl, State.onTsq, hstop]

/-! ### Pause and Abort -/

theorem decidePause_wrongState {s : State} (hrun : s.tsq.state ≠ .running) (hheld : s.tsq.state ≠ .held) :
    decidePause [] s = refuse .wrongState s := by
  unfold decidePause withEmpty
  cases h : s.tsq.state with
  | running => exact absurd h hrun
  | held => exact absurd h hheld
  | _ => rfl

theorem decideAbort_wrongState {s : State} (hstart : s.tsq.state ≠ .starting) (hrun : s.tsq.state ≠ .running)
    (hheld : s.tsq.state ≠ .held) : decideAbort [] s = refuse .wrongState s := by
  unfold decideAbort withEmpty
  cases h : s.tsq.state with
  | starting => exact absurd h hstart
  | running => exact absurd h hrun
  | held => exact absurd h hheld
  | _ => rfl

/-- Abort of a test whose drive stands, or comes to stand, still ends it at once (R26, R36). -/
theorem decideAbort_atOnce {s : State} (h : s.tsq.state = .starting ∨ s.tsq.state = .held ∧ s.drl.state = .holding) :
    ∃ t, decideAbort [] s = answerOk t ∧ EndedAtOnce .aborted s t := by
  unfold decideAbort withEmpty
  rcases h with h | ⟨h, hdrive⟩ <;> rw [h]
  · exact ⟨_, rfl, enterEnded_endsAtOnce .aborted none s⟩
  · exact ⟨_, rfl, enterEnding_endsAtOnce .aborted (stop_of_rest (.inl hdrive))⟩

/-- Settles O18: each decision by the state of the test, on the counted state. -/
theorem pauseAndAbort : Obligations.PauseAndAbort := by
  refine ⟨fun s tag hs => ?_, fun s tag hs => ?_⟩
  · have run := request_runs 0x31 tag (decidePause []) s hs
    refine ⟨fun hq hdrive => run.trans ?_, fun hq => run.trans ?_, fun hrun hheld => run.trans ?_⟩
    · have paused : decidePause [] s.counted = answerOk (enterHeld .paused none s.counted) := by
        simp only [decidePause, withEmpty, counted_frame, hq]
      rw [paused, enterHeld_eq_heldNow (by decide) none (.inl (by simpa using hdrive))]
      rfl
    · have stands : decidePause [] s.counted = answerOk s.counted := by
        simp only [decidePause, withEmpty, counted_frame, hq]
      rw [stands]
      rfl
    · rw [decidePause_wrongState (by simpa using hrun) (by simpa using hheld)]
      rfl
  · have run := request_runs 0x33 tag (decideAbort []) s hs
    refine ⟨fun h => ?_, fun hq hdrive hv => run.trans ?_, fun hstart hrun hheld => run.trans ?_⟩
    · obtain ⟨t, hdecided, tsq, kept, drl, source, evu, recording, raised, replies⟩ :=
        decideAbort_atOnce (s := s.counted) (by simpa using h)
      refine ⟨_, run, ?_⟩
      rw [hdecided]
      refine ⟨?_, tsq.1, tsq.2.1, tsq.2.2.1, tsq.2.2.2, kept.1, kept.2.1, drl.1, drl.2, source, evu, recording, raised,
        kept.2.2.1, kept.2.2.2⟩
      simp only [queueReply, answerOk, onCli_cli, replies, counted_frame]
      rfl
    · have ending : decideAbort [] s.counted = answerOk (enterEnding .aborted s.counted) := by
        simp only [decideAbort, withEmpty, counted_frame, hq]
      rw [ending, enterEnding_of_moving _ (by simpa using hdrive) (by simpa using hv)]
      rfl
    · rw [decideAbort_wrongState (by simpa using hstart) (by simpa using hrun) (by simpa using hheld)]
      rfl

/-! ### Resume -/

/-- A Resume in HELD is answered OK, unless the drive still stops after a soft limit (R34, R64). -/
theorem decideResume_held {s : State} {why : HeldReason} (hq : s.tsq.state = .held)
    (hwhy : s.tsq.heldReason = some why) (h : ¬ (why = .limit ∧ s.drl.state = .stopping)) :
    decideResume [] s = answerOk (resumeHeld why s) := by
  unfold decideResume withEmpty
  rw [hq, hwhy]
  exact if_neg h

theorem decideResume_stopping {s : State} (hq : s.tsq.state = .held) (hwhy : s.tsq.heldReason = some .limit)
    (h : s.drl.state = .stopping) : decideResume [] s = refuse .wrongState s := by
  unfold decideResume withEmpty
  rw [hq, hwhy]
  exact if_pos ⟨rfl, h⟩

theorem decideResume_notHeld {s : State} (hq : s.tsq.state ≠ .held) : decideResume [] s = refuse .wrongState s := by
  unfold decideResume withEmpty
  cases h : s.tsq.state with
  | held => exact absurd h hq
  | _ => rfl

/-- A hold in the segment is resumed by RUNNING on the latest point, with the command kept (R34, R55). -/
theorem resumeHeld_segment {s : State} {why : HeldReason} {m : ControlMode} (hentry : s.tsq.resumeEntry = none)
    (hpoint : why ≠ .holdPoint) (hend : why ≠ .onEnd) (hm : s.drl.mode = some m)
    (hdrive : s.drl.state = .holding ∨ s.drl.state = .idle) :
    resumeHeld why s = { s with
      tsq := { s.tsq with state := .running, heldReason := none, heldAt := none }
      drl := { s.drl with state := .running, setpoint := m.quantity s.latest, remainder := 0 } } := by
  have segment : resumeHeld why s = resumeSegment s := by
    unfold resumeHeld
    rw [hentry]
    cases why with
    | holdPoint => exact absurd rfl hpoint
    | onEnd => exact absurd rfl hend
    | _ => rfl
  have transfer : s.drl.retransfer s.latest =
      { s.drl with state := .running, setpoint := m.quantity s.latest, remainder := 0 } := by
    have hrun : s.drl.state.afterTransfer = .running := by rcases hdrive with h | h <;> rw [h] <;> rfl
    simp only [Drl.retransfer, hm, Drl.transfer, hrun]
  rw [segment, resumeSegment]
  simp only [State.onDrl, State.onTsq, transfer]

/-- A hold point is resumed by waiting for the next point (R34, log 15). -/
theorem resumeHeld_holdPoint {s : State} {i : Nat} (hentry : s.tsq.resumeEntry = none) (hat : s.tsq.heldAt = some i) :
    resumeHeld .holdPoint s = resumeInto i s := by
  unfold resumeHeld
  rw [hentry, hat]
  rfl

theorem resumeHeld_onEnd {s : State} {i : Nat} (hentry : s.tsq.resumeEntry = none)
    (hi : s.tsq.currentSegment = some i) :
    resumeHeld .onEnd s =
      if s.segments.length ≤ i + 1 then enterEnding .complete s
      else if s.tsq.holdPoints.getLsbD (i + 1) then enterHeld .holdPoint (some (i + 1)) s
      else resumeInto (i + 1) s := by
  simp [resumeHeld, hentry, resumeOnEnd, hi, isLast, inSet]

/-- Settles O19: each Resume by its held reason, on the counted state. -/
theorem resumeContinuesAHeldTest : Obligations.ResumeContinuesAHeldTest := by
  intro s tag hs
  have run := request_runs 0x32 tag (decideResume []) s hs
  have resumes : ∀ {why}, s.tsq.state = .held → s.tsq.heldReason = some why →
      ¬ (why = .limit ∧ s.drl.state = .stopping) →
      exec (.resume tag []) s = .next (queueReply 0x32 tag (answerOk (resumeHeld why s.counted))) := by
    intro why hq hwhy h
    have decided : decideResume [] s.counted = answerOk (resumeHeld why s.counted) := decideResume_held hq hwhy h
    rw [← decided]
    exact run
  refine ⟨fun why m hq hwhy hentry hpoint hend hm hdrive => ?_, fun i hq hwhy hat hentry => ?_,
    fun i hq hwhy hi hentry hnext => ?_, fun i hq hwhy hi hentry hlast hdrive => ?_, fun hq hwhy hdrive => ?_,
    fun hq => ?_⟩
  · rw [resumes hq hwhy (by rcases hdrive with h | h <;> simp [h]),
      resumeHeld_segment (s := s.counted) hentry hpoint hend hm hdrive]
    rfl
  · rw [resumes hq hwhy (by simp), resumeHeld_holdPoint (s := s.counted) hentry hat]
    rfl
  · have decided := resumeHeld_onEnd (s := s.counted) hentry hi
    rw [if_neg (Nat.not_le.2 (by simpa using hnext))] at decided
    rw [resumes hq hwhy (by simp), decided]
    refine ⟨fun hpoint => ?_, fun hpoint => ?_⟩
    · rw [if_neg (by simpa using hpoint)]
      rfl
    · rw [if_pos (by simpa using hpoint)]
      refine ⟨_, rfl, ?_⟩
      simp [queueReply, answerOk, enterHeld_tsq]
  · have decided := resumeHeld_onEnd (s := s.counted) hentry hi
    rw [if_pos (by simpa using hlast)] at decided
    rw [resumes hq hwhy (by simp), decided]
    exact ⟨_, rfl, enterEnding_idle .complete (s := s.counted) (stop_of_rest (.inl hdrive))⟩
  · refine run.trans ?_
    rw [decideResume_stopping (s := s.counted) hq hwhy hdrive]
    rfl
  · refine run.trans ?_
    rw [decideResume_notHeld (by simpa using hq)]
    rfl

end Sys2Proof.Proofs
end

section
/-! Start Test (O17): the ten checks of R20 in their order, and what an accepted Start Test leaves (R21). -/

namespace Sys2Proof.Proofs

open Sys2Proof.Machine Sys2Proof.Laws

/-! ### The ranges in use (R20, check 6) -/

theorem mem_rangesInUse {active r : Range} : r ∈ rangesInUse active ↔ r.ctorIdx ≤ active.ctorIdx := by
  have all : r ∈ [Range.a, .b, .c, .d] := by cases r <;> simp
  simp [rangesInUse, all]

/-- The ranges in use stand from A towards D. -/
theorem rangesInUse_ordered (active : Range) : (rangesInUse active).Pairwise fun q r => q.ctorIdx < r.ctorIdx :=
  List.Pairwise.filter _ (by decide)

theorem firstNominal_none {f : Fcu} :
    firstNominal f = none ↔ ∀ r : Range, r.ctorIdx ≤ f.range.ctorIdx → (f.tables.get r).isSome = true := by
  simp [firstNominal, List.find?_eq_none, mem_rangesInUse, Option.ne_none_iff_isSome]

/-- The first nominal range in use has no table, and every range of larger full scale has one. -/
theorem firstNominal_some {f : Fcu} {r : Range} (h : firstNominal f = some r) :
    f.tables.get r = none ∧ ∀ q : Range, q.ctorIdx < r.ctorIdx → (f.tables.get q).isSome = true := by
  obtain ⟨hnone, before, after, hsplit, hbefore⟩ := List.find?_eq_some_iff_append.1 h
  refine ⟨by simpa using hnone, fun q hq => ?_⟩
  have ordered := rangesInUse_ordered f.range
  have hr : r ∈ rangesInUse f.range := by simp [hsplit]
  have hmem : q ∈ before ++ r :: after := hsplit ▸ mem_rangesInUse.2 (hq.le.trans (mem_rangesInUse.1 hr))
  rw [hsplit, List.pairwise_append] at ordered
  rcases List.mem_append.1 hmem with hmem | hmem
  · simpa [Option.ne_none_iff_isSome] using hbefore q hmem
  · rcases List.mem_cons.1 hmem with rfl | hmem
    · exact absurd hq (lt_irrefl _)
    · exact absurd hq (List.rel_of_pairwise_cons ordered.2.1 hmem).asymm

/-! ### The gauge lengths (R20, check 9) -/

theorem gaugeMismatch_false {le : Nat} {e : HeadEntry} :
    gaugeMismatch le e = false ↔
      ∀ i, e.state = .clamped → e.identity = some i → ((i.gaugeLength : Int) - le).natAbs * 200 ≤ le := by
  unfold gaugeMismatch
  cases e.identity <;> by_cases h : e.state = .clamped <;> simp [h]

theorem firstMismatch_none {s : State} {p : List Byte} : firstMismatch s = none ↔ startCheck 9 p s := by
  have each : startCheck 9 p s ↔ ∀ h, gaugeMismatch s.gaugeLength (s.exm.heads.get h) = false := by
    simp only [gaugeMismatch_false]; rfl
  rw [each]
  simp only [firstMismatch, List.find?_eq_none, List.forall_mem_cons, List.not_mem_nil, false_implies, implies_true,
    and_true, Bool.not_eq_true]
  exact ⟨fun h k => by cases k; exacts [h.1, h.2], fun h => ⟨h .front, h .rear⟩⟩

theorem firstMismatch_detail {s : State} {h : Head} (hfirst : firstMismatch s = some h) :
    startDetail 9 s (enumByte h.ctorIdx) := by
  cases h with
  | front =>
    have found := List.find?_some (p := fun h => gaugeMismatch s.gaugeLength (s.exm.heads.get h)) hfirst
    exact .inl ⟨rfl, found⟩
  | rear =>
    refine .inr ⟨rfl, ?_⟩
    by_contra hfront
    rw [Bool.not_eq_false] at hfront
    have : firstMismatch s = some .front := List.find?_cons_of_pos hfront
    exact absurd (this.symm.trans hfirst) (by decide)

/-! ### The checks in their order (R20) -/

/-- Start Test refuses with its check `k`: that check's status, number and detail, and nothing changed. -/
def RefusesAt (k : Nat) (p : List Byte) (s : State) : Prop :=
  ∃ x detail, x.byte = startStatus k s ∧ startDetail k s detail ∧ decideStartTest p s = startRefusal x k detail s

/-- With the first six checks passed, the later ones decide. -/
theorem decideStartTest_late {p : List Byte} {s : State} (h : ∀ j < 6, startCheck j p s) :
    decideStartTest p s = startChecksLate s := by
  have h0 : p = [] := h 0 (by decide)
  have h1 : s.tsq.state = .ready ∨ s.tsq.state = .ended := h 1 (by decide)
  have h2 : s.fcu.tareWait = none := h 2 (by decide)
  have h3 : s.tsq.specimen.isSome = true := h 3 (by decide)
  have h4 : s.lmu.trip = .clear := h 4 (by decide)
  have h5 : s.drl.state = .idle := h 5 (by decide)
  have h1' : ¬ (s.tsq.state ≠ .ready ∧ s.tsq.state ≠ .ended) := by tauto
  have h3' : s.tsq.specimen.isNone = false := by simpa using h3
  simp [decideStartTest, h0, h1', h2, h3', h4, h5]

theorem startStateStatus_byte (s : State) : (startStateStatus s).byte = startStatus 1 s := by
  unfold startStateStatus startStatus
  split <;> rfl

/-- A check among the first six that fails first. -/
theorem refusesAt_early {p : List Byte} {s : State} {k : Nat} (hk : k < 6) (hpass : ∀ j < k, startCheck j p s)
    (hfail : ¬ startCheck k p s) : RefusesAt k p s := by
  have pass0 : 0 < k → p = [] := hpass 0
  have pass1 : 1 < k → s.tsq.state = .ready ∨ s.tsq.state = .ended := hpass 1
  have pass2 : 2 < k → s.fcu.tareWait = none := hpass 2
  have pass3 : 3 < k → s.tsq.specimen.isSome = true := hpass 3
  have pass4 : 4 < k → s.lmu.trip = .clear := hpass 4
  have passed1 : 1 < k → ¬ (s.tsq.state ≠ .ready ∧ s.tsq.state ≠ .ended) := by tauto
  have passed3 : 3 < k → s.tsq.specimen.isNone = false := by simpa using pass3
  interval_cases k
  · exact ⟨.badLength, [], rfl, rfl, if_pos hfail⟩
  · have fail : s.tsq.state ≠ .ready ∧ s.tsq.state ≠ .ended := not_or.1 hfail
    exact ⟨startStateStatus s, _, startStateStatus_byte s, rfl, by simp [decideStartTest, pass0, fail, enumByte, u8]⟩
  · have fail : s.fcu.tareWait.isSome = true := Option.ne_none_iff_isSome.1 hfail
    exact ⟨.busy, [], rfl, rfl, by simp [decideStartTest, pass0, passed1, fail]⟩
  · have fail : s.tsq.specimen.isNone = true := by simpa [startCheck] using hfail
    exact ⟨.notConfigured, [], rfl, rfl, by simp [decideStartTest, pass0, passed1, pass2, fail]⟩
  · have fail : s.lmu.trip ≠ .clear := hfail
    exact ⟨.stillActive, [], rfl, rfl, by simp [decideStartTest, pass0, passed1, pass2, passed3, fail]⟩
  · have fail : s.drl.state ≠ .idle := hfail
    exact ⟨.wrongState, _, rfl, rfl, by
      simp [decideStartTest, pass0, passed1, pass2, passed3, pass4, fail, enumByte, u8]⟩

/-- The nominal range that check 6 finds, if nominal ranges are not allowed. -/
theorem nominalFound_none {s : State} {p : List Byte} :
    (if s.header.allowNominal then none else firstNominal s.fcu) = none ↔ startCheck 6 p s := by
  unfold startCheck
  by_cases h : s.header.allowNominal <;> simp [h, firstNominal_none]

theorem free_ge {s : State} {p : List Byte} : ¬ s.sms.free < 16 ↔ startCheck 7 p s := by
  show ¬ 1024 - s.sms.ring.length < 16 ↔ s.sms.ring.length ≤ 1008
  omega

theorem clampedHeads_ge {s : State} {p : List Byte} :
    ¬ clampedHeads s < s.header.headsRequired ↔ startCheck 8 p s := Nat.not_lt

/-- A check among the last four that fails first. -/
theorem refusesAt_late {p : List Byte} {s : State} {k : Nat} (hlate : 6 ≤ k) (hk : k ≤ 9)
    (hpass : ∀ j < k, startCheck j p s) (hfail : ¬ startCheck k p s) : RefusesAt k p s := by
  have late := decideStartTest_late fun j hj => hpass j (by omega)
  unfold RefusesAt
  rw [late, startChecksLate]
  by_cases h6 : k = 6
  · subst h6
    obtain ⟨r, hr⟩ := Option.ne_none_iff_exists'.1 (mt (nominalFound_none (p := p)).1 hfail)
    have found : firstNominal s.fcu = some r := by
      by_cases h : s.header.allowNominal <;> simp_all
    rw [hr]
    exact ⟨.calNominal, _, rfl, ⟨r, rfl, firstNominal_some found⟩, rfl⟩
  rw [nominalFound_none.2 (hpass 6 (by omega))]
  dsimp only
  by_cases h7 : k = 7
  · subst h7
    rw [if_pos (not_not.1 (mt free_ge.1 hfail))]
    exact ⟨.storeFull, _, rfl, rfl, rfl⟩
  rw [if_neg (free_ge.2 (hpass 7 (by omega)))]
  by_cases h8 : k = 8
  · subst h8
    rw [if_pos (not_not.1 (mt clampedHeads_ge.1 hfail))]
    exact ⟨.headsNotReady, _, rfl, rfl, rfl⟩
  rw [if_neg (clampedHeads_ge.2 (hpass 8 (by omega)))]
  obtain rfl : k = 9 := by omega
  obtain ⟨h, hh⟩ := Option.ne_none_iff_exists'.1 (mt firstMismatch_none.1 hfail)
  rw [hh]
  exact ⟨.gaugeMismatch, _, rfl, firstMismatch_detail hh, rfl⟩

theorem decideStartTest_accepted {s : State} (h : ∀ k ≤ 9, startCheck k [] s) :
    decideStartTest [] s = answerAccepted (acceptTest s) := by
  rw [decideStartTest_late fun j hj => h j (by omega), startChecksLate, nominalFound_none.2 (h 6 (by decide))]
  dsimp only
  rw [if_neg (free_ge.2 (h 7 (by decide))), if_neg (clampedHeads_ge.2 (h 8 (by decide))),
    firstMismatch_none.2 (h 9 (by decide))]

/-- Settles O17: the first check that fails refuses; with none that fails the test is accepted in every block. -/
theorem startTestIsDecided : Obligations.StartTestIsDecided := by
  refine ⟨fun s tag p k hs hk hpass hfail => ?_, fun s tag hs hpass => ?_⟩
  · have refuses : RefusesAt k p s.counted := by
      by_cases hlate : 6 ≤ k
      · exact refusesAt_late hlate hk hpass hfail
      · exact refusesAt_early (Nat.not_le.1 hlate) hpass hfail
    obtain ⟨x, detail, hx, hdetail, hdecided⟩ := refuses
    refine ⟨detail, hdetail, (request_runs 0x30 tag (decideStartTest p) s hs).trans ?_⟩
    rw [hdecided, startRefusal, queueReply_counted, hx]
    rfl
  · have run := request_runs 0x30 tag (decideStartTest []) s hs
    rw [decideStartTest_accepted (s := s.counted) hpass] at run
    exact ⟨_, run, rfl, rfl, rfl, rfl, rfl, rfl, rfl, rfl, rfl, rfl, rfl, rfl, rfl, rfl, rfl, rfl,
      ⟨_, rfl, rfl, rfl, rfl⟩, rfl, rfl, rfl, rfl, rfl, rfl⟩

end Sys2Proof.Proofs
end

section
/-! One head's entry, the attention sources that stay pending, the commands that stand in the slot and the waiting list,
and the records that join the ring: the facts about the shared operations that the starting steps (O34) and the outcomes
of slot commands (O16) rest on. -/

namespace Sys2Proof.Proofs

open Sys2Proof.Machine Sys2Proof.Laws

/-! ### One head of two -/

theorem perHead_get_modify_eq {α : Type} (t : PerHead α) (h k : Head) (f : α → α) :
    (t.modify h f).get k = if k = h then f (t.get k) else t.get k := by cases h <;> cases k <;> rfl

@[simp] theorem perHead_get_modify {α : Type} (t : PerHead α) (h : Head) (f : α → α) :
    (t.modify h f).get h = f (t.get h) := (perHead_get_modify_eq t h h f).trans (if_pos rfl)

theorem perHead_get_modify_other {α : Type} (t : PerHead α) {h k : Head} (hne : k ≠ h) (f : α → α) :
    (t.modify h f).get k = t.get k := (perHead_get_modify_eq t h k f).trans (if_neg hne)

@[simp] theorem perHead_get_set {α : Type} (t : PerHead α) (h : Head) (x : α) : (t.set h x).get h = x := by
  cases h <;> rfl

@[simp] theorem perHead_get_map {α : Type} (t : PerHead α) (f : α → α) (h : Head) : (t.map f).get h = f (t.get h) := by
  cases h <;> rfl

theorem perHead_count_pos {α : Type} {t : PerHead α} {p : α → Bool} : 0 < t.count p ↔ ∃ h, p (t.get h) = true := by
  constructor
  · intro hpos
    cases hf : p t.front with
    | true => exact ⟨.front, hf⟩
    | false =>
      refine ⟨.rear, ?_⟩
      cases hr : p t.rear with
      | true => exact hr
      | false => simp [PerHead.count, hf, hr] at hpos
  · rintro ⟨h, hp⟩
    cases h with
    | front => simp [PerHead.count, show p t.front = true from hp]
    | rear => simp [PerHead.count, show p t.rear = true from hp]

/-! ### A head's entry -/

@[simp] theorem onHead_get (h : Head) (f : HeadEntry → HeadEntry) (s : State) :
    (onHead h f s).exm.heads.get h = f (s.exm.heads.get h) := perHead_get_modify _ _ _

theorem onHead_get_other {h k : Head} (hne : k ≠ h) (f : HeadEntry → HeadEntry) (s : State) :
    (onHead h f s).exm.heads.get k = s.exm.heads.get k := perHead_get_modify_other _ hne _

/-- A change of a head's state leaves the rest of the manager's record. -/
theorem setHeadState_exm (h : Head) (st : HeadState) (s : State) :
    (setHeadState h st s).exm = { s.exm with heads := (setHeadState h st s).exm.heads } := by
  unfold setHeadState
  split <;> rfl

@[simp] theorem setHeadState_state (h : Head) (st : HeadState) (s : State) :
    ((setHeadState h st s).exm.heads.get h).state = st := by
  unfold setHeadState
  split
  · assumption
  · simp [HeadEntry.enter]

theorem setHeadState_other {h k : Head} (hne : k ≠ h) (st : HeadState) (s : State) :
    (setHeadState h st s).exm.heads.get k = s.exm.heads.get k := by
  unfold setHeadState
  split
  · rfl
  · simp [onHead_get_other hne]

/-- What a change of a head's state leaves in every entry. -/
@[simp] theorem setHeadState_entry (h k : Head) (st : HeadState) (s : State) :
    ((setHeadState h st s).exm.heads.get k).testHead = (s.exm.heads.get k).testHead ∧
    ((setHeadState h st s).exm.heads.get k).latest = (s.exm.heads.get k).latest ∧
    ((setHeadState h st s).exm.heads.get k).configured = (s.exm.heads.get k).configured := by
  by_cases hk : k = h
  · subst hk
    unfold setHeadState
    split <;> simp [HeadEntry.enter]
  · simp [setHeadState_other hk]

/-! ### Attention sources -/

theorem add_has_eq (p : SourceSet) (j k : Source) : (p.add j).has k = (decide (j = k) || p.has k) := by
  cases j <;> cases k <;> rfl

theorem add_has {p : SourceSet} {k : Source} (j : Source) (h : p.has k = true) : (p.add j).has k = true := by
  rw [add_has_eq, h, Bool.or_true]

theorem raise_has (k : Source) (s : State) : (raise k s).cli.pending.has k = true :=
  (add_has_eq _ _ _).trans (by simp)

theorem raise_keepsPending {s : State} {k : Source} (j : Source) (h : s.cli.pending.has k = true) :
    (raise j s).cli.pending.has k = true := add_has j h

theorem addNotice_keepsPending {s : State} {k : Source} (n : Notice) (h : s.cli.pending.has k = true) :
    (addNotice n s).cli.pending.has k = true := add_has .notice h

theorem decideThinning_keepsPending {s : State} {k : Source} (h : s.cli.pending.has k = true) :
    (decideThinning s).cli.pending.has k = true := by
  unfold decideThinning
  dsimp only
  split
  · exact addNotice_keepsPending _ h
  · exact h

theorem storeRecord_keepsPending {mark : Bool} {kind : RecordKind} {i : Option Nat} {p : Point} {s : State}
    {k : Source} (h : s.cli.pending.has k = true) : (storeRecord mark kind i p s).cli.pending.has k = true := by
  have counted : ∀ (n : Nat) (u : State), u.cli = s.cli → (pacingCount mark n u).cli.pending.has k = true := by
    intro n u hu
    unfold pacingCount
    dsimp only
    split
    · exact raise_keepsPending _ (by rw [onSms_cli, onSms_cli, hu, h])
    · rw [onSms_cli, hu, h]
  unfold storeRecord pacingStored
  split
  · exact counted _ _ rfl
  · exact counted _ _ rfl
  · exact h

theorem offerPoint_keepsPending {p : Point} {s : State} {k : Source} (h : s.cli.pending.has k = true) :
    (offerPoint p s).cli.pending.has k = true := by
  have decided : (decideThinning (countOffered s)).cli.pending.has k = true :=
    decideThinning_keepsPending (by rw [(countOffered_frame s).1, h])
  unfold offerPoint decidePoint
  dsimp only
  repeat' split
  · exact storeRecord_keepsPending decided
  · exact decided
  · exact decided
  · exact h

/-! ### The ring -/

/-- A record joins the ring at its newest end (R155, R156). -/
theorem storeRecord_ring (mark : Bool) (kind : RecordKind) (i : Option Nat) (p : Point) (s : State) :
    (storeRecord mark kind i p s).sms.ring = (s.sms.join kind i p).ring := by simp [storeRecord]

theorem storeRecord_ring_prefix (mark : Bool) (kind : RecordKind) (i : Option Nat) (p : Point) (s : State) :
    s.sms.ring <+: (storeRecord mark kind i p s).sms.ring := by
  rw [storeRecord_ring]
  exact List.prefix_append _ _

theorem offerSegmentStart_ring_prefix (i : Nat) (p : Point) (s : State) :
    s.sms.ring <+: (offerSegmentStart i p s).sms.ring := by
  have decided : (decideThinning s).sms.ring = s.sms.ring := by simp
  unfold offerSegmentStart
  dsimp only
  split
  · exact decided ▸ storeRecord_ring_prefix _ _ _ _ _
  · exact decided ▸ List.prefix_refl _

theorem offerPoint_ring_prefix (p : Point) (s : State) : s.sms.ring <+: (offerPoint p s).sms.ring := by
  have decided : (decideThinning (countOffered s)).sms.ring = s.sms.ring := by simp
  unfold offerPoint decidePoint
  dsimp only
  repeat' split
  · exact decided ▸ storeRecord_ring_prefix _ _ _ _ _
  · exact decided ▸ List.prefix_refl _
  · exact decided ▸ List.prefix_refl _
  · exact List.prefix_refl _

/-! ### The command slot and the waiting list (R101) -/

theorem waiting_any_iff {l : List WaitingCmd} {h : Head} {k : HeadCmd} :
    (l.any fun w => w.head = h && w.kind = k) = true ↔ ⟨h, k⟩ ∈ l := by
  simp only [List.any_eq_true, Bool.and_eq_true, decide_eq_true_eq]
  exact ⟨fun ⟨_, hm, hh, hk⟩ => by subst hh hk; exact hm, fun hm => ⟨_, hm, rfl, rfl⟩⟩

/-- With another command in the slot a command stands exactly where it waits. -/
theorem stands_iff_mem {g : Glc} {c : SlotCommand} {h : Head} {k : HeadCmd} (hc : g.slot = some c)
    (hne : ¬ (c.head = h ∧ c.kind = k)) : g.stands h k = true ↔ ⟨h, k⟩ ∈ g.waiting := by
  have slot : (c.head = h && c.kind = k) = false := by simpa using hne
  rw [Glc.stands, hc]
  simp only [slot, Bool.false_or, waiting_any_iff]

theorem ask_stands (h : Head) (k : HeadCmd) (g : Glc) : (g.ask h k).stands h k = true := by
  unfold Glc.ask
  split
  · assumption
  · split <;> simp [Glc.stands, Glc.enter]

theorem askZero_stands (h : Head) (s : State) : (askZero h s).glc.stands h .zero = true := ask_stands h .zero s.glc

end Sys2Proof.Proofs
end

section
/-! A point of a test in STARTING (O34): the tare, the ZEROs asked for, and the entry of the test on the point (R22 to R25,
R27). -/

namespace Sys2Proof.Proofs

open Sys2Proof.Machine Sys2Proof.Laws

/-! ### The point up to the sequencer -/

theorem judge_keeps (e : HeadEntry) : e.judge.testHead = e.testHead ∧ e.judge.state = e.state := by
  unfold HeadEntry.judge
  split <;> exact ⟨rfl, rfl⟩

theorem formPoint_heads (count : Int) (s : State) (h : Head) :
    (formPoint count s).state.exm.heads.get h = (s.exm.heads.get h).judge := by
  simp [formPoint, judgeHeads]

theorem convert_tare (capacity : Nat) (raw : Int) (f : Fcu) :
    (f.convert capacity raw).tareOffset = f.tareOffset ∧ (f.convert capacity raw).tareWait = f.tareWait := by
  unfold Fcu.convert
  split <;> exact ⟨rfl, rfl⟩

theorem classifyPoint_tare (quiet slope : Nat) (f : Fcu) :
    (f.classifyPoint quiet slope).tareOffset = f.tareOffset ∧ (f.classifyPoint quiet slope).tareWait = f.tareWait := by
  unfold Fcu.classifyPoint
  dsimp only
  repeat' split
  all_goals exact ⟨rfl, rfl⟩

theorem levelPoint_tare (before : Classifier) (f : Fcu) :
    (f.levelPoint before).tareOffset = f.tareOffset ∧ (f.levelPoint before).tareWait = f.tareWait := by
  unfold Fcu.levelPoint
  repeat' split
  all_goals exact ⟨rfl, rfl⟩

theorem unrestPoint_tare (before : Classifier) (f : Fcu) :
    (f.unrestPoint before).tareOffset = f.tareOffset ∧ (f.unrestPoint before).tareWait = f.tareWait := by
  unfold Fcu.unrestPoint
  repeat' split
  all_goals exact ⟨rfl, rfl⟩

/-- The classifier and the timers leave the tare alone. -/
theorem signalPoint_tare (quiet slope : Nat) (use : Use) (f : Fcu) :
    (f.signalPoint quiet slope use).tareOffset = f.tareOffset ∧
    (f.signalPoint quiet slope use).tareWait = f.tareWait := by
  unfold Fcu.signalPoint
  dsimp only
  split <;> simp [unrestPoint_tare, levelPoint_tare, classifyPoint_tare]

theorem rangeLogic_tareOffset (use : Use) (raw : Int) (s : State) :
    (rangeLogic use raw s).fcu.tareOffset = s.fcu.tareOffset := by
  have change : ∀ r u, (rangeChange r u).fcu.tareOffset = u.fcu.tareOffset := fun r u => by simp [rangeChange]
  have count : ∀ f : Fcu, (f.countDown raw).tareOffset = f.tareOffset := fun f => by
    unfold Fcu.countDown; split <;> rfl
  unfold rangeLogic
  dsimp only
  repeat' split
  all_goals simp [change, count]

/-- With no tare wait open, forming a point leaves the tare offset as it was. -/
theorem formPoint_tareOffset {count : Int} {s : State} (h : s.fcu.tareWait = none) :
    (formPoint count s).state.fcu.tareOffset = s.fcu.tareOffset := by
  have closed : ∀ u : State, u.fcu.tareWait = none → tareWaitPoint u = u := fun u hu => by simp [tareWaitPoint, hu]
  simp only [formPoint, rangeLogic_tareOffset]
  rw [closed _ (by simp [signalPoint_tare, convert_tare, h])]
  simp [signalPoint_tare, convert_tare]

theorem pacingPoint_newest (s : State) : (pacingPoint s).sms.newest = s.sms.newest := by
  unfold pacingPoint
  split
  · split <;> rfl
  · rfl
  · rfl

/-- The drive's part of a calm point on which it stands IDLE: the samples are noted, and no more. -/
theorem drivePoint_idle {held : Int} {c : Conversion} {first : Bool} {p : Point} {s : State}
    (hready : c.driveReady = true ∨ s.readyUnwatched)
    (hread : s.drl.mismatches < 3 ∨ readbackMismatch s.drl.frame.fullScaleSpeed c.readback held = false)
    (hidle : s.drl.state = .idle) :
    ∃ n, drivePoint held c first p s = s.onDrl fun d => { d with readyLevel := c.driveReady, mismatches := n } := by
  obtain ⟨n, hn⟩ := readbackPoint_calm (s := s.onDrl fun d => { d with readyLevel := c.driveReady }) hread
  refine ⟨n, ?_⟩
  rw [drivePoint, readyPoint_calm hready, hn]
  unfold drivePointWork
  rw [show ((s.onDrl fun d => { d with readyLevel := c.driveReady }).onDrl
    fun d => { d with mismatches := n }).drl.state = .idle from hidle]
  rfl

/-- `u` is the state in which the sequencer takes the point `p` of a calm conversion for the starting test of `s`. -/
structure ReachesStart (s : State) (c : Conversion) (u : State) (p : Point) : Prop where
  runs : exec (.conversionComplete c) s = .next (offerPoint p (limitPoint false p (startingPoint p u)))
  point : u.latestPoint = some p
  test : u.tsq = s.tsq
  drive : u.drl.state = .idle ∧ u.drl.velocity = s.drl.velocity ∧ u.drl.dacCode = s.drl.dacCode
  tare : u.fcu.tareOffset = s.fcu.tareOffset
  heads : ∀ h, (u.exm.heads.get h).testHead = (s.exm.heads.get h).testHead ∧
    (u.exm.heads.get h).state = (s.exm.heads.get h).state
  store : u.sms.ring = s.sms.ring ∧ u.sms.newest = s.sms.newest
  force : u.lmu.overloadCount = 0 ∨ p.force.natAbs ≤ u.lmu.overloadLimit

theorem conversion_reachesStart {s : State} {c : Conversion} (hcalm : s.calm c) (hq : s.tsq.state = .starting)
    (hidle : s.drl.state = .idle) (hwait : s.fcu.tareWait = none) :
    ∃ u, ReachesStart s c u (formedOn s c).point := by
  obtain ⟨hrun, hready, hread, hfault, hforce⟩ := hcalm
  obtain ⟨htsq, -, hstate, hframe, -, hmiss⟩ := formedOn_frame s c
  obtain ⟨-, -, hlimit, hcount⟩ := formedOn_lmu s c
  obtain ⟨-, hpointForce, hlatest⟩ := formedOn_point s c
  have hexec := exec_conversionComplete (c := c) hrun
  have hcommand : (formedOn s c).state.drl.velocity = s.drl.velocity ∧
      (formedOn s c).state.drl.dacCode = s.drl.dacCode := by simp [formedOn]
  have htare : (formedOn s c).state.fcu.tareOffset = s.fcu.tareOffset := by
    rw [formedOn, formPoint_tareOffset (by simpa using hwait)]; simp
  have hheads : ∀ h, (formedOn s c).state.exm.heads.get h = (s.exm.heads.get h).judge := fun h => by
    rw [formedOn, formPoint_heads]; simp
  have hstore : (formedOn s c).state.sms = s.sms := by simp [formedOn]
  generalize formedOn s c = f at *
  generalize firstEstimated f.point s = first at *
  obtain ⟨n, drive⟩ := drivePoint_idle (held := s.drl.velocity) (c := c) (first := first) (p := f.point)
    (s := pacingPoint f.state) (by simpa [State.readyUnwatched, hstate] using hready)
    (by simpa [readbackMismatch, State.misread, hmiss, hframe] using hread) (by simp [hstate, hidle])
  rw [consumePoint, drive, hfault] at hexec
  refine ⟨(pacingPoint f.state).onDrl fun d => { d with readyLevel := c.driveReady, mismatches := n }, ?_, ?_, ?_, ?_,
    ?_, ?_, ?_, ?_⟩
  · rw [hexec]
    simp [evaluationPoint, managerPoint, sequencerPoint, htsq, hq, SeqState.evaluated]
  · simp [hlatest]
  · simp [htsq]
  · simp [hstate, hidle, hcommand]
  · simp [htare]
  · simp [hheads, judge_keeps]
  · simp [pacingPoint_newest, hstore]
  · simpa [hcount, hlimit, hpointForce] using hforce

/-! ### The point after the sequencer -/

/-- `t` stands as `v` in what the last consumers of a calm point leave alone; what was pending is, and the ring may have
grown. -/
structure SettlesAs (v t : State) : Prop extends StandsAs v t where
  exm : t.exm = v.exm
  glc : t.glc = v.glc
  pending : ∀ k, v.cli.pending.has k = true → t.cli.pending.has k = true
  ring : v.sms.ring <+: t.sms.ring

theorem ReachesStart.ends {s u : State} {c : Conversion} {p : Point} (h : ReachesStart s c u p) :
    ∃ t, exec (.conversionComplete c) s = .next t ∧ t.latestPoint = some p ∧ SettlesAs (startingPoint p u) t := by
  obtain ⟨f, hlimit⟩ := limitPoint_calm (s := startingPoint p u) (by simpa using h.force)
  refine ⟨_, h.runs, by simp [h.point], ?_⟩
  rw [hlimit]
  generalize startingPoint p u = v
  refine ⟨⟨by simp, by simp, by simp, by simp, fun hheld => offerPoint_keepsHeld hheld⟩, by simp, by simp,
    fun k hk => offerPoint_keepsPending (s := v.onLmu f) hk, offerPoint_ring_prefix p (v.onLmu f)⟩

/-! ### The tare and the ZEROs of a start (R22, R23) -/

/-- A start of the test `s` that asks for FRONT's ZERO first, or for REAR's (R23). -/
def ZeroesFront (s : State) : Prop := s.header.zeroAtStart = true ∧ s.exm.heads.front.testHead = true

def ZeroesRear (s : State) : Prop :=
  s.header.zeroAtStart = true ∧ s.exm.heads.front.testHead = false ∧ s.exm.heads.rear.testHead = true

/-- The step TARE of the start of `s` is done in `v`: the first head's ZERO is asked for, or ENTRY is next (R23). -/
def TareDone (s v : State) : Prop :=
  v.tsq.state = .starting ∧
  (ZeroesFront s → v.tsq.startStep = some .zero ∧ v.exm.zeroAsked = some .front ∧ v.glc.stands .front .zero = true) ∧
  (ZeroesRear s → v.tsq.startStep = some .zero ∧ v.exm.zeroAsked = some .rear ∧ v.glc.stands .rear .zero = true) ∧
  (¬ ZeroesFront s → ¬ ZeroesRear s → v.tsq.startStep = some .entry)

theorem TareDone.of_settles {s v t : State} (h : SettlesAs v t) (hv : TareDone s v) : TareDone s t := by
  simpa only [TareDone, h.tsq, h.exm, h.glc] using hv

theorem askZero_startStep (h : Head) (x : StartStep) (s : State) :
    (askZero h (setStartStep x s)).tsq.startStep = some x ∧ (askZero h (setStartStep x s)).exm.zeroAsked = some h := by
  simp [askZero, setStartStep]

theorem beginZero_tareDone {s u : State} (hstate : u.tsq.state = .starting) (hheader : u.header = s.header)
    (hfront : u.exm.heads.front.testHead = s.exm.heads.front.testHead)
    (hrear : u.exm.heads.rear.testHead = s.exm.heads.rear.testHead) : TareDone s (beginZero u) := by
  refine ⟨by simp [hstate], fun h => ?_, fun ⟨hzero, hnot, h⟩ => ?_, fun hnf hnr => ?_⟩
  · have asks : beginZero u = askZero .front (setStartStep .zero u) := 
      if_pos (by rw [hheader, hfront]; exact h)
    rw [asks]
    exact ⟨(askZero_startStep _ _ _).1, (askZero_startStep _ _ _).2, askZero_stands _ _⟩
  · have asks : beginZero u = askZero .rear (setStartStep .zero u) := by
      simp [beginZero, hheader, hfront, hrear, hzero, hnot, h]
    rw [asks]
    exact ⟨(askZero_startStep _ _ _).1, (askZero_startStep _ _ _).2, askZero_stands _ _⟩
  · have none : beginZero u = setStartStep .entry u := by
      unfold ZeroesFront at hnf
      unfold ZeroesRear at hnr
      rw [beginZero, hheader, hfront, hrear, if_neg hnf, if_neg]
      rintro ⟨hzero, h⟩
      exact hnr ⟨hzero, by simpa [hzero] using hnf, h⟩
    rw [none]
    rfl

/-- The record of a starting test on its first point. -/
def tareBegun (u : State) : State := u.onTsq fun t => { t with startStep := some .tare, startTareCount := 0 }

theorem startingPoint_first {p : Point} {u : State} (h : u.tsq.startStep = none) :
    startingPoint p u =
      if u.header.tareAtStart then
        if u.fcu.settled then beginZero (takeTare (tareBegun u)) else tareBegun u
      else beginZero (tareBegun u) := by
  unfold startingPoint
  rw [h]
  rfl

theorem startingPoint_tare {p : Point} {u : State} (h : u.tsq.startStep = some .tare) :
    startingPoint p u =
      if u.fcu.settled then beginZero (takeTare u)
      else if 20000 ≤ u.tsq.startTareCount + 1 then
        failStart .tareNotSettled (u.onFcu fun f => { f with tareOutcome := .notSettled })
      else u.onTsq fun t => { t with startTareCount := t.startTareCount + 1 } := by
  unfold startingPoint
  rw [h]
  rfl

theorem startingPoint_zero {p : Point} {u : State} (h : u.tsq.startStep = some .zero) : startingPoint p u = u := by
  unfold startingPoint
  rw [h]

theorem startingPoint_entry {p : Point} {u : State} (h : u.tsq.startStep = some .entry) :
    startingPoint p u = testEntry p u := by
  unfold startingPoint
  rw [h]

/-! ### The entry of the test (R24, R117) -/

/-- A test's head that is CLAMPED goes to MEASURING at the entry; every other head stays. -/
theorem headTestEntry_state (h k : Head) (s : State) :
    ((headTestEntry h s).exm.heads.get k).testHead = (s.exm.heads.get k).testHead ∧
    ((headTestEntry h s).exm.heads.get k).state =
      if k = h ∧ (s.exm.heads.get k).testHead = true ∧ (s.exm.heads.get k).state = .clamped then .measuring
      else (s.exm.heads.get k).state := by
  unfold headTestEntry
  by_cases hk : k = h
  · subst hk
    split
    · next hc => simp [show _ ∧ _ by simpa using hc]
    · next hc => simp [show ¬ (_ ∧ _) by simpa using hc]
  · split <;> simp [hk, setHeadState_other hk]

theorem extTestEntry_state (s : State) (h : Head) :
    ((extTestEntry s).exm.heads.get h).state =
      if (s.exm.heads.get h).testHead = true ∧ (s.exm.heads.get h).state = .clamped then .measuring
      else (s.exm.heads.get h).state := by
  have heads : (extTestEntry s).exm.heads = (headTestEntry .rear (headTestEntry .front s)).exm.heads := by
    unfold extTestEntry
    dsimp only
    split <;> simp
  rw [heads]
  cases h <;> simp [headTestEntry_state]

/-- With a measuring head the source is EXTENSOMETER and a removal is watched for; without one, ESTIMATED and CLOSED. -/
theorem extTestEntry_source (s : State) :
    ((∃ h, ((extTestEntry s).exm.heads.get h).state = .measuring) →
      (extTestEntry s).exm.source = .extensometer ∧ (extTestEntry s).exm.removal = .watching) ∧
    ((∀ h, ((extTestEntry s).exm.heads.get h).state ≠ .measuring) →
      (extTestEntry s).exm.source = .estimated ∧ (extTestEntry s).exm.removal = .closed) := by
  unfold extTestEntry
  dsimp only
  split
  · next hpos =>
    obtain ⟨h, hh⟩ := perHead_count_pos.1 hpos
    exact ⟨fun _ => by simp, fun hno => absurd (by simpa using hh) (hno h)⟩
  · next hnone =>
    refine ⟨fun ⟨h, hh⟩ => absurd (perHead_count_pos.2 ⟨h, ?_⟩) hnone, fun _ => by simp⟩
    simpa using hh

theorem evalEntry_phase (measuring : Bool) (p : Point) (s : State) :
    (evalEntry measuring p s).evu.phase = .elastic := by
  simp only [evalEntry, onEvu_evu]
  repeat' split
  all_goals rfl

/-- The state in which the test that is entered on the point `p` reaches segment 0 (R24). -/
def entryState (p : Point) (u : State) : State :=
  (storeMark .testStart p (evalEntry (0 < (extTestEntry u).exm.heads.count fun e => e.state = .measuring) p
    (extTestEntry u))).onTsq fun t => { t with startStep := none }

theorem testEntry_eq (p : Point) (u : State) : testEntry p u = reachSegment 0 p (entryState p u) := rfl

theorem entryState_records (p : Point) (u : State) :
    (entryState p u).tsq = { u.tsq with startStep := none } ∧ (entryState p u).drl = u.drl ∧
    (entryState p u).exm = (extTestEntry u).exm ∧ (entryState p u).evu.phase = .elastic := by
  simp [entryState, evalEntry_phase]

/-- TEST_START joins the ring at the entry of the test (R24, R157). -/
theorem entryState_ring (p : Point) (u : State) :
    ∃ r, (entryState p u).sms.ring = u.sms.ring ++ [r] ∧ r.kind = .testStart ∧ r.segment = none ∧
      r.seq = nextSeq u.sms.newest ∧ r.point.index = p.index ∧ r.point.travel = p.travel ∧ r.point.force = p.force := by
  simp only [entryState, onTsq_sms, storeMark, storeRecord_ring]
  exact ⟨_, by simp only [Sms.join, onSms_sms, evalEntry_frame, extTestEntry_frame]; rfl, rfl, rfl, by simp, rfl, rfl,
    rfl⟩

theorem reachSegment_ring_prefix (i : Nat) (p : Point) (s : State) :
    s.sms.ring <+: (reachSegment i p s).sms.ring := by
  unfold reachSegment
  split
  · simp
  · have offered : ∀ u : State, u.sms = s.sms → s.sms.ring <+: (offerSegmentStart i p u).sms.ring :=
      fun u hu => hu ▸ offerSegmentStart_ring_prefix i p u
    unfold enterSegment
    dsimp only
    split <;> exact offered _ rfl

/-- What a point makes of a test whose start step is ENTRY, beside the segment that it reaches (R24, R117). -/
theorem testEntry_outcome {s u t : State} {c : Conversion} {p : Point} (reach : ReachesStart s c u p)
    (settles : SettlesAs (testEntry p u) t) :
    t.evu.phase = .elastic ∧
    (∃ r rest, t.sms.ring = s.sms.ring ++ r :: rest ∧ r.kind = .testStart ∧ r.segment = none ∧
      r.seq = nextSeq s.sms.newest ∧ r.point.index = p.index ∧ r.point.travel = p.travel ∧ r.point.force = p.force) ∧
    (∀ h, (s.exm.heads.get h).testHead = true → (s.exm.heads.get h).state = .clamped →
      (t.exm.heads.get h).state = .measuring ∧ t.exm.source = .extensometer ∧ t.exm.removal = .watching) ∧
    ((∀ h, (s.exm.heads.get h).testHead = false ∧ (s.exm.heads.get h).state ≠ .measuring) →
      t.exm.source = .estimated ∧ t.exm.removal = .closed) := by
  obtain ⟨-, -, hexm, hphase⟩ := entryState_records p u
  have exm : t.exm = (extTestEntry u).exm := by rw [settles.exm, testEntry_eq, ← hexm]; simp
  have state : ∀ h, (t.exm.heads.get h).state =
      if (s.exm.heads.get h).testHead = true ∧ (s.exm.heads.get h).state = .clamped then .measuring
      else (s.exm.heads.get h).state := fun h => by
    rw [exm, extTestEntry_state, (reach.heads h).1, (reach.heads h).2]
  obtain ⟨hmeasures, hnone⟩ := extTestEntry_source u
  rw [← exm] at hmeasures hnone
  refine ⟨?_, ?_, fun h htest hclamped => ?_, fun hno => hnone fun h => ?_⟩
  · rw [settles.evu, testEntry_eq, ← hphase]; simp
  · obtain ⟨r, hring, hr⟩ := entryState_ring p u
    obtain ⟨rest, hrest⟩ := (reachSegment_ring_prefix 0 p (entryState p u)).trans settles.ring
    rw [reach.store.1] at hring
    rw [reach.store.2] at hr
    exact ⟨r, rest, by rw [← hrest, hring, List.append_assoc]; rfl, hr⟩
  · have measures : (t.exm.heads.get h).state = .measuring := by rw [state, if_pos ⟨htest, hclamped⟩]
    exact ⟨measures, hmeasures ⟨h, measures⟩⟩
  · rw [state, if_neg (by simp [(hno h).1])]
    exact (hno h).2

/-- The segment that the test reaches at its entry is entered on the point, or held at as a hold point (R27). -/
theorem testEntry_reaches {s u t : State} {c : Conversion} {p : Point} (reach : ReachesStart s c u p)
    (settles : SettlesAs (testEntry p u) t) :
    (∀ g, s.tsq.holdPoints.getLsbD 0 = false → s.segments[0]? = some g →
      s.enteredOn t 0 g p ∧ t.drl.velocity = s.drl.velocity ∧ t.drl.dacCode = s.drl.dacCode) ∧
    (s.tsq.holdPoints.getLsbD 0 = true →
      t.tsq = { s.tsq with
        state := .held, heldReason := some .holdPoint, heldAt := some 0, startStep := none, resumeEntry := none } ∧
      t.drl.state = .holding ∧ t.drl.velocity = 0 ∧ t.drl.dacCode = 0 ∧ t.cli.pending.held = true) := by
  obtain ⟨htsq, hdrl, -, -⟩ := entryState_records p u
  rw [reach.test] at htsq
  obtain ⟨hidle, hvelocity, hdac⟩ := reach.drive
  have hholds : (entryState p u).tsq.holdPoints = s.tsq.holdPoints := by rw [htsq]
  have hsegments : (entryState p u).segments = s.segments := segments_congr (by rw [htsq])
  rw [testEntry_eq] at settles
  refine ⟨fun g hpoint hg => ?_, fun hpoint => ?_⟩
  · rw [reachSegment_enters (by rw [hholds, hpoint])] at settles
    have entered := enterSegment_enteredOn (s := { s with tsq := { s.tsq with startStep := none } })
      (u := entryState p u) (time := s.tsq.segmentTime) htsq (.inr (.inr (by rw [hdrl, hidle])))
      (hsegments ▸ hg) p
    refine ⟨enteredOn_of_stands settles.toStandsAs entered, ?_⟩
    rw [settles.drl, enterSegment_drl (hsegments ▸ hg), hdrl]
    exact ⟨hvelocity, hdac⟩
  · rw [reachSegment_holdPoint (by rw [hholds, hpoint]),
      enterHeld_eq_heldNow (by decide) (some 0) (.inr (by rw [hdrl, hidle]))] at settles
    refine ⟨?_, ?_, ?_, ?_, settles.held rfl⟩
    · rw [settles.tsq, heldNow, htsq]
    all_goals rw [settles.drl]; rfl

/-! ### The step TARE on a point (R22) -/

/-- The tare has been taken on the point (R22, R77). -/
def TareTaken (t : State) : Prop := t.fcu.tareOffset = t.fcu.calForce ∧ t.fcu.tareOutcome = .ok

theorem beginZero_outcome {s u v t : State} {c : Conversion} {p : Point} (reach : ReachesStart s c u p)
    (hq : s.tsq.state = .starting) (hstate : v.tsq.state = u.tsq.state) (hprogram : v.tsq.program = u.tsq.program)
    (hexm : v.exm = u.exm) (settles : SettlesAs (beginZero v) t) : TareDone s t ∧ t.fcu = v.fcu := by
  have hheader : v.header = s.header := by simp only [State.header, hprogram, reach.test]
  refine ⟨(beginZero_tareDone ?_ hheader ?_ ?_).of_settles settles, by rw [settles.fcu]; simp⟩
  · rw [hstate, reach.test, hq]
  · rw [hexm]; exact (reach.heads .front).1
  · rw [hexm]; exact (reach.heads .rear).1

/-- The first point of a start (R21, R22). -/
theorem firstPoint_outcome {s u t : State} {c : Conversion} {p : Point} (reach : ReachesStart s c u p)
    (hq : s.tsq.state = .starting) (hstep : s.tsq.startStep = none) (settles : SettlesAs (startingPoint p u) t) :
    (s.header.tareAtStart = true → t.fcu.settled = true → TareTaken t ∧ TareDone s t) ∧
    (s.header.tareAtStart = true → t.fcu.settled = false →
      t.fcu.tareOffset = s.fcu.tareOffset ∧ t.tsq = { s.tsq with startStep := some .tare, startTareCount := 0 }) ∧
    (s.header.tareAtStart = false → t.fcu.tareOffset = s.fcu.tareOffset ∧ TareDone s t) := by
  have hheader : u.header = s.header := header_congr reach.test
  rw [startingPoint_first (by rw [reach.test, hstep]), hheader] at settles
  cases htare : s.header.tareAtStart with
  | false =>
    rw [htare, if_neg (by simp)] at settles
    obtain ⟨hdone, hfcu⟩ := beginZero_outcome (v := tareBegun u) reach hq rfl rfl rfl settles
    exact ⟨nofun, nofun, fun _ => ⟨hfcu ▸ reach.tare, hdone⟩⟩
  | true =>
    rw [htare, if_pos rfl] at settles
    cases hset : u.fcu.settled with
    | true =>
      rw [hset, if_pos rfl] at settles
      obtain ⟨hdone, hfcu⟩ := beginZero_outcome (v := takeTare (tareBegun u)) reach hq rfl rfl rfl settles
      have hsettled : t.fcu.settled = true := by rw [hfcu]; exact hset
      exact ⟨fun _ _ => ⟨⟨by rw [hfcu]; rfl, by rw [hfcu]; rfl⟩, hdone⟩, fun _ hn => by simp [hsettled] at hn, nofun⟩
    | false =>
      rw [hset, if_neg (by simp)] at settles
      have hsettled : t.fcu.settled = false := by rw [settles.fcu]; exact hset
      refine ⟨fun _ hn => by simp [hsettled] at hn, fun _ _ => ⟨?_, ?_⟩, nofun⟩
      · rw [settles.fcu]; exact reach.tare
      · rw [settles.tsq, tareBegun, onTsq_tsq, reach.test]

/-- A later point of the step TARE (R22). -/
theorem tarePoint_outcome {s u t : State} {c : Conversion} {p : Point} (reach : ReachesStart s c u p)
    (hq : s.tsq.state = .starting) (hstep : s.tsq.startStep = some .tare)
    (settles : SettlesAs (startingPoint p u) t) :
    (t.fcu.settled = true → TareTaken t ∧ TareDone s t) ∧
    (t.fcu.settled = false → t.fcu.tareOffset = s.fcu.tareOffset ∧
      (s.tsq.startTareCount + 1 < 20000 → t.tsq = { s.tsq with startTareCount := s.tsq.startTareCount + 1 }) ∧
      (20000 ≤ s.tsq.startTareCount + 1 →
        t.tsq.state = .ended ∧ t.tsq.endReason = some .startFailed ∧ t.tsq.startCause = some .tareNotSettled ∧
        t.fcu.tareOutcome = .notSettled ∧ t.cli.pending.testEnd = true)) := by
  rw [startingPoint_tare (by rw [reach.test, hstep])] at settles
  cases hset : u.fcu.settled with
  | true =>
    rw [hset, if_pos rfl] at settles
    obtain ⟨hdone, hfcu⟩ := beginZero_outcome (v := takeTare u) reach hq rfl rfl rfl settles
    have hsettled : t.fcu.settled = true := by rw [hfcu]; exact hset
    exact ⟨fun _ => ⟨⟨by rw [hfcu]; rfl, by rw [hfcu]; rfl⟩, hdone⟩, fun hn => by simp [hsettled] at hn⟩
  | false =>
    rw [hset, if_neg (by simp), reach.test] at settles
    by_cases hcount : 20000 ≤ s.tsq.startTareCount + 1
    · rw [if_pos hcount] at settles
      have hfcu : t.fcu = { u.fcu with tareOutcome := .notSettled } := by rw [settles.fcu]; simp
      have hsettled : t.fcu.settled = false := by rw [hfcu]; exact hset
      refine ⟨fun hn => by simp [hsettled] at hn, fun _ => ⟨by rw [hfcu]; exact reach.tare, by omega, fun _ => ?_⟩⟩
      rw [settles.tsq, failStart, enterEnded_tsq]
      exact ⟨rfl, rfl, rfl, by rw [hfcu], settles.pending .testEnd rfl⟩
    · rw [if_neg hcount] at settles
      have hsettled : t.fcu.settled = false := by rw [settles.fcu]; exact hset
      refine ⟨fun hn => by simp [hsettled] at hn, fun _ => ⟨?_, fun _ => ?_, fun h => absurd h hcount⟩⟩
      · rw [settles.fcu]; exact reach.tare
      · rw [settles.tsq, onTsq_tsq, reach.test]

/-- Settles O34: a calm conversion brings the sequencer its point with the start as it was; the start step says what
becomes of it. -/
theorem startStepsOnAPoint : Obligations.StartStepsOnAPoint := by
  intro s c hcalm hq hidle hwait
  obtain ⟨u, reach⟩ := conversion_reachesStart hcalm hq hidle hwait
  obtain ⟨t, hexec, hlatest, settles⟩ := reach.ends
  refine ⟨t, _, hexec, hlatest, ?_⟩
  generalize (formedOn s c).point = p at *
  dsimp only
  cases hstep : s.tsq.startStep with
  | none =>
    obtain ⟨htaken, hwaits, huntared⟩ := firstPoint_outcome reach hq hstep settles
    cases htare : s.header.tareAtStart with
    | false => simpa [TareDone, ZeroesFront, ZeroesRear] using huntared htare
    | true =>
      cases hset : t.fcu.settled with
      | false => simpa using hwaits htare hset
      | true => simpa [TareTaken, TareDone, ZeroesFront, ZeroesRear] using htaken htare hset
  | some x =>
    cases x with
    | tare =>
      obtain ⟨htaken, hwaits⟩ := tarePoint_outcome reach hq hstep settles
      cases hset : t.fcu.settled with
      | false => simpa [hstep] using hwaits hset
      | true => simpa [TareTaken, TareDone, ZeroesFront, ZeroesRear] using htaken hset
    | zero =>
      rw [startingPoint_zero (by rw [reach.test, hstep])] at settles
      have htsq : t.tsq = s.tsq := settles.tsq.trans reach.test
      have hfcu : t.fcu = u.fcu := settles.fcu
      simp [htsq, hfcu, reach.tare]
    | entry =>
      rw [startingPoint_entry (by rw [reach.test, hstep])] at settles
      have hfcu : t.fcu = u.fcu := by rw [settles.fcu]; simp
      obtain ⟨hphase, hring, hmeasures, hnone⟩ := testEntry_outcome reach settles
      obtain ⟨henters, hholds⟩ := testEntry_reaches reach settles
      refine ⟨by simp, fun _ => by rw [hfcu, reach.tare], by simp, by simp, by simp, by simp, by simp, by simp, by simp,
        by simp, fun _ => ⟨hphase, hring, hmeasures, hnone, henters, hholds⟩⟩

end Sys2Proof.Proofs
end

section
/-! The replies of the gauge link: what the acceptance of a complete reply makes of its bytes is what the operation's
payload carries, and nothing else is accepted (R90, R92, R94 to R97). -/

namespace Sys2Proof.Proofs

open Sys2Proof.Machine Sys2Proof.Laws

/-! ### Status -/

theorem armsOf_some {b : Byte} {a : Arms} : armsOf b = some a ↔ b = BitVec.ofNat 8 a.ctorIdx := by
  revert b
  cases a <;> decide

theorem ynOf_some {b : Byte} {y : Bool} : ynOf b = some y ↔ b = BitVec.ofNat 8 y.toNat := by
  revert b
  cases y <;> decide

theorem statusOf_some {bs : List Byte} {st : HeadStatus} : statusOf bs = some st ↔ bs = st.payload := by
  constructor
  · intro h
    unfold statusOf at h
    split at h
    · next a b c =>
      simp only [Option.bind_eq_bind, Option.bind_eq_some_iff, Option.some.injEq] at h
      obtain ⟨arms, ha, seated, hb, zeroed, hc, rfl⟩ := h
      rw [HeadStatus.payload, ← armsOf_some.1 ha, ← ynOf_some.1 hb, ← ynOf_some.1 hc]
    · cases h
  · rintro rfl
    simp only [statusOf, HeadStatus.payload, armsOf_some.2 rfl, ynOf_some.2 rfl, Option.bind_eq_bind, Option.bind_some]

/-! ### Identity -/

theorem u16_ofBytes (a b : Byte) : u16 (ofBytes [a, b]) = [a, b] := by
  have ha := a.isLt; have hb := b.isLt
  have first : BitVec.ofNat 8 (ofBytes [a, b] / 256) = a := by
    apply BitVec.eq_of_toNat_eq
    simp only [ofBytes, List.foldl, BitVec.toNat_ofNat]
    omega
  have second : BitVec.ofNat 8 (ofBytes [a, b]) = b := by
    apply BitVec.eq_of_toNat_eq
    simp only [ofBytes, List.foldl, BitVec.toNat_ofNat]
    omega
  rw [u16, first, second]

theorem ofBytes_u16 {n : Nat} (h : n < 65536) : ofBytes (u16 n) = n := by
  simp only [ofBytes, u16, List.foldl, BitVec.toNat_ofNat]
  omega

theorem printable_iff {b : Byte} : printable b = true ↔ 0x20 ≤ b.toNat ∧ b.toNat ≤ 0x7E := by simp [printable]

/-- A serial text in its sixteen bytes: 1 to 16 printable characters, padded with 00h (R97). -/
theorem serialOf_some {bs t : List Byte} (hlength : bs.length = 16) :
    serialOf bs = some t ↔
      (1 ≤ t.length ∧ t.length ≤ 16 ∧ (∀ b ∈ t, 0x20 ≤ b.toNat ∧ b.toNat ≤ 0x7E) ∧
        bs = t ++ List.replicate (16 - t.length) 0) := by
  have text_prefix : bs.takeWhile (fun b => b ≠ 0) <+: bs := List.takeWhile_prefix _
  constructor
  · intro h
    simp only [serialOf] at h
    split at h
    · next hok =>
      obtain rfl := Option.some.inj h
      obtain ⟨hone, hprint, hzero⟩ := hok
      refine ⟨hone, hlength ▸ text_prefix.length_le, fun b hb => printable_iff.1 (List.all_eq_true.1 hprint b hb), ?_⟩
      refine (List.prefix_iff_eq_append.1 text_prefix).symm.trans (congrArg _ ?_)
      refine List.eq_replicate_iff.2 ⟨by simp [hlength], fun b hb => ?_⟩
      simpa using List.all_eq_true.1 hzero b hb
    · cases h
  · rintro ⟨hone, hmax, hprint, hbs⟩
    have nonzero : ∀ b ∈ t, decide (b ≠ 0) = true := fun b hb => by
      have := (hprint b hb).1
      simp only [ne_eq, decide_eq_true_eq]
      rintro rfl
      simp at this
    have text : bs.takeWhile (fun b => b ≠ 0) = t := by
      rw [hbs, List.takeWhile_append_of_pos nonzero]
      cases 16 - t.length <;> simp [List.replicate_succ]
    simp only [serialOf, text]
    rw [if_pos]
    refine ⟨hone, List.all_eq_true.2 fun b hb => printable_iff.2 (hprint b hb), ?_⟩
    rw [hbs, List.drop_left' rfl]
    simp

/-- An identity in its twenty-three bytes (R97). -/
theorem identityOf_some {bs : List Byte} {i : Identity} (hlength : bs.length = 23) :
    identityOf bs = some i ↔ GaugeOp.identify.carries bs (.identity i) := by
  simp only [GaugeOp.carries]
  constructor
  · intro h
    obtain ⟨k, a, b, rest, rfl⟩ : ∃ k a b rest, bs = k :: a :: b :: rest := by
      match bs, hlength with
      | k :: a :: b :: rest, _ => exact ⟨k, a, b, rest, rfl⟩
    simp only [List.length_cons] at hlength
    simp only [identityOf] at h
    split at h
    · next hrange =>
      simp only [Option.bind_eq_bind, Option.bind_eq_some_iff, Option.some.injEq] at h
      obtain ⟨serial, hserial, rfl⟩ := h
      obtain ⟨hlo, hhi, htlo, hthi⟩ := hrange
      obtain ⟨hone, hmax, hprint, hbytes⟩ := (serialOf_some (by simp; omega)).1 hserial
      refine ⟨hlo, hhi, htlo, hthi, hone, hmax, hprint, ?_⟩
      have travel : u32 (ofBytes (rest.take 4)) = rest.take 4 := u32_natAt rest 0 (by omega)
      have gauge : u16 (ofBytes [a, b]) = [a, b] := u16_ofBytes a b
      show k :: a :: b :: rest = [k] ++ u16 (ofBytes [a, b]) ++ u32 (ofBytes (rest.take 4)) ++ serial ++
        List.replicate (16 - serial.length) 0
      rw [gauge, travel, List.append_assoc _ serial, ← hbytes]
      simp
    · cases h
  · rintro ⟨hlo, hhi, htlo, hthi, hone, hmax, hprint, hbs⟩
    have bytes : bs = i.kind :: (u16 i.gaugeLength ++ (u32 i.travelRange ++ (i.serial ++
        List.replicate (16 - i.serial.length) 0))) := by simpa using hbs
    have gauge : ofBytes (u16 i.gaugeLength) = i.gaugeLength := ofBytes_u16 (by omega)
    have travel : ofBytes (u32 i.travelRange) = i.travelRange := ofBytes_u32 (by omega)
    have serial : serialOf (i.serial ++ List.replicate (16 - i.serial.length) 0) = some i.serial :=
      (serialOf_some (by simp; omega)).2 ⟨hone, hmax, hprint, rfl⟩
    rw [bytes]
    show (if 1000 ≤ ofBytes (u16 i.gaugeLength) ∧ ofBytes (u16 i.gaugeLength) ≤ 20000 ∧
        1 ≤ ofBytes (u32 i.travelRange) ∧ ofBytes (u32 i.travelRange) ≤ 2000000000 then
      (serialOf (i.serial ++ List.replicate (16 - i.serial.length) 0)).bind fun t =>
        some ⟨i.kind, ofBytes (u16 i.gaugeLength), ofBytes (u32 i.travelRange), t⟩ else none) = some i
    rw [gauge, travel, serial, if_pos ⟨hlo, hhi, htlo, hthi⟩]
    rfl

/-! ### A whole reply -/

theorem carries_length {o : GaugeOp} {payload : List Byte} {d : TxData} (h : o.carries payload d) :
    payload.length = o.replyLength := by
  unfold GaugeOp.carries at h
  split at h
  · rw [h]; rfl
  · rw [h.2]; rfl
  · rw [h.2]; rfl
  · obtain ⟨-, -, -, -, hone, hmax, -, rfl⟩ := h
    simp [u16, u32, GaugeOp.replyLength]
    omega
  · exact h.elim

/-- What is read from a payload of the operation's length is what the payload carries (R92, R94 to R97). -/
theorem replyData_some {o : GaugeOp} {bs : List Byte} {d : TxData} (hlength : bs.length = o.replyLength) :
    replyData o bs = some d ↔ o.carries bs d := by
  cases o with
  | poll =>
    simp only [replyData, Option.map_eq_some_iff, statusOf_some]
    cases d <;> simp [GaugeOp.carries]
  | read =>
    have cut : ∀ x st, bs = i32 x ++ st ↔ bs.take 4 = i32 x ∧ bs.drop 4 = st := fun x st =>
      ⟨fun h => by rw [h]; exact ⟨rfl, rfl⟩, fun ⟨h1, h2⟩ => by rw [← h1, ← h2, List.take_append_drop]⟩
    have value : i32 (ofBytesSigned (bs.take 4)) = bs.take 4 :=
      i32_intAt bs 0 (by rw [hlength]; decide)
    have fits : fits32 (ofBytesSigned (bs.take 4)) = true := fits32_intAt bs 0
    simp only [replyData, Option.map_eq_some_iff, statusOf_some]
    cases d with
    | extension x st =>
      simp only [GaugeOp.carries, cut, TxData.extension.injEq]
      constructor
      · rintro ⟨_, hst, rfl, rfl⟩
        exact ⟨fits, value.symm, hst⟩
      · rintro ⟨hx, htake, hst⟩
        exact ⟨st, hst, by rw [htake, ofBytesSigned_i32 hx], rfl⟩
    | _ => simp [GaugeOp.carries]
  | command k =>
    have code : u8 k.linkCode = [BitVec.ofNat 8 k.ctorIdx] := by cases k <;> rfl
    simp only [replyData, code]
    cases d <;> simp [GaugeOp.carries, eq_comm, and_comm]
  | identify =>
    simp only [replyData, Option.map_eq_some_iff, identityOf_some hlength]
    cases d <;> simp [GaugeOp.carries]

theorem messageLength_eq (o : GaugeOp) : o.messageLength = o.length := by cases o <;> rfl

/-- The bytes of a reply whose payload has its operation's length (R90). -/
theorem reply_eq {o : GaugeOp} {h : Head} {payload : List Byte} (hlength : payload.length = o.replyLength) :
    o.reply h payload =
      (u8 (headAddress h) ++ u8 o.code ++ u8 o.replyLength ++ payload) ++
        u16 (crc 0 (u8 (headAddress h) ++ u8 o.code ++ u8 o.replyLength ++ payload)).toNat := by
  rw [← hlength]
  cases h <;> cases o <;> rfl

theorem reply_length {o : GaugeOp} {h : Head} {payload : List Byte} (hlength : payload.length = o.replyLength) :
    (o.reply h payload).length = o.messageLength := by
  rw [reply_eq hlength]
  simp [u8, u16, hlength, GaugeOp.messageLength]

/-- A reply is accepted with exactly the data that its payload carries. -/
theorem acceptReply_success {h : Head} {o : GaugeOp} {bs : List Byte} {d : TxData} :
    acceptReply h o bs = .success d ↔ ∃ payload, o.carries payload d ∧ bs = o.reply h payload := by
  constructor
  · intro haccept
    simp only [acceptReply] at haccept
    split at haccept
    · next hframe =>
      obtain ⟨hcheck, hheader⟩ := hframe
      generalize hbody : bs.take (o.replyLength + 3) = body at *
      have hwhole : bs = body ++ u16 (crc 0 body).toNat := by rw [← hcheck, ← hbody, List.take_append_drop]
      have hlength : body.length = o.replyLength + 3 := by
        have htotal := congrArg List.length hcheck
        have htwo : (u16 (crc 0 body).toNat).length = 2 := rfl
        rw [List.length_drop, htwo] at htotal
        rw [← hbody, List.length_take]
        omega
      have hparts : body = u8 (headAddress h) ++ u8 o.code ++ u8 o.replyLength ++ body.drop 3 := by
        rw [← hheader, List.take_append_drop]
      have hpayload : (body.drop 3).length = o.replyLength := by rw [List.length_drop, hlength]; rfl
      split at haccept
      · next d' hdata =>
        obtain rfl : d' = d := by simpa using haccept
        exact ⟨_, (replyData_some hpayload).1 hdata, by rw [reply_eq hpayload, ← hparts, ← hwhole]⟩
      · cases haccept
    · cases haccept
  · rintro ⟨payload, hcarries, rfl⟩
    have hlength := carries_length hcarries
    generalize hbody : u8 (headAddress h) ++ u8 o.code ++ u8 o.replyLength ++ payload = body
    have hbodyLength : body.length = o.replyLength + 3 := by
      rw [← hbody]; simp [u8, hlength]
    have hheader : body.take 3 = u8 (headAddress h) ++ u8 o.code ++ u8 o.replyLength := by rw [← hbody]; rfl
    have hdata : body.drop 3 = payload := by rw [← hbody]; rfl
    rw [reply_eq hlength, hbody, acceptReply, List.take_left' hbodyLength, List.drop_left' hbodyLength]
    rw [if_pos ⟨rfl, hheader⟩, hdata, (replyData_some hlength).2 hcarries]

end Sys2Proof.Proofs
end

section
/-! The outcome of a slot command in its head and in the test: what the operations of a completion leave of the slot, the
test and the heads (R102, R103), and what the outcomes of a ZERO, a CLAMP and a LIFT make of them (R23, R25, R113, R114,
R129). -/

namespace Sys2Proof.Proofs

open Sys2Proof.Machine Sys2Proof.Laws

/-! ### The slot and the heads' records of the link -/

/-- The link keeps the heads' records and the command that stands in the slot. -/
def LinkKept (g g' : Glc) : Prop := g'.heads = g.heads ∧ ∀ c, g.slot = some c → g'.slot = some c

theorem LinkKept.refl (g : Glc) : LinkKept g g := ⟨rfl, fun _ h => h⟩

theorem LinkKept.trans {g g' g'' : Glc} (h : LinkKept g g') (h' : LinkKept g' g'') : LinkKept g g'' :=
  ⟨h'.1.trans h.1, fun c hc => h'.2 c (h.2 c hc)⟩

theorem LinkKept.of_eq {g g' : Glc} (hheads : g'.heads = g.heads) (hslot : g'.slot = g.slot) : LinkKept g g' :=
  ⟨hheads, fun _ h => hslot.trans h⟩

theorem ask_linkKept (h : Head) (k : HeadCmd) (g : Glc) : LinkKept g (g.ask h k) := by
  unfold Glc.ask
  split
  · exact .refl g
  · split
    · next hnone => exact ⟨rfl, fun c hc => by simp [hnone] at hc⟩
    · exact ⟨rfl, fun _ hc => hc⟩

theorem recoveryLift_linkKept (h : Head) (s : State) : LinkKept s.glc (recoveryLift h s).glc := by
  unfold recoveryLift
  split
  · split
    · exact ask_linkKept h .lift s.glc
    · exact ask_linkKept h .lift s.glc
  · exact .refl _

theorem recoverBoth_linkKept (s : State) : LinkKept s.glc (recoverBoth s).glc :=
  (recoveryLift_linkKept .front s).trans (recoveryLift_linkKept .rear _)

theorem askLiftIf_linkKept (p : HeadState → Bool) (h : Head) (s : State) : LinkKept s.glc (askLiftIf p h s).glc := by
  unfold askLiftIf
  split
  · exact ask_linkKept h .lift s.glc
  · exact .refl _

theorem handover_linkKept (k : Trigger) (s : State) : LinkKept s.glc (handover k s).glc := by
  have marked : LinkKept s.glc (storeMark .handover s.latest (s.onExm fun m =>
      { m with ratio := some (formRatio m.window), source := .estimated, removal := .handedOver
               trigger := some k, handoverPoint := some s.latest.index })).glc := .of_eq (by simp) (by simp)
  exact ((marked.trans (askLiftIf_linkKept _ _ _)).trans (askLiftIf_linkKept _ _ _)).trans (recoverBoth_linkKept _)

theorem extTestEnd_linkKept (s : State) : LinkKept s.glc (extTestEnd s).glc := by
  unfold extTestEnd
  dsimp only
  split
  · exact LinkKept.trans (.of_eq (by simp) (by simp)) (recoverBoth_linkKept _)
  · exact .of_eq (by simp) (by simp)

theorem enterEnded_linkKept (why : EndReason) (cause : Option StartCause) (s : State) :
    LinkKept s.glc (enterEnded why cause s).glc := by
  have ended := extTestEnd_linkKept (evalTestEnd why ((s.onTsq fun t =>
    { t with state := .ended, endReason := some why, startCause := cause, currentSegment := none
             segmentTime := 0, heldReason := none, heldAt := none, pendingEnd := none, startStep := none
             startTareCount := 0, resumeEntry := none }).onDrl Drl.testEnd))
  refine LinkKept.trans (.of_eq ?_ ?_) (ended.trans (.of_eq ?_ ?_)) <;> simp [enterEnded]

theorem headGoes_linkKept (h : Head) (st : HeadState) (s : State) : LinkKept s.glc (headGoes h st s).glc := by
  have set : LinkKept s.glc (setHeadState h st s).glc := .of_eq (by simp) (by simp)
  have left : ∀ before (u : State), LinkKept u.glc (headLeftCheck h before u).glc := fun before u => by
    unfold headLeftCheck
    split
    · exact enterEnded_linkKept _ _ u
    · exact .refl _
  have forced : ∀ before (u : State), LinkKept u.glc (forcedHandoverCheck before u).glc := fun before u => by
    unfold forcedHandoverCheck
    split
    · exact handover_linkKept _ u
    · exact .refl _
  exact (set.trans (left _ _)).trans (forced _ _)

theorem takeOutcome_linkKept (h : Head) (k : HeadCmd) (o : SlotOutcome) (s : State) :
    LinkKept s.glc (takeOutcome h k o s).glc := by
  have asks : ∀ u : State, LinkKept u.glc (askZero .rear u).glc := fun u => ask_linkKept .rear .zero u.glc
  unfold takeOutcome
  split
  · unfold clampOutcome
    split
    · exact (headGoes_linkKept _ _ _).trans (recoveryLift_linkKept _ _)
    · exact .refl _
  · exact .of_eq (by simp) (by simp)
  · unfold zeroOutcome zeroConfirmed
    dsimp only
    split
    · split
      · split
        · exact LinkKept.trans (.of_eq (by simp) (by simp)) (asks _)
        · exact .of_eq (by simp) (by simp)
      · exact enterEnded_linkKept _ _ _
      · exact enterEnded_linkKept _ _ _
    · exact .refl _
  · exact .refl _

/-! ### The slot is freed (R103) -/

theorem freeSlot_stands {g : Glc} {h : Head} {k : HeadCmd} : g.freeSlot.stands h k = true ↔ ⟨h, k⟩ ∈ g.waiting := by
  unfold Glc.freeSlot
  split
  · next hnone => simp [Glc.stands, hnone]
  · next w rest hcons =>
    rw [hcons]
    exact waiting_any_iff (l := w :: rest)

/-- What is asked for by the manager alone waits in the freed slot (R103). -/
theorem freeSlot_slot {g : Glc} {c : SlotCommand} (h : g.freeSlot.slot = some c) :
    c.phase = .linkWait ∧ c.origin = .exm := by
  unfold Glc.freeSlot at h
  split at h
  · cases h
  · obtain rfl := Option.some.inj h
    exact ⟨rfl, rfl⟩

/-- The state in which the manager takes the outcome `o` of the slot command `c`: its head's record has it (R103). -/
def outcomeNoted (c : SlotCommand) (o : SlotOutcome) (s : State) : State :=
  s.onGlc fun g =>
    { g with heads := g.heads.modify c.head fun x => { x with lastCommand := some ⟨c.kind, c.origin, o⟩ } }

/-- `t` stands as `w`, in which the manager has taken an outcome, but for the slot that is FREE for the next command. -/
structure FreedFrom (w t : State) : Prop where
  tsq : t.tsq = w.tsq
  drl : t.drl = w.drl
  exm : t.exm = w.exm
  notices : t.cli.notices = w.cli.notices
  pending : ∀ k, w.cli.pending.has k = true → t.cli.pending.has k = true
  stands : ∀ h k, t.glc.stands h k = true ↔ ⟨h, k⟩ ∈ w.glc.waiting

theorem freeCommand_eq (c : SlotCommand) (o : SlotOutcome) (s : State) :
    freeCommand c o s =
      (if c.origin = .computer then raise .headCmdDone (takeOutcome c.head c.kind o (outcomeNoted c o s))
        else takeOutcome c.head c.kind o (outcomeNoted c o s)).onGlc Glc.freeSlot := rfl

theorem freeCommand_freedFrom (c : SlotCommand) (o : SlotOutcome) (s : State) :
    FreedFrom (takeOutcome c.head c.kind o (outcomeNoted c o s)) (freeCommand c o s) := by
  rw [freeCommand_eq]
  generalize takeOutcome c.head c.kind o (outcomeNoted c o s) = w
  split
  · exact ⟨rfl, rfl, rfl, rfl, fun _ hk => raise_keepsPending _ hk, fun _ _ => freeSlot_stands⟩
  · exact ⟨rfl, rfl, rfl, rfl, fun _ hk => hk, fun _ _ => freeSlot_stands⟩

theorem freeCommand_freedIn (c : SlotCommand) (o : SlotOutcome) (s : State) : c.freedIn o (freeCommand c o s) := by
  have kept := (takeOutcome_linkKept c.head c.kind o (outcomeNoted c o s)).1
  have last : ((outcomeNoted c o s).glc.heads.get c.head).lastCommand = some ⟨c.kind, c.origin, o⟩ := by
    simp [outcomeNoted]
  rw [freeCommand_eq]
  rw [← kept] at last
  generalize takeOutcome c.head c.kind o (outcomeNoted c o s) = w at last
  have heads : ∀ g : Glc, g.freeSlot.heads = g.heads := fun g => by unfold Glc.freeSlot; split <;> rfl
  refine ⟨?_, fun hcomputer => ?_, fun c' hc' => freeSlot_slot hc'⟩
  · rw [onGlc_glc, heads]
    split <;> simpa using last
  · rw [if_pos hcomputer]
    exact raise_has .headCmdDone w

/-! ### A start that ends for want of a ZERO (R23, R25, R104) -/

theorem ask_waiting {g : Glc} {h : Head} {k : HeadCmd} {w : WaitingCmd} (hw : w ∈ (g.ask h k).waiting) :
    w ∈ g.waiting ∨ w = ⟨h, k⟩ := by
  unfold Glc.ask at hw
  split at hw
  · exact .inl hw
  · split at hw
    · exact .inl hw
    · simpa using hw

/-- A recovery lift adds nothing but a LIFT to the waiting list (R114). -/
theorem recoveryLift_waiting {h : Head} {s : State} {w : WaitingCmd} (hw : w ∈ (recoveryLift h s).glc.waiting) :
    w ∈ s.glc.waiting ∨ w.kind = .lift := by
  have asked : w ∈ (s.glc.ask h .lift).waiting → w ∈ s.glc.waiting ∨ w.kind = .lift := fun hw =>
    (ask_waiting hw).imp_right fun h => by rw [h]
  unfold recoveryLift at hw
  split at hw
  · split at hw
    · exact asked hw
    · exact asked hw
  · exact .inl hw

theorem recoverBoth_waiting {s : State} {w : WaitingCmd} (hw : w ∈ (recoverBoth s).glc.waiting) :
    w ∈ s.glc.waiting ∨ w.kind = .lift :=
  (recoveryLift_waiting hw).elim recoveryLift_waiting .inr

/-- After the end of a test no ZERO waits (R104). -/
theorem extTestEnd_noZero (s : State) (h : Head) : ⟨h, .zero⟩ ∉ (extTestEnd s).glc.waiting := by
  have withdrawn : ∀ u : State, ⟨h, .zero⟩ ∉ (withdrawWaiting (fun w => w.kind = .zero) u).glc.waiting := fun u => by
    simp [withdrawWaiting, Glc.withdraw]
  unfold extTestEnd
  dsimp only
  split
  · exact fun hw => (recoverBoth_waiting hw).elim (withdrawn _) (by simp)
  · exact withdrawn _

@[simp] theorem recoveryLift_zeroAsked (h : Head) (s : State) :
    (recoveryLift h s).exm.zeroAsked = s.exm.zeroAsked := by
  unfold recoveryLift
  split
  · split
    · rfl
    · simp
  · rfl

@[simp] theorem recoverBoth_zeroAsked (s : State) : (recoverBoth s).exm.zeroAsked = s.exm.zeroAsked := by
  simp [recoverBoth]

theorem extTestEnd_zeroAsked (s : State) : (extTestEnd s).exm.zeroAsked = none := by
  unfold extTestEnd
  dsimp only
  split
  · rw [recoverBoth_zeroAsked]; rfl
  · rfl

/-- A start that has failed for want of a ZERO, before the slot is freed. -/
theorem failStart_ofZero {s t : State} (freed : FreedFrom (failStart .zeroUnconfirmed s) t) :
    t.startFailedOfZero := by
  have ended := enterEnded_tsq .startFailed (some .zeroUnconfirmed) s
  have noZero : ∀ h, ⟨h, .zero⟩ ∉ (failStart .zeroUnconfirmed s).glc.waiting := fun h => by
    simp only [failStart, enterEnded, raise_frame, storeMark_frame]
    exact extTestEnd_noZero _ h
  refine ⟨?_, ?_, ?_, freed.pending .testEnd rfl, ?_, fun h => ?_⟩
  · rw [freed.tsq, failStart, ended]
  · rw [freed.tsq, failStart, ended]
  · rw [freed.tsq, failStart, ended]
  · rw [freed.exm]
    simp only [failStart, enterEnded, raise_frame, storeMark_frame]
    exact extTestEnd_zeroAsked _
  · exact Bool.eq_false_iff.2 (mt (freed.stands h .zero).1 (noZero h))

/-- An UNCONFIRMED or FAILED ZERO that the present start waits for ends it (R23, R25). -/
theorem zeroOutcome_awaited {h : Head} {o : SlotOutcome} {s : State} (hasked : s.exm.zeroAsked = some h)
    (hq : s.tsq.state = .starting) (ho : o ≠ .confirmed) : zeroOutcome h o s = failStart .zeroUnconfirmed s := by
  unfold zeroOutcome
  rw [if_pos ⟨hasked, hq⟩]
  cases o with
  | confirmed => exact absurd rfl ho
  | _ => rfl

theorem zeroOutcome_other {h : Head} {o : SlotOutcome} {s : State}
    (hother : ¬ (s.exm.zeroAsked = some h ∧ s.tsq.state = .starting)) : zeroOutcome h o s = s := if_neg hother

/-! ### A CLAMP that is not confirmed (R113, R114) -/

/-- A head that leaves neither CLAMPED, as a test's head, nor MEASURING brings nothing on (R25, R121). -/
theorem headGoes_quiet {h : Head} {st : HeadState} {s : State} (hmeasuring : (s.exm.heads.get h).state ≠ .measuring)
    (hleft : (s.exm.heads.get h).testHead = false ∨ (s.exm.heads.get h).state ≠ .clamped) :
    headGoes h st s = setHeadState h st s := by
  rcases hleft with hleft | hleft <;> simp [headGoes, headLeftCheck, forcedHandoverCheck, hmeasuring, hleft]

/-- A PRESENT head whose arms are not lifted is asked to lift, or has been, while the source is not EXTENSOMETER
(R114). -/
theorem recoveryLift_stands {h : Head} {s : State} {st : HeadStatus} (hpresent : (s.exm.heads.get h).state = .present)
    (hlatest : (s.exm.heads.get h).latest = some st) (harms : st.arms ≠ .lifted)
    (hsource : s.exm.source ≠ .extensometer) : (recoveryLift h s).glc.stands h .lift = true := by
  have needs : needsRecovery h s = !s.glc.stands h .lift := by
    simp [needsRecovery, hpresent, hlatest, harms, hsource]
  unfold recoveryLift
  rw [needs]
  cases hstands : s.glc.stands h .lift with
  | true => exact hstands
  | false =>
    rw [if_pos (by rfl)]
    split <;> exact ask_stands h .lift s.glc

theorem setHeadState_raises {h : Head} {st : HeadState} {s : State} (hne : (s.exm.heads.get h).state ≠ st) :
    (setHeadState h st s).cli.pending.has .headState = true := by
  rw [setHeadState, if_neg hne]
  exact raise_has .headState _

theorem clampOutcome_unconfirmed {h : Head} {s : State} (hclamping : (s.exm.heads.get h).state = .clamping) :
    clampOutcome h .unconfirmed s = recoveryLift h (setHeadState h .present s) := by
  rw [clampOutcome, if_pos ⟨rfl, hclamping⟩, headGoes_quiet (by simp [hclamping]) (.inr (by simp [hclamping]))]

theorem clampOutcome_other {h : Head} {o : SlotOutcome} {s : State}
    (hother : ¬ (o = .unconfirmed ∧ (s.exm.heads.get h).state = .clamping)) : clampOutcome h o s = s := if_neg hother

theorem clampOutcome_tsq (h : Head) (o : SlotOutcome) (s : State) : (clampOutcome h o s).tsq = s.tsq := by
  by_cases hback : o = .unconfirmed ∧ (s.exm.heads.get h).state = .clamping
  · obtain ⟨rfl, hclamping⟩ := hback
    simp [clampOutcome_unconfirmed hclamping]
  · rw [clampOutcome_other hback]

/-- A head still CLAMPING goes back to PRESENT, and is lifted if its arms are not (R113, R114). -/
theorem clampOutcome_back {c : SlotCommand} {s t : State} (hslot : s.glc.slot = some c) (hk : c.kind = .clamp)
    (hclamping : (s.exm.heads.get c.head).state = .clamping)
    (freed : FreedFrom (clampOutcome c.head .unconfirmed s) t) :
    (t.exm.heads.get c.head).state = .present ∧ t.cli.pending.headState = true ∧
    (∀ st, (t.exm.heads.get c.head).latest = some st → st.arms ≠ .lifted → s.exm.source ≠ .extensometer →
      t.glc.stands c.head .lift = true) := by
  rw [clampOutcome_unconfirmed hclamping] at freed
  refine ⟨by rw [freed.exm]; simp, freed.pending .headState ?_, fun st hlatest harms hsource => ?_⟩
  · simpa using setHeadState_raises (h := c.head) (st := .present) (s := s) (by simp [hclamping])
  · rw [freed.exm] at hlatest
    have lifts := recoveryLift_stands (h := c.head) (s := setHeadState c.head .present s) (st := st) (by simp)
      (by simpa using hlatest) harms (by simpa using hsource)
    have slot : (recoveryLift c.head (setHeadState c.head .present s)).glc.slot = some c :=
      (recoveryLift_linkKept _ _).2 c (by simpa using hslot)
    exact (freed.stands _ _).2 ((stands_iff_mem slot (by simp [hk])).1 lifts)

/-! ### A watched LIFT that is not confirmed (R129) -/

theorem liftOutcome_missed {h : Head} {o : SlotOutcome} {s : State} (hwatch : s.exm.liftWatch.get h = true)
    (ho : o ≠ .confirmed) : liftOutcome h o s = liftMissed (s.exm.liftHolds.get h) (setWatch h false s) := by
  unfold liftOutcome
  rw [if_pos hwatch]
  cases o with
  | confirmed => exact absurd rfl ho
  | _ => rfl

theorem enterHeld_notices (why : HeldReason) (heldAt : Option Nat) (s : State) :
    (enterHeld why heldAt s).cli.notices = s.cli.notices := by
  unfold enterHeld
  dsimp only
  split <;> rfl

theorem enterHeld_keepsPending {why : HeldReason} {heldAt : Option Nat} {s : State} {k : Source}
    (h : s.cli.pending.has k = true) : (enterHeld why heldAt s).cli.pending.has k = true := by
  unfold enterHeld
  dsimp only
  split <;> exact raise_keepsPending _ h

theorem holdCause_links (why : HeldReason) (s : State) :
    (holdCause why s).cli.notices = s.cli.notices ∧
    ∀ k, s.cli.pending.has k = true → (holdCause why s).cli.pending.has k = true := by
  unfold holdCause
  split
  · exact ⟨enterHeld_notices _ _ _, fun _ hk => enterHeld_keepsPending hk⟩
  · exact ⟨rfl, fun _ hk => hk⟩

/-- The notice of a LIFT missed, and the hold of the test that it was asked for in (R129). -/
theorem liftMissed_outcome {holds : Bool} {s t : State} (freed : FreedFrom (liftMissed holds s) t) :
    t.exm = s.exm ∧ t.cli.notices.liftUnconfirmed = true ∧ t.cli.pending.notice = true ∧
    (s.tsq.state = .running → holds = true → s.drl.state = .running →
      t.tsq.state = .held ∧ t.tsq.heldReason = some .liftUnconfirmed ∧ t.drl.state = .holding ∧
      t.cli.pending.held = true) ∧
    (s.tsq.state ≠ .running ∨ holds = false → t.tsq = s.tsq) := by
  have noticed : (addNotice .liftUnconfirmed s).cli.notices.liftUnconfirmed = true := rfl
  have pending : (addNotice .liftUnconfirmed s).cli.pending.has .notice = true := rfl
  obtain ⟨hnotices, hpending⟩ := holdCause_links .liftUnconfirmed (addNotice .liftUnconfirmed s)
  cases holds with
  | false =>
    have stays : liftMissed false s = addNotice .liftUnconfirmed s := rfl
    rw [stays] at freed
    exact ⟨freed.exm, by rw [freed.notices, noticed], freed.pending _ pending, nofun, fun _ => freed.tsq⟩
  | true =>
    have held : liftMissed true s = holdCause .liftUnconfirmed (addNotice .liftUnconfirmed s) := rfl
    rw [held] at freed
    refine ⟨freed.exm.trans (by simp), by rw [freed.notices, hnotices, noticed], freed.pending _ (hpending _ pending),
      fun hq _ hdrive => ?_, fun hno => ?_⟩
    · have now : holdCause .liftUnconfirmed (addNotice .liftUnconfirmed s) =
          heldNow .liftUnconfirmed none (addNotice .liftUnconfirmed s) := by
        rw [holdCause, if_pos (by simpa using hq)]
        exact enterHeld_eq_heldNow (s := addNotice .liftUnconfirmed s) (why := .liftUnconfirmed) (by decide) none
          (.inl hdrive)
      rw [now] at freed
      exact ⟨by rw [freed.tsq]; rfl, by rw [freed.tsq]; rfl, by rw [freed.drl]; rfl, freed.pending .held rfl⟩
    · rw [freed.tsq, holdCause, if_neg (by simpa using hno)]
      rfl

/-! ### What follows from an outcome that is not CONFIRMED -/

/-- A slot command that ends UNCONFIRMED or FAILED, from the state in which its outcome is handed on. -/
theorem freeCommand_missedIn {c : SlotCommand} {o : SlotOutcome} {s : State} (hslot : s.glc.slot = some c)
    (ho : o ≠ .confirmed) : c.missedIn o s (freeCommand c o s) := by
  have freed := freeCommand_freedFrom c o s
  generalize freeCommand c o s = t at *
  have slot : (outcomeNoted c o s).glc.slot = some c := hslot
  refine ⟨fun ⟨hk, hasked, hq⟩ => ?_, fun hk hno => ?_, fun hk => ?_, fun hk hunconfirmed hclamping => ?_,
    fun hk hwatch _ => ?_⟩
  · rw [hk] at freed
    have fails : zeroOutcome c.head o (outcomeNoted c o s) = failStart .zeroUnconfirmed (outcomeNoted c o s) :=
      zeroOutcome_awaited hasked hq ho
    rw [takeOutcome, fails] at freed
    exact failStart_ofZero freed
  · rw [hk] at freed
    have stays : zeroOutcome c.head o (outcomeNoted c o s) = outcomeNoted c o s :=
      zeroOutcome_other fun h => hno ⟨hk, h⟩
    rw [takeOutcome, stays] at freed
    exact freed.tsq
  · rw [hk] at freed
    exact freed.tsq.trans (clampOutcome_tsq _ _ _)
  · rw [hk, hunconfirmed] at freed
    rw [hunconfirmed] at slot
    exact clampOutcome_back (s := outcomeNoted c .unconfirmed s) slot hk hclamping freed
  · rw [hk] at freed
    have missed : liftOutcome c.head o (outcomeNoted c o s) =
        liftMissed (s.exm.liftHolds.get c.head) (setWatch c.head false (outcomeNoted c o s)) :=
      liftOutcome_missed hwatch ho
    rw [takeOutcome, missed] at freed
    obtain ⟨hexm, hnotice, hpending, hholds, hstays⟩ := liftMissed_outcome freed
    exact ⟨by rw [hexm]; exact perHead_get_set _ _ _, hnotice, hpending, hholds, hstays⟩

end Sys2Proof.Proofs
end

section
/-! The completions and commands that end a slot command (O16): what comes before the outcome is handed on leaves what the
outcome turns on, so that the outcome follows in the state before the completion as well (R93, R103, R105, R115). -/

namespace Sys2Proof.Proofs

open Sys2Proof.Machine Sys2Proof.Laws

/-! ### What a completion leaves before the outcome -/

/-- From `s` to `u` nothing has changed on which the outcome of a command for the head `h` turns: the test, the ZERO
asked for, the command in the slot, the heads that neither measure nor lift, and the watched LIFT of a head that does
not measure. -/
structure Undisturbed (h : Head) (s u : State) : Prop where
  tsq : u.tsq = s.tsq
  drl : u.drl = s.drl
  zeroAsked : u.exm.zeroAsked = s.exm.zeroAsked
  slot : ∀ c, s.glc.slot = some c → u.glc.slot = some c
  source : s.exm.source ≠ .extensometer → u.exm.source ≠ .extensometer
  rests : ∀ k, (s.exm.heads.get k).state ≠ .measuring → (s.exm.heads.get k).state ≠ .lifting →
    (u.exm.heads.get k).state = (s.exm.heads.get k).state
  watch : (s.exm.heads.get h).state ≠ .measuring → (u.exm.heads.get h).state ≠ .measuring ∧
    u.exm.liftWatch = s.exm.liftWatch ∧ u.exm.liftHolds = s.exm.liftHolds

theorem Undisturbed.refl (h : Head) (s : State) : Undisturbed h s s :=
  ⟨rfl, rfl, rfl, fun _ hc => hc, fun hs => hs, fun _ _ _ => rfl, fun hm => ⟨hm, rfl, rfl⟩⟩

theorem Undisturbed.trans {h : Head} {s u w : State} (a : Undisturbed h s u) (b : Undisturbed h u w) :
    Undisturbed h s w where
  tsq := b.tsq.trans a.tsq
  drl := b.drl.trans a.drl
  zeroAsked := b.zeroAsked.trans a.zeroAsked
  slot c hc := b.slot c (a.slot c hc)
  source hs := b.source (a.source hs)
  rests k hm hl := by
    have same := a.rests k hm hl
    rw [b.rests k (by rwa [same]) (by rwa [same]), same]
  watch hm := by
    obtain ⟨hu, watched, holds⟩ := a.watch hm
    obtain ⟨hw, watched', holds'⟩ := b.watch hu
    exact ⟨hw, watched'.trans watched, holds'.trans holds⟩

theorem onGlc_undisturbed (h : Head) {f : Glc → Glc} {s : State} (hslot : (f s.glc).slot = s.glc.slot) :
    Undisturbed h s (s.onGlc f) :=
  ⟨rfl, rfl, rfl, fun _ hc => hslot.trans hc, fun hs => hs, fun _ _ _ => rfl, fun hm => ⟨hm, rfl, rfl⟩⟩

theorem onHead_undisturbed (h k : Head) {f : HeadEntry → HeadEntry} (hf : ∀ e, (f e).state = e.state) (s : State) :
    Undisturbed h s (onHead k f s) := by
  have states : ∀ j, ((onHead k f s).exm.heads.get j).state = (s.exm.heads.get j).state := fun j => by
    by_cases hj : j = k
    · subst hj; rw [onHead_get, hf]
    · rw [onHead_get_other hj]
  exact ⟨rfl, rfl, rfl, fun _ hc => hc, fun hs => hs, fun j _ _ => states j, fun hm => ⟨by rwa [states], rfl, rfl⟩⟩

/-! ### The failure condition of a head (R115, R121) -/

@[simp] theorem handover_zeroAsked (k : Trigger) (s : State) : (handover k s).exm.zeroAsked = s.exm.zeroAsked := by
  have asks : ∀ p h u, (askLiftIf p h u).exm.zeroAsked = u.exm.zeroAsked := fun p h u => by
    unfold askLiftIf
    split <;> rfl
  simp [handover, asks]

/-- A head that stops measuring or lifting leaves undisturbed what the outcomes turn on, though its loss may force the
handover (R121). -/
theorem headGoes_lost_undisturbed {h : Head} {s : State}
    (hstate : (s.exm.heads.get h).state = .measuring ∨ (s.exm.heads.get h).state = .lifting) :
    Undisturbed h s (headGoes h .lost s) := by
  have exm := setHeadState_exm h .lost s
  have rests : ∀ k, (s.exm.heads.get k).state ≠ .measuring → (s.exm.heads.get k).state ≠ .lifting →
      ((setHeadState h .lost s).exm.heads.get k).state = (s.exm.heads.get k).state := fun k hm hl => by
    by_cases hk : k = h
    · subst hk; exact absurd hstate (not_or.2 ⟨hm, hl⟩)
    · rw [setHeadState_other hk]
  rcases hstate with hstate | hstate
  · have checked : headGoes h .lost s = forcedHandoverCheck .measuring (setHeadState h .lost s) := by
      simp [headGoes, headLeftCheck, hstate]
    have kept := handover_linkKept .headLost (setHeadState h .lost s)
    rw [checked, forcedHandoverCheck]
    split
    · exact ⟨by simp, by simp, by rw [handover_zeroAsked, exm], fun c hc => kept.2 c (by simpa using hc),
        fun _ => by simp [handover_strain], fun k hm hl => by
          simpa using rests k hm hl, fun hm => absurd hstate hm⟩
    · exact ⟨by simp, by simp, by rw [exm], fun c hc => by simpa using hc, fun hs => by rw [exm]; exact hs, rests,
        fun hm => absurd hstate hm⟩
  · rw [headGoes_quiet (by simp [hstate]) (.inr (by simp [hstate]))]
    exact ⟨by simp, by simp, by rw [exm], fun c hc => by simpa using hc, fun hs => by rw [exm]; exact hs, rests,
      fun _ => ⟨by simp, by rw [exm], by rw [exm]⟩⟩

theorem failureCondition_undisturbed (h : Head) (s : State) : Undisturbed h s (failureCondition h s) := by
  have noticed : Undisturbed h s (addNotice .headLost s) :=
    ⟨rfl, rfl, rfl, fun _ hc => hc, fun hs => hs, fun _ _ _ => rfl, fun hm => ⟨hm, rfl, rfl⟩⟩
  unfold failureCondition
  dsimp only
  split
  · next hstate => exact noticed.trans (headGoes_lost_undisturbed hstate)
  · exact .refl h s

/-! ### The outcome in the state before -/

theorem awaitsZero_of_undisturbed {h : Head} {s u : State} (a : Undisturbed h s u) (c : SlotCommand) :
    u.awaitsZero c ↔ s.awaitsZero c := by simp [State.awaitsZero, a.tsq, a.zeroAsked]

theorem missedIn_of_undisturbed {c : SlotCommand} {o : SlotOutcome} {s u t : State} (a : Undisturbed c.head s u)
    (missed : c.missedIn o u t) : c.missedIn o s t := by
  obtain ⟨hzero, hother, hclamp, hback, hlift⟩ := missed
  have awaits := awaitsZero_of_undisturbed a c
  refine ⟨fun h => hzero (awaits.2 h), fun hk h => ?_, fun hk => ?_, fun hk ho hstate => ?_, fun hk hw hm => ?_⟩
  · rw [hother hk (mt awaits.1 h), a.tsq]
  · rw [hclamp hk, a.tsq]
  · obtain ⟨present, pending, lifts⟩ := hback hk ho (by rw [a.rests _ (by simp [hstate]) (by simp [hstate]), hstate])
    exact ⟨present, pending, fun st hst harms hs => lifts st hst harms (a.source hs)⟩
  · obtain ⟨hu, watched, holds⟩ := a.watch hm
    have := hlift hk (by rwa [watched]) hu
    rwa [a.tsq, a.drl, holds] at this

/-! ### Confirmation time and failure condition by a command (R102, R103) -/

theorem exec_confirmationTimeout {s : State} {c : SlotCommand} (hin : s.inReset = false) (hslot : s.glc.slot = some c)
    (hphase : c.phase = .confirming) : exec .confirmationTimeout s = .next (freeCommand c .unconfirmed s) := by
  have runs : exec .confirmationTimeout s = .next (confirmationOut s) := live_running confirmationOut s hin
  rw [runs]
  simp [confirmationOut, Glc.confirmingNow, hslot, hphase]

/-- The state in which a command that is being confirmed is freed after its head's failure condition. -/
def afterFailureCondition (h : Head) (s : State) : State :=
  failureCondition h (s.onGlc fun g => { g with heads := g.heads.modify h fun x => { x with consecutive := 0 } })

theorem afterFailureCondition_undisturbed (h : Head) (s : State) : Undisturbed h s (afterFailureCondition h s) :=
  .trans (onGlc_undisturbed h rfl) (failureCondition_undisturbed h _)

theorem headFails_confirming {h : Head} {c : SlotCommand} {s : State}
    (hc : (afterFailureCondition h s).glc.confirmingFor h = some c) :
    headFails h s = freeCommand c .unconfirmed (afterFailureCondition h s) := by
  unfold afterFailureCondition at hc ⊢
  simp only [headFails, hc]

theorem exec_headFailureCondition {s : State} {c : SlotCommand} (hin : s.inReset = false)
    (hslot : s.glc.slot = some c) (hphase : c.phase = .confirming) :
    exec (.headFailureCondition c.head) s = .next (freeCommand c .unconfirmed (afterFailureCondition c.head s)) := by
  have runs : exec (.headFailureCondition c.head) s = .next (headFails c.head s) := live_running _ s hin
  have slot : (afterFailureCondition c.head s).glc.slot = some c :=
    (afterFailureCondition_undisturbed c.head s).slot c hslot
  rw [runs, headFails_confirming (c := c) (by simp [Glc.confirmingFor, slot, hphase])]

theorem takeOutcome_exm {c : SlotCommand} {s : State} (hzero : ¬ s.awaitsZero c) (hlift : c.kind ≠ .lift)
    (hclamp : c.kind ≠ .clamp ∨ (s.exm.heads.get c.head).state ≠ .clamping) :
    (takeOutcome c.head c.kind .unconfirmed s).exm = s.exm := by
  unfold takeOutcome
  split
  · next hk => rw [clampOutcome_other fun h => (hclamp.resolve_left (not_not.2 hk)) h.2]
  · next hk => exact absurd hk hlift
  · next hk => rw [zeroOutcome_other fun h => hzero ⟨hk, h⟩]
  · rfl

/-- The confirmation time runs out, or the head's failure condition comes, while a command is being confirmed. -/
theorem confirming_isFreed {s : State} {c : SlotCommand} (hin : s.inReset = false) (hslot : s.glc.slot = some c)
    (hphase : c.phase = .confirming) :
    (∃ t, exec .confirmationTimeout s = .next t ∧ c.freedIn .unconfirmed t ∧ c.missedIn .unconfirmed s t ∧
      (¬ s.awaitsZero c → c.kind ≠ .lift → c.kind ≠ .clamp ∨ (s.exm.heads.get c.head).state ≠ .clamping →
        t.exm = s.exm)) ∧
    (∃ t, exec (.headFailureCondition c.head) s = .next t ∧ c.freedIn .unconfirmed t ∧
      c.missedIn .unconfirmed s t) := by
  have kept := afterFailureCondition_undisturbed c.head s
  refine ⟨⟨_, exec_confirmationTimeout hin hslot hphase, freeCommand_freedIn _ _ _,
      freeCommand_missedIn hslot (by decide), fun hzero hlift hclamp => ?_⟩,
    ⟨_, exec_headFailureCondition hin hslot hphase, freeCommand_freedIn _ _ _,
      missedIn_of_undisturbed kept (freeCommand_missedIn (kept.slot c hslot) (by decide))⟩⟩
  rw [(freeCommand_freedFrom _ _ _).exm]
  exact takeOutcome_exm (s := outcomeNoted c .unconfirmed s) hzero hlift hclamp

end Sys2Proof.Proofs
end

section
/-! The end of a transaction and the command in the slot (O16): the completion cut at the slot's turn, and what a
failure leaves before the outcome of the command is handed on (R91 to R93, R102, R103, R105). -/

namespace Sys2Proof.Proofs

open Sys2Proof.Machine Sys2Proof.Laws

/-! ### The completion, cut at the slot (R93) -/

/-- The end of the transaction `x` signals its head's failure condition (R105). -/
def signalledBy (x : Transaction) (r : TxResult) (s : State) : Bool := (s.glc.heads.get x.head).signals r

/-- The state of a completion when its result has been taken. -/
def resultTaken (x : Transaction) (r : TxResult) (s : State) : State :=
  takeResult x r (s.onGlc fun g => { g with current := none, heads := g.heads.modify x.head (GlcHead.after r) })

/-- The state of a completion when the slot's turn comes. -/
def beforeSlot (x : Transaction) (r : TxResult) (s : State) : State :=
  if signalledBy x r s then failureCondition x.head (resultTaken x r s) else resultTaken x r s

/-- What a completion does after the slot: the counters of the link. -/
def endCounted (x : Transaction) (r : TxResult) (s : State) : State :=
  s.onGlc fun g => { g with counters := g.counters.after r, lastFromSlot := x.source = .slot }

theorem completeTransaction_eq (x : Transaction) (r : TxResult) (s : State) :
    completeTransaction x r s = endCounted x r (slotCompletion x r (signalledBy x r s) (beforeSlot x r s)) := rfl

theorem endCounted_freedIn {c : SlotCommand} {o : SlotOutcome} {t : State} (x : Transaction) (r : TxResult)
    (h : c.freedIn o t) : c.freedIn o (endCounted x r t) := h

theorem endCounted_missedIn {c : SlotCommand} {o : SlotOutcome} {s t : State} (x : Transaction) (r : TxResult)
    (h : c.missedIn o s t) : c.missedIn o s (endCounted x r t) := h

theorem slotCompletion_ownFailure {x : Transaction} {why : FailureKind} {b : Bool} {c : SlotCommand} {u : State}
    (hslot : u.glc.slot = some c) (hphase : c.phase = .onLink) (hsource : x.source = .slot) :
    slotCompletion x (.failure why) b u = freeCommand c .failed u := by
  simp [slotCompletion, hslot, hphase, hsource, slotTransactionEnd]

theorem slotCompletion_signalled {x : Transaction} {r : TxResult} {c : SlotCommand} {u : State}
    (hslot : u.glc.slot = some c) (hphase : c.phase = .confirming) (hhead : x.head = c.head) :
    slotCompletion x r true u = freeCommand c .unconfirmed u := by
  simp [slotCompletion, hslot, hphase, hhead]

theorem slotCompletion_confirmed {x : Transaction} {r : TxResult} {c : SlotCommand} {u : State} {st : HeadStatus}
    (hslot : u.glc.slot = some c) (hphase : c.phase = .confirming) (hhead : x.head = c.head)
    (hstatus : r.status = some st) (hconfirms : confirms c.kind st = true) :
    slotCompletion x r false u = freeCommand c .confirmed u := by
  simp [slotCompletion, hslot, hphase, hhead, hstatus, hconfirms]

/-! ### A transaction that fails -/

theorem exec_gaugeTransactionEnd {s : State} {x : Transaction} {bs : List Byte} (hin : s.inReset = false)
    (hx : s.glc.current = some x) (hlength : bs.length = x.op.messageLength) :
    exec (.gaugeTransactionEnd bs) s = .next (completeTransaction x (acceptReply x.head x.op bs) s) := by
  have runs : exec (.gaugeTransactionEnd bs) s = .next (replyEnd bs s) := live_running (replyEnd bs) s hin
  rw [runs]
  simp [replyEnd, hx, ← hlength]

/-- A budget that runs out, and a complete reply that carries nothing, end the transaction in a failure (R91, R92). -/
theorem exec_failsBy {s : State} {x : Transaction} {k : Instr} (hin : s.inReset = false)
    (hx : s.glc.current = some x) (hk : x.failsBy k) :
    ∃ why, exec k s = .next (completeTransaction x (.failure why) s) := by
  rcases hk with ⟨began, rfl⟩ | ⟨bs, rfl, hlength, hnone⟩
  · have runs : exec (.gaugeReplyTimeout began) s = .next (replyTimeout began s) := live_running _ s hin
    exact ⟨timeoutKind began, by rw [runs]; simp [replyTimeout, hx]⟩
  · rw [exec_gaugeTransactionEnd hin hx (by rw [hlength, messageLength_eq])]
    cases haccept : acceptReply x.head x.op bs with
    | failure why => exact ⟨why, rfl⟩
    | success d =>
      obtain ⟨payload, hcarries, heq⟩ := acceptReply_success.1 haccept
      exact absurd heq (hnone payload d hcarries)

theorem signalledBy_failure {x : Transaction} {why : FailureKind} {s : State}
    (hlimit : (s.glc.heads.get x.head).limit ≤ (s.glc.heads.get x.head).consecutive + 1) :
    signalledBy x (.failure why) s = true := by simp [signalledBy, GlcHead.signals, hlimit]

/-- A failed transaction counts as one, and a READ's loses the value, unless it is the third failed POLL (R112). -/
theorem takeResult_failure_undisturbed (h : Head) {x : Transaction} (why : FailureKind) {s : State}
    (hquiet : x.op ≠ .poll ∨ (s.exm.heads.get x.head).failedPolls + 1 < 3) :
    Undisturbed h s (takeResult x (.failure why) s) := by
  unfold takeResult
  split
  · cases hop : x.op with
    | poll =>
      have few : ¬ 3 ≤ (s.exm.heads.get x.head).failedPolls + 1 := Nat.not_le.2 (hquiet.resolve_left (not_not.2 hop))
      simp only [pollFailed, if_neg few]
      split
      · exact onHead_undisturbed h x.head (by intro _; rfl) s
      · exact .refl h s
    | read => exact onHead_undisturbed h x.head (by intro _; rfl) s
    | command k => exact .refl h s
    | identify => exact .refl h s
  · exact .refl h s

theorem beforeSlot_undisturbed {x : Transaction} (why : FailureKind) {s : State}
    (hquiet : x.op ≠ .poll ∨ (s.exm.heads.get x.head).failedPolls + 1 < 3) :
    Undisturbed x.head s (beforeSlot x (.failure why) s) := by
  have taken : Undisturbed x.head s (resultTaken x (.failure why) s) :=
    .trans (onGlc_undisturbed x.head rfl) (takeResult_failure_undisturbed x.head why hquiet)
  unfold beforeSlot
  split
  · exact taken.trans (failureCondition_undisturbed x.head _)
  · exact taken

/-- The outcome FAILED changes no head's entry unless the present start waits for it. -/
theorem takeOutcome_failed_heads {c : SlotCommand} {s : State} (hzero : ¬ s.awaitsZero c) :
    (takeOutcome c.head c.kind .failed s).exm.heads = s.exm.heads := by
  unfold takeOutcome
  split
  · rw [clampOutcome_other (by simp)]
  · simp
  · next hk => rw [zeroOutcome_other fun h => hzero ⟨hk, h⟩]
  · rfl

/-- The slot command's own transaction fails (R102). -/
theorem ownFailure_isFreed {s : State} {c : SlotCommand} {x : Transaction} {k : Instr} (hin : s.inReset = false)
    (hslot : s.glc.slot = some c) (hx : s.glc.current = some x) (hk : x.failsBy k) (hhead : x.head = c.head)
    (hphase : c.phase = .onLink) (hsource : x.source = .slot) (hop : x.op = .command c.kind) :
    ∃ t, exec k s = .next t ∧ c.freedIn .failed t ∧ c.missedIn .failed s t ∧
      (∀ h, ¬ s.awaitsZero c → (s.exm.heads.get h).state ≠ .measuring → (s.exm.heads.get h).state ≠ .lifting →
        (t.exm.heads.get h).state = (s.exm.heads.get h).state) := by
  obtain ⟨why, runs⟩ := exec_failsBy hin hx hk
  have kept := beforeSlot_undisturbed why (s := s) (.inl (by rw [hop]; exact nofun))
  rw [hhead] at kept
  rw [completeTransaction_eq, slotCompletion_ownFailure (kept.slot c hslot) hphase hsource] at runs
  refine ⟨_, runs, endCounted_freedIn _ _ (freeCommand_freedIn _ _ _), endCounted_missedIn _ _
    (missedIn_of_undisturbed kept (freeCommand_missedIn (kept.slot c hslot) (by decide))), fun h hzero hm hl => ?_⟩
  have entries : (freeCommand c .failed (beforeSlot x (.failure why) s)).exm.heads =
      (beforeSlot x (.failure why) s).exm.heads := by
    rw [(freeCommand_freedFrom _ _ _).exm]
    exact takeOutcome_failed_heads (mt (awaitsZero_of_undisturbed kept c).1 hzero)
  rw [← kept.rests h hm hl, ← entries]
  rfl

/-- A failed transaction of its head signals the failure condition while a command is being confirmed (R103). -/
theorem signalled_isFreed {s : State} {c : SlotCommand} {x : Transaction} {k : Instr} (hin : s.inReset = false)
    (hslot : s.glc.slot = some c) (hx : s.glc.current = some x) (hk : x.failsBy k) (hhead : x.head = c.head)
    (hphase : c.phase = .confirming)
    (hlimit : (s.glc.heads.get x.head).limit ≤ (s.glc.heads.get x.head).consecutive + 1)
    (hquiet : x.op ≠ .poll ∨ (s.exm.heads.get x.head).failedPolls + 1 < 3) :
    ∃ t, exec k s = .next t ∧ c.freedIn .unconfirmed t ∧ c.missedIn .unconfirmed s t := by
  obtain ⟨why, runs⟩ := exec_failsBy hin hx hk
  have kept := beforeSlot_undisturbed why hquiet
  rw [hhead] at kept
  rw [completeTransaction_eq, signalledBy_failure hlimit,
    slotCompletion_signalled (kept.slot c hslot) hphase hhead] at runs
  exact ⟨_, runs, endCounted_freedIn _ _ (freeCommand_freedIn _ _ _), endCounted_missedIn _ _
    (missedIn_of_undisturbed kept (freeCommand_missedIn (kept.slot c hslot) (by decide)))⟩

end Sys2Proof.Proofs
end

section
/-! The head that a third failed POLL loses while its command is being confirmed (O16; R25, R103, R112). -/

namespace Sys2Proof.Proofs

open Sys2Proof.Machine Sys2Proof.Laws

/-! ### A head ABSENT stays so through the end of a test and the outcome of its command -/

theorem headTestEnd_absent {h : Head} (k : Head) {s : State} (habsent : (s.exm.heads.get h).state = .absent) :
    ((headTestEnd k s).exm.heads.get h).state = .absent := by
  unfold headTestEnd
  split
  · next hmeasuring =>
    rwa [setHeadState_other fun hk => ?_]
    subst hk
    simp [habsent] at hmeasuring
  · exact habsent

theorem extTestEnd_absent {h : Head} {s : State} (habsent : (s.exm.heads.get h).state = .absent) :
    ((extTestEnd s).exm.heads.get h).state = .absent := by
  have ended := headTestEnd_absent .rear (headTestEnd_absent .front habsent)
  unfold extTestEnd
  dsimp only
  split <;> simpa using ended

theorem failStart_absent {h : Head} {s : State} (cause : StartCause) (habsent : (s.exm.heads.get h).state = .absent) :
    ((failStart cause s).exm.heads.get h).state = .absent := by
  simp only [failStart, enterEnded, raise_frame, storeMark_frame]
  exact extTestEnd_absent (by simpa using habsent)

theorem liftOutcome_heads (h : Head) (o : SlotOutcome) (s : State) :
    (liftOutcome h o s).exm.heads = s.exm.heads := by simp

theorem takeOutcome_absent {h : Head} (k : HeadCmd) {s : State} (habsent : (s.exm.heads.get h).state = .absent) :
    ((takeOutcome h k .unconfirmed s).exm.heads.get h).state = .absent := by
  unfold takeOutcome
  split
  · rwa [clampOutcome_other (by simp [habsent])]
  · rwa [liftOutcome_heads]
  · by_cases hawaited : s.exm.zeroAsked = some h ∧ s.tsq.state = .starting
    · rw [zeroOutcome_awaited hawaited.1 hawaited.2 (by decide)]
      exact failStart_absent _ habsent
    · rwa [zeroOutcome_other hawaited]
  · exact habsent

/-- The outcome of a command does not move a test that has ended. -/
theorem takeOutcome_ended {h : Head} {k : HeadCmd} {o : SlotOutcome} {s : State} (hq : s.tsq.state = .ended) :
    (takeOutcome h k o s).tsq = s.tsq := by
  have missed : ∀ holds (u : State), u.tsq = s.tsq → (liftMissed holds u).tsq = s.tsq := fun holds u hu => by
    simp [liftMissed, holdCause, hu, hq]
  unfold takeOutcome
  split
  · exact clampOutcome_tsq h o s
  · unfold liftOutcome
    dsimp only
    split
    · split
      · rfl
      · exact missed _ _ rfl
      · exact missed _ _ rfl
    · rfl
  · rw [zeroOutcome_other (by simp [hq])]
  · rfl

/-! ### The third failed POLL (R112, R25) -/

/-- What the loss of a head by its POLLs leaves while its command is being confirmed. -/
structure PollsLost (h : Head) (c : SlotCommand) (s u : State) : Prop where
  slot : u.glc.slot = some c
  absent : (u.exm.heads.get h).state = .absent
  ends : s.tsq.state = .starting → (s.exm.heads.get h).testHead = true → (s.exm.heads.get h).state = .clamped →
    u.tsq.state = .ended ∧ u.tsq.endReason = some .startFailed ∧ u.tsq.startCause = some .headLeft

theorem headGoes_absent_pollsLost {h : Head} {c : SlotCommand} {s : State} (hslot : s.glc.slot = some c)
    (hmeasuring : (s.exm.heads.get h).state ≠ .measuring) : PollsLost h c s (headGoes h .absent s) := by
  have kept := (headGoes_linkKept h .absent s).2 c hslot
  have checked : headGoes h .absent s =
      headLeftCheck h (s.exm.heads.get h).state (setHeadState h .absent s) := by
    simp [headGoes, forcedHandoverCheck, hmeasuring]
  rw [checked] at kept ⊢
  unfold headLeftCheck at kept ⊢
  split
  · next hleft =>
    rw [if_pos hleft] at kept
    have ended := enterEnded_tsq .startFailed (some .headLeft) (setHeadState h .absent s)
    refine ⟨kept, failStart_absent _ (setHeadState_state _ _ _), fun _ _ _ => ?_⟩
    rw [failStart, ended]
    exact ⟨rfl, rfl, rfl⟩
  · next hstays =>
    rw [if_neg hstays] at kept
    exact ⟨kept, setHeadState_state _ _ _, fun hq htest hclamped => absurd (by simp [hq, htest, hclamped]) hstays⟩

theorem takeResult_pollsLost {x : Transaction} {c : SlotCommand} (why : FailureKind) {s : State}
    (hslot : s.glc.slot = some c) (hop : x.op = .poll) (hthird : 3 ≤ (s.exm.heads.get x.head).failedPolls + 1)
    (hconfigured : (s.exm.heads.get x.head).configured = true)
    (hstate : (s.exm.heads.get x.head).state = .present ∨ (s.exm.heads.get x.head).state = .clamping ∨
      (s.exm.heads.get x.head).state = .clamped) : PollsLost x.head c s (takeResult x (.failure why) s) := by
  have counts : (s.exm.heads.get x.head).state.countsPolls = true := by
    rcases hstate with h | h | h <;> rw [h] <;> rfl
  have measuring : (s.exm.heads.get x.head).state ≠ .measuring := by
    rcases hstate with h | h | h <;> simp [h]
  have lost : takeResult x (.failure why) s = pollsLost x.head s := by
    simp only [takeResult, hconfigured, hop, pollFailed, counts, hthird, if_true]
  rw [lost, pollsLost]
  obtain ⟨slot, absent, ends⟩ := headGoes_absent_pollsLost (h := x.head) (c := c) (s := onHead x.head (fun e =>
    { e with identity := none, latest := none, zeroed := false, failedPolls := 0 }) s) hslot (by simpa using measuring)
  exact ⟨slot, absent, by simpa using ends⟩

theorem failureCondition_absent {h : Head} {s : State} (habsent : (s.exm.heads.get h).state = .absent) :
    failureCondition h s = s := by simp [failureCondition, habsent]

/-- A head that a third failed POLL loses, in the transaction that signals its failure condition: the command being
confirmed for it is freed, and a start that it was clamped for has ended. -/
theorem pollsLost_isFreed {s : State} {c : SlotCommand} {x : Transaction} {k : Instr} (hin : s.inReset = false)
    (hslot : s.glc.slot = some c) (hx : s.glc.current = some x) (hk : x.failsBy k) (hhead : x.head = c.head)
    (hphase : c.phase = .confirming)
    (hlimit : (s.glc.heads.get x.head).limit ≤ (s.glc.heads.get x.head).consecutive + 1) (hop : x.op = .poll)
    (hthird : 3 ≤ (s.exm.heads.get x.head).failedPolls + 1)
    (hconfigured : (s.exm.heads.get x.head).configured = true)
    (hstate : (s.exm.heads.get x.head).state = .present ∨ (s.exm.heads.get x.head).state = .clamping ∨
      (s.exm.heads.get x.head).state = .clamped) :
    ∃ t, exec k s = .next t ∧ c.freedIn .unconfirmed t ∧ (t.exm.heads.get x.head).state = .absent ∧
      (s.tsq.state = .starting → (s.exm.heads.get x.head).testHead = true →
        (s.exm.heads.get x.head).state = .clamped →
        t.tsq.state = .ended ∧ t.tsq.endReason = some .startFailed ∧ t.tsq.startCause = some .headLeft) := by
  obtain ⟨why, runs⟩ := exec_failsBy hin hx hk
  have lost : PollsLost x.head c s (resultTaken x (.failure why) s) :=
    have ⟨slot, absent, ends⟩ := takeResult_pollsLost why (s := s.onGlc fun g =>
      { g with current := none, heads := g.heads.modify x.head (GlcHead.after (.failure why)) })
      hslot hop hthird hconfigured hstate
    ⟨slot, absent, ends⟩
  have signalled := signalledBy_failure (why := why) hlimit
  have before : beforeSlot x (.failure why) s = resultTaken x (.failure why) s := by
    rw [beforeSlot, if_pos signalled, failureCondition_absent lost.absent]
  rw [completeTransaction_eq, signalled, before, slotCompletion_signalled lost.slot hphase hhead] at runs
  have freed := freeCommand_freedFrom c .unconfirmed (resultTaken x (.failure why) s)
  refine ⟨_, runs, endCounted_freedIn _ _ (freeCommand_freedIn _ _ _), ?_, fun hq htest hclamped => ?_⟩
  · show ((freeCommand c .unconfirmed _).exm.heads.get x.head).state = .absent
    rw [freed.exm, hhead]
    exact takeOutcome_absent c.kind (s := outcomeNoted c .unconfirmed _) (hhead ▸ lost.absent)
  · have ended := lost.ends hq htest hclamped
    have keeps : (freeCommand c .unconfirmed (resultTaken x (.failure why) s)).tsq =
        (resultTaken x (.failure why) s).tsq := by
      rw [freed.tsq]
      exact takeOutcome_ended (s := outcomeNoted c .unconfirmed _) ended.1
    show (freeCommand c .unconfirmed _).tsq.state = _ ∧ (freeCommand c .unconfirmed _).tsq.endReason = _ ∧
      (freeCommand c .unconfirmed _).tsq.startCause = _
    rwa [keeps]

end Sys2Proof.Proofs
end

section
/-! The status that confirms the ZERO of a start, and the outcomes of slot commands as they are taken (O16; R23, R102,
R103, R112, R117). -/

namespace Sys2Proof.Proofs

open Sys2Proof.Machine Sys2Proof.Laws

/-! ### What a status leaves before the slot's turn -/

/-- From `s` to `u` nothing has changed on which the next step of a start turns when its ZERO is confirmed. -/
structure StartKept (s u : State) : Prop where
  tsq : u.tsq = s.tsq
  zeroAsked : u.exm.zeroAsked = s.exm.zeroAsked
  slot : ∀ c, s.glc.slot = some c → u.glc.slot = some c
  testHead : ∀ k, (u.exm.heads.get k).testHead = (s.exm.heads.get k).testHead

theorem StartKept.refl (s : State) : StartKept s s := ⟨rfl, rfl, fun _ hc => hc, fun _ => rfl⟩

theorem StartKept.trans {s u w : State} (a : StartKept s u) (b : StartKept u w) : StartKept s w :=
  ⟨b.tsq.trans a.tsq, b.zeroAsked.trans a.zeroAsked, fun c hc => b.slot c (a.slot c hc),
    fun k => (b.testHead k).trans (a.testHead k)⟩

theorem onHead_startKept (h : Head) {f : HeadEntry → HeadEntry} (hf : ∀ e, (f e).testHead = e.testHead) (s : State) :
    StartKept s (onHead h f s) := by
  refine ⟨rfl, rfl, fun _ hc => hc, fun k => ?_⟩
  by_cases hk : k = h
  · subst hk; rw [onHead_get, hf]
  · rw [onHead_get_other hk]

theorem setHeadState_startKept (h : Head) (st : HeadState) (s : State) : StartKept s (setHeadState h st s) :=
  ⟨by simp, by rw [setHeadState_exm], fun _ hc => by simpa using hc, fun k => (setHeadState_entry h k st s).1⟩

theorem recoveryLift_startKept (h : Head) (s : State) : StartKept s (recoveryLift h s) :=
  ⟨by simp, by simp, (recoveryLift_linkKept h s).2, fun k => by simp⟩

theorem askIdentify_startKept (h : Head) (s : State) : StartKept s (askIdentify h s) := by
  unfold askIdentify
  dsimp only
  split
  · exact ⟨rfl, rfl, (ask_linkKept h .identify s.glc).2, fun _ => rfl⟩
  · exact .refl s

/-- A status moves no head that measures, and takes a clamped head from CLAMPED by lifted arms alone (R112 to R114). -/
theorem statusTarget_some {st : HeadStatus} {before after : HeadState} (h : statusTarget st before = some after) :
    before ≠ .measuring ∧ (before = .clamped → st.arms = .lifted) := by
  constructor
  · rintro rfl
    cases h
  · rintro rfl
    by_contra hnot
    simp [statusTarget, hnot] at h

/-- A status that does not end the start by lifted arms leaves the start as it stands. -/
theorem takeStatus_startKept {h : Head} {st : HeadStatus} {s : State}
    (harms : st.arms ≠ .lifted ∨ (s.exm.heads.get h).testHead = false ∨ (s.exm.heads.get h).state ≠ .clamped) :
    StartKept s (takeStatus h st s) := by
  have noted := onHead_startKept h (f := fun e => { e with latest := some st, zeroed := st.zeroed, failedPolls := 0 })
    (fun _ => rfl) s
  unfold takeStatus
  dsimp only
  refine noted.trans (.trans ?_ (recoveryLift_startKept h _))
  split
  · next after htarget =>
    obtain ⟨measuring, lifted⟩ := statusTarget_some htarget
    rw [headGoes_quiet measuring]
    · exact setHeadState_startKept h after _
    · by_cases hclamped : (s.exm.heads.get h).state = .clamped
      · have arms := lifted (by simpa using hclamped)
        exact .inl (by simpa [arms, hclamped] using harms)
      · exact .inr (by simpa using hclamped)
  · exact .refl _

theorem takeResult_startKept {x : Transaction} {d : TxData} {st : HeadStatus} {s : State}
    (hd : d = .status st ∨ ∃ e, d = .extension e st)
    (harms : st.arms ≠ .lifted ∨ (s.exm.heads.get x.head).testHead = false ∨
      (s.exm.heads.get x.head).state ≠ .clamped) : StartKept s (takeResult x (.success d) s) := by
  unfold takeResult
  split
  · rcases hd with rfl | ⟨e, rfl⟩
    · have asked : (askIdentify x.head s).exm = s.exm := by simp
      exact (askIdentify_startKept x.head s).trans (takeStatus_startKept (by rwa [asked]))
    · exact (onHead_startKept x.head (by intro _; rfl) s).trans (takeStatus_startKept (by simpa using harms))
  · exact .refl s

/-! ### The ZERO of a start is confirmed (R23, R117) -/

/-- What a start goes on with when the ZERO it waits for is confirmed. -/
theorem zeroConfirmed_outcome {c : SlotCommand} {s t : State} (hslot : s.glc.slot = some c)
    (freed : FreedFrom (zeroConfirmed c.head s) t) :
    t.tsq.state = s.tsq.state ∧ (t.exm.heads.get c.head).zeroed = true ∧
    (c.head = .front ∧ s.exm.heads.rear.testHead = true →
      t.tsq = s.tsq ∧ t.exm.zeroAsked = some .rear ∧ t.glc.stands .rear .zero = true) ∧
    (¬ (c.head = .front ∧ s.exm.heads.rear.testHead = true) →
      t.tsq = { s.tsq with startStep := some .entry } ∧ t.exm.zeroAsked = none) := by
  obtain ⟨z, hz⟩ : ∃ z, z = onHead c.head (fun e => { e with zeroed := true }) s := ⟨_, rfl⟩
  have zeroed : (z.exm.heads.get c.head).zeroed = true := by rw [hz]; simp
  have slot : z.glc.slot = some c := by rw [hz]; exact hslot
  have tsq : z.tsq = s.tsq := by rw [hz]; rfl
  by_cases hnext : c.head = .front ∧ s.exm.heads.rear.testHead = true
  · have asks : zeroConfirmed c.head s = askZero .rear z := by
      unfold zeroConfirmed
      rw [hz, hnext.1]
      exact if_pos ⟨rfl, hnext.2⟩
    rw [asks] at freed
    have waits : ⟨.rear, .zero⟩ ∈ (askZero .rear z).glc.waiting :=
      (stands_iff_mem ((ask_linkKept .rear .zero z.glc).2 c slot) (by simp [hnext.1])).1 (askZero_stands .rear z)
    have kept : t.tsq = s.tsq := freed.tsq.trans tsq
    exact ⟨by rw [kept], by rw [freed.exm]; exact zeroed, fun _ => ⟨kept, by rw [freed.exm]; rfl,
      (freed.stands _ _).2 waits⟩, fun hno => absurd hnext hno⟩
  · have enters : zeroConfirmed c.head s = setStartStep .entry (z.onExm fun m => { m with zeroAsked := none }) := by
      unfold zeroConfirmed
      rw [hz]
      refine if_neg fun h => hnext ⟨h.1, ?_⟩
      rw [← h.2, h.1]
      rfl
    rw [enters] at freed
    have step : t.tsq = { s.tsq with startStep := some .entry } := by rw [freed.tsq, ← tsq]; rfl
    exact ⟨by rw [step], by rw [freed.exm]; exact zeroed, fun h => absurd h hnext,
      fun _ => ⟨step, by rw [freed.exm]; rfl⟩⟩

theorem carries_status {d : TxData} {st : HeadStatus} (hd : d = .status st ∨ ∃ e, d = .extension e st) :
    (TxResult.success d).status = some st := by
  rcases hd with rfl | ⟨e, rfl⟩ <;> rfl

/-- What follows in the test from a ZERO `c` that is confirmed (R23). -/
def ZeroTaken (c : SlotCommand) (s t : State) : Prop :=
  (¬ s.awaitsZero c → t.tsq = s.tsq) ∧
  (s.awaitsZero c → t.tsq.state = .starting ∧ (t.exm.heads.get c.head).zeroed = true) ∧
  (s.awaitsZero c → c.head = .front ∧ s.exm.heads.rear.testHead = true →
    t.tsq = s.tsq ∧ t.exm.zeroAsked = some .rear ∧ t.glc.stands .rear .zero = true) ∧
  (s.awaitsZero c → ¬ (c.head = .front ∧ s.exm.heads.rear.testHead = true) →
    t.tsq = { s.tsq with startStep := some .entry } ∧ t.exm.zeroAsked = none)

theorem freeCommand_zeroTaken {c : SlotCommand} {s u : State} (kept : StartKept s u) (hslot : s.glc.slot = some c)
    (hk : c.kind = .zero) : ZeroTaken c s (freeCommand c .confirmed u) := by
  have freed := freeCommand_freedFrom c .confirmed u
  rw [hk, takeOutcome] at freed
  have noted : StartKept s (outcomeNoted c .confirmed u) :=
    have ⟨tsq, zeroAsked, slot, testHead⟩ := kept
    ⟨tsq, zeroAsked, slot, testHead⟩
  generalize outcomeNoted c .confirmed u = v at freed noted
  by_cases hawaits : s.awaitsZero c
  · have awaited : v.exm.zeroAsked = some c.head ∧ v.tsq.state = .starting := by
      rw [noted.zeroAsked, noted.tsq]
      exact hawaits.2
    rw [zeroOutcome, if_pos awaited] at freed
    obtain ⟨hstate, hzeroed, hnext, hlast⟩ := zeroConfirmed_outcome (noted.slot c hslot) freed
    rw [show v.exm.heads.rear.testHead = s.exm.heads.rear.testHead from noted.testHead .rear, noted.tsq] at hnext hlast
    exact ⟨fun hno => absurd hawaits hno, fun _ => ⟨hstate.trans awaited.2, hzeroed⟩, fun _ => hnext, fun _ => hlast⟩
  · have other : zeroOutcome c.head .confirmed v = v := zeroOutcome_other fun h => by
      rw [noted.zeroAsked, noted.tsq] at h
      exact hawaits ⟨hk, h⟩
    rw [other] at freed
    exact ⟨fun _ => freed.tsq.trans noted.tsq, fun h => absurd h hawaits, fun h => absurd h hawaits,
      fun h => absurd h hawaits⟩

theorem resultTaken_startKept {x : Transaction} {d : TxData} {st : HeadStatus} {s : State}
    (hd : d = .status st ∨ ∃ e, d = .extension e st)
    (harms : st.arms ≠ .lifted ∨ (s.exm.heads.get x.head).testHead = false ∨
      (s.exm.heads.get x.head).state ≠ .clamped) : StartKept s (resultTaken x (.success d) s) :=
  have freed : StartKept s (s.onGlc fun g =>
      { g with current := none, heads := g.heads.modify x.head (GlcHead.after (.success d)) }) :=
    ⟨rfl, rfl, fun _ hc => hc, fun _ => rfl⟩
  freed.trans (takeResult_startKept hd harms)

/-- A status that shows the head zeroed confirms its ZERO, and a start that waits for it goes on (R102, R23). -/
theorem zero_isConfirmed {s : State} {c : SlotCommand} {x : Transaction} {payload : List Byte} {d : TxData}
    {st : HeadStatus} (hin : s.inReset = false) (hslot : s.glc.slot = some c) (hx : s.glc.current = some x)
    (hphase : c.phase = .confirming) (hk : c.kind = .zero) (hhead : x.head = c.head) (hcarries : x.op.carries payload d)
    (hd : d = .status st ∨ ∃ e, d = .extension e st) (hzeroed : st.zeroed = true)
    (harms : st.arms ≠ .lifted ∨ (s.exm.heads.get c.head).testHead = false ∨
      (s.exm.heads.get c.head).state ≠ .clamped) :
    ∃ t, exec (.gaugeTransactionEnd (x.op.reply x.head payload)) s = .next t ∧ c.freedIn .confirmed t ∧
      ZeroTaken c s t := by
  have runs := exec_gaugeTransactionEnd hin hx (reply_length (h := x.head) (carries_length hcarries))
  have quiet : signalledBy x (.success d) s = false := rfl
  have before : beforeSlot x (.success d) s = resultTaken x (.success d) s := rfl
  have kept := resultTaken_startKept hd (hhead ▸ harms : _ ∨ (s.exm.heads.get x.head).testHead = false ∨ _)
  rw [acceptReply_success.2 ⟨payload, hcarries, rfl⟩, completeTransaction_eq, quiet, before,
    slotCompletion_confirmed (kept.slot c hslot) hphase hhead (carries_status hd) (by rw [hk]; exact hzeroed)] at runs
  exact ⟨_, runs, endCounted_freedIn _ _ (freeCommand_freedIn _ _ _), freeCommand_zeroTaken kept hslot hk⟩

/-! ### O16 -/

/-- Settles O16: each completion or command leaves undisturbed what the outcome turns on, and then frees the command;
the outcome's meaning in the freed state carries over to the state before. -/
theorem slotOutcomesAreTaken : Obligations.SlotOutcomesAreTaken := by
  unfold Obligations.SlotOutcomesAreTaken
  refine ⟨fun s c hin hslot hphase => confirming_isFreed hin hslot hphase,
    fun s c x k hin hslot hx hk hhead => ⟨ownFailure_isFreed hin hslot hx hk hhead,
      signalled_isFreed hin hslot hx hk hhead, pollsLost_isFreed hin hslot hx hk hhead⟩,
    fun s c x payload d st hin hslot hx hphase hk hhead hcarries hd hzeroed harms =>
      zero_isConfirmed hin hslot hx hphase hk hhead hcarries hd hzeroed harms⟩

end Sys2Proof.Proofs
end

section
/-! The drive's requests (O20, O21, O22): Enable Drive and Disable Drive, Configure Frame, Move, Return and Stop Move
(R44, R46, R48, R57, R60, R61, R63, R76). -/

namespace Sys2Proof.Proofs

open Sys2Proof.Machine Sys2Proof.Laws

/-! ### The three answers of the drive -/

/-- A refused request leaves its reply alone. -/
theorem request_refuses {k tag : Byte} {d : State → Answer} {s : State} {x : Status} (hs : s.takesRequest)
    (h : d s.counted = refuse x s.counted) :
    live (takeRequest k tag d) s = .next (s.replied (replyKind k) tag [x.byte]) := by
  rw [request_runs k tag d s hs, h]
  rfl

/-- A request answered OK that changes nothing leaves its reply alone. -/
theorem request_stands {k tag : Byte} {d : State → Answer} {s : State} (hs : s.takesRequest)
    (h : d s.counted = answerOk s.counted) :
    live (takeRequest k tag d) s = .next (s.replied (replyKind k) tag [0x00]) := by
  rw [request_runs k tag d s hs, h]
  rfl

/-- A request whose decision changes the drive's record alone. -/
theorem request_drives {k tag : Byte} {d : State → Answer} {s : State} {x : Status} {d' : Drl}
    (hs : s.takesRequest) (h : d s.counted = ⟨x, [], { s.counted with drl := d' }⟩) :
    live (takeRequest k tag d) s = .next (({ s with drl := d' } : State).replied (replyKind k) tag [x.byte]) := by
  rw [request_runs k tag d s hs, h]
  rfl

/-- A request that takes no payload refuses any other. -/
theorem withEmpty_refuses {p : List Byte} (h : p ≠ []) (s : State) (a : Answer) :
    withEmpty p s a = refuse .badLength s := withEmpty_badLength (by simpa using h) s a

/-! ### Enable Drive and Disable Drive (R44, R46) -/

/-- Settles O20: each decision by the state of the drive, on the counted state. -/
theorem driveIsEnabledAndDisabled : Obligations.DriveIsEnabledAndDisabled := by
  refine ⟨fun s tag hs => ⟨fun hq hzero => ?_, fun hq hspeed => ?_, fun hq => ?_, fun hdis hen => ?_, fun p hp => ?_⟩,
    fun s tag hs => ⟨fun hin => ?_, fun hin hq => ?_, fun hin hq => ?_, fun hin hq => ?_, fun p hp => ?_⟩⟩
  · exact request_refuses (k := 0x40) (x := .notConfigured) hs (by simp [decideEnableDrive, withEmpty, hq, hzero])
  · exact ⟨_, rfl, by simp [State.driveEnable, State.replied, hs.1, DriveState.enabled],
      request_drives (k := 0x40) (x := .accepted) hs
        (by simp [decideEnableDrive, withEmpty, hq, hspeed, answerAccepted, State.onDrl, Drl.rest])⟩
  · exact request_refuses (k := 0x40) (x := .busy) hs (by simp [decideEnableDrive, withEmpty, hq])
  · refine request_refuses (k := 0x40) (x := .wrongState) hs ?_
    cases hq : s.drl.state with
    | disabled => exact absurd hq hdis
    | enabling => exact absurd hq hen
    | _ => simp [decideEnableDrive, withEmpty, hq]
  · exact request_refuses (k := 0x40) (x := .badLength) hs (withEmpty_refuses hp _ _)
  · exact request_refuses (k := 0x41) (x := .locked) hs (by simp [decideDisableDrive, withEmpty, hin])
  · exact request_stands (k := 0x41) hs (by simp [decideDisableDrive, withEmpty, hin, hq])
  · refine ⟨_, rfl, by simp [State.driveEnable, State.replied, DriveState.enabled],
      request_drives (k := 0x41) (x := .ok) hs ?_⟩
    rcases hq with hq | hq <;> simp [decideDisableDrive, withEmpty, hin, hq, answerOk, State.onDrl, Drl.rest]
  · refine request_refuses (k := 0x41) (x := .wrongState) hs ?_
    rcases hq with hq | hq | hq <;> simp [decideDisableDrive, withEmpty, hin, hq]
  · exact request_refuses (k := 0x41) (x := .badLength) hs (withEmpty_refuses hp _ _)

/-! ### Configure Frame (R48, R76) -/

/-- The seventeen words of a Configure Frame payload, in the order of section 3.3. -/
def frameWords (f : FrameConfig) : List Nat :=
  [f.encoderScale, f.maxSpeed, f.fullScaleSpeed, f.maxAccel, f.stopDecel, f.kp, f.ks, f.kf, f.followPosition,
   f.followStrain, f.followStress, (BitVec.ofInt 32 f.softMin).toNat, (BitVec.ofInt 32 f.softMax).toNat, f.capacity,
   f.overloadLimit, f.quietThreshold, f.slopeThreshold]

theorem payload_eq_words (f : FrameConfig) : f.payload = (frameWords f).flatMap u32 := by
  simp only [FrameConfig.payload, frameWords, i32, List.flatMap_cons, List.flatMap_nil, List.append_assoc,
    List.append_nil]

/-- The word at its offset in a payload of words of four bytes. -/
theorem natAt_words {ws : List Nat} (hfit : ∀ w ∈ ws, w < 4294967296) {k w : Nat} (hk : ws[k]? = some w) :
    natAt (ws.flatMap u32) (4 * k) = w := by
  obtain ⟨before, after, rfl, hlength⟩ : ∃ before after, ws = before ++ w :: after ∧ before.length = k := by
    obtain ⟨hlt, hget⟩ := List.getElem?_eq_some_iff.1 hk
    exact ⟨ws.take k, ws.drop (k + 1), by rw [← hget, ← List.drop_eq_getElem_cons hlt, List.take_append_drop],
      by simp; omega⟩
  rw [List.flatMap_append, List.flatMap_cons]
  refine natAt_append ?_ (hfit w (by simp)) _
  simp [List.length_flatMap, u32, hlength, Nat.mul_comm]

/-- A lawful configuration is read back from its payload (R196). -/
theorem frameOf_payload {f : FrameConfig} (h : f.lawful) : frameOf f.payload = f := by
  obtain ⟨⟨-, -, -, -, -, -, -, -, -, -⟩, hgains, ⟨hmin, hlt, hmax⟩, hforce⟩ := id h
  have hfit : ∀ w ∈ frameWords f, w < 4294967296 := by
    obtain ⟨hspeed, -⟩ := h
    simp only [frameWords, List.forall_mem_cons, List.not_mem_nil, false_implies, implies_true, and_true]
    have := (BitVec.ofInt 32 f.softMin).isLt
    have := (BitVec.ofInt 32 f.softMax).isLt
    omega
  have word : ∀ {k w}, (frameWords f)[k]? = some w → natAt f.payload (4 * k) = w := fun hk => by
    rw [payload_eq_words, natAt_words hfit hk]
  have signed : ∀ {k : Nat} {x : Int}, fits32 x = true → (frameWords f)[k]? = some (BitVec.ofInt 32 x).toNat →
      intAt f.payload (4 * k) = x := fun {k x} hx hk => by
    have hread : natAt f.payload (4 * k) = ofBytes (i32 x) := by rw [word hk, i32, ofBytes_u32 (BitVec.isLt _)]
    rw [← ofBytesSigned_i32 hx, ofBytesSigned, ← hread]
    rfl
  have fitsMin : fits32 f.softMin = true := by simp [fits32]; omega
  have fitsMax : fits32 f.softMax = true := by simp [fits32]; omega
  unfold frameOf
  rw [word (k := 0) rfl, word (k := 1) rfl, word (k := 2) rfl, word (k := 3) rfl, word (k := 4) rfl, word (k := 5) rfl,
    word (k := 6) rfl, word (k := 7) rfl, word (k := 8) rfl, word (k := 9) rfl, word (k := 10) rfl,
    signed (k := 11) fitsMin rfl, signed (k := 12) fitsMax rfl, word (k := 13) rfl, word (k := 14) rfl,
    word (k := 15) rfl, word (k := 16) rfl]

theorem decideConfigureFrame_taken {f : FrameConfig} {s : State} (hf : f.lawful) (hin : s.inTest = false)
    (hq : s.drl.state = .disabled) : decideConfigureFrame f.payload s = answerOk (takeFrame f s) := by
  have hlength : f.payload.length = 68 := by simp [payload_eq_words, frameWords, u32]
  have hrange : f.inRange = true := ((frame_inRange_iff f).2 hf).1
  simp [decideConfigureFrame, frameLength, hlength, hin, hq, frameOf_payload hf, hrange]

/-- A payload of 68 bytes that is no lawful configuration's is out of range. -/
theorem decideConfigureFrame_outOfRange {p : List Byte} {s : State} (hlength : p.length = 68)
    (hin : s.inTest = false) (hq : s.drl.state = .disabled) (hnone : ∀ f : FrameConfig, f.lawful → p ≠ f.payload) :
    decideConfigureFrame p s = refuse .outOfRange s := by
  have hrange : (frameOf p).inRange = false := by
    by_contra h
    exact hnone (frameOf p)
      ((frame_inRange_iff _).1 ⟨by simpa using h, fits32_intAt p 44, fits32_intAt p 48⟩)
      (payload_frameOf p hlength).symm
  simp [decideConfigureFrame, frameLength, hlength, hin, hq, hrange]

theorem okByte : Status.ok.byte = 0x00 := rfl

/-- Settles O21: the decision on the counted state, the configuration read back from its payload. -/
theorem configureFrameReplacesConfiguration : Obligations.ConfigureFrameReplacesConfiguration := by
  refine fun s tag f hs => ⟨fun hf hin hq => ⟨fun hsame => ?_, fun hnew => ?_⟩, fun p hlength hin => ?_,
    fun p hlength hin hq => ?_, fun p hlength hin hq hnone => ?_⟩
  · refine request_drives (k := 0x10) (x := .ok) hs ?_
    rw [decideConfigureFrame_taken hf (by simpa using hin) (by simpa using hq), takeFrame]
    simp [hsame, answerOk, State.onDrl]
  · have run := request_runs 0x10 tag (decideConfigureFrame f.payload) s hs
    rw [decideConfigureFrame_taken hf (by simpa using hin) (by simpa using hq), takeFrame] at run
    refine ⟨_, run, ?_⟩
    by_cases hrange : s.fcu.range = .a
    · simp [hnew, hrange, capacityChanged, queueReply, answerOk, Answer.payload, okByte, replyKind]
    · simp [hnew, hrange, capacityChanged, queueReply, answerOk, Answer.payload, okByte, replyKind, rangeChange,
        addNotice, NoticeSet.add, SourceSet.add]
  · exact request_refuses (k := 0x10) (x := .locked) hs
      (by simp [decideConfigureFrame, frameLength, hlength, hin])
  · exact request_refuses (k := 0x10) (x := .wrongState) hs
      (by simp [decideConfigureFrame, frameLength, hlength, hin, hq])
  · exact request_refuses (k := 0x10) (x := .outOfRange) hs
      (decideConfigureFrame_outOfRange hlength (by simpa using hin) (by simpa using hq) hnone)

/-! ### Moves (R57, R60, R61, R63) -/

theorem mayMove_iff {s : State} : mayMove s = true ↔ s.drl.state = .idle ∧ s.inTest = false := by simp [mayMove]

theorem moveInRange_iff {target : Int} {speed : Nat} {s : State} :
    moveInRange target speed s = true ↔
      1 ≤ speed ∧ speed ≤ s.drl.frame.maxSpeed ∧ s.lmu.softMin ≤ target ∧ target ≤ s.lmu.softMax := by
  simp [moveInRange, and_assoc]

/-- A move within its bounds is accepted (R60). -/
theorem requestMove_accepted {target : Int} {speed : Nat} {s : State}
    (h : 1 ≤ speed ∧ speed ≤ s.drl.frame.maxSpeed ∧ s.lmu.softMin ≤ target ∧ target ≤ s.lmu.softMax) :
    requestMove target speed s = answerAccepted (beginMove target speed s) := if_pos (moveInRange_iff.2 h)

/-- A move outside its bounds is refused (R60). -/
theorem requestMove_outOfRange {target : Int} {speed : Nat} {s : State}
    (h : speed = 0 ∨ s.drl.frame.maxSpeed < speed ∨ target < s.lmu.softMin ∨ s.lmu.softMax < target) :
    requestMove target speed s = refuse .outOfRange s := if_neg (mt moveInRange_iff.1 (by omega))

theorem decideMove_payload {target : Int} {speed : Nat} {s : State} (htarget : fits32 target = true)
    (hspeed : speed < 4294967296) :
    decideMove (i32 target ++ u32 speed) s =
      if mayMove s then requestMove target speed s else refuse .wrongState s := by
  have rtarget : intAt (i32 target ++ u32 speed) 0 = target := ofBytesSigned_i32 htarget
  have rspeed : natAt (i32 target ++ u32 speed) 4 = speed := ofBytes_u32 hspeed
  rw [decideMove, if_neg (by simp [i32, u32]), rtarget, rspeed]

/-- A return is barred where a move is (R61). -/
theorem decideReturn_barred {speed : Nat} {s : State} (h : mayMove s = false) :
    decideReturn (u32 speed) s = refuse .wrongState s := by
  simp [decideReturn, u32, h]

/-- A return asks for a travel zero (R61). -/
theorem decideReturn_without {speed : Nat} {s : State} (h : mayMove s = true) (hz : s.drl.travelZero = none) :
    decideReturn (u32 speed) s = refuse .notConfigured s := by
  simp [decideReturn, u32, h, hz]

/-- A return is a move to the position that the travel zero stands for (R61). -/
theorem decideReturn_toZero {speed : Nat} {s : State} {z : BitVec 48} (hspeed : speed < 4294967296)
    (h : mayMove s = true) (hz : s.drl.travelZero = some z) :
    decideReturn (u32 speed) s = requestMove (positionOf z s.drl.frame.encoderScale) speed s := by
  have rspeed : natAt (u32 speed) 0 = speed := ofBytes_u32 hspeed
  have hlength : (u32 speed).length = 4 := by simp [u32]
  simp [decideReturn, hlength, h, hz, rspeed]

theorem mayMove_not {s : State} (h : s.drl.state ≠ .idle ∨ s.inTest = true) : mayMove s = false := by
  rw [Bool.eq_false_iff, ne_eq, mayMove_iff]
  rcases h with h | h <;> simp [h]

/-- A move that is stopped while its command is not 0 goes on in STOPPING (R57, R63). -/
theorem stopMoving_moving {s : State} (h : s.drl.velocity ≠ 0) :
    stopMoving s = s.onDrl fun d => { d with state := .stopping, moveOutcome := some .stopped } := by
  simp [stopMoving, reportIfIdle, Drl.enterStopping, h, State.onDrl]

/-- A move that is stopped with command 0 ends at once (R57, R63). -/
theorem stopMoving_standing {s : State} {x : Int} (h : s.drl.velocity = 0) (hx : s.drl.moveTarget = some x) :
    stopMoving s = addNotice .moveDone (s.onDrl fun d =>
      { d.rest .idle with moveOutcome := some .stopped, moveTarget := none }) := by
  simp [stopMoving, reportIfIdle, reportIdle, Drl.enterStopping, Drl.rest, h, hx, State.onDrl]

/-- Settles O22: each decision by the drive, the test and the bounds, on the counted state. -/
theorem movesBeginAndStop : Obligations.MovesBeginAndStop := by
  refine ⟨fun s tag target speed hs htarget hspeed => ?_, fun s tag speed hs hspeed => ?_, fun s tag hs => ?_⟩
  · refine ⟨fun hq hin hone hmax hlow hhigh => ?_, fun hq hin hout => ?_, fun hno => ?_, fun q hq => ?_⟩
    · refine request_drives (k := 0x42) (x := .accepted) hs ?_
      rw [decideMove_payload htarget hspeed, if_pos (mayMove_iff.2 (by simp [hq, hin])),
        requestMove_accepted (by simp; omega)]
      rfl
    · refine request_refuses (k := 0x42) (x := .outOfRange) hs ?_
      rw [decideMove_payload htarget hspeed, if_pos (mayMove_iff.2 (by simp [hq, hin])),
        requestMove_outOfRange (by simpa using hout)]
    · refine request_refuses (k := 0x42) (x := .wrongState) hs ?_
      rw [decideMove_payload htarget hspeed, mayMove_not (by simpa using hno)]
      rfl
    · exact request_refuses (k := 0x42) (x := .badLength) hs (if_pos hq)
  · refine ⟨fun hno => ?_, fun hq hin hnone => ?_, fun z hq hin hz => ⟨fun hone hmax hlow hhigh => ?_, fun hout => ?_⟩,
      fun q hq => ?_⟩
    · refine request_refuses (k := 0x43) (x := .wrongState) hs ?_
      exact decideReturn_barred (mayMove_not (by simpa using hno))
    · refine request_refuses (k := 0x43) (x := .notConfigured) hs ?_
      exact decideReturn_without (mayMove_iff.2 (by simp [hq, hin])) (by simp [hnone])
    · refine request_drives (k := 0x43) (x := .accepted) hs ?_
      rw [decideReturn_toZero hspeed (mayMove_iff.2 (by simp [hq, hin])) (by simpa using hz),
        requestMove_accepted (by simp; omega)]
      simp [answerAccepted, beginMove, State.onDrl, hz]
    · refine request_refuses (k := 0x43) (x := .outOfRange) hs ?_
      rw [decideReturn_toZero hspeed (mayMove_iff.2 (by simp [hq, hin])) (by simpa using hz),
        requestMove_outOfRange (by simpa using hout)]
    · exact request_refuses (k := 0x43) (x := .badLength) hs (if_pos hq)
  · refine ⟨fun hq hv => ?_, fun hq hv hsome => ?_, fun hq hsome => ?_, fun hq hnone => ?_, fun hmove hstop => ?_⟩
    · refine request_drives (k := 0x44) (x := .ok) hs ?_
      simp only [decideStopMove, withEmpty, counted_frame, hq, stopMoving_moving (s := s.counted) hv]
      rfl
    · obtain ⟨x, hx⟩ := Option.isSome_iff_exists.1 hsome
      have run := request_runs 0x44 tag (decideStopMove []) s hs
      simp only [decideStopMove, withEmpty, counted_frame, hq, stopMoving_standing (s := s.counted) hv hx] at run
      exact ⟨_, run, rfl, rfl, rfl⟩
    · exact request_stands (k := 0x44) hs (by simp [decideStopMove, withEmpty, hq, hsome])
    · exact request_refuses (k := 0x44) (x := .wrongState) hs (by simp [decideStopMove, withEmpty, hq, hnone])
    · refine request_refuses (k := 0x44) (x := .wrongState) hs ?_
      cases hq : s.drl.state with
      | moving => exact absurd hq hmove
      | stopping => exact absurd hq hstop
      | _ => simp [decideStopMove, withEmpty, hq]

end Sys2Proof.Proofs
end

section
/-! What a measured point carries on, whatever else it brings: the notices and the pending sources (R186, R190), what
the drive has sampled (R47, R59), a tripped drive (R65), and a move until it is reported (R63). -/

namespace Sys2Proof.Proofs

open Sys2Proof.Machine Sys2Proof.Laws

/-- A drive record whose samples, trip and target stand. -/
structure DriveKept (d e : Drl) : Prop where
  readyLevel : e.readyLevel = d.readyLevel
  mismatches : e.mismatches = d.mismatches
  tripped : d.state = .tripped → e.state = .tripped ∧ e.velocity = d.velocity
  target : e.moveTarget = d.moveTarget

theorem DriveKept.refl (d : Drl) : DriveKept d d := ⟨rfl, rfl, fun h => ⟨h, rfl⟩, rfl⟩

theorem DriveKept.hold (d : Drl) : DriveKept d d.hold := by
  constructor <;> cases h : d.state <;> simp [Drl.hold, Drl.rest, h]

theorem DriveKept.stop (d : Drl) : DriveKept d d.stop := by
  constructor <;> cases h : d.state <;> simp [Drl.stop, Drl.enterStopping, Drl.rest, h] <;> split <;> rfl

theorem DriveKept.testEnd {d : Drl} : DriveKept d d.testEnd := ⟨rfl, rfl, fun h => ⟨h, rfl⟩, rfl⟩

theorem DriveKept.transfer (m : ControlMode) (rate : Int) (p : Point) (d : Drl) :
    DriveKept d (d.transfer m rate p) :=
  ⟨rfl, rfl, fun h => by simp [Drl.transfer, DriveState.afterTransfer, h], rfl⟩

/-- The attention record of a state goes on from `a`'s: what is noticed and pending stays so, and no trip is raised or
cleared. -/
structure Cli.GrowsTo (a b : Cli) : Prop where
  notices : ∀ n, a.notices.has n = true → b.notices.has n = true
  pending : ∀ k, a.pending.has k = true → b.pending.has k = true
  trip : b.pending.trip = a.pending.trip

/-- A state goes on from `a` in what a point carries on; a move is in force until MOVE_DONE is noticed. -/
structure Carried (a s : State) : Prop where
  cli : Cli.GrowsTo a.cli s.cli
  readyLevel : s.drl.readyLevel = a.drl.readyLevel
  mismatches : s.drl.mismatches = a.drl.mismatches
  tripped : a.drl.state = .tripped → s.drl.state = .tripped ∧ s.drl.velocity = a.drl.velocity
  target : a.drl.moveTarget.isSome = true → s.drl.moveTarget.isSome = true ∨
    s.cli.notices.has .moveDone = true ∧ s.cli.pending.has .notice = true

theorem noticeAdd_has (x : NoticeSet) (n m : Notice) : (x.add n).has m = (decide (n = m) || x.has m) := by
  cases n <;> cases m <;> rfl

/-- A source other than TRIP leaves TRIP as it is. -/
theorem sourceAdd_trip {x : SourceSet} {k : Source} (h : k ≠ .trip) : (x.add k).trip = x.trip := by
  cases k with
  | trip => exact absurd rfl h
  | _ => rfl

namespace Carried

theorem refl (a : State) : Carried a a :=
  ⟨⟨fun _ h => h, fun _ h => h, rfl⟩, rfl, rfl, fun h => ⟨h, rfl⟩, fun h => .inl h⟩

variable {a s t : State}

/-- The attention record grows while the drive keeps its samples, trip and target. -/
theorem grows (h : Carried a s) (hn : ∀ n, s.cli.notices.has n = true → t.cli.notices.has n = true)
    (hk : ∀ k, s.cli.pending.has k = true → t.cli.pending.has k = true)
    (ht : t.cli.pending.trip = s.cli.pending.trip) (hd : DriveKept s.drl t.drl) : Carried a t where
  cli := ⟨fun n hx => hn n (h.cli.notices n hx), fun k hx => hk k (h.cli.pending k hx), ht.trans h.cli.trip⟩
  readyLevel := hd.readyLevel.trans h.readyLevel
  mismatches := hd.mismatches.trans h.mismatches
  tripped hx := by
    obtain ⟨hstate, hvelocity⟩ := h.tripped hx
    obtain ⟨hstate', hvelocity'⟩ := hd.tripped hstate
    exact ⟨hstate', hvelocity'.trans hvelocity⟩
  target hx := by
    rw [hd.target]
    exact (h.target hx).imp id fun ⟨hm, hp⟩ => ⟨hn _ hm, hk _ hp⟩

theorem drives (h : Carried a s) (hc : t.cli = s.cli) (hd : DriveKept s.drl t.drl) : Carried a t :=
  h.grows (fun _ hx => by rwa [hc]) (fun _ hx => by rwa [hc]) (by rw [hc]) hd

theorem same (h : Carried a s) (hc : t.cli = s.cli) (hd : t.drl = s.drl) : Carried a t :=
  h.drives hc (hd ▸ DriveKept.refl _)

theorem onTsq {f : Tsq → Tsq} (h : Carried a s) : Carried a (s.onTsq f) := h.same rfl rfl

theorem onFcu {f : Fcu → Fcu} (h : Carried a s) : Carried a (s.onFcu f) := h.same rfl rfl

theorem onExm {f : Exm → Exm} (h : Carried a s) : Carried a (s.onExm f) := h.same rfl rfl

theorem onEvu {f : Evu → Evu} (h : Carried a s) : Carried a (s.onEvu f) := h.same rfl rfl

theorem onSms {f : Sms → Sms} (h : Carried a s) : Carried a (s.onSms f) := h.same rfl rfl

theorem onDrl {f : Drl → Drl} (h : Carried a s) (hd : DriveKept s.drl (f s.drl)) : Carried a (s.onDrl f) :=
  h.drives rfl hd

theorem trans (h : Carried a s) (h' : Carried s t) : Carried a t where
  cli := ⟨fun n hx => h'.cli.notices n (h.cli.notices n hx), fun k hx => h'.cli.pending k (h.cli.pending k hx),
    h'.cli.trip.trans h.cli.trip⟩
  readyLevel := h'.readyLevel.trans h.readyLevel
  mismatches := h'.mismatches.trans h.mismatches
  tripped hx := by
    obtain ⟨hstate, hvelocity⟩ := h.tripped hx
    obtain ⟨hstate', hvelocity'⟩ := h'.tripped hstate
    exact ⟨hstate', hvelocity'.trans hvelocity⟩
  target hx := by
    rcases h.target hx with hsome | ⟨hm, hp⟩
    · exact h'.target hsome
    · exact .inr ⟨h'.cli.notices _ hm, h'.cli.pending _ hp⟩

/-! ### Sources, notices and records -/

theorem raise {k : Source} (hk : k ≠ .trip) (h : Carried a s) : Carried a (raise k s) :=
  h.grows (fun _ hx => hx) (fun _ hx => add_has k hx) (sourceAdd_trip hk) (DriveKept.refl _)

theorem addNotice {n : Notice} (h : Carried a s) : Carried a (addNotice n s) :=
  h.grows (fun m hx => by simp [Machine.addNotice, noticeAdd_has, hx]) (fun _ hx => add_has .notice hx) rfl
    (DriveKept.refl _)

theorem pacingRaise (h : Carried a s) : Carried a (pacingRaise s) :=
  raise (by decide) h.onSms

theorem pacingPoint (h : Carried a s) : Carried a (pacingPoint s) := by
  unfold Machine.pacingPoint
  repeat' split
  · exact h.pacingRaise
  · exact h.onSms
  · exact h
  · exact h

theorem pacingCount {mark : Bool} {n : Nat} (h : Carried a s) : Carried a (pacingCount mark n s) := by
  unfold Machine.pacingCount
  dsimp only
  split
  · exact h.onSms.pacingRaise
  · exact h.onSms

theorem storeRecord {mark : Bool} {k : RecordKind} {i : Option Nat} {p : Point} (h : Carried a s) :
    Carried a (storeRecord mark k i p s) := by
  unfold Machine.storeRecord pacingStored
  split
  · exact h.onSms.onSms.pacingCount
  · exact h.onSms.pacingCount
  · exact h.onSms

theorem storeMark {k : RecordKind} {p : Point} (h : Carried a s) : Carried a (storeMark k p s) :=
  h.onSms.storeRecord

theorem decideThinning (h : Carried a s) : Carried a (decideThinning s) := by
  unfold Machine.decideThinning
  dsimp only
  split
  · exact h.onSms.addNotice
  · exact h.onSms

theorem offerSegmentStart {i : Nat} {p : Point} (h : Carried a s) : Carried a (offerSegmentStart i p s) := by
  unfold Machine.offerSegmentStart
  dsimp only
  split
  · exact h.decideThinning.storeRecord
  · exact h.decideThinning.onSms

theorem offerPoint {p : Point} (h : Carried a s) : Carried a (offerPoint p s) := by
  have decided : Carried a (Machine.decideThinning (countOffered s)) := (h.same (by simp) (by simp)).decideThinning
  unfold Machine.offerPoint decidePoint
  dsimp only
  repeat' split
  · exact decided.storeRecord
  · exact decided.onSms
  · exact decided
  · exact h

theorem handMarks {ms : List (RecordKind × Point)} (h : Carried a s) : Carried a (handMarks ms s) := by
  induction ms generalizing s with
  | nil => exact h
  | cons x rest ih => exact ih h.storeMark

/-! ### The heads -/

theorem setHeadState {x : Head} {st : HeadState} (h : Carried a s) : Carried a (setHeadState x st s) := by
  unfold Machine.setHeadState
  split
  · exact h
  · exact raise (by decide) h.onExm

theorem headTestEnd {x : Head} (h : Carried a s) : Carried a (headTestEnd x s) := by
  unfold Machine.headTestEnd
  split
  · exact h.setHeadState
  · exact h

theorem headTestEntry {x : Head} (h : Carried a s) : Carried a (headTestEntry x s) := by
  unfold Machine.headTestEntry
  split
  · exact h.setHeadState
  · exact h

theorem extTestEnd (h : Carried a s) : Carried a (extTestEnd s) := by
  have ended : Carried a (Machine.headTestEnd .rear (Machine.headTestEnd .front s)) := h.headTestEnd.headTestEnd
  unfold Machine.extTestEnd
  dsimp only
  split <;> exact ended.same (by simp) (by simp)

theorem extTestEntry (h : Carried a s) : Carried a (extTestEntry s) := by
  have begun : Carried a (Machine.headTestEntry .rear (Machine.headTestEntry .front s)) := h.headTestEntry.headTestEntry
  unfold Machine.extTestEntry
  dsimp only
  split <;> exact begun.same (by simp) (by simp)

theorem handover {x : Trigger} (h : Carried a s) : Carried a (handover x s) := by
  unfold Machine.handover
  dsimp only
  exact (h.onExm.storeMark (k := .handover) (p := s.latest)).same (by simp; rfl) (by simp)

theorem removalCheck {p : Point} (h : Carried a s) : Carried a (removalCheck p s) := by
  unfold Machine.removalCheck
  repeat' split
  · exact h.onExm
  · exact h.handover
  · exact h
  · exact h.handover
  all_goals exact h

theorem managerPoint {fractured : Bool} {p : Point} (h : Carried a s) : Carried a (managerPoint fractured p s) := by
  unfold Machine.managerPoint
  split
  · exact h.same (by simp) (by simp)
  · split
    · exact h.removalCheck
    · exact h

/-! ### Ending, holding and entering -/

theorem evalTestEnd {why : EndReason} (h : Carried a s) : Carried a (evalTestEnd why s) := h.same (by simp) (by simp)

theorem evalEntry {b : Bool} {p : Point} (h : Carried a s) : Carried a (evalEntry b p s) :=
  h.same (by simp) (by simp)

theorem enterEnded {why : EndReason} {cause : Option StartCause} (h : Carried a s) :
    Carried a (enterEnded why cause s) :=
  raise (by decide) (h.onTsq.onDrl DriveKept.testEnd).evalTestEnd.extTestEnd.storeMark

theorem enterEnding {why : EndReason} (h : Carried a s) : Carried a (enterEnding why s) := by
  have stopped : Carried a ((s.onTsq fun t =>
      { t with state := .ending, pendingEnd := some why, heldReason := none, heldAt := none
               resumeEntry := none }).onDrl Drl.stop) := h.onTsq.onDrl (DriveKept.stop _)
  unfold Machine.enterEnding
  dsimp only
  split
  · exact stopped.enterEnded
  · exact stopped

theorem enterHeld {why : HeldReason} {i : Option Nat} (h : Carried a s) : Carried a (enterHeld why i s) := by
  unfold Machine.enterHeld
  dsimp only
  split
  · exact raise (by decide) h.onTsq
  · exact raise (by decide) (h.onTsq.onDrl (DriveKept.hold _))

theorem holdCause {why : HeldReason} (h : Carried a s) : Carried a (holdCause why s) := by
  unfold Machine.holdCause
  split
  · exact h.enterHeld
  · exact h

theorem slipAction (h : Carried a s) : Carried a (slipAction s) := by
  unfold Machine.slipAction
  split
  · exact h.enterHeld
  · exact h.enterEnding
  · exact h.enterEnding
  · exact h

theorem enterSegment {i : Nat} {p : Point} (h : Carried a s) : Carried a (enterSegment i p s) := by
  unfold Machine.enterSegment
  dsimp only
  refine offerSegmentStart ?_
  split
  · exact h.onTsq.onDrl (DriveKept.transfer _ _ _ _)
  · exact h.onTsq

theorem reachSegment {i : Nat} {p : Point} (h : Carried a s) : Carried a (reachSegment i p s) := by
  unfold Machine.reachSegment
  split
  · exact h.enterHeld
  · exact h.enterSegment

theorem onEndAction {i : Nat} {x : OnEnd} {p : Point} (h : Carried a s) : Carried a (onEndAction i x p s) := by
  cases x with
  | next =>
    unfold Machine.onEndAction
    dsimp only
    split
    · exact h.enterEnding
    · exact h.reachSegment
  | hold => exact h.enterHeld
  | endTest => exact h.enterEnding

/-! ### The consumers of a point -/

theorem applyEval {o : EvalOut} (h : Carried a s) : Carried a (applyEval o s) := by
  have marked : Carried a (Machine.handMarks o.marks (s.onEvu fun _ => o.evu)) := handMarks h.onEvu
  unfold Machine.applyEval
  dsimp only
  repeat' split
  · exact (raise (by decide) marked).addNotice
  · exact marked.addNotice
  · exact raise (by decide) marked
  · exact marked

theorem evaluationPoint {unrest : Bool} {p : Point} (h : Carried a s) : Carried a (evaluationPoint unrest p s).1 := by
  unfold Machine.evaluationPoint
  split
  · dsimp only
    split
    · exact h.applyEval.slipAction
    · exact h.applyEval
  · exact h

theorem beginZero (h : Carried a s) : Carried a (beginZero s) := h.same (by simp) (by simp)

theorem testEntry {p : Point} (h : Carried a s) : Carried a (testEntry p s) := by
  unfold Machine.testEntry
  dsimp only
  exact h.extTestEntry.evalEntry.storeMark.onTsq.reachSegment

theorem startingPoint {p : Point} (h : Carried a s) : Carried a (startingPoint p s) := by
  unfold Machine.startingPoint
  split
  · exact h.same (by simp) (by simp)
  · unfold waitTare
    repeat' split
    · exact h.onFcu.beginZero
    · exact h.onFcu.enterEnded
    · exact h.onTsq
  · exact h
  · exact h.testEntry

theorem runningTaken {fractured : Bool} {p : Point} (h : Carried a s) : Carried a (runningTaken fractured p s) := by
  have counted : Carried a (countSegmentTime s) := h.onTsq
  unfold Machine.runningTaken runningPoint
  dsimp only
  repeat' split
  · exact counted.enterEnding
  · exact counted
  · exact counted
  · exact counted.onEndAction
  · exact counted

theorem sequencerPoint {fractured : Bool} {p : Point} (h : Carried a s) :
    Carried a (sequencerPoint fractured p s) := by
  unfold Machine.sequencerPoint heldPoint
  repeat' split
  · exact h.startingPoint
  · exact h.runningTaken
  · exact h.enterEnding
  · exact h.enterSegment
  all_goals exact h

end Carried

end Sys2Proof.Proofs
end

section
/-! The trip logic (O39): the cause of a readback report, of a safety input and of a sample (R59, R65, R168, R169, R172
to R174). -/

namespace Sys2Proof.Proofs

open Sys2Proof.Machine Sys2Proof.Laws

theorem inTest_of_tsq {s t : State} (h : t.tsq = s.tsq) : t.inTest = s.inTest := by
  simp only [State.inTest, h]

/-! ### Taking a cause (R65, R173, R174) -/

theorem satSucc_max16 (n : Nat) : satSucc max16 n = min 65535 (n + 1) := by
  unfold satSucc max16
  split <;> omega

/-- The set that holds one cause holds no other. -/
theorem bit_getLsbD (k j : TripCause) : k.bit.getLsbD j.ctorIdx = decide (j = k) := by
  cases k <;> cases j <;> rfl

/-- A cause that joins a record leaves its first cause and its point, and stands among the further ones unless it is the
first (R173). -/
theorem join_eq (k : TripCause) (r : TripRecord) :
    (r.join k).first = r.first ∧ (r.join k).point = r.point ∧
    ∀ j : TripCause, (r.join k).further.getLsbD j.ctorIdx =
      (r.further.getLsbD j.ctorIdx || decide (j = k ∧ j ≠ r.first)) := by
  unfold TripRecord.join
  split
  case isTrue h =>
    refine ⟨rfl, rfl, fun j => ?_⟩
    have hno : ¬ (j = k ∧ j ≠ r.first) := fun ⟨hj, hne⟩ => hne (hj.trans h)
    simp [hno]
  case isFalse h =>
    refine ⟨rfl, rfl, fun j => ?_⟩
    have hiff : (j = k ∧ j ≠ r.first) ↔ j = k := and_iff_left_of_imp fun hj => hj ▸ h
    simp only [BitVec.getLsbD_or, bit_getLsbD, hiff]

/-- In LATCHED a cause touches the record of the trip alone. -/
theorem takeCause_latched {k : TripCause} {s : State} (h : s.lmu.trip = .latched) :
    takeCause k s = s.onLmu fun m => { m with record := m.record.map (TripRecord.join k) } := by
  simp [takeCause, h]

theorem takeCause_clear {k : TripCause} {s : State} (h : s.lmu.trip = .clear) :
    takeCause k s = handTrip (latchTrip k s) := by
  simp [takeCause, h]

/-- The Limit Monitor's record when a trip latches (R173). -/
theorem takeCause_lmu {k : TripCause} {s : State} (h : s.lmu.trip = .clear) :
    (takeCause k s).lmu = { s.lmu with
      trip := .latched, record := some ⟨k, s.tripPoint, 0⟩, trips := min 65535 (s.lmu.trips + 1) } := by
  rw [← satSucc_max16, takeCause_clear h]
  simp [latchTrip]

theorem takeCause_latches (k : TripCause) (s : State) : (takeCause k s).lmu.trip = .latched := by
  cases h : s.lmu.trip with
  | clear => rw [takeCause_lmu h]
  | latched => rw [takeCause_latched h, onLmu_lmu, h]

/-- The drive after a trip (R65). -/
theorem driveTrip_drl (s : State) : (driveTrip s).drl = s.drl.trip := by
  unfold driveTrip
  dsimp only
  split <;> simp

/-- A move that is in force or being stopped is reported by the trip (R63). -/
theorem driveTrip_notices {s : State} (h : s.drl.moveTarget.isSome = true) :
    (driveTrip s).cli.notices.has .moveDone = true ∧ (driveTrip s).cli.pending.has .notice = true := by
  simp [driveTrip, h, addNotice, noticeAdd_has, add_has_eq]

/-- What a newly latched trip brings to the drive (R63, R65). -/
structure DriveTripped (s t : State) : Prop where
  state : t.drl.state = .tripped ∧ t.drl.velocity = 0 ∧ t.drl.dacCode = 0 ∧ t.driveEnable = false
  samples : t.drl.mismatches = s.drl.mismatches ∧ t.drl.readyLevel = s.drl.readyLevel
  position : t.drl.encoder = s.drl.encoder ∧ t.drl.travelZero = s.drl.travelZero
  target : t.drl.moveTarget = none
  outcome : s.drl.state = .moving → t.drl.moveOutcome = some .tripped
  moveDone : s.drl.moveTarget.isSome = true → t.cli.notices.moveDone = true ∧ t.cli.pending.notice = true
  raised : t.cli.pending.trip = true

/-- A newly latched trip reaches the drive and raises TRIP (R65, R174). -/
theorem handTrip_drive (s : State) : DriveTripped s (handTrip s) := by
  have hdrl : (handTrip s).drl = s.drl.trip ∨ (handTrip s).drl = s.drl.trip.testEnd := by
    unfold handTrip
    dsimp only
    split
    · exact .inr (by rw [(raise_frame _ _).2.1, enterEnded_drl, driveTrip_drl])
    · exact .inl (by rw [(raise_frame _ _).2.1, driveTrip_drl])
  have kept : Carried (driveTrip s) (if (driveTrip s).inTest then enterEnded .tripped none (driveTrip s)
      else driveTrip s) := by
    split
    · exact (Carried.refl _).enterEnded
    · exact Carried.refl _
  have noticed : s.drl.moveTarget.isSome = true →
      (handTrip s).cli.notices.moveDone = true ∧ (handTrip s).cli.pending.notice = true := fun h => by
    obtain ⟨hm, hp⟩ := driveTrip_notices h
    exact ⟨kept.cli.notices .moveDone hm, kept.cli.pending .notice hp⟩
  rcases hdrl with h | h <;>
    exact ⟨by simp [State.driveEnable, h, Drl.trip, Drl.rest, Drl.testEnd, DriveState.enabled],
      by simp [h, Drl.trip, Drl.rest, Drl.testEnd], by simp [h, Drl.trip, Drl.rest, Drl.testEnd],
      by simp [h, Drl.trip, Drl.testEnd], fun hq => by simp [h, Drl.trip, hq, Drl.testEnd], noticed, rfl⟩

/-- A newly latched trip ends the test in progress (R174). -/
theorem handTrip_ends {s : State} (h : s.inTest = true) :
    (handTrip s).tsq.state = .ended ∧ (handTrip s).tsq.endReason = some .tripped ∧
    (handTrip s).cli.pending.testEnd = true ∧ (handTrip s).drl.mode = none := by
  have hin : (driveTrip s).inTest = true := (inTest_of_tsq (s := s) (by simp)).trans h
  have heq : handTrip s = raise .trip (enterEnded .tripped none (driveTrip s)) := by simp [handTrip, hin]
  rw [heq]
  simp only [raise_frame, enterEnded_tsq, enterEnded_drl, true_and]
  exact ⟨rfl, rfl⟩

/-- Outside a test a newly latched trip touches the drive, the attention record and the monitor alone. -/
theorem handTrip_idle {s : State} (h : s.inTest = false) : handTrip s = raise .trip (driveTrip s) := by
  have hin : (driveTrip s).inTest = false := (inTest_of_tsq (s := s) (by simp)).trans h
  simp [handTrip, hin]

/-! ### The readback report (R59, R172) -/

theorem reportReadback_clear {s : State} (h : s.lmu.trip = .clear) :
    reportReadback s = handTrip (latchTrip .commandReadback (s.onDrl fun d => { d with mismatches := 0 })) :=
  takeCause_clear h

theorem reportReadback_latched {s : State} {r : TripRecord} (h : s.lmu.trip = .latched) (hr : s.lmu.record = some r) :
    reportReadback s = { s with
      drl := { s.drl with mismatches := 0 }
      lmu := { s.lmu with record := some (if r.first = .commandReadback then r
        else { r with further := r.further ||| 0x40#8 }) } } := by
  have hjoin : r.join .commandReadback =
      if r.first = .commandReadback then r else { r with further := r.further ||| 0x40#8 } := by
    unfold TripRecord.join
    by_cases hfirst : r.first = .commandReadback
    · rw [if_pos hfirst, if_pos hfirst.symm]
    · rw [if_neg hfirst, if_neg (Ne.symm hfirst)]
      rfl
  rw [← hjoin, reportReadback, takeCause_latched (by simpa using h)]
  simp [State.onDrl, State.onLmu, hr]

/-! ### The safety inputs (R167 to R169) -/

theorem perInputGet_set_same {α : Type} (x : PerInput α) (i : SafetyInput) (v : α) :
    PerInputGet (PerInputSet x i v) i = v := by cases i <;> rfl

theorem perInputGet_set_other {α : Type} (x : PerInput α) {i j : SafetyInput} (v : α) (h : j ≠ i) :
    PerInputGet (PerInputSet x i v) j = PerInputGet x j := by
  cases i <;> cases j <;> simp [PerInputGet, PerInputSet] at h ⊢

theorem onInput_inputs (i : SafetyInput) (f : SafetyLine → SafetyLine) (s : State) :
    (onInput i f s).lmu.inputs = PerInputSet s.lmu.inputs i (f (PerInputGet s.lmu.inputs i)) := rfl

/-- The line of one safety input after a sample (R168). -/
def lineAfter (raw : Level) (l : SafetyLine) : SafetyLine :=
  if raw = l.level then ⟨l.level, 0, l.latch⟩
  else if l.count + 1 < 20 then ⟨l.level, l.count + 1, l.latch⟩
  else ⟨raw, 0, l.latch || decide (raw = .asserted)⟩

theorem inputAsserted_inputs (i : SafetyInput) (s : State) :
    (inputAsserted i s).lmu.inputs = PerInputSet s.lmu.inputs i ⟨.asserted, 0, true⟩ := by
  simp [inputAsserted, onInput_inputs]

/-- A sample of an input touches the line of that input alone. -/
theorem sampleInput_inputs (i : SafetyInput) (raw : Level) (s : State) :
    (sampleInput i raw s).lmu.inputs =
      PerInputSet s.lmu.inputs i (lineAfter raw (PerInputGet s.lmu.inputs i)) := by
  unfold sampleInput lineAfter
  dsimp only
  by_cases hsame : raw = (PerInputGet s.lmu.inputs i).level
  · simp [hsame, onInput_inputs]
  · by_cases hcount : (PerInputGet s.lmu.inputs i).count + 1 < 20
    · simp [hsame, hcount, onInput_inputs]
    · cases raw with
      | asserted => simp [hsame, hcount, inputAsserted_inputs]
      | inactive => simp [hsame, hcount, inputReleased, onInput_inputs]

/-- `t` is `s` but for the lines of the safety inputs. -/
def LinesOnly (s t : State) : Prop := t = { s with lmu := { s.lmu with inputs := t.lmu.inputs } }

theorem LinesOnly.trans {s t u : State} (h : LinesOnly s t) (h' : LinesOnly t u) : LinesOnly s u := by
  unfold LinesOnly at *
  rw [h'] at ⊢
  generalize u.lmu.inputs = x
  rw [h]

theorem onInput_linesOnly (i : SafetyInput) (f : SafetyLine → SafetyLine) (s : State) : LinesOnly s (onInput i f s) :=
  rfl

/-- A sample on which the level does not change to ASSERTED touches the lines alone. -/
theorem sampleInput_linesOnly {i : SafetyInput} {raw : Level} {s : State}
    (h : raw = .asserted →
      (PerInputGet s.lmu.inputs i).level = .asserted ∨ (PerInputGet s.lmu.inputs i).count + 1 < 20) :
    LinesOnly s (sampleInput i raw s) := by
  unfold sampleInput
  dsimp only
  split
  case isTrue => exact onInput_linesOnly _ _ _
  case isFalse hsame =>
    split
    case isTrue => exact onInput_linesOnly _ _ _
    case isFalse hcount =>
      cases raw with
      | asserted => exact absurd (h rfl) (by simp [Ne.symm hsame, hcount])
      | inactive => exact onInput_linesOnly _ _ _

/-- A level that changes to ASSERTED latches a trip (R169). -/
theorem sampleInput_latches {i : SafetyInput} {s : State} (hlevel : (PerInputGet s.lmu.inputs i).level = .inactive)
    (hcount : 19 ≤ (PerInputGet s.lmu.inputs i).count) : (sampleInput i .asserted s).lmu.trip = .latched := by
  have hlimit : ¬ (PerInputGet s.lmu.inputs i).count + 1 < 20 := by omega
  simp [sampleInput, hlevel, hlimit, inputAsserted, takeCause_latches]

/-- A sample leaves a latched trip latched. -/
theorem sampleInput_latched {i : SafetyInput} {raw : Level} {s : State} (h : s.lmu.trip = .latched) :
    (sampleInput i raw s).lmu.trip = .latched := by
  unfold sampleInput
  dsimp only
  repeat' split
  · simpa using h
  · simpa using h
  · exact takeCause_latches _ _
  · simpa using h

/-- The lines after a sample of the four inputs (R168). -/
theorem sampleInputs_line (raw : SafetyLevels) (s : State) (i : SafetyInput) :
    PerInputGet (sampleInputs raw s).lmu.inputs i = lineAfter (PerInputGet raw i) (PerInputGet s.lmu.inputs i) := by
  cases i <;> simp [sampleInputs, sampleInput_inputs, PerInputGet, PerInputSet]

/-- A sample of an input leaves the line of another. -/
theorem sampleInput_other {i j : SafetyInput} (raw : Level) (s : State) (h : j ≠ i) :
    PerInputGet (sampleInput i raw s).lmu.inputs j = PerInputGet s.lmu.inputs j := by
  rw [sampleInput_inputs, perInputGet_set_other _ _ h]

/-- Where no input changes to ASSERTED a sample touches the lines alone. -/
theorem sampleInputs_linesOnly {raw : SafetyLevels} {s : State}
    (h : ∀ i, PerInputGet raw i = .asserted →
      (PerInputGet s.lmu.inputs i).level = .asserted ∨ (PerInputGet s.lmu.inputs i).count + 1 < 20) :
    LinesOnly s (sampleInputs raw s) := by
  have one : ∀ {i : SafetyInput} {u : State}, PerInputGet u.lmu.inputs i = PerInputGet s.lmu.inputs i →
      LinesOnly u (sampleInput i (PerInputGet raw i) u) :=
    fun {i u} hu => sampleInput_linesOnly (by rw [hu]; exact h i)
  have estop := one (i := .estop) (u := s) rfl
  have guardOpen := one (i := .guardOpen) (u := sampleInput .estop raw.estop s) (sampleInput_other _ _ (by decide))
  have upper := one (i := .upperLimit) (u := sampleInput .guardOpen raw.guardOpen (sampleInput .estop raw.estop s))
    (by rw [sampleInput_other _ _ (by decide), sampleInput_other _ _ (by decide)])
  have lower := one (i := .lowerLimit)
    (u := sampleInput .upperLimit raw.upperLimit
      (sampleInput .guardOpen raw.guardOpen (sampleInput .estop raw.estop s)))
    (by rw [sampleInput_other _ _ (by decide), sampleInput_other _ _ (by decide), sampleInput_other _ _ (by decide)])
  exact ((estop.trans guardOpen).trans upper).trans lower

theorem sampleInputs_latches {raw : SafetyLevels} {s : State} {i : SafetyInput} (hraw : PerInputGet raw i = .asserted)
    (hlevel : (PerInputGet s.lmu.inputs i).level = .inactive) (hcount : 19 ≤ (PerInputGet s.lmu.inputs i).count) :
    (sampleInputs raw s).lmu.trip = .latched := by
  have latches : ∀ {u : State}, PerInputGet u.lmu.inputs i = PerInputGet s.lmu.inputs i →
      (sampleInput i (PerInputGet raw i) u).lmu.trip = .latched := fun hu => by
    rw [hraw]
    exact sampleInput_latches (by rw [hu, hlevel]) (by rw [hu]; exact hcount)
  unfold sampleInputs
  cases i with
  | estop => exact sampleInput_latched (sampleInput_latched (sampleInput_latched (latches rfl)))
  | guardOpen =>
    exact sampleInput_latched (sampleInput_latched (latches (sampleInput_other _ _ (by decide))))
  | upperLimit =>
    exact sampleInput_latched (latches (by
      rw [sampleInput_other _ _ (by decide), sampleInput_other _ _ (by decide)]))
  | lowerLimit =>
    exact latches (by
      rw [sampleInput_other _ _ (by decide), sampleInput_other _ _ (by decide), sampleInput_other _ _ (by decide)])

/-! ### The obligation -/

/-- A readback report in CLEAR trips the part (R59, R65, R173, R174). -/
theorem readbackReport_trips {s : State} (hrun : s.inReset = false) (h : s.lmu.trip = .clear) :
    exec .readbackMismatchLimit s = .next (reportReadback s) ∧
    (reportReadback s).lmu = { s.lmu with
      trip := .latched, record := some ⟨.commandReadback, s.tripPoint, 0⟩, trips := min 65535 (s.lmu.trips + 1) } ∧
    DriveTripped (s.onDrl fun d => { d with mismatches := 0 }) (reportReadback s) := by
  refine ⟨live_running _ _ hrun, takeCause_lmu (by simpa using h), ?_⟩
  rw [reportReadback_clear h]
  obtain ⟨hstate, hsamples, hposition, htarget, houtcome, hmove, hraised⟩ :=
    handTrip_drive (latchTrip .commandReadback (s.onDrl fun d => { d with mismatches := 0 }))
  exact ⟨hstate, by simpa using hsamples, by simpa using hposition, htarget, by simpa using houtcome,
    by simpa using hmove, hraised⟩

/-- An input that goes to ASSERTED in CLEAR trips the part with its cause (R169, R173). -/
theorem inputAsserted_trips {s : State} (i : SafetyInput) (h : s.lmu.trip = .clear) :
    (inputAsserted i s).lmu.record = some ⟨safetyCause i, s.tripPoint, 0⟩ ∧
    (inputAsserted i s).drl.state = .tripped ∧ (inputAsserted i s).driveEnable = false ∧
    (inputAsserted i s).cli.pending.trip = true := by
  unfold inputAsserted
  generalize hu : onInput i _ s = u
  have hclear : u.lmu.trip = .clear := by rw [← hu]; simpa using h
  have hpoint : u.tripPoint = s.tripPoint := by rw [← hu]; rfl
  rw [takeCause_lmu hclear, takeCause_clear hclear, hpoint]
  obtain ⟨⟨hstate, -, -, henable⟩, -, -, -, -, -, hraised⟩ := handTrip_drive (latchTrip (safetyCause i) u)
  exact ⟨rfl, hstate, henable, hraised⟩

/-- An input that goes to ASSERTED in LATCHED joins the record alone (R169, R173). -/
theorem inputAsserted_joins {s : State} {r : TripRecord} (i : SafetyInput) (h : s.lmu.trip = .latched)
    (hr : s.lmu.record = some r) :
    (inputAsserted i s).lmu.record = some (r.join (safetyCause i)) ∧ (inputAsserted i s).drl = s.drl ∧
    (inputAsserted i s).tsq = s.tsq ∧ (inputAsserted i s).cli = s.cli := by
  unfold inputAsserted
  rw [takeCause_latched (by simpa using h)]
  simp [hr]

/-- Settles O39: the trip logic on a cause, the safety inputs by their debounced level, and the sample input by input.
-/
theorem tripCausesAreTaken : Obligations.TripCausesAreTaken := by
  refine ⟨fun s hrun => ⟨fun hclear => ?_, fun r hlatched hr => ?_⟩,
    fun s i hrun => ⟨fun hlevel => ?_, fun hlevel => ?_, fun hlevel => ?_, fun hlevel => ?_⟩, fun s raw hrun => ?_⟩
  · obtain ⟨hexec, hlmu, hdrive⟩ := readbackReport_trips hrun hclear
    obtain ⟨⟨hstate, hvelocity, hdac, henable⟩, ⟨hmismatches, -⟩, ⟨hencoder, hzero⟩, htarget, houtcome, hmove,
      hraised⟩ := hdrive
    refine ⟨_, hexec, hlmu, hstate, hvelocity, hdac, henable, hmismatches, hencoder, hzero, htarget, houtcome,
      fun h => (hmove h).1, hraised, by simp [reportReadback], fun hin => ?_, fun hin => ?_⟩
    · rw [reportReadback_clear hclear]
      exact handTrip_ends ((inTest_of_tsq (s := s) (by simp)).trans hin)
    · rw [reportReadback_clear hclear, handTrip_idle ((inTest_of_tsq (s := s) (by simp)).trans hin)]
      simp
  · exact (live_running _ _ hrun).trans (by rw [reportReadback_latched hlatched hr])
  · refine ⟨inputAsserted i s, (live_running _ _ hrun).trans (by rw [inputGoesAsserted, if_pos hlevel]), ?_,
      fun j hj => ?_, takeCause_latches _ _, inputAsserted_trips i, fun r hlatched hr => ?_⟩
    · rw [inputAsserted_inputs, perInputGet_set_same]
    · rw [inputAsserted_inputs, perInputGet_set_other _ _ hj]
    · obtain ⟨hrecord, hrest⟩ := inputAsserted_joins i hlatched hr
      exact ⟨⟨_, hrecord, join_eq (safetyCause i) r⟩, hrest⟩
  · exact (live_running _ _ hrun).trans (by rw [inputGoesAsserted, if_neg (by simp [hlevel])])
  · exact (live_running _ _ hrun).trans (by rw [inputGoesInactive, if_pos hlevel]; rfl)
  · exact (live_running _ _ hrun).trans (by rw [inputGoesInactive, if_neg (by simp [hlevel])])
  · exact ⟨_, live_running _ _ hrun, sampleInputs_line raw s, sampleInputs_linesOnly,
      fun ⟨i, hraw, hlevel, hcount⟩ => sampleInputs_latches hraw hlevel hcount⟩

end Sys2Proof.Proofs
end

section
/-! The point path around the drive: the state in which the Drive Loop takes a point, the consumers between it and the
Limit Monitor, and what a point on which no cause of a trip is found leaves as they left it (R68, R80). -/

namespace Sys2Proof.Proofs

open Sys2Proof.Machine Sys2Proof.Laws

/-! ### Before the drive -/

/-- Two drive records that differ in what a point samples and in the travel zero alone. -/
structure SameMotion (d e : Drl) : Prop where
  state : e.state = d.state
  velocity : e.velocity = d.velocity
  dacCode : e.dacCode = d.dacCode
  mode : e.mode = d.mode
  rate : e.rate = d.rate
  setpoint : e.setpoint = d.setpoint
  remainder : e.remainder = d.remainder
  frozen : e.frozen = d.frozen
  moveTarget : e.moveTarget = d.moveTarget
  moveSpeed : e.moveSpeed = d.moveSpeed
  moveOutcome : e.moveOutcome = d.moveOutcome
  enableWait : e.enableWait = d.enableWait
  frame : e.frame = d.frame

theorem captureTravelZero_motion (s : State) : SameMotion s.drl (captureTravelZero s).drl := by
  unfold captureTravelZero
  split <;> exact ⟨rfl, rfl, rfl, rfl, rfl, rfl, rfl, rfl, rfl, rfl, rfl, rfl, rfl⟩

/-- The state in which the drive does its work on the point of a conversion: the point formed and paced, DRIVE_READY
and the readback sampled. -/
def sampledOn (s : State) (c : Conversion) : State :=
  readbackPoint c.readback s.drl.velocity (readyPoint c.driveReady (pacingPoint (formedOn s c).state))

/-- The consumers of a point between the Drive Loop and the Limit Monitor. -/
def passTest (unrest : Bool) (p : Point) (s : State) : State :=
  sequencerPoint (evaluationPoint unrest p s).2 p
    (managerPoint (evaluationPoint unrest p s).2 p (evaluationPoint unrest p s).1)

/-- The state in which the Limit Monitor takes the point of a conversion. -/
def passedOn (s : State) (c : Conversion) : State :=
  passTest (formedOn s c).unrest (formedOn s c).point
    (drivePointWork c.driveReady (firstEstimated (formedOn s c).point s) (formedOn s c).point (sampledOn s c))

/-- A conversion, by the consumers of its point (R80). -/
theorem exec_conversion {s : State} {c : Conversion} (h : s.inReset = false) :
    exec (.conversionComplete c) s =
      .next (offerPoint (formedOn s c).point (limitPoint c.driveFault (formedOn s c).point (passedOn s c))) :=
  exec_conversionComplete h

/-- What the drive finds when it does its work on a point, no cause of a trip having been found by it. -/
structure Sampled (s : State) (c : Conversion) (w : State) : Prop where
  tsq : w.tsq = s.tsq
  evu : w.evu = s.evu
  motion : SameMotion s.drl w.drl
  readyLevel : w.drl.readyLevel = c.driveReady
  softMin : w.lmu.softMin = s.drl.frame.softMin
  softMax : w.lmu.softMax = s.drl.frame.softMax
  overload : w.lmu.overloadLimit = s.drl.frame.overloadLimit ∧ w.lmu.overloadCount = s.lmu.overloadCount
  trip : w.lmu.trip = s.lmu.trip ∧ w.lmu.record = s.lmu.record
  store : w.sms.ring = s.sms.ring ∧ w.sms.recording = s.sms.recording

theorem formedOn_motion (s : State) (c : Conversion) : SameMotion s.drl (formedOn s c).state.drl := by
  rw [formedOn, formPoint_drl]
  have h := captureTravelZero_motion (takeLimits (tickClocks s))
  rwa [(takeLimits_frame _).2.2.1, show (tickClocks s).drl = s.drl from rfl] at h

theorem readbackMismatch_iff (s : State) (c : Conversion) :
    readbackMismatch s.drl.frame.fullScaleSpeed c.readback s.drl.velocity = true ↔ s.misread c := by
  rw [readbackMismatch, decide_eq_true_eq]

/-- With DRIVE_READY present or not asked for, and a readback that is not reported, the drive samples both and no more
(R47, R59). -/
theorem sampledOn_calm {s : State} {c : Conversion} (hready : c.driveReady = true ∨ s.readyUnwatched)
    (hread : s.drl.mismatches < 3 ∨ ¬ s.misread c) :
    sampledOn s c = (pacingPoint (formedOn s c).state).onDrl fun d =>
      { d with readyLevel := c.driveReady, mismatches := if s.misread c then s.drl.mismatches + 1 else 0 } := by
  obtain ⟨-, -, hstate, hframe, -, hmiss⟩ := formedOn_frame s c
  rw [sampledOn, readyPoint_calm (by simpa [State.readyUnwatched, hstate] using hready), readbackPoint]
  simp only [onDrl_drl, pacingPoint_frame, hframe, hmiss, readbackMismatch_iff]
  by_cases hmis : s.misread c
  · have hfew : ¬ 4 ≤ s.drl.mismatches + 1 := by
      have := hread.resolve_right (not_not_intro hmis)
      omega
    rw [if_pos hmis, if_neg hfew, if_pos hmis]
    simp [State.onDrl, hmiss]
  · rw [if_neg hmis, if_neg hmis]
    rfl

theorem sampledOn_sampled {s : State} {c : Conversion} (hready : c.driveReady = true ∨ s.readyUnwatched)
    (hread : s.drl.mismatches < 3 ∨ ¬ s.misread c) : Sampled s c (sampledOn s c) := by
  obtain ⟨htsq, hevu, -⟩ := formedOn_frame s c
  obtain ⟨hmin, hmax, hlimit, hcount⟩ := formedOn_lmu s c
  obtain ⟨hstate, hvelocity, hdac, hmode, hrate, hsetpoint, hremainder, hfrozen, htarget, hspeed, houtcome, hwait,
    hframe⟩ := formedOn_motion s c
  rw [sampledOn_calm hready hread]
  exact
    { tsq := by simp [htsq]
      evu := by simp [hevu]
      motion := by constructor <;> simp [*]
      readyLevel := rfl
      softMin := by simp [hmin]
      softMax := by simp [hmax]
      overload := by simp [hlimit, hcount]
      trip := by simp [formedOn]
      store := by simp [formedOn] }

/-! ### The consumers between the Drive Loop and the Limit Monitor -/

theorem Carried.onLmu {a s : State} {f : Lmu → Lmu} (h : Carried a s) : Carried a (s.onLmu f) := h.same rfl rfl

/-- A report of IDLE takes the target of a move away with MOVE_DONE. -/
theorem Carried.reportIdle {a s : State} (h : Carried a s) : Carried a (reportIdle s) := by
  unfold Machine.reportIdle
  split
  · refine ⟨⟨?_, ?_, h.cli.trip⟩, h.readyLevel, h.mismatches, h.tripped, fun _ => .inr ?_⟩
    · exact fun n hn => by simp [Machine.addNotice, noticeAdd_has, h.cli.notices n hn]
    · exact fun k hk => add_has .notice (h.cli.pending k hk)
    · simp [Machine.addNotice, noticeAdd_has, add_has_eq]
  · split
    · exact h.enterEnded
    · exact h

theorem Carried.reportIfIdle {a s : State} (h : Carried a s) : Carried a (reportIfIdle s) := by
  unfold Machine.reportIfIdle
  split
  · exact h.reportIdle
  · exact h

theorem Carried.passTest {a s : State} {unrest : Bool} {p : Point} (h : Carried a s) :
    Carried a (passTest unrest p s) := h.evaluationPoint.managerPoint.sequencerPoint

theorem passTest_frame (unrest : Bool) (p : Point) (s : State) :
    (passTest unrest p s).lmu = s.lmu ∧ (passTest unrest p s).latestPoint = s.latestPoint := by
  simp [passTest]

theorem evaluationPoint_unevaluated {unrest : Bool} {p : Point} {s : State} (h : s.tsq.state.evaluated = false) :
    evaluationPoint unrest p s = (s, false) := by
  simp [evaluationPoint, h]

theorem managerPoint_unevaluated {p : Point} {s : State} (h : s.tsq.state.evaluated = false) :
    managerPoint false p s = s := by
  simp [managerPoint, h]

/-- Outside a test a point touches no test (R133). -/
theorem passTest_idle {unrest : Bool} {p : Point} {s : State} (h : s.inTest = false) : passTest unrest p s = s := by
  have hevaluated : s.tsq.state.evaluated = false := by
    unfold State.inTest at h
    cases hq : s.tsq.state <;> simp_all [SeqState.inTest, SeqState.evaluated]
  rw [passTest, evaluationPoint_unevaluated hevaluated, managerPoint_unevaluated hevaluated]
  unfold State.inTest at h
  cases hq : s.tsq.state <;> simp_all [SeqState.inTest, sequencerPoint]

/-- Where the slip action does nothing, an evaluated point changes neither the test nor the drive, and fracture is
detected only on a point that leaves the phase FRACTURED (R35, R133, R147). -/
theorem evaluationPoint_stands {unrest : Bool} {p : Point} {s : State}
    (hslip : ∀ u : State, u.tsq = s.tsq → slipAction u = u) :
    (evaluationPoint unrest p s).1.tsq = s.tsq ∧ (evaluationPoint unrest p s).1.drl = s.drl ∧
    ((evaluationPoint unrest p s).2 = true →
      s.evu.phase ≠ .fractured ∧ (evaluationPoint unrest p s).1.evu.phase = .fractured) := by
  have breaks : (evaluate (s.evalInput unrest p) s.evu).fractured = true →
      s.evu.phase ≠ .fractured ∧ (evaluate (s.evalInput unrest p) s.evu).evu.phase = .fractured := fun h => by
    by_cases hphase : s.evu.phase = .fractured
    · simp [evaluate, hphase] at h
    · exact ⟨hphase, (evaluate_fractured_iff _ hphase).1 h⟩
  unfold evaluationPoint
  split
  · dsimp only
    split
    · rw [hslip _ (by simp)]
      simpa using breaks
    · simpa using breaks
  · simp

/-- In ENDING a point changes neither the test nor the drive once the drive has taken it. -/
theorem passTest_ending {unrest : Bool} {p : Point} {s : State} (h : s.tsq.state = .ending) :
    (passTest unrest p s).tsq = s.tsq ∧ (passTest unrest p s).drl = s.drl := by
  obtain ⟨htsq, hdrl, -⟩ := evaluationPoint_stands (unrest := unrest) (p := p) (s := s) fun u hu => by
    unfold slipAction
    rw [hu, h]
    cases u.header.slipAction <;> rfl
  have hstate : (managerPoint (evaluationPoint unrest p s).2 p (evaluationPoint unrest p s).1).tsq.state = .ending := by
    simp [htsq, h]
  rw [passTest, sequencerPoint, hstate]
  simp [htsq, hdrl]

/-- In HELD, with no Resume taken and a slip action other than ABORT, a point changes neither the test nor the drive
unless it is the fracture point (R34, R35, R37). -/
theorem passTest_held {unrest : Bool} {p : Point} {s : State} (h : s.tsq.state = .held)
    (hresume : s.tsq.resumeEntry = none) (habort : s.header.slipAction ≠ .abort) :
    (passTest unrest p s).tsq = s.tsq ∧ (passTest unrest p s).drl = s.drl ∨
    s.evu.phase ≠ .fractured ∧ (passTest unrest p s).evu.phase = .fractured := by
  obtain ⟨htsq, hdrl, hbreaks⟩ := evaluationPoint_stands (unrest := unrest) (p := p) (s := s) fun u hu => by
    unfold slipAction
    rw [header_congr hu, hu, h]
    cases hslip : s.header.slipAction with
    | abort => exact absurd hslip habort
    | _ => rfl
  unfold passTest sequencerPoint heldPoint
  rw [(managerPoint_frame _ _ _).1, htsq, h, hresume]
  dsimp only
  split
  case isTrue hfractured =>
    obtain ⟨hbefore, hafter⟩ := hbreaks hfractured
    exact .inr ⟨hbefore, by simpa using hafter⟩
  case isFalse => exact .inl (by simp [htsq, hdrl])

/-! ### After the sequencer -/

/-- `t` stands as `v` but for what the Limit Monitor and the Sample Store take of a point that finds no trip. -/
structure PassesOn (v t : State) : Prop where
  tsq : t.tsq = v.tsq
  drl : t.drl = v.drl
  evu : t.evu = v.evu
  carried : Carried v t
  trip : t.lmu.trip = v.lmu.trip ∧ t.lmu.record = v.lmu.record
  ring : v.sms.recording = false → t.sms.ring = v.sms.ring

/-- A point without an overload, DRIVE_FAULT being low, changes the monitor's counts alone (R170, R171). -/
theorem limitPoint_quiet {p : Point} {s : State} (h : s.lmu.overloadCount = 0 ∨ p.force.natAbs ≤ s.lmu.overloadLimit) :
    ∃ n, limitPoint false p s = s.onLmu fun m => { m with driveFault := .inactive, overloadCount := n } := by
  obtain ⟨n, hn⟩ := overloadPoint_calm (p := p) (s := s.onLmu fun m => { m with driveFault := .inactive }) h
  exact ⟨n, hn⟩

theorem limits_passOn {p : Point} {v : State} (h : v.lmu.overloadCount = 0 ∨ p.force.natAbs ≤ v.lmu.overloadLimit) :
    PassesOn v (offerPoint p (limitPoint false p v)) := by
  obtain ⟨n, hn⟩ := limitPoint_quiet h
  rw [hn]
  exact
    { tsq := by simp
      drl := by simp
      evu := by simp
      carried := (Carried.refl v).onLmu.offerPoint
      trip := by simp
      ring := fun hrecording => by simp [offerPoint, hrecording] }

/-- The point of a conversion on which no cause of a trip is found. -/
structure CalmPoint (s : State) (c : Conversion) (p : Point) (w v t : State) : Prop where
  runs : exec (.conversionComplete c) s = .next t
  point : t.latestPoint = some p
  position : p.position = s.drl.position
  sampled : Sampled s c w
  passes : v = passTest (formedOn s c).unrest p (drivePointWork c.driveReady (firstEstimated p s) p w)
  ends : PassesOn v t

/-- The calm point, by the drive's part of it, the test's, and the rest. -/
theorem conversion_calm {s : State} {c : Conversion} (hcalm : s.calm c) : ∃ p w v t, CalmPoint s c p w v t := by
  obtain ⟨hrun, hready, hread, hfault, hforce⟩ := hcalm
  obtain ⟨hposition, hpointForce, hlatest⟩ := formedOn_point s c
  have sampled := sampledOn_sampled hready hread
  have hlmu : (passedOn s c).lmu = (sampledOn s c).lmu := by simp [passedOn, (passTest_frame _ _ _).1]
  obtain ⟨hlimit, hcount⟩ := sampled.overload
  refine ⟨(formedOn s c).point, sampledOn s c, passedOn s c, _, exec_conversion hrun, ?_, hposition, sampled, rfl, ?_⟩
  · simp [passedOn, (passTest_frame _ _ _).2, sampledOn_calm hready hread, hlatest]
  · rw [hfault]
    exact limits_passOn (by rwa [hlmu, hcount, hlimit, hpointForce])

end Sys2Proof.Proofs
end

section
/-! A point on which no cause of a trip is found, in each state of the drive that is not RUNNING (O32): at rest, in
MOVING, in STOPPING and in ENABLING (R45, R57, R62, R63, R64). -/

namespace Sys2Proof.Proofs

open Sys2Proof.Machine Sys2Proof.Laws

/-! ### The integer square root (R62) -/

/-- Bit by bit the root grows to the largest whose square is not above `n`. -/
theorem isqrtFrom_spec (n k r : Nat) (hlow : r * r ≤ n) (hhigh : n < (r + 2 ^ k) * (r + 2 ^ k)) :
    isqrtFrom n k r * isqrtFrom n k r ≤ n ∧ n < (isqrtFrom n k r + 1) * (isqrtFrom n k r + 1) := by
  induction k generalizing r with
  | zero => exact ⟨hlow, by simpa [isqrtFrom] using hhigh⟩
  | succ k ih =>
    unfold isqrtFrom
    have hdouble : r + 2 ^ (k + 1) = r + 2 ^ k + 2 ^ k := by rw [Nat.pow_succ]; omega
    split
    · next hle => exact ih (r + 2 ^ k) hle (by rwa [hdouble] at hhigh)
    · next hgt => exact ih r hlow (Nat.lt_of_not_le hgt)

/-- The number below 2 ^ 40 between whose square and its successor's `n` lies. -/
theorem isqrt_eq {n r : Nat} (hr : r < 2 ^ 40) (hlow : r * r ≤ n) (hhigh : n < (r + 1) * (r + 1)) : isqrt n = r := by
  have hbound : n < (0 + 2 ^ 40) * (0 + 2 ^ 40) := by
    rw [Nat.zero_add]
    exact Nat.lt_of_lt_of_le hhigh (Nat.mul_le_mul hr hr)
  obtain ⟨hlow', hhigh'⟩ := isqrtFrom_spec n 40 0 (Nat.zero_le n) hbound
  refine le_antisymm (Nat.lt_succ_iff.1 (Nat.mul_self_lt_mul_self_iff.1 ?_))
    (Nat.lt_succ_iff.1 (Nat.mul_self_lt_mul_self_iff.1 ?_))
  · exact Nat.lt_of_le_of_lt hlow' hhigh
  · exact Nat.lt_of_le_of_lt hlow hhigh'

/-! ### Deceleration (R57) -/

theorem decelStep_nonneg (f : FrameConfig) : 0 ≤ f.decelStep := by
  unfold FrameConfig.decelStep divRound
  dsimp only
  rw [if_pos (by simp)]
  exact Int.natCast_nonneg _

/-- A command within one step of 0 is decelerated to 0; any other by the step, with its sign. -/
theorem decelerated_eq {step v : Int} (hstep : 0 ≤ step) :
    ((v.natAbs : Int) ≤ step → decelerated step v = 0) ∧
    (step < v.natAbs → decelerated step v ≠ 0 ∧ decelerated step v = if v < 0 then v + step else v - step) := by
  have := hstep
  unfold decelerated
  constructor <;> intro h <;> split <;> omega

theorem decelerate_stands {d : Drl} (h : decelerated d.frame.decelStep d.velocity = 0) :
    d.decelerate = d.rest .idle := if_pos h

theorem decelerate_slows {d : Drl} (h : decelerated d.frame.decelStep d.velocity ≠ 0) :
    d.decelerate = { d.write (decelerated d.frame.decelStep d.velocity) with state := .stopping } := if_neg h

/-- `t` has the motion of a drive that has taken one deceleration step from the command of `s` (R57). -/
theorem slowedTo_of_decelerate {s t : State} {d : Drl} (hv : d.velocity = s.drl.velocity) (hf : d.frame = s.drl.frame)
    (hstate : t.drl.state = d.decelerate.state) (hvelocity : t.drl.velocity = d.decelerate.velocity)
    (hdac : t.drl.dacCode = d.decelerate.dacCode) : s.slowedTo t := by
  obtain ⟨hzero, hslow⟩ := decelerated_eq (v := d.velocity) (decelStep_nonneg d.frame)
  unfold State.slowedTo
  dsimp only
  rw [← hv, ← hf, ← FrameConfig.decelStep, hstate, hvelocity, hdac]
  refine ⟨fun h => ?_, fun h => ?_⟩
  · rw [decelerate_stands (hzero h)]
    exact ⟨rfl, rfl, rfl⟩
  · obtain ⟨hne, heq⟩ := hslow h
    rw [decelerate_slows hne]
    exact ⟨rfl, heq, rfl⟩

/-- After a deceleration step the drive is STOPPING or IDLE. -/
theorem decelerate_state (d : Drl) : d.decelerate.state = .idle ∨ d.decelerate.state = .stopping := by
  unfold Drl.decelerate
  dsimp only
  split
  · exact .inl rfl
  · exact .inr rfl

/-- What a deceleration step leaves of a drive record. -/
theorem decelerate_frame (d : Drl) :
    d.decelerate.moveTarget = d.moveTarget ∧ d.decelerate.moveOutcome = d.moveOutcome ∧
    d.decelerate.mode = d.mode ∧ d.decelerate.rate = d.rate := by
  unfold Drl.decelerate
  dsimp only
  split <;> exact ⟨rfl, rfl, rfl, rfl⟩

/-! ### Reporting IDLE (R38, R57, R63) -/

/-- A drive that reports IDLE ends a move in force with its notice. -/
theorem reportIfIdle_move {s : State} (h : s.drl.state = .idle) (hmove : s.drl.moveTarget.isSome = true) :
    reportIfIdle s = addNotice .moveDone (s.onDrl fun d => { d with moveTarget := none }) := by
  obtain ⟨x, hx⟩ := Option.isSome_iff_exists.1 hmove
  simp [reportIfIdle, h, reportIdle, hx]

/-- A drive that reports IDLE ends a test in ENDING. -/
theorem reportIfIdle_ends {s : State} {why : EndReason} (h : s.drl.state = .idle) (hnone : s.drl.moveTarget = none)
    (hq : s.tsq.state = .ending) (hwhy : s.tsq.pendingEnd = some why) :
    reportIfIdle s = enterEnded why none s := by
  simp [reportIfIdle, h, reportIdle, hnone, hq, hwhy]

/-- With no move in force a report of IDLE changes nothing but a test in ENDING. -/
theorem reportIfIdle_stands {s : State} (hnone : s.drl.moveTarget = none)
    (hq : s.tsq.state ≠ .ending ∨ s.tsq.pendingEnd = none) : reportIfIdle s = s := by
  unfold reportIfIdle
  split
  · unfold reportIdle
    rw [hnone]
    cases hstate : s.tsq.state with
    | ending => simp [hq.resolve_left (not_not_intro hstate)]
    | _ => rfl
  · rfl

theorem reportIfIdle_of_stopping {s : State} (h : s.drl.state ≠ .idle) : reportIfIdle s = s := if_neg h

/-- Outside ENDING a report of IDLE touches the move and the notices alone. -/
theorem reportIfIdle_keeps {s : State} (hq : s.tsq.state ≠ .ending) :
    (reportIfIdle s).tsq = s.tsq ∧ (reportIfIdle s).evu = s.evu ∧ (reportIfIdle s).drl.state = s.drl.state ∧
    (reportIfIdle s).drl.velocity = s.drl.velocity ∧ (reportIfIdle s).drl.dacCode = s.drl.dacCode ∧
    (reportIfIdle s).drl.mode = s.drl.mode ∧ (reportIfIdle s).drl.rate = s.drl.rate ∧
    (reportIfIdle s).drl.moveOutcome = s.drl.moveOutcome := by
  by_cases hidle : s.drl.state = .idle
  · by_cases hmove : s.drl.moveTarget.isSome = true
    · rw [reportIfIdle_move hidle hmove]
      simp
    · rw [reportIfIdle_stands (by simpa using hmove) (.inl hq)]
      simp
  · rw [reportIfIdle_of_stopping hidle]
    simp

theorem addNotice_noticed (n : Notice) (s : State) :
    (addNotice n s).cli.notices.has n = true ∧ (addNotice n s).cli.pending.notice = true := by
  simp [addNotice, noticeAdd_has, SourceSet.add]

/-- What is noticed in `v` is still noticed, and NOTICE pending, where the point ends. -/
theorem PassesOn.noticed {v t : State} (h : PassesOn v t) {n : Notice} (hn : v.cli.notices.has n = true)
    (hp : v.cli.pending.notice = true) : t.cli.notices.has n = true ∧ t.cli.pending.notice = true :=
  ⟨h.carried.cli.notices n hn, h.carried.cli.pending .notice hp⟩

/-! ### A point at rest -/

/-- A point on which the drive has no work to do and no test stands. -/
theorem restingPoint {s : State} {c : Conversion} (hcalm : s.calm c) (hin : s.inTest = false)
    (hstate : s.drl.state = .idle ∨ s.drl.state = .disabled) :
    ∃ w t, exec (.conversionComplete c) s = .next t ∧ Sampled s c w ∧ PassesOn w t := by
  obtain ⟨p, w, v, t, hruns, -, -, hsampled, hpasses, hends⟩ := conversion_calm hcalm
  have hwork : drivePointWork c.driveReady (firstEstimated p s) p w = w := by
    rcases hstate with h | h <;> simp [drivePointWork, hsampled.motion.state, h]
  rw [hwork, passTest_idle ((inTest_of_tsq hsampled.tsq).trans hin)] at hpasses
  exact ⟨w, t, hruns, hsampled, hpasses ▸ hends⟩

/-! ### A point in MOVING (R62, R64) -/

/-- A point of a move, with no test: the work of the drive and what the point does after it. -/
theorem movingPoint {s : State} {c : Conversion} (hcalm : s.calm c) (hin : s.inTest = false)
    (hstate : s.drl.state = .moving) :
    ∃ p w t, exec (.conversionComplete c) s = .next t ∧ Sampled s c w ∧ p.position = s.drl.position ∧
      w.inTest = false ∧ ((movingDrive p w).tsq = w.tsq → PassesOn (movingDrive p w) t) := by
  obtain ⟨p, w, v, t, hruns, -, hposition, hsampled, hpasses, hends⟩ := conversion_calm hcalm
  have hidle := (inTest_of_tsq hsampled.tsq).trans hin
  refine ⟨p, w, t, hruns, hsampled, hposition, hidle, fun htsq => ?_⟩
  have hwork : drivePointWork c.driveReady (firstEstimated p s) p w = movingDrive p w := by
    simp [drivePointWork, hsampled.motion.state, hstate]
  rw [hwork, passTest_idle ((inTest_of_tsq htsq).trans hidle)] at hpasses
  exact hpasses ▸ hends

theorem movingDrive_near {p : Point} {w : State} {target : Int} (htarget : w.drl.moveTarget = some target)
    (hnear : (target - p.position).natAbs ≤ 10) : movingDrive p w = moveReached w := by
  simp [movingDrive, htarget, hnear]

theorem movingDrive_writes {p : Point} {w : State} {target : Int} (htarget : w.drl.moveTarget = some target)
    (hfar : ¬ (target - p.position).natAbs ≤ 10)
    (hinside : limitReached w.lmu.softMin w.lmu.softMax p.position (w.drl.moveCommand (target - p.position)) = false) :
    movingDrive p w = w.onDrl (Drl.write (w.drl.moveCommand (target - p.position))) := by
  simp [movingDrive, htarget, hfar, hinside]

theorem movingDrive_stops {p : Point} {w : State} {target : Int} (htarget : w.drl.moveTarget = some target)
    (hfar : ¬ (target - p.position).natAbs ≤ 10)
    (hlimit : limitReached w.lmu.softMin w.lmu.softMax p.position (w.drl.moveCommand (target - p.position)) = true) :
    movingDrive p w = reportIfIdle (softStop (w.onDrl fun d => { d with moveOutcome := some .limit })) := by
  simp [movingDrive, htarget, hfar, hlimit]

theorem limitReached_iff {s : State} {position v : Int} :
    limitReached s.drl.frame.softMin s.drl.frame.softMax position v = true ↔ s.atSoftLimit position v := by
  simp [limitReached, State.atSoftLimit]

/-- The command of a move (R62), by the braking speed `r` and the case of the magnitude. -/
theorem moveCommand_eq {s : State} {d : Drl} (hmotion : SameMotion s.drl d) {distance : Int} {r : Nat} (hr : r < 2 ^ 40)
    (hlow : r * r ≤ 2 * s.drl.frame.stopDecel * distance.natAbs)
    (hhigh : 2 * s.drl.frame.stopDecel * distance.natAbs < (r + 1) * (r + 1)) :
    let speed : Int := (min s.drl.moveSpeed r : Nat)
    let wanted := if distance < 0 then -speed else speed
    let falls := wanted.natAbs < s.drl.velocity.natAbs ∧ (wanted = 0 ∨ (s.drl.velocity < 0 ↔ wanted < 0))
    (falls → d.moveCommand distance = s.limitedCommand (divRound s.drl.frame.stopDecel 2000) wanted) ∧
    (¬ falls → d.moveCommand distance = s.limitedCommand (divRound s.drl.frame.maxAccel 2000) wanted) := by
  intro speed wanted falls
  have hwanted : wantedCommand s.drl.frame s.drl.moveSpeed distance = wanted := by
    simp only [wantedCommand, isqrt_eq hr hlow hhigh, wanted, speed]
  have hfalls : fallsOnly s.drl.velocity wanted = true ↔ falls := by
    simp only [fallsOnly, Bool.and_eq_true, Bool.or_eq_true, decide_eq_true_eq, decide_eq_decide, falls]
  have hcommand : d.moveCommand distance =
      s.limitedCommand (if fallsOnly s.drl.velocity wanted = true then divRound s.drl.frame.stopDecel 2000
        else divRound s.drl.frame.maxAccel 2000) wanted := by
    simp only [Drl.moveCommand, hmotion.frame, hmotion.moveSpeed, hmotion.velocity, hwanted]
    rfl
  refine ⟨fun h => ?_, fun h => ?_⟩
  · rw [hcommand, if_pos (hfalls.2 h)]
  · rw [hcommand, if_neg (mt hfalls.1 h)]

/-- A move that arrives (R62). -/
theorem moveArrives {s : State} {c : Conversion} {target : Int} (hcalm : s.calm c) (hin : s.inTest = false)
    (hstate : s.drl.state = .moving) (htarget : s.drl.moveTarget = some target)
    (hnear : (target - s.drl.position).natAbs ≤ 10) :
    ∃ t, exec (.conversionComplete c) s = .next t ∧ t.drl.state = .idle ∧ t.drl.velocity = 0 ∧ t.drl.dacCode = 0 ∧
      t.drl.moveTarget = none ∧ t.drl.moveOutcome = some .reached ∧ t.cli.notices.moveDone = true ∧
      t.cli.pending.notice = true := by
  obtain ⟨p, w, t, hruns, hsampled, hposition, -, hpasses⟩ := movingPoint hcalm hin hstate
  have hwork := movingDrive_near (p := p) (hsampled.motion.moveTarget.trans htarget) (by rwa [hposition])
  rw [hwork] at hpasses
  have hpasses := hpasses (by simp)
  obtain ⟨hmoved, hpending⟩ := hpasses.noticed (n := .moveDone) (addNotice_noticed _ _).1 (addNotice_noticed _ _).2
  refine ⟨t, hruns, ?_, ?_, ?_, ?_, ?_, hmoved, hpending⟩ <;> rw [hpasses.drl] <;> rfl

/-- A move inside the soft limits goes on with its command (R62). -/
theorem moveGoesOn {s w : State} {c : Conversion} {p : Point} {target v : Int} (hsampled : Sampled s c w)
    (htarget : s.drl.moveTarget = some target) (hstate : s.drl.state = .moving)
    (hfar : ¬ (target - p.position).natAbs ≤ 10) (hv : w.drl.moveCommand (target - p.position) = v)
    (hinside : ¬ s.atSoftLimit p.position v) :
    (movingDrive p w).tsq = w.tsq ∧ (movingDrive p w).drl.state = .moving ∧ (movingDrive p w).drl.velocity = v ∧
    (movingDrive p w).drl.dacCode = divRound (v * 131071) s.drl.frame.fullScaleSpeed ∧
    (movingDrive p w).drl.moveTarget = some target ∧ (movingDrive p w).drl.moveOutcome = s.drl.moveOutcome := by
  have hreached : limitReached w.lmu.softMin w.lmu.softMax p.position
      (w.drl.moveCommand (target - p.position)) = false := by
    rw [hsampled.softMin, hsampled.softMax, hv, Bool.eq_false_iff]
    exact mt limitReached_iff.1 hinside
  rw [movingDrive_writes (hsampled.motion.moveTarget.trans htarget) hfar hreached, hv]
  refine ⟨rfl, hsampled.motion.state.trans hstate, rfl, ?_, hsampled.motion.moveTarget.trans htarget,
    hsampled.motion.moveOutcome⟩
  simp [Drl.write, dacOf, hsampled.motion.frame]

/-- A move at a soft limit takes its first deceleration step with LIMIT_STOP, and at 0 ends at once (R63, R64). -/
theorem moveStops {s w : State} {c : Conversion} {p : Point} {target v : Int} (hsampled : Sampled s c w)
    (hidle : w.inTest = false) (htarget : s.drl.moveTarget = some target)
    (hfar : ¬ (target - p.position).natAbs ≤ 10) (hv : w.drl.moveCommand (target - p.position) = v)
    (hlimit : s.atSoftLimit p.position v) :
    (movingDrive p w).tsq = w.tsq ∧ s.slowedTo (movingDrive p w) ∧
    (movingDrive p w).drl.moveOutcome = some .limit ∧ (movingDrive p w).cli.notices.has .limitStop = true ∧
    (movingDrive p w).cli.pending.notice = true ∧
    ((movingDrive p w).drl.state = .stopping → (movingDrive p w).drl.moveTarget = some target) ∧
    ((movingDrive p w).drl.state = .idle →
      (movingDrive p w).drl.moveTarget = none ∧ (movingDrive p w).cli.notices.has .moveDone = true) := by
  have hreached : limitReached w.lmu.softMin w.lmu.softMax p.position
      (w.drl.moveCommand (target - p.position)) = true := by
    rw [hsampled.softMin, hsampled.softMax, hv]
    exact limitReached_iff.2 hlimit
  rw [movingDrive_stops (hsampled.motion.moveTarget.trans htarget) hfar hreached]
  generalize hu : softStop (w.onDrl fun d => { d with moveOutcome := some .limit }) = u
  have hdrl : u.drl = { w.drl with moveOutcome := some .limit : Drl }.decelerate := by rw [← hu]; simp [softStop]
  have hmove : u.drl.moveTarget = some target := by
    rw [hdrl, (decelerate_frame _).1]
    exact hsampled.motion.moveTarget.trans htarget
  have htsq : u.tsq = w.tsq := by rw [← hu]; simp [softStop]
  have hnot : u.tsq.state ≠ .ending := fun hq => by
    rw [htsq] at hq
    simp [State.inTest, SeqState.inTest, hq] at hidle
  obtain ⟨ktsq, -, kstate, kvelocity, kdac, -, -, koutcome⟩ := reportIfIdle_keeps hnot
  have hstops : (reportIfIdle u).drl.state ≠ .idle → reportIfIdle u = u := fun h =>
    reportIfIdle_of_stopping (by rwa [← kstate])
  have noticed : u.cli.notices.has .limitStop = true ∧ u.cli.pending.notice = true := by
    rw [← hu]
    exact addNotice_noticed _ _
  have carried : Carried u (reportIfIdle u) := (Carried.refl u).reportIfIdle
  refine ⟨ktsq.trans htsq, ?_, ?_, carried.cli.notices _ noticed.1, carried.cli.pending .notice noticed.2,
    fun h => ?_, fun h => ?_⟩
  · exact slowedTo_of_decelerate (d := { w.drl with moveOutcome := some .limit }) hsampled.motion.velocity
      hsampled.motion.frame (by rw [kstate, hdrl]) (by rw [kvelocity, hdrl]) (by rw [kdac, hdrl])
  · rw [koutcome, hdrl, (decelerate_frame _).2.1]
  · rw [hstops (by simp [h]), hmove]
  · rw [kstate] at h
    rw [reportIfIdle_move h (by simp [hmove])]
    exact ⟨rfl, (addNotice_noticed _ _).1⟩

/-- A move that is not near its target, on a point (R62, R64). -/
theorem moveFollows {s : State} {c : Conversion} {target : Int} {r : Nat} (hcalm : s.calm c) (hin : s.inTest = false)
    (hstate : s.drl.state = .moving) (htarget : s.drl.moveTarget = some target)
    (hfar : 10 < (target - s.drl.position).natAbs) (hr : r < 2 ^ 40)
    (hlow : r * r ≤ 2 * s.drl.frame.stopDecel * (target - s.drl.position).natAbs)
    (hhigh : 2 * s.drl.frame.stopDecel * (target - s.drl.position).natAbs < (r + 1) * (r + 1)) :
    let d := target - s.drl.position
    let speed : Int := (min s.drl.moveSpeed r : Nat)
    let wanted := if d < 0 then -speed else speed
    let falls := wanted.natAbs < s.drl.velocity.natAbs ∧ (wanted = 0 ∨ (s.drl.velocity < 0 ↔ wanted < 0))
    ∃ t v, exec (.conversionComplete c) s = .next t ∧ t.tsq = s.tsq ∧
      (falls → v = s.limitedCommand (divRound s.drl.frame.stopDecel 2000) wanted) ∧
      (¬ falls → v = s.limitedCommand (divRound s.drl.frame.maxAccel 2000) wanted) ∧
      (¬ s.atSoftLimit s.drl.position v →
        t.drl.state = .moving ∧ t.drl.velocity = v ∧ t.drl.dacCode = divRound (v * 131071) s.drl.frame.fullScaleSpeed ∧
        t.drl.moveTarget = some target ∧ t.drl.moveOutcome = s.drl.moveOutcome) ∧
      (s.atSoftLimit s.drl.position v →
        s.slowedTo t ∧ t.drl.moveOutcome = some .limit ∧ t.cli.notices.limitStop = true ∧ t.cli.pending.notice = true ∧
        (t.drl.state = .stopping → t.drl.moveTarget = some target) ∧
        (t.drl.state = .idle → t.drl.moveTarget = none ∧ t.cli.notices.moveDone = true)) := by
  intro d speed wanted falls
  obtain ⟨p, w, t, hruns, hsampled, hposition, hidle, hpasses⟩ := movingPoint hcalm hin hstate
  obtain ⟨hfalls, hrises⟩ := moveCommand_eq hsampled.motion hr hlow hhigh
  have hfar' : ¬ (target - p.position).natAbs ≤ 10 := by rw [hposition]; omega
  have goesOn := moveGoesOn hsampled htarget hstate hfar' rfl
  have stops := moveStops hsampled hidle htarget hfar' rfl
  have htsq : (movingDrive p w).tsq = w.tsq := by
    by_cases hlimit : s.atSoftLimit p.position (w.drl.moveCommand (target - p.position))
    · exact (stops hlimit).1
    · exact (goesOn hlimit).1
  have hpasses := hpasses htsq
  rw [hposition] at goesOn stops
  refine ⟨t, w.drl.moveCommand d, hruns, hpasses.tsq.trans (htsq.trans hsampled.tsq), hfalls, hrises, fun h => ?_,
    fun h => ?_⟩
  · rw [hpasses.drl]
    exact (goesOn h).2
  · obtain ⟨-, hslow, houtcome, hnotice, hpending, hstopping, hends⟩ := stops h
    obtain ⟨hnoticed, hpended⟩ := hpasses.noticed hnotice hpending
    refine ⟨by simpa only [State.slowedTo, hpasses.drl] using hslow, by rw [hpasses.drl, houtcome], hnoticed, hpended,
      fun hs => ?_, fun hs => ?_⟩
    · rw [hpasses.drl] at hs ⊢
      exact hstopping hs
    · rw [hpasses.drl] at hs ⊢
      obtain ⟨hnone, hdone⟩ := hends hs
      exact ⟨hnone, hpasses.carried.cli.notices _ hdone⟩

/-! ### A point in STOPPING (R38, R57, R63) -/

/-- The work of the drive on a point in STOPPING. -/
theorem stoppingPoint_motion {s w : State} {c : Conversion} (hsampled : Sampled s c w) (hq : w.tsq.state ≠ .ending) :
    (stoppingDrive w).tsq = w.tsq ∧ (stoppingDrive w).evu = w.evu ∧ s.slowedTo (stoppingDrive w) ∧
    (stoppingDrive w).drl.mode = s.drl.mode ∧ (stoppingDrive w).drl.rate = s.drl.rate := by
  obtain ⟨htsq, hevu, hstate, hvelocity, hdac, hmode, hrate, -⟩ :=
    reportIfIdle_keeps (s := w.onDrl Drl.decelerate) (by simpa using hq)
  obtain ⟨-, -, kmode, krate⟩ := decelerate_frame w.drl
  refine ⟨htsq, hevu, slowedTo_of_decelerate hsampled.motion.velocity hsampled.motion.frame hstate hvelocity hdac,
    hmode.trans (kmode.trans hsampled.motion.mode), hrate.trans (krate.trans hsampled.motion.rate)⟩

/-- After the work of a drive in STOPPING, in ENDING or outside a test, a point leaves the drive and the test. -/
theorem passTest_resting {unrest : Bool} {p : Point} {u : State} (h : u.inTest = false ∨ u.tsq.state = .ending) :
    (passTest unrest p u).tsq = u.tsq ∧ (passTest unrest p u).drl = u.drl := by
  rcases h with h | h
  · rw [passTest_idle h]
    exact ⟨rfl, rfl⟩
  · exact passTest_ending h

/-- The drive's record after its work on a point in STOPPING, but for the test's end and the move's. -/
theorem stoppingDrive_motion (w : State) :
    (stoppingDrive w).drl.state = w.drl.decelerate.state ∧ (stoppingDrive w).drl.velocity = w.drl.decelerate.velocity ∧
    (stoppingDrive w).drl.dacCode = w.drl.decelerate.dacCode := by
  unfold stoppingDrive reportIfIdle reportIdle
  repeat' split
  · simp
  · simp [enterEnded_drl, Drl.testEnd]
  · simp
  · simp

/-- The test after the drive's work on a point in STOPPING, in ENDING or outside a test. -/
theorem stoppingDrive_resting {w : State} (h : w.inTest = false ∨ w.tsq.state = .ending) :
    (stoppingDrive w).inTest = false ∨ (stoppingDrive w).tsq.state = .ending := by
  unfold stoppingDrive reportIfIdle reportIdle
  repeat' split
  · exact h
  · exact .inl (by simp [State.inTest, enterEnded_tsq, SeqState.inTest])
  · exact h
  · exact h

/-- A point of a drive in STOPPING, outside a test or with the test ENDING. -/
theorem stoppingPoint {s : State} {c : Conversion} (hcalm : s.calm c) (hstate : s.drl.state = .stopping)
    (hq : s.inTest = false ∨ s.tsq.state = .ending) :
    ∃ w t, exec (.conversionComplete c) s = .next t ∧ Sampled s c w ∧ t.tsq = (stoppingDrive w).tsq ∧
      t.drl = (stoppingDrive w).drl ∧ Carried (stoppingDrive w) t := by
  obtain ⟨p, w, v, t, hruns, -, -, hsampled, hpasses, hends⟩ := conversion_calm hcalm
  have hwork : drivePointWork c.driveReady (firstEstimated p s) p w = stoppingDrive w := by
    simp [drivePointWork, hsampled.motion.state, hstate]
  rw [hwork] at hpasses
  obtain ⟨htsq, hdrl⟩ := passTest_resting (unrest := (formedOn s c).unrest) (p := p) (stoppingDrive_resting (w := w)
    (by rwa [inTest_of_tsq hsampled.tsq, hsampled.tsq]))
  rw [← hpasses] at htsq hdrl
  exact ⟨w, t, hruns, hsampled, hends.tsq.trans htsq, hends.drl.trans hdrl,
    (hpasses ▸ (Carried.refl (stoppingDrive w)).passTest).trans hends.carried⟩

/-- What a point brings a drive in STOPPING, its move and its ending test (R38, R57, R63). -/
theorem stoppingSlows {s : State} {c : Conversion} (hcalm : s.calm c) (hstate : s.drl.state = .stopping)
    (hq : s.inTest = false ∨ s.tsq.state = .ending) :
    ∃ t, exec (.conversionComplete c) s = .next t ∧ s.slowedTo t ∧
      (t.drl.state = .stopping → t.drl.moveTarget = s.drl.moveTarget ∧ t.tsq = s.tsq) ∧
      (t.drl.state = .idle → s.drl.moveTarget.isSome = true →
        t.drl.moveTarget = none ∧ t.cli.notices.moveDone = true ∧ t.tsq = s.tsq) ∧
      (∀ why, t.drl.state = .idle → s.drl.moveTarget = none → s.tsq.state = .ending → s.tsq.pendingEnd = some why →
        t.tsq.state = .ended ∧ t.tsq.endReason = some why ∧ t.tsq.currentSegment = none ∧ t.tsq.segmentTime = 0 ∧
        t.drl.mode = none ∧ t.drl.frozen = false ∧ t.cli.pending.testEnd = true) := by
  obtain ⟨w, t, hruns, hsampled, htsq, hdrl, hcarried⟩ := stoppingPoint hcalm hstate hq
  obtain ⟨kstate, kvelocity, kdac⟩ := stoppingDrive_motion w
  have kmove : (w.onDrl Drl.decelerate).drl.moveTarget = s.drl.moveTarget :=
    (decelerate_frame w.drl).1.trans hsampled.motion.moveTarget
  refine ⟨t, hruns, slowedTo_of_decelerate hsampled.motion.velocity hsampled.motion.frame (by rw [hdrl, kstate])
    (by rw [hdrl, kvelocity]) (by rw [hdrl, kdac]), fun h => ?_, fun h hmove => ?_, fun why h hmove hending hwhy => ?_⟩
  · have hmoving : (w.onDrl Drl.decelerate).drl.state ≠ .idle := by
      rw [onDrl_drl, ← kstate, ← hdrl, h]
      decide
    rw [htsq, hdrl, stoppingDrive, reportIfIdle_of_stopping hmoving]
    exact ⟨kmove, hsampled.tsq⟩
  · have hidle : (w.onDrl Drl.decelerate).drl.state = .idle := by rw [onDrl_drl, ← kstate, ← hdrl, h]
    have hwork : stoppingDrive w = _ := reportIfIdle_move hidle (by rwa [kmove])
    refine ⟨by rw [hdrl, hwork]; rfl, hcarried.cli.notices .moveDone ?_, by rw [htsq, hwork]; exact hsampled.tsq⟩
    rw [hwork]
    exact (addNotice_noticed _ _).1
  · have hidle : (w.onDrl Drl.decelerate).drl.state = .idle := by rw [onDrl_drl, ← kstate, ← hdrl, h]
    have hwork : stoppingDrive w = _ := reportIfIdle_ends hidle (kmove.trans hmove)
      (show w.tsq.state = .ending by rw [hsampled.tsq, hending]) (show w.tsq.pendingEnd = some why by
        rw [hsampled.tsq, hwhy])
    have hended := enterEnded_endsAtOnce why none (w.onDrl Drl.decelerate)
    rw [← hwork] at hended
    obtain ⟨hended, hreason, hsegment, htime⟩ := hended.tsq
    obtain ⟨hmode, hfrozen⟩ := (hwork ▸ enterEnded_endsAtOnce why none (w.onDrl Drl.decelerate)).drl
    rw [htsq, hdrl]
    refine ⟨hended, hreason, hsegment, htime, hmode, hfrozen, hcarried.cli.pending .testEnd ?_⟩
    rw [hwork]
    exact enterEnded_raises _ _ _

/-- A test HELD stays HELD while its drive slows down, unless the point is the fracture point (R31, R34). -/
theorem heldStopping {s : State} {c : Conversion} (hcalm : s.calm c) (hstate : s.drl.state = .stopping)
    (hq : s.tsq.state = .held) (hresume : s.tsq.resumeEntry = none) (habort : s.header.slipAction ≠ .abort) :
    ∃ t, exec (.conversionComplete c) s = .next t ∧
      (s.evu.phase = .fractured ∨ t.evu.phase ≠ .fractured →
        s.slowedTo t ∧ t.tsq = s.tsq ∧ t.drl.mode = s.drl.mode ∧ t.drl.rate = s.drl.rate) := by
  obtain ⟨p, w, v, t, hruns, -, -, hsampled, hpasses, hends⟩ := conversion_calm hcalm
  have hwork : drivePointWork c.driveReady (firstEstimated p s) p w = stoppingDrive w := by
    simp [drivePointWork, hsampled.motion.state, hstate]
  obtain ⟨ktsq, kevu, kslow, kmode, krate⟩ := stoppingPoint_motion hsampled (by simp [hsampled.tsq, hq])
  have htsq := ktsq.trans hsampled.tsq
  have hpassed := passTest_held (unrest := (formedOn s c).unrest) (p := p) (s := stoppingDrive w) (by rw [htsq, hq])
    (by rw [htsq, hresume]) (by rwa [header_congr htsq])
  rw [hwork] at hpasses
  rw [← hpasses, kevu, hsampled.evu] at hpassed
  refine ⟨t, hruns, fun hwhole => ?_⟩
  rcases hpassed with ⟨hvtsq, hvdrl⟩ | ⟨hbefore, hafter⟩
  · have hdrl : t.drl = (stoppingDrive w).drl := hends.drl.trans hvdrl
    refine ⟨by simpa only [State.slowedTo, hdrl] using kslow, hends.tsq.trans (hvtsq.trans htsq), ?_, ?_⟩
    · rw [hdrl, kmode]
    · rw [hdrl, krate]
  · rw [← hends.evu] at hafter
    exact absurd hwhole (by simp [hbefore, hafter])

/-! ### A point in ENABLING (R45) -/

/-- A point in ENABLING takes DRIVE_READY first, then the wait (R45). -/
theorem enablingWaits {s : State} {c : Conversion} (hcalm : s.calm c) (hin : s.inTest = false)
    (hstate : s.drl.state = .enabling) :
    ∃ t, exec (.conversionComplete c) s = .next t ∧ t.tsq = s.tsq ∧
      t.drl.enableWait = s.drl.enableWait + 1 ∧ t.drl.readyLevel = c.driveReady ∧
      (c.driveReady = true → t.drl.state = .idle ∧ t.drl.velocity = 0 ∧ t.drl.dacCode = 0) ∧
      (c.driveReady = false → s.drl.enableWait + 1 < 1000 →
        t.drl.state = .enabling ∧ t.drl.velocity = s.drl.velocity) ∧
      (c.driveReady = false → 1000 ≤ s.drl.enableWait + 1 →
        t.drl.state = .disabled ∧ t.drl.velocity = 0 ∧ t.drl.dacCode = 0 ∧ t.driveEnable = false ∧
        t.cli.notices.driveNotReady = true ∧ t.cli.pending.notice = true) := by
  obtain ⟨p, w, v, t, hruns, -, -, hsampled, hpasses, hends⟩ := conversion_calm hcalm
  have hwork : drivePointWork c.driveReady (firstEstimated p s) p w = enablingPoint c.driveReady w := by
    simp [drivePointWork, hsampled.motion.state, hstate]
  have hkept : (enablingPoint c.driveReady w).tsq = w.tsq := by simp
  rw [hwork, passTest_idle ((inTest_of_tsq (hkept.trans hsampled.tsq)).trans hin)] at hpasses
  have hwait : w.drl.enableWait = s.drl.enableWait := hsampled.motion.enableWait
  have hlevel := hsampled.readyLevel
  have counted : (enablingPoint c.driveReady w).drl.enableWait = s.drl.enableWait + 1 ∧
      (enablingPoint c.driveReady w).drl.readyLevel = c.driveReady := by
    unfold enablingPoint enableWaitOut
    dsimp only
    repeat' split
    all_goals simp [Drl.rest, hwait, hlevel]
  refine ⟨t, hruns, ?_⟩
  rw [hends.tsq, State.driveEnable, hends.drl, hpasses]
  refine ⟨hkept.trans hsampled.tsq, counted.1, counted.2, fun hready => ?_, fun hready hshort => ?_,
    fun hready hlong => ?_⟩
  · simp [enablingPoint, hready, Drl.rest]
  · have hnot : ¬ 1000 ≤ s.drl.enableWait + 1 := by omega
    simp [enablingPoint, hready, hwait, hnot, hsampled.motion.state, hstate, hsampled.motion.velocity]
  · have hout : enablingPoint c.driveReady w =
        enableWaitOut (w.onDrl fun d => { d with enableWait := d.enableWait + 1 }) := by
      simp [enablingPoint, hready, hwait, hlong]
    obtain ⟨hnoticed, hpending⟩ := hends.noticed (n := .driveNotReady)
      (by rw [hpasses, hout]; exact (addNotice_noticed _ _).1) (by rw [hpasses, hout]; exact (addNotice_noticed _ _).2)
    rw [hout]
    exact ⟨rfl, rfl, rfl, Bool.and_false _, hnoticed, hpending⟩

/-- Settles O32: the calm point by the state of the drive. -/
theorem driveOnAPoint : Obligations.DriveOnAPoint := by
  refine ⟨fun s c hcalm hin hstate hzero hrecording => ?_,
    fun s c target hcalm hin hstate htarget hnear => moveArrives hcalm hin hstate htarget hnear,
    fun s c target r hcalm hin hstate htarget => fun hfar hr hlow hhigh =>
      moveFollows hcalm hin hstate htarget hfar hr hlow hhigh,
    fun s c hcalm hstate hq => stoppingSlows hcalm hstate hq,
    fun s c hcalm hstate hq hresume habort => heldStopping hcalm hstate hq hresume habort,
    fun s c hcalm hin hstate => enablingWaits hcalm hin hstate⟩
  obtain ⟨w, t, hruns, hsampled, hpasses⟩ := restingPoint hcalm hin hstate
  obtain ⟨hring, hrecorded⟩ := hsampled.store
  obtain ⟨htrip, hrecord⟩ := hsampled.trip
  obtain ⟨ktrip, krecord⟩ := hpasses.trip
  refine ⟨t, hruns, ?_, ?_, ?_, ktrip.trans htrip, krecord.trans hrecord, hpasses.tsq.trans hsampled.tsq,
    hpasses.evu.trans hsampled.evu, (hpasses.ring (hrecorded.trans hrecording)).trans hring⟩
  · rw [hpasses.drl, hsampled.motion.state]
  · rw [hpasses.drl, hsampled.motion.velocity, hzero]
  · rw [hpasses.drl, hsampled.motion.dacCode]

end Sys2Proof.Proofs
end

section
/-! A point of a RUNNING test whose drive is RUNNING (O33): freeze and ramp, law and limits, the soft-limit stop, and
the exact rate of the ramp (R50 to R54, R56, R58, R64). -/

namespace Sys2Proof.Proofs

open Sys2Proof.Machine Sys2Proof.Laws

/-! ### What the work of the drive carries on -/

/-- A drive that is not TRIPPED keeps what a point carries on while its samples and its target stand. -/
theorem DriveKept.of_live {d e : Drl} (hlive : d.state ≠ .tripped) (hready : e.readyLevel = d.readyLevel)
    (hmiss : e.mismatches = d.mismatches) (htarget : e.moveTarget = d.moveTarget) : DriveKept d e :=
  ⟨hready, hmiss, fun h => absurd h hlive, htarget⟩

theorem DriveKept.decelerate {d : Drl} (hlive : d.state ≠ .tripped) : DriveKept d d.decelerate := by
  unfold Drl.decelerate
  dsimp only
  split <;> exact .of_live hlive rfl rfl rfl

theorem DriveKept.ramp {d : Drl} (hlive : d.state ≠ .tripped) : DriveKept d d.ramp := by
  unfold Drl.ramp
  split <;> exact .of_live hlive rfl rfl rfl

namespace Carried

variable {a s : State}

theorem softStop (h : Carried a s) (hlive : s.drl.state ≠ .tripped) : Carried a (softStop s) :=
  (h.onDrl (.decelerate hlive)).addNotice

theorem freezePoint {m : ControlMode} {p : Point} (h : Carried a s) : Carried a (freezePoint m p s) := by
  unfold Machine.freezePoint
  dsimp only
  split
  · exact (h.onDrl ⟨rfl, rfl, fun hx => ⟨hx, rfl⟩, rfl⟩).addNotice
  · exact h.onDrl ⟨rfl, rfl, fun hx => ⟨hx, rfl⟩, rfl⟩

theorem setpointPoint {first : Bool} {m : ControlMode} {p : Point} (h : Carried a s) (hlive : s.drl.state ≠ .tripped) :
    Carried a (setpointPoint first m p s) := by
  unfold Machine.setpointPoint
  split
  · exact (h.onDrl (.of_live hlive rfl rfl rfl)).freezePoint
  · exact h.freezePoint.onDrl (.ramp (by simpa using hlive))

theorem runningDrive {first : Bool} {p : Point} (h : Carried a s) (hlive : s.drl.state ≠ .tripped) :
    Carried a (runningDrive first p s) := by
  have live : ∀ m, (Machine.setpointPoint first m p s).drl.state ≠ .tripped := fun m => by simpa using hlive
  unfold Machine.runningDrive
  split
  · exact h
  · dsimp only
    split
    · exact ((h.setpointPoint hlive).softStop (live _)).holdCause.reportIfIdle
    · exact (h.setpointPoint hlive).onDrl (.of_live (live _) rfl rfl rfl)

theorem moveReached (h : Carried a s) (hlive : s.drl.state ≠ .tripped) : Carried a (moveReached s) where
  cli := ⟨fun n hn => by simp [Machine.moveReached, Machine.addNotice, noticeAdd_has, h.cli.notices n hn],
    fun k hk => add_has .notice (h.cli.pending k hk), h.cli.trip⟩
  readyLevel := h.readyLevel
  mismatches := h.mismatches
  tripped hx := absurd (h.tripped hx).1 hlive
  target _ := .inr (by simp [Machine.moveReached, Machine.addNotice, noticeAdd_has, add_has_eq])

theorem movingDrive {p : Point} (h : Carried a s) (hlive : s.drl.state ≠ .tripped) : Carried a (movingDrive p s) := by
  unfold Machine.movingDrive
  split
  · exact h
  · dsimp only
    repeat' split
    · exact h.moveReached hlive
    · exact Carried.reportIfIdle (Carried.softStop (s := s.onDrl _) (h.onDrl (.of_live hlive rfl rfl rfl)) hlive)
    · exact h.onDrl (.of_live hlive rfl rfl rfl)

theorem enablingPoint {ready : Bool} (h : Carried a s) (hlive : s.drl.state ≠ .tripped) :
    Carried a (enablingPoint ready s) := by
  have counted : Carried a (s.onDrl fun d => { d with enableWait := d.enableWait + 1 }) :=
    h.onDrl (.of_live hlive rfl rfl rfl)
  unfold Machine.enablingPoint enableWaitOut
  dsimp only
  repeat' split
  · exact counted.onDrl (.of_live hlive rfl rfl rfl)
  · exact (counted.onDrl (.of_live hlive rfl rfl rfl)).addNotice
  · exact counted

/-- The work of the drive on a point, in any of its states. -/
theorem drivePointWork {ready first : Bool} {p : Point} (h : Carried a s) :
    Carried a (drivePointWork ready first p s) := by
  cases hstate : s.drl.state <;> simp only [Machine.drivePointWork, hstate]
  case enabling => exact h.enablingPoint (by simp [hstate])
  case running => exact h.runningDrive (by simp [hstate])
  case stopping => exact (h.onDrl (.decelerate (by simp [hstate]))).reportIfIdle
  case moving => exact h.movingDrive (by simp [hstate])
  all_goals exact h

end Carried

/-! ### The exact ramp (R50) -/

/-- `e` is what `n` points of the ramp make of `d`: two-thousandths of the setpoint and the remainder together have
grown by `n` times the rate, and the remainder is small and on the side of the rate. -/
structure RampedFrom (d : Drl) (n : Nat) (e : Drl) : Prop where
  frozen : e.frozen = false
  rate : e.rate = d.rate
  balance : 2000 * e.setpoint + e.remainder = 2000 * d.setpoint + d.remainder + n * d.rate
  small : e.remainder.natAbs ≤ 1999
  up : 0 ≤ d.remainder → 0 ≤ d.rate → 0 ≤ e.remainder
  down : d.remainder ≤ 0 → d.rate ≤ 0 → e.remainder ≤ 0

theorem ramp_of_moving {d : Drl} (h : d.frozen = false) :
    d.ramp = { d with setpoint := d.setpoint + (d.remainder + d.rate).tdiv 2000
                      remainder := (d.remainder + d.rate).tmod 2000 } := by
  simp [Drl.ramp, h]

theorem RampedFrom.next {d e : Drl} {n : Nat} (h : RampedFrom d n e) : RampedFrom d (n + 1) e.ramp := by
  obtain ⟨hfrozen, hrate, hbalance, hsmall, hup, hdown⟩ := h
  have hdivision := Int.mul_tdiv_add_tmod (e.remainder + e.rate) 2000
  rw [ramp_of_moving hfrozen]
  refine ⟨hfrozen, hrate, ?_, ?_, fun h0 h1 => ?_, fun h0 h1 => ?_⟩
  · push_cast
    linarith
  · rw [Int.natAbs_tmod]
    exact Nat.le_of_lt_succ (Nat.mod_lt _ (by decide))
  · exact Int.tmod_nonneg _ (by have := hup h0 h1; omega)
  · have hneg := Int.tmod_nonneg 2000 (a := -(e.remainder + e.rate)) (by have := hdown h0 h1; omega)
    rw [Int.neg_tmod] at hneg
    show (e.remainder + e.rate).tmod 2000 ≤ 0
    omega

theorem RampedFrom.iterate {d : Drl} (hfrozen : d.frozen = false) (hsmall : d.remainder.natAbs ≤ 1999) (n : Nat) :
    RampedFrom d n (Drl.ramp^[n] d) := by
  induction n with
  | zero => exact ⟨hfrozen, rfl, by simp, hsmall, fun h _ => h, fun h _ => h⟩
  | succ n ih =>
    rw [Function.iterate_succ_apply']
    exact ih.next

/-- Over 2,000 points the ramp moves the setpoint by exactly the rate (R50). -/
theorem ramp_exact {d : Drl} (hfrozen : d.frozen = false) (hsmall : d.remainder.natAbs ≤ 1999)
    (hside : d.remainder * d.rate ≥ 0) :
    (Drl.ramp^[2000] d).setpoint = d.setpoint + d.rate ∧ (Drl.ramp^[2000] d).remainder = d.remainder := by
  obtain ⟨-, -, hbalance, hsmall', hup, hdown⟩ := RampedFrom.iterate hfrozen hsmall 2000
  generalize Drl.ramp^[2000] d = e at *
  rcases mul_nonneg_iff.1 hside with ⟨hrem, hrate⟩ | ⟨hrem, hrate⟩
  · have := hup hrem hrate
    omega
  · have := hdown hrem hrate
    omega

/-! ### The setpoint of a point (R50, R54, R56) -/

theorem frozenAfter_iff (limit : Nat) (error : Int) (before : Bool) :
    frozenAfter limit error before = true ↔
      limit ≠ 0 ∧ (before = true ∧ limit < 2 * error.natAbs ∨ before = false ∧ limit < error.natAbs) := by
  unfold frozenAfter
  by_cases hzero : limit = 0
  · simp [hzero]
  · cases before <;> simp [hzero]

/-- The drive record whose setpoint the freeze decision judges: the strain setpoint transferred, or as it stands. -/
def judgedDrive (first : Bool) (m : ControlMode) (p : Point) (d : Drl) : Drl :=
  if transfersStrain first m then d.strainTransfer p else d

/-- The freeze decision of a point. -/
def frozenOn (first : Bool) (m : ControlMode) (p : Point) (d : Drl) : Bool :=
  frozenAfter (d.frame.followLimit m) ((judgedDrive first m p d).setpoint - m.quantity p) d.frozen

theorem freezePoint_drl (m : ControlMode) (p : Point) (s : State) :
    (freezePoint m p s).drl = { s.drl with
      frozen := frozenAfter (s.drl.frame.followLimit m) (s.drl.setpoint - m.quantity p) s.drl.frozen } := by
  unfold freezePoint
  dsimp only
  split <;> simp

/-- A flag that becomes set on the point adds FOLLOWING. -/
theorem freezePoint_follows {m : ControlMode} {p : Point} {s : State} (hbefore : s.drl.frozen = false)
    (hafter : (freezePoint m p s).drl.frozen = true) :
    (freezePoint m p s).cli.notices.has .following = true ∧ (freezePoint m p s).cli.pending.notice = true := by
  rw [freezePoint_drl, hbefore] at hafter
  unfold freezePoint
  dsimp only
  rw [hbefore, if_pos (by simpa using hafter)]
  exact addNotice_noticed _ _

theorem setpointPoint_transfers {first : Bool} {m : ControlMode} {p : Point} {s : State}
    (h : transfersStrain first m = true) :
    (setpointPoint first m p s).drl = { s.drl with
      setpoint := p.strain, remainder := 0, frozen := frozenOn first m p s.drl } := by
  simp [setpointPoint, h, freezePoint_drl, frozenOn, judgedDrive, Drl.strainTransfer]

theorem setpointPoint_ramps {first : Bool} {m : ControlMode} {p : Point} {s : State}
    (h : transfersStrain first m = false) :
    (setpointPoint first m p s).drl = ({ s.drl with frozen := frozenOn first m p s.drl } : Drl).ramp := by
  simp [setpointPoint, h, freezePoint_drl, frozenOn, judgedDrive]

/-- What the setpoint of a point leaves of the drive, and the flag. -/
theorem setpointPoint_motion (first : Bool) (m : ControlMode) (p : Point) (s : State) :
    let d := (setpointPoint first m p s).drl
    d.state = s.drl.state ∧ d.velocity = s.drl.velocity ∧ d.mode = s.drl.mode ∧ d.rate = s.drl.rate ∧
    d.frame = s.drl.frame ∧ d.frozen = frozenOn first m p s.drl := by
  cases h : transfersStrain first m with
  | true =>
    rw [setpointPoint_transfers h]
    exact ⟨rfl, rfl, rfl, rfl, rfl, rfl⟩
  | false =>
    rw [setpointPoint_ramps h]
    unfold Drl.ramp
    dsimp only
    split <;> exact ⟨rfl, rfl, rfl, rfl, rfl, rfl⟩

theorem setpointPoint_follows {first : Bool} {m : ControlMode} {p : Point} {s : State} (hbefore : s.drl.frozen = false)
    (hafter : frozenOn first m p s.drl = true) :
    (setpointPoint first m p s).cli.notices.has .following = true ∧
    (setpointPoint first m p s).cli.pending.notice = true := by
  unfold setpointPoint
  split
  case isTrue h =>
    refine freezePoint_follows hbefore ?_
    rw [freezePoint_drl]
    simpa [frozenOn, judgedDrive, h, Drl.strainTransfer] using hafter
  case isFalse h =>
    refine freezePoint_follows hbefore ?_
    rw [freezePoint_drl]
    simpa [frozenOn, judgedDrive, h] using hafter

/-- The point is the first estimated one after a handover, in STRAIN_RATE (R56). -/
theorem transfersStrain_iff (m : ControlMode) (p : Point) (s : State) :
    transfersStrain (firstEstimated p s) m = true ↔
      m = .strainRate ∧ p.source = .estimated ∧ s.latest.source ≠ .estimated ∧ s.exm.removal = .handedOver := by
  simp [transfersStrain, firstEstimated]
  tauto

/-! ### The command of a point (R51, R52, R53) -/

/-- The command that the law forms (R51, R52), limited and clamped (R53). -/
theorem formed_eq {s : State} {d : Drl} (hv : d.velocity = s.drl.velocity) (hf : d.frame = s.drl.frame) (target : Int) :
    d.formed target = s.limitedCommand (divRound s.drl.frame.maxAccel 2000) target := by
  rw [Drl.formed, hv, hf]
  rfl

/-- The state after the setpoint of a point of a RUNNING drive, and the command formed from it. -/
theorem runningDrive_writes {first : Bool} {m : ControlMode} {p : Point} {w : State} (hm : w.drl.mode = some m)
    (h : limitReached w.lmu.softMin w.lmu.softMax p.position
      ((setpointPoint first m p w).drl.formed ((setpointPoint first m p w).drl.target m p)) = false) :
    runningDrive first p w = (setpointPoint first m p w).onDrl
      (Drl.write ((setpointPoint first m p w).drl.formed ((setpointPoint first m p w).drl.target m p))) := by
  simp [runningDrive, hm, h]

theorem runningDrive_stops {first : Bool} {m : ControlMode} {p : Point} {w : State} (hm : w.drl.mode = some m)
    (h : limitReached w.lmu.softMin w.lmu.softMax p.position
      ((setpointPoint first m p w).drl.formed ((setpointPoint first m p w).drl.target m p)) = true) :
    runningDrive first p w = reportIfIdle (holdCause .limit (softStop (setpointPoint first m p w))) := by
  simp [runningDrive, hm, h]

/-! ### A test that leaves RUNNING on the point -/

theorem enterEnding_state (why : EndReason) (s : State) :
    (enterEnding why s).tsq.state = .ending ∨ (enterEnding why s).tsq.state = .ended := by
  unfold enterEnding
  dsimp only
  split
  · exact .inr (by rw [enterEnded_tsq])
  · exact .inl rfl

/-- The test has left RUNNING, or has entered a segment on the point. -/
def LeavesSegment (t : State) : Prop := t.tsq.state ≠ .running ∨ t.tsq.segmentTime = 0

theorem enterEnding_leaves (why : EndReason) (s : State) : LeavesSegment (enterEnding why s) := by
  rcases enterEnding_state why s with h | h <;> exact .inl (by simp [h])

theorem enterHeld_leaves (why : HeldReason) (i : Option Nat) (s : State) : LeavesSegment (enterHeld why i s) :=
  .inl (by simp [enterHeld_tsq])

theorem reachSegment_leaves (i : Nat) (p : Point) (s : State) : LeavesSegment (reachSegment i p s) := by
  unfold reachSegment
  split
  · exact enterHeld_leaves _ _ _
  · exact .inr (by simp [enterSegment_tsq])

theorem onEndAction_leaves (i : Nat) (x : OnEnd) (p : Point) (s : State) : LeavesSegment (onEndAction i x p s) := by
  cases x with
  | next =>
    unfold onEndAction
    dsimp only
    split
    · exact enterEnding_leaves _ _
    · exact reachSegment_leaves _ _ _
  | hold => exact enterHeld_leaves _ _ _
  | endTest => exact enterEnding_leaves _ _

/-- A RUNNING test on the point: it goes on in its segment with the drive as it is, or leaves it. -/
theorem runningTaken_goesOn (fractured : Bool) (p : Point) (s : State) :
    (runningTaken fractured p s).drl = s.drl ∨ LeavesSegment (runningTaken fractured p s) := by
  unfold runningTaken runningPoint
  dsimp only
  repeat' split
  · exact .inr (enterEnding_leaves _ _)
  · exact .inl rfl
  · exact .inl rfl
  · exact .inr (onEndAction_leaves _ _ _ _)
  · exact .inl rfl

/-- A test out of RUNNING that no Resume takes back into it: the states that a slip action or a limit leaves. -/
def StaysOut (t : State) : Prop :=
  t.tsq.state = .held ∧ t.tsq.resumeEntry = none ∨ t.tsq.state = .ending ∨ t.tsq.state = .ended

theorem StaysOut.not_running {t : State} (h : StaysOut t) : t.tsq.state ≠ .running := by
  rcases h with ⟨h, -⟩ | h | h <;> simp [h]

theorem enterEnding_staysOut (why : EndReason) (s : State) : StaysOut (enterEnding why s) :=
  .inr (enterEnding_state why s)

theorem sequencerPoint_staysOut {fractured : Bool} {p : Point} {u : State} (h : StaysOut u) :
    StaysOut (sequencerPoint fractured p u) := by
  rcases h with ⟨hq, hresume⟩ | hq | hq
  · unfold sequencerPoint heldPoint
    rw [hq, hresume]
    dsimp only
    split
    · exact enterEnding_staysOut _ _
    · exact .inl ⟨hq, hresume⟩
  · rw [sequencerPoint, hq]
    exact .inr (.inl hq)
  · rw [sequencerPoint, hq]
    exact .inr (.inr hq)

/-- A slip action on a RUNNING test leaves it as it is or takes it out of RUNNING (R35). -/
theorem slipAction_running {u : State} (hq : u.tsq.state = .running) :
    slipAction u = u ∨ StaysOut (slipAction u) := by
  unfold slipAction
  rw [hq]
  cases u.header.slipAction with
  | carryOn => exact .inl rfl
  | hold => exact .inr (.inl (by simp [enterHeld_tsq]))
  | abort => exact .inr (enterEnding_staysOut _ _)

/-- The Evaluation Unit on a point of a RUNNING test: the test and the drive stand, or the slip action takes the test
out of RUNNING. -/
theorem evaluationPoint_running {unrest : Bool} {p : Point} {s : State} (hq : s.tsq.state = .running) :
    ((evaluationPoint unrest p s).1.tsq = s.tsq ∧ (evaluationPoint unrest p s).1.drl = s.drl) ∨
    StaysOut (evaluationPoint unrest p s).1 := by
  unfold evaluationPoint
  rw [if_pos (by simp [hq, SeqState.evaluated])]
  dsimp only
  split
  · rcases slipAction_running (u := applyEval (evaluate (s.evalInput unrest p) s.evu) s) (by simp [hq]) with h | h
    · exact .inl (by simp [h])
    · exact .inr h
  · exact .inl (by simp)

/-- The test of a RUNNING drive on a point: the drive stands as it is, or the test leaves its segment. -/
theorem passTest_running {unrest : Bool} {p : Point} {s : State} (hq : s.tsq.state = .running) :
    (passTest unrest p s).drl = s.drl ∨ LeavesSegment (passTest unrest p s) := by
  unfold passTest
  generalize hu : managerPoint (evaluationPoint unrest p s).2 p (evaluationPoint unrest p s).1 = u
  have htsq : u.tsq = (evaluationPoint unrest p s).1.tsq := by rw [← hu]; simp
  have hdrl : u.drl = (evaluationPoint unrest p s).1.drl := by rw [← hu]; simp
  rcases evaluationPoint_running (unrest := unrest) (p := p) hq with ⟨ktsq, kdrl⟩ | h
  · rw [sequencerPoint, htsq, ktsq, hq, ← kdrl, ← hdrl]
    exact runningTaken_goesOn _ _ _
  · exact .inr (.inl (sequencerPoint_staysOut (by simpa only [StaysOut, htsq] using h)).not_running)

/-! ### A test held at a soft limit (R31, R64) -/

/-- The test stands out of RUNNING, held for LIMIT or ended, and its drive has come to rest or slows down as `d`. -/
structure AtLimit (d : Drl) (z : State) : Prop where
  state : z.drl.state = d.state
  velocity : z.drl.velocity = d.velocity
  dacCode : z.drl.dacCode = d.dacCode
  out : StaysOut z
  reason : z.tsq.state = .held → z.tsq.heldReason = some .limit

theorem AtLimit.of_eq {d : Drl} {y z : State} (h : AtLimit d y) (ht : z.tsq = y.tsq) (hd : z.drl = y.drl) :
    AtLimit d z := by
  obtain ⟨hstate, hvelocity, hdac, hout, hreason⟩ := h
  exact ⟨by rw [hd, hstate], by rw [hd, hvelocity], by rw [hd, hdac], by simpa only [StaysOut, ht] using hout,
    by rwa [ht]⟩

/-- Ending the test leaves such a drive as it is. -/
theorem AtLimit.enterEnding {d : Drl} {y : State} (hd : d.state = .idle ∨ d.state = .stopping) (h : AtLimit d y)
    (why : EndReason) : AtLimit d (enterEnding why y) := by
  have hstop : y.drl.stop = y.drl := by
    unfold Drl.stop
    rw [h.state]
    rcases hd with hd | hd <;> rw [hd]
  have hdrl : (Machine.enterEnding why y).drl = y.drl ∨ (Machine.enterEnding why y).drl = y.drl.testEnd := by
    unfold Machine.enterEnding
    dsimp only
    split
    · exact .inr (by simp [enterEnded_drl, hstop])
    · exact .inl (by simp [hstop])
  have hnot : (Machine.enterEnding why y).tsq.state ≠ .held := by
    rcases enterEnding_state why y with h | h <;> simp [h]
  rcases hdrl with hdrl | hdrl <;>
    exact ⟨by rw [hdrl]; exact h.state, by rw [hdrl]; exact h.velocity, by rw [hdrl]; exact h.dacCode,
      enterEnding_staysOut _ _, fun hq => absurd hq hnot⟩

theorem AtLimit.slipAction {d : Drl} {y : State} (hd : d.state = .idle ∨ d.state = .stopping) (h : AtLimit d y) :
    AtLimit d (slipAction y) := by
  unfold Machine.slipAction
  split
  case h_1 hq => exact absurd hq h.out.not_running
  · exact h.enterEnding hd _
  · exact h.enterEnding hd _
  · exact h

theorem AtLimit.sequencerPoint {d : Drl} {y : State} (hd : d.state = .idle ∨ d.state = .stopping) (h : AtLimit d y)
    (fractured : Bool) (p : Point) : AtLimit d (sequencerPoint fractured p y) := by
  rcases h.out with ⟨hq, hresume⟩ | hq | hq
  · unfold Machine.sequencerPoint heldPoint
    rw [hq, hresume]
    dsimp only
    split
    · exact h.enterEnding hd _
    · exact h
  · rw [Machine.sequencerPoint, hq]
    exact h
  · rw [Machine.sequencerPoint, hq]
    exact h

/-- The consumers after the drive leave a test held at a soft limit out of RUNNING and its drive as it is. -/
theorem AtLimit.passTest {d : Drl} {y : State} (hd : d.state = .idle ∨ d.state = .stopping) (h : AtLimit d y)
    (unrest : Bool) (p : Point) : AtLimit d (passTest unrest p y) := by
  have evaluated : AtLimit d (evaluationPoint unrest p y).1 := by
    unfold evaluationPoint
    split
    · dsimp only
      split
      · exact AtLimit.slipAction hd (h.of_eq (by simp) (by simp))
      · exact h.of_eq (by simp) (by simp)
    · exact h
  exact (evaluated.of_eq (by simp) (by simp)).sequencerPoint hd _ _

/-- The soft-limit stop of a RUNNING test (R31, R64): HELD for LIMIT, with LIMIT_STOP and HELD, the drive after its
first deceleration step. -/
theorem limitStop_atLimit {x : State} (hq : x.tsq.state = .running) :
    let y := reportIfIdle (holdCause .limit (softStop x))
    AtLimit x.drl.decelerate y ∧ y.cli.notices.has .limitStop = true ∧ y.cli.pending.notice = true ∧
    y.cli.pending.held = true := by
  intro y
  have hheld : holdCause .limit (softStop x) = enterHeld .limit none (softStop x) := by
    simp [holdCause, softStop, hq]
  have hdrl : (enterHeld .limit none (softStop x)).drl = x.drl.decelerate := by simp [enterHeld, softStop]
  have noticed := addNotice_noticed .limitStop (x.onDrl Drl.decelerate)
  have carried : Carried (softStop x) (enterHeld .limit none (softStop x)) := (Carried.refl _).enterHeld
  have reported : Carried (enterHeld .limit none (softStop x)) y := by
    rw [← hheld]
    exact (Carried.refl _).reportIfIdle
  obtain ⟨ktsq, -, kstate, kvelocity, kdac, -⟩ :=
    reportIfIdle_keeps (s := enterHeld .limit none (softStop x)) (by simp [enterHeld_tsq])
  rw [← hheld] at ktsq kstate kvelocity kdac
  rw [hheld, enterHeld_tsq] at ktsq
  refine ⟨⟨?_, ?_, ?_, ?_, ?_⟩, (carried.trans reported).cli.notices _ noticed.1,
    (carried.trans reported).cli.pending .notice noticed.2, reported.cli.pending .held (raise_has .held _)⟩
  · exact kstate.trans (by rw [hheld, hdrl])
  · exact kvelocity.trans (by rw [hheld, hdrl])
  · exact kdac.trans (by rw [hheld, hdrl])
  · exact .inl ⟨by simp [y, hheld, ktsq], by simp [y, hheld, ktsq]⟩
  · intro _
    simp [y, hheld, ktsq]

/-! ### The obligation -/

/-- What the point of a RUNNING test brings whose drive is RUNNING: `x` is the state once the drive has formed its
setpoint and `v` the command. -/
structure RunningPoint (s : State) (x : State) (p : Point) (v : Int) (t : State) : Prop where
  carried : Carried x t
  /-- The command points outward at a soft limit. -/
  limit : s.atSoftLimit p.position v → AtLimit x.drl.decelerate t ∧ t.cli.notices.limitStop = true ∧
    t.cli.pending.notice = true ∧ t.cli.pending.held = true
  /-- The command is written. -/
  inside : ¬ s.atSoftLimit p.position v → t.drl = x.drl.write v ∨ LeavesSegment t

/-- The command that the law forms on a point from the setpoint of `x` (R51 to R53). -/
def commandOn (m : ControlMode) (p : Point) (x : State) : Int := x.drl.formed (x.drl.target m p)

theorem runningPoint_of_calm {s : State} {c : Conversion} {m : ControlMode} (hcalm : s.calm c)
    (hq : s.tsq.state = .running) (hstate : s.drl.state = .running) (hm : s.drl.mode = some m) :
    ∃ p w t, exec (.conversionComplete c) s = .next t ∧ t.latestPoint = some p ∧ Sampled s c w ∧
      RunningPoint s (setpointPoint (firstEstimated p s) m p w) p
        (commandOn m p (setpointPoint (firstEstimated p s) m p w)) t := by
  obtain ⟨p, w, v, t, hruns, hpoint, -, hsampled, hpasses, hends⟩ := conversion_calm hcalm
  refine ⟨p, w, t, hruns, hpoint, hsampled, ?_⟩
  have hmode : w.drl.mode = some m := hsampled.motion.mode.trans hm
  have hwork : drivePointWork c.driveReady (firstEstimated p s) p w = runningDrive (firstEstimated p s) p w := by
    simp [drivePointWork, hsampled.motion.state, hstate]
  rw [hwork] at hpasses
  have passed : Carried (runningDrive (firstEstimated p s) p w) t :=
    (hpasses ▸ (Carried.refl (runningDrive (firstEstimated p s) p w)).passTest).trans hends.carried
  have stops := runningDrive_stops (first := firstEstimated p s) (p := p) hmode
  have writes := runningDrive_writes (first := firstEstimated p s) (p := p) hmode
  generalize firstEstimated p s = first at *
  have hrunning : (setpointPoint first m p w).tsq.state = .running := by simp [hsampled.tsq, hq]
  have live : (setpointPoint first m p w).drl.state ≠ .tripped := by simp [hsampled.motion.state, hstate]
  rw [hsampled.softMin, hsampled.softMax, ← commandOn] at stops writes
  by_cases hlimit : s.atSoftLimit p.position (commandOn m p (setpointPoint first m p w))
  · have stops := stops (limitReached_iff.2 hlimit)
    obtain ⟨hat, hnotice, hpending, hheld⟩ := limitStop_atLimit hrunning
    rw [← stops] at hat hnotice hpending hheld
    have after : AtLimit (setpointPoint first m p w).drl.decelerate t :=
      (hpasses ▸ hat.passTest (decelerate_state _) (formedOn s c).unrest p).of_eq hends.tsq hends.drl
    refine ⟨Carried.trans ?_ passed, fun _ => ⟨after, passed.cli.notices _ hnotice, passed.cli.pending .notice hpending,
      passed.cli.pending .held hheld⟩, fun h => absurd hlimit h⟩
    rw [stops]
    exact ((Carried.refl _).softStop live).holdCause.reportIfIdle
  · have writes := writes (Bool.eq_false_iff.2 (mt limitReached_iff.1 hlimit))
    refine ⟨Carried.trans ?_ passed, fun h => absurd h hlimit, fun _ => ?_⟩
    · rw [writes]
      exact (Carried.refl _).onDrl (.of_live live rfl rfl rfl)
    · have hruns' : (runningDrive first p w).tsq.state = .running := by rw [writes]; exact hrunning
      rcases passTest_running (unrest := (formedOn s c).unrest) (p := p) hruns' with hdrl | hleaves
      · exact .inl (by rw [hends.drl, hpasses, hdrl, writes]; rfl)
      · exact .inr (by simpa only [LeavesSegment, hends.tsq, hpasses] using hleaves)

/-- Settles O33: the law of the drive on a point of its test, and the exact ramp. -/
theorem runningDriveFollowsItsSegment : Obligations.RunningDriveFollowsItsSegment := by
  refine ⟨fun s c m hcalm hq hstate hm => ?_, fun d hfrozen hsmall hside => ramp_exact hfrozen hsmall hside⟩
  obtain ⟨p, w, t, hruns, hpoint, hsampled, hpasses⟩ := runningPoint_of_calm hcalm hq hstate hm
  obtain ⟨hcarried, hlimit, hinside⟩ := hpasses
  obtain ⟨kstate, kvelocity, kmode, krate, kframe, kfrozen⟩ := setpointPoint_motion (firstEstimated p s) m p w
  have htransfers := transfersStrain_iff m p s
  have transfers := setpointPoint_transfers (first := firstEstimated p s) (m := m) (p := p) (s := w)
  have ramps := setpointPoint_ramps (first := firstEstimated p s) (m := m) (p := p) (s := w)
  have follows := setpointPoint_follows (first := firstEstimated p s) (m := m) (p := p) (s := w)
  generalize firstEstimated p s = first at *
  generalize setpointPoint first m p w = x at *
  obtain ⟨wstate, wvelocity, wdac, wmode, wrate, wsetpoint, wremainder, wfrozen, -, -, -, -, wframe⟩ := hsampled.motion
  refine ⟨t, p, commandOn m p x, x.drl.setpoint, x.drl.remainder, frozenOn first m p w.drl, hruns, hpoint, ?_⟩
  intro f q limit transfer error
  have hlimitOf : w.drl.frame.followLimit m = limit := by
    rw [wframe]
    cases m <;> rfl
  have herror : (judgedDrive first m p w.drl).setpoint - m.quantity p = error := by
    rw [quantity_eq_value]
    by_cases htransfer : transfer
    · simp [judgedDrive, htransfers.2 htransfer, Drl.strainTransfer, error, htransfer, q]
    · simp [judgedDrive, Bool.eq_false_iff.2 (mt htransfers.1 htransfer), wsetpoint, error, htransfer, q]
  have ramped : ¬ transfer → x.drl = ({ w.drl with frozen := frozenOn first m p w.drl } : Drl).ramp := fun h =>
    ramps (Bool.eq_false_iff.2 (mt htransfers.1 h))
  refine ⟨?_, fun h => ?_, fun h hfrozen => ?_, fun h hfrozen => ?_, ?_, fun hbefore hafter => ?_, fun h => ?_,
    fun h htest htime => ?_⟩
  · rw [frozenOn, frozenAfter_iff, herror, hlimitOf, wfrozen]
  · rw [transfers (htransfers.2 h)]
    exact ⟨rfl, rfl⟩
  · rw [ramped h, hfrozen, ← wsetpoint, ← wremainder]
    exact ⟨rfl, rfl⟩
  · rw [ramped h, hfrozen, ramp_of_moving rfl, ← wsetpoint, ← wremainder, ← wrate]
    exact ⟨rfl, rfl⟩
  · rw [commandOn, formed_eq (kvelocity.trans wvelocity) (kframe.trans wframe)]
    cases m <;> simp only [Drl.target, krate, wrate, kvelocity, wvelocity, kframe, wframe] <;> rfl
  · obtain ⟨hnotice, hpending⟩ := follows (wfrozen.trans hbefore) hafter
    exact ⟨hcarried.cli.notices _ hnotice, hcarried.cli.pending .notice hpending⟩
  · obtain ⟨⟨hstate', hvelocity, hdac, hout, hreason⟩, hnotice, hpending, hheld⟩ := hlimit h
    exact ⟨slowedTo_of_decelerate (kvelocity.trans wvelocity) (kframe.trans wframe) hstate' hvelocity hdac, hnotice,
      hpending, hheld, hout.not_running, hreason⟩
  · have hdrl := (hinside h).resolve_right fun hleaves => by
      rcases hleaves with hleaves | hleaves
      · exact hleaves htest
      · omega
    rw [hdrl]
    exact ⟨kstate.trans (wstate.trans hstate), rfl, by simp [Drl.write, dacOf, kframe, wframe, f], rfl, rfl, kfrozen,
      kmode.trans (wmode.trans hm), krate.trans wrate⟩

end Sys2Proof.Proofs
end

section
/-! The consumers of a point up to the Test Sequencer neither read the record of the Limit Monitor, its soft limits
apart, nor write it: a change `f` of that record may be made before each of them or after it (R80, R167). -/

namespace Sys2Proof.Proofs

open Sys2Proof.Machine Sys2Proof.Laws

section
variable (f : Lmu → Lmu) (s : State)

/-! ### The updates of a block and the readings of the state -/

theorem blockUpdates_onLmu :
    (∀ g, (s.onLmu f).onCli g = (s.onCli g).onLmu f) ∧ (∀ g, (s.onLmu f).onTsq g = (s.onTsq g).onLmu f) ∧
    (∀ g, (s.onLmu f).onDrl g = (s.onDrl g).onLmu f) ∧ (∀ g, (s.onLmu f).onFcu g = (s.onFcu g).onLmu f) ∧
    (∀ g, (s.onLmu f).onGlc g = (s.onGlc g).onLmu f) ∧ (∀ g, (s.onLmu f).onExm g = (s.onExm g).onLmu f) ∧
    (∀ g, (s.onLmu f).onEvu g = (s.onEvu g).onLmu f) ∧ (∀ g, (s.onLmu f).onSms g = (s.onSms g).onLmu f) :=
  ⟨fun _ => rfl, fun _ => rfl, fun _ => rfl, fun _ => rfl, fun _ => rfl, fun _ => rfl, fun _ => rfl, fun _ => rfl⟩

theorem readings_onLmu :
    (s.onLmu f).header = s.header ∧ (s.onLmu f).segments = s.segments ∧ (s.onLmu f).latest = s.latest ∧
    (s.onLmu f).inTest = s.inTest ∧ (s.onLmu f).mayRangeDown = s.mayRangeDown :=
  ⟨rfl, rfl, rfl, rfl, rfl⟩

theorem ite_onLmu {c : Prop} [Decidable c] {a b a' b' : State} (ha : a' = a.onLmu f) (hb : b' = b.onLmu f) :
    (if c then a' else b') = (if c then a else b).onLmu f := by
  split <;> assumption

/-! ### Sources, notices and records -/

theorem raise_onLmu (k : Source) : raise k (s.onLmu f) = (raise k s).onLmu f := rfl

theorem addNotice_onLmu (n : Notice) : addNotice n (s.onLmu f) = (addNotice n s).onLmu f := rfl

theorem pacingRaise_onLmu : pacingRaise (s.onLmu f) = (pacingRaise s).onLmu f := rfl

theorem pacingPoint_onLmu : pacingPoint (s.onLmu f) = (pacingPoint s).onLmu f := by
  unfold pacingPoint
  simp only [blockUpdates_onLmu, onLmu_sms, pacingRaise_onLmu]
  repeat' split
  all_goals rfl

theorem pacingCount_onLmu (mark : Bool) (n : Nat) :
    pacingCount mark n (s.onLmu f) = (pacingCount mark n s).onLmu f := by
  unfold pacingCount
  simp only [blockUpdates_onLmu, onLmu_sms, pacingRaise_onLmu]
  split <;> rfl

theorem pacingStored_onLmu (mark : Bool) : pacingStored mark (s.onLmu f) = (pacingStored mark s).onLmu f := by
  unfold pacingStored
  simp only [blockUpdates_onLmu, onLmu_sms, pacingCount_onLmu]
  split <;> rfl

theorem storeRecord_onLmu (mark : Bool) (k : RecordKind) (i : Option Nat) (p : Point) :
    storeRecord mark k i p (s.onLmu f) = (storeRecord mark k i p s).onLmu f := by
  unfold storeRecord
  simp only [blockUpdates_onLmu, pacingStored_onLmu]

theorem storeMark_onLmu (k : RecordKind) (p : Point) : storeMark k p (s.onLmu f) = (storeMark k p s).onLmu f := by
  unfold storeMark
  simp only [blockUpdates_onLmu, storeRecord_onLmu]

theorem decideThinning_onLmu : decideThinning (s.onLmu f) = (decideThinning s).onLmu f := by
  unfold decideThinning
  simp only [blockUpdates_onLmu, onLmu_sms, addNotice_onLmu]
  split <;> rfl

theorem offerSegmentStart_onLmu (i : Nat) (p : Point) :
    offerSegmentStart i p (s.onLmu f) = (offerSegmentStart i p s).onLmu f := by
  unfold offerSegmentStart
  simp only [readings_onLmu, blockUpdates_onLmu, onLmu_sms, storeRecord_onLmu, decideThinning_onLmu]
  split <;> rfl

/-! ### The heads -/

theorem setHeadState_onLmu (h : Head) (st : HeadState) :
    setHeadState h st (s.onLmu f) = (setHeadState h st s).onLmu f := ite_onLmu f rfl rfl

theorem askLiftIf_onLmu (q : HeadState → Bool) (h : Head) :
    askLiftIf q h (s.onLmu f) = (askLiftIf q h s).onLmu f := ite_onLmu f rfl rfl

theorem recoveryLift_onLmu (h : Head) : recoveryLift h (s.onLmu f) = (recoveryLift h s).onLmu f :=
  ite_onLmu f (ite_onLmu f rfl rfl) rfl

theorem recoverBoth_onLmu : recoverBoth (s.onLmu f) = (recoverBoth s).onLmu f := by
  unfold recoverBoth
  simp only [recoveryLift_onLmu]

theorem withdrawWaiting_onLmu (q : WaitingCmd → Bool) :
    withdrawWaiting q (s.onLmu f) = (withdrawWaiting q s).onLmu f := rfl

theorem handover_onLmu (t : Trigger) : handover t (s.onLmu f) = (handover t s).onLmu f := by
  unfold handover
  simp only [readings_onLmu, blockUpdates_onLmu, storeMark_onLmu, askLiftIf_onLmu, recoverBoth_onLmu]

theorem fractureFreeze_onLmu (p : Point) : fractureFreeze p (s.onLmu f) = (fractureFreeze p s).onLmu f := by
  unfold fractureFreeze
  simp only [blockUpdates_onLmu, onLmu_exm, askLiftIf_onLmu, recoverBoth_onLmu]
  split <;> rfl

theorem headTestEnd_onLmu (h : Head) : headTestEnd h (s.onLmu f) = (headTestEnd h s).onLmu f := by
  unfold headTestEnd
  simp only [onLmu_exm, setHeadState_onLmu]
  split <;> rfl

theorem extTestEnd_onLmu : extTestEnd (s.onLmu f) = (extTestEnd s).onLmu f := by
  unfold extTestEnd
  simp only [blockUpdates_onLmu, onLmu_exm, recoverBoth_onLmu, withdrawWaiting_onLmu, headTestEnd_onLmu]
  split <;> rfl

theorem headTestEntry_onLmu (h : Head) : headTestEntry h (s.onLmu f) = (headTestEntry h s).onLmu f :=
  ite_onLmu f (setHeadState_onLmu f s h .measuring) rfl

theorem extTestEntry_onLmu : extTestEntry (s.onLmu f) = (extTestEntry s).onLmu f := by
  unfold extTestEntry
  simp only [blockUpdates_onLmu, onLmu_exm, withdrawWaiting_onLmu, headTestEntry_onLmu]
  split <;> rfl

theorem removalCheck_onLmu (p : Point) : removalCheck p (s.onLmu f) = (removalCheck p s).onLmu f := by
  have hopen : evaluationOpen (s.onLmu f) = evaluationOpen s := rfl
  have htrigger : removalTrigger p (s.onLmu f) = removalTrigger p s := rfl
  unfold removalCheck
  simp only [hopen, htrigger, readings_onLmu, onLmu_exm, handover_onLmu]
  cases s.exm.removal with
  | watching =>
    cases removalTrigger p s with
    | none => rfl
    | some t => exact ite_onLmu f rfl rfl
  | deferred => exact ite_onLmu f rfl rfl
  | idle => rfl
  | handedOver => rfl
  | closed => rfl

theorem managerPoint_onLmu (b : Bool) (p : Point) :
    managerPoint b p (s.onLmu f) = (managerPoint b p s).onLmu f :=
  ite_onLmu f (fractureFreeze_onLmu f s p) (ite_onLmu f (removalCheck_onLmu f s p) rfl)

/-! ### The test -/

theorem evalEntry_onLmu (b : Bool) (p : Point) : evalEntry b p (s.onLmu f) = (evalEntry b p s).onLmu f := rfl

theorem evalTestEnd_onLmu (why : EndReason) : evalTestEnd why (s.onLmu f) = (evalTestEnd why s).onLmu f := rfl

theorem enterEnded_onLmu (why : EndReason) (cause : Option StartCause) :
    enterEnded why cause (s.onLmu f) = (enterEnded why cause s).onLmu f := by
  unfold enterEnded
  simp only [readings_onLmu, blockUpdates_onLmu, raise_onLmu, storeMark_onLmu, extTestEnd_onLmu, evalTestEnd_onLmu]

theorem failStart_onLmu (cause : StartCause) : failStart cause (s.onLmu f) = (failStart cause s).onLmu f := by
  unfold failStart
  simp only [enterEnded_onLmu]

theorem enterEnding_onLmu (why : EndReason) : enterEnding why (s.onLmu f) = (enterEnding why s).onLmu f := by
  unfold enterEnding
  simp only [blockUpdates_onLmu, onLmu_drl, enterEnded_onLmu]
  split <;> rfl

theorem reportIdle_onLmu : reportIdle (s.onLmu f) = (reportIdle s).onLmu f := by
  unfold reportIdle
  simp only [blockUpdates_onLmu, onLmu_tsq, onLmu_drl, addNotice_onLmu, enterEnded_onLmu]
  repeat' split
  all_goals rfl

theorem reportIfIdle_onLmu : reportIfIdle (s.onLmu f) = (reportIfIdle s).onLmu f := by
  unfold reportIfIdle
  simp only [onLmu_drl, reportIdle_onLmu]
  split <;> rfl

theorem enterHeld_onLmu (why : HeldReason) (i : Option Nat) :
    enterHeld why i (s.onLmu f) = (enterHeld why i s).onLmu f := by
  unfold enterHeld
  simp only [blockUpdates_onLmu]
  split <;> rfl

theorem holdCause_onLmu (why : HeldReason) : holdCause why (s.onLmu f) = (holdCause why s).onLmu f := by
  unfold holdCause
  simp only [onLmu_tsq, enterHeld_onLmu]
  split <;> rfl

theorem slipAction_onLmu : slipAction (s.onLmu f) = (slipAction s).onLmu f := by
  unfold slipAction
  simp only [readings_onLmu, onLmu_tsq, enterEnding_onLmu, enterHeld_onLmu]
  split <;> rfl

theorem enterSegment_onLmu (i : Nat) (p : Point) : enterSegment i p (s.onLmu f) = (enterSegment i p s).onLmu f := by
  unfold enterSegment
  dsimp only
  rw [← offerSegmentStart_onLmu]
  congr 1
  have hsegments : ∀ g, ((s.onLmu f).onTsq g).segments = (s.onTsq g).segments := fun _ => rfl
  rw [hsegments]
  split <;> rfl

theorem reachSegment_onLmu (i : Nat) (p : Point) : reachSegment i p (s.onLmu f) = (reachSegment i p s).onLmu f := by
  unfold reachSegment
  simp only [onLmu_tsq, enterHeld_onLmu, enterSegment_onLmu]
  split <;> rfl

theorem onEndAction_onLmu (i : Nat) (a : OnEnd) (p : Point) :
    onEndAction i a p (s.onLmu f) = (onEndAction i a p s).onLmu f := by
  cases a with
  | next => exact ite_onLmu f (enterEnding_onLmu f s .complete) (reachSegment_onLmu f s (i + 1) p)
  | hold => exact enterHeld_onLmu f s .onEnd none
  | endTest => exact enterEnding_onLmu f s .complete

theorem takeTare_onLmu : takeTare (s.onLmu f) = (takeTare s).onLmu f := rfl

theorem setStartStep_onLmu (x : StartStep) : setStartStep x (s.onLmu f) = (setStartStep x s).onLmu f := rfl

theorem askZero_onLmu (h : Head) : askZero h (s.onLmu f) = (askZero h s).onLmu f := rfl

theorem beginZero_onLmu : beginZero (s.onLmu f) = (beginZero s).onLmu f := by
  unfold beginZero
  simp only [readings_onLmu, onLmu_exm, setStartStep_onLmu, askZero_onLmu]
  repeat' split
  all_goals rfl

theorem waitTare_onLmu : waitTare (s.onLmu f) = (waitTare s).onLmu f := by
  unfold waitTare
  simp only [blockUpdates_onLmu, onLmu_tsq, onLmu_fcu, failStart_onLmu, takeTare_onLmu, beginZero_onLmu]
  repeat' split
  all_goals rfl

theorem beginTare_onLmu : beginTare (s.onLmu f) = (beginTare s).onLmu f := by
  unfold beginTare
  simp only [readings_onLmu, blockUpdates_onLmu, onLmu_fcu, takeTare_onLmu, beginZero_onLmu]
  repeat' split
  all_goals rfl

theorem testEntry_onLmu (p : Point) : testEntry p (s.onLmu f) = (testEntry p s).onLmu f := by
  unfold testEntry
  simp only [blockUpdates_onLmu, onLmu_exm, storeMark_onLmu, extTestEntry_onLmu, evalEntry_onLmu, reachSegment_onLmu]

theorem startingPoint_onLmu (p : Point) : startingPoint p (s.onLmu f) = (startingPoint p s).onLmu f := by
  unfold startingPoint
  simp only [onLmu_tsq, waitTare_onLmu, beginTare_onLmu, testEntry_onLmu]
  split <;> rfl

theorem heldPoint_onLmu (p : Point) : heldPoint p (s.onLmu f) = (heldPoint p s).onLmu f := by
  unfold heldPoint
  simp only [onLmu_tsq, enterSegment_onLmu]
  split <;> rfl

theorem countSegmentTime_onLmu : countSegmentTime (s.onLmu f) = (countSegmentTime s).onLmu f := rfl

theorem runningPoint_onLmu (p : Point) : runningPoint p (s.onLmu f) = (runningPoint p s).onLmu f := by
  have hends : ∀ g, segmentEnds g p (s.onLmu f) = segmentEnds g p s := fun _ => rfl
  unfold runningPoint
  simp only [hends, readings_onLmu, onLmu_tsq, onEndAction_onLmu]
  repeat' split
  all_goals rfl

theorem runningTaken_onLmu (b : Bool) (p : Point) :
    runningTaken b p (s.onLmu f) = (runningTaken b p s).onLmu f := by
  unfold runningTaken
  simp only [enterEnding_onLmu, countSegmentTime_onLmu, runningPoint_onLmu]
  split <;> rfl

theorem sequencerPoint_onLmu (b : Bool) (p : Point) :
    sequencerPoint b p (s.onLmu f) = (sequencerPoint b p s).onLmu f := by
  unfold sequencerPoint
  simp only [onLmu_tsq, enterEnding_onLmu, startingPoint_onLmu, heldPoint_onLmu, runningTaken_onLmu]
  repeat' split
  all_goals rfl

theorem handMarks_onLmu (ms : List (RecordKind × Point)) : handMarks ms (s.onLmu f) = (handMarks ms s).onLmu f := by
  induction ms generalizing s with
  | nil => rfl
  | cons x rest ih => exact (congrArg (handMarks rest) (storeMark_onLmu f s x.1 x.2)).trans (ih (storeMark x.1 x.2 s))

theorem applyEval_onLmu (o : EvalOut) : applyEval o (s.onLmu f) = (applyEval o s).onLmu f := by
  unfold applyEval
  simp only [blockUpdates_onLmu, onLmu_evu, raise_onLmu, handMarks_onLmu]
  repeat' split
  all_goals rfl

/-! ### The point formed -/

theorem captureTravelZero_onLmu : captureTravelZero (s.onLmu f) = (captureTravelZero s).onLmu f := by
  unfold captureTravelZero
  simp only [blockUpdates_onLmu, onLmu_drl]
  split <;> rfl

theorem judgeHeads_onLmu : judgeHeads (s.onLmu f) = (judgeHeads s).onLmu f := rfl

theorem windowEntry_onLmu (p : Point) : windowEntry p (s.onLmu f) = (windowEntry p s).onLmu f := by
  unfold windowEntry
  simp only [readings_onLmu, blockUpdates_onLmu]
  split <;> rfl

theorem rangeChange_onLmu (r : Range) : rangeChange r (s.onLmu f) = (rangeChange r s).onLmu f := rfl

theorem rangeLogic_onLmu (u : Use) (raw : Int) : rangeLogic u raw (s.onLmu f) = (rangeLogic u raw s).onLmu f := by
  unfold rangeLogic
  simp only [readings_onLmu, blockUpdates_onLmu, onLmu_fcu, rangeChange_onLmu]
  repeat' split
  all_goals rfl

theorem closeTareWait_onLmu : closeTareWait (s.onLmu f) = (closeTareWait s).onLmu f := rfl

theorem tareWaitOut_onLmu : tareWaitOut (s.onLmu f) = (tareWaitOut s).onLmu f := rfl

theorem tareWaitPoint_onLmu : tareWaitPoint (s.onLmu f) = (tareWaitPoint s).onLmu f := by
  unfold tareWaitPoint
  simp only [blockUpdates_onLmu, onLmu_fcu, closeTareWait_onLmu, tareWaitOut_onLmu]
  repeat' split
  all_goals rfl

theorem makePoint_onLmu (u : Use) (raw : Int) : makePoint u raw (s.onLmu f) = makePoint u raw s := rfl

theorem windowEntry_noted (p : Point) (q : Option Point) :
    windowEntry p { s.onLmu f with latestPoint := q } = (windowEntry p { s with latestPoint := q }).onLmu f :=
  windowEntry_onLmu f { s with latestPoint := q } p

/-- The point formed is the same, and so is its unrest event. -/
theorem formPoint_onLmu (count : Int) :
    formPoint count (s.onLmu f) =
      ⟨(formPoint count s).state.onLmu f, (formPoint count s).point, (formPoint count s).unrest⟩ := by
  unfold formPoint
  simp only [captureTravelZero_onLmu, judgeHeads_onLmu, blockUpdates_onLmu, makePoint_onLmu, windowEntry_noted]
  simp only [tareWaitPoint_onLmu, rangeLogic_onLmu, onLmu_drl, onLmu_fcu]

/-! ### The work of the drive -/

theorem softStop_onLmu : softStop (s.onLmu f) = (softStop s).onLmu f := rfl

theorem freezePoint_onLmu (m : ControlMode) (p : Point) :
    freezePoint m p (s.onLmu f) = (freezePoint m p s).onLmu f := by
  unfold freezePoint
  simp only [blockUpdates_onLmu, onLmu_drl, addNotice_onLmu]
  split <;> rfl

theorem setpointPoint_onLmu (first : Bool) (m : ControlMode) (p : Point) :
    setpointPoint first m p (s.onLmu f) = (setpointPoint first m p s).onLmu f := by
  unfold setpointPoint
  simp only [blockUpdates_onLmu, freezePoint_onLmu]
  split <;> rfl

theorem enableWaitOut_onLmu : enableWaitOut (s.onLmu f) = (enableWaitOut s).onLmu f := rfl

theorem enablingPoint_onLmu (ready : Bool) : enablingPoint ready (s.onLmu f) = (enablingPoint ready s).onLmu f := by
  unfold enablingPoint
  simp only [blockUpdates_onLmu, onLmu_drl, enableWaitOut_onLmu]
  repeat' split
  all_goals rfl

theorem stoppingDrive_onLmu : stoppingDrive (s.onLmu f) = (stoppingDrive s).onLmu f := by
  unfold stoppingDrive
  simp only [blockUpdates_onLmu, reportIfIdle_onLmu]

theorem moveReached_onLmu : moveReached (s.onLmu f) = (moveReached s).onLmu f := rfl

/-- A change of the monitor's record that leaves the soft limits. -/
def KeepsLimits (f : Lmu → Lmu) : Prop := ∀ m, (f m).softMin = m.softMin ∧ (f m).softMax = m.softMax

variable {f}

theorem runningDrive_onLmu (hf : KeepsLimits f) (first : Bool) (p : Point) :
    runningDrive first p (s.onLmu f) = (runningDrive first p s).onLmu f := by
  unfold runningDrive
  simp only [onLmu_drl, setpointPoint_onLmu, onLmu_lmu, hf _, softStop_onLmu, holdCause_onLmu, reportIfIdle_onLmu,
    blockUpdates_onLmu]
  split
  · rfl
  · exact ite_onLmu f rfl rfl

theorem movingDrive_onLmu (hf : KeepsLimits f) (p : Point) :
    movingDrive p (s.onLmu f) = (movingDrive p s).onLmu f := by
  unfold movingDrive
  simp only [onLmu_drl, onLmu_lmu, hf _, moveReached_onLmu, softStop_onLmu, reportIfIdle_onLmu, blockUpdates_onLmu]
  split
  · rfl
  · exact ite_onLmu f rfl (ite_onLmu f rfl rfl)

theorem drivePointWork_onLmu (hf : KeepsLimits f) (ready first : Bool) (p : Point) :
    drivePointWork ready first p (s.onLmu f) = (drivePointWork ready first p s).onLmu f := by
  unfold drivePointWork
  simp only [onLmu_drl, enablingPoint_onLmu, runningDrive_onLmu s hf, stoppingDrive_onLmu, movingDrive_onLmu s hf]
  split <;> rfl

variable (f)

/-! ### The consumers up to the Test Sequencer -/

theorem evaluationPoint_onLmu (unrest : Bool) (p : Point) :
    evaluationPoint unrest p (s.onLmu f) =
      ((evaluationPoint unrest p s).1.onLmu f, (evaluationPoint unrest p s).2) := by
  have hinput : (s.onLmu f).evalInput unrest p = s.evalInput unrest p := rfl
  unfold evaluationPoint
  simp only [hinput, onLmu_tsq, onLmu_evu, applyEval_onLmu, slipAction_onLmu]
  split
  · simp only [ite_onLmu f rfl rfl]
  · rfl

theorem passTest_onLmu (unrest : Bool) (p : Point) :
    passTest unrest p (s.onLmu f) = (passTest unrest p s).onLmu f := by
  unfold passTest
  rw [evaluationPoint_onLmu]
  simp only [managerPoint_onLmu, sequencerPoint_onLmu]

end

/-! ### A conversion with the overload count at 0 -/

/-- The monitor's record with the overload count at 0. -/
def zeroOverload (m : Lmu) : Lmu := { m with overloadCount := 0 }

theorem formedOn_zeroOverload (s : State) (c : Conversion) :
    formedOn (s.onLmu zeroOverload) c =
      ⟨(formedOn s c).state.onLmu zeroOverload, (formedOn s c).point, (formedOn s c).unrest⟩ :=
  formPoint_onLmu zeroOverload (takeLimits (tickClocks s)) c.count

theorem sampledOn_zeroOverload {s : State} {c : Conversion} (hready : c.driveReady = true ∨ s.readyUnwatched)
    (hread : s.drl.mismatches < 3 ∨ ¬ s.misread c) :
    sampledOn (s.onLmu zeroOverload) c = (sampledOn s c).onLmu zeroOverload := by
  rw [sampledOn_calm (s := s.onLmu zeroOverload) hready hread, sampledOn_calm hready hread, formedOn_zeroOverload,
    pacingPoint_onLmu]
  rfl

/-- With the overload count at 0 and DRIVE_FAULT low, the same reaches the Limit Monitor, where the drive finds no cause
of a trip. -/
theorem passedOn_zeroOverload {s : State} {c : Conversion} (hready : c.driveReady = true ∨ s.readyUnwatched)
    (hread : s.drl.mismatches < 3 ∨ ¬ s.misread c) :
    passedOn (s.onLmu zeroOverload) { c with driveFault := false } = (passedOn s c).onLmu zeroOverload := by
  have hlimits : KeepsLimits zeroOverload := fun _ => ⟨rfl, rfl⟩
  have hsampled := sampledOn_zeroOverload hready hread
  show passTest (formedOn (s.onLmu zeroOverload) c).unrest (formedOn (s.onLmu zeroOverload) c).point
    (drivePointWork c.driveReady (firstEstimated (formedOn (s.onLmu zeroOverload) c).point s)
      (formedOn (s.onLmu zeroOverload) c).point (sampledOn (s.onLmu zeroOverload) c)) = _
  rw [hsampled, formedOn_zeroOverload, drivePointWork_onLmu _ hlimits, passTest_onLmu]
  rfl

end Sys2Proof.Proofs
end

section
/-! The causes of a trip along a point (R170 to R174): the log of the trip as the causes are taken in turn, what a newly
latched trip leaves to the rest of the point, and a test that goes on until then. -/

namespace Sys2Proof.Proofs

open Sys2Proof.Machine Sys2Proof.Laws

/-! ### The log of the trip (R172, R173, R174) -/

/-- What the trip logic holds of a trip, and whether TRIP is pending. -/
structure TripLog where
  trip : TripState
  record : Option TripRecord
  trips : Nat
  raised : Bool

/-- The log of a state. -/
def tripLog (s : State) : TripLog := ⟨s.lmu.trip, s.lmu.record, s.lmu.trips, s.cli.pending.trip⟩

/-- A cause found with the point `pt`: it latches a trip, or joins the one latched. -/
def TripLog.take (pt : Option TripPoint) (k : TripCause) (l : TripLog) : TripLog :=
  match l.trip with
  | .clear => ⟨.latched, some ⟨k, pt, 0⟩, min 65535 (l.trips + 1), true⟩
  | .latched => { l with record := l.record.map (TripRecord.join k) }

/-- The causes of a list that are found, taken in turn. -/
def TripLog.takeAll (pt : Option TripPoint) (found : TripCause → Bool) (ks : List TripCause) (l : TripLog) : TripLog :=
  ks.foldl (fun l k => if found k then l.take pt k else l) l

/-- The causes of a list that are found join a record in turn. -/
def joinAll (found : TripCause → Bool) (ks : List TripCause) (r : TripRecord) : TripRecord :=
  ks.foldl (fun r k => if found k then r.join k else r) r

theorem takeCause_tripLog (k : TripCause) (s : State) :
    tripLog (takeCause k s) = (tripLog s).take s.tripPoint k := by
  cases h : s.lmu.trip with
  | clear =>
    have hraised : (takeCause k s).cli.pending.trip = true := by
      rw [takeCause_clear h]
      exact (handTrip_drive _).raised
    simp [tripLog, TripLog.take, h, takeCause_lmu h, hraised]
  | latched => simp [tripLog, TripLog.take, h, takeCause_latched h]

/-- The causes that join a record stand among the further ones, the first cause apart (R173). -/
theorem joinAll_eq (found : TripCause → Bool) (ks : List TripCause) (r : TripRecord) :
    (joinAll found ks r).first = r.first ∧ (joinAll found ks r).point = r.point ∧
    ∀ j : TripCause, (joinAll found ks r).further.getLsbD j.ctorIdx = true ↔
      r.further.getLsbD j.ctorIdx = true ∨ (j ∈ ks ∧ found j = true) ∧ j ≠ r.first := by
  induction ks generalizing r with
  | nil => simp [joinAll]
  | cons k ks ih =>
    have hcons : joinAll found (k :: ks) r = joinAll found ks (if found k then r.join k else r) := rfl
    rw [hcons]
    obtain ⟨hfirst, hpoint, hfurther⟩ := ih (if found k then r.join k else r)
    by_cases hk : found k = true
    · obtain ⟨jfirst, jpoint, jfurther⟩ := join_eq k r
      rw [if_pos hk] at hfirst hpoint hfurther ⊢
      refine ⟨hfirst.trans jfirst, hpoint.trans jpoint, fun j => ?_⟩
      rw [hfurther, jfirst, jfurther]
      by_cases hj : j = k
      · simp [hj, hk]; tauto
      · simp [hj]
    · rw [if_neg hk] at hfirst hpoint hfurther ⊢
      refine ⟨hfirst, hpoint, fun j => ?_⟩
      rw [hfurther]
      by_cases hj : j = k
      · simp [hj, hk]
      · simp [hj]

/-- In LATCHED the causes found join the record, and no more. -/
theorem takeAll_latched {pt : Option TripPoint} {found : TripCause → Bool} {ks : List TripCause} {l : TripLog}
    {r : TripRecord} (h : l.trip = .latched) (hr : l.record = some r) :
    l.takeAll pt found ks = { l with record := some (joinAll found ks r) } := by
  induction ks generalizing l r with
  | nil => simp [TripLog.takeAll, joinAll, ← hr]
  | cons k ks ih =>
    by_cases hk : found k = true
    · have hnext : l.take pt k = { l with record := some (r.join k) } := by simp [TripLog.take, h, hr]
      have := ih (l := l.take pt k) (r := r.join k) (by simp [hnext, h]) (by simp [hnext])
      simpa [TripLog.takeAll, joinAll, hk, hnext] using this
    · simpa [TripLog.takeAll, joinAll, hk] using ih h hr

/-- Where none of the causes is found the log stands. -/
theorem takeAll_none {pt : Option TripPoint} {found : TripCause → Bool} {ks : List TripCause} {l : TripLog}
    (h : ∀ k ∈ ks, found k = false) : l.takeAll pt found ks = l := by
  induction ks with
  | nil => rfl
  | cons k ks ih =>
    have hk := h k (by simp)
    simpa [TripLog.takeAll, hk] using ih fun j hj => h j (by simp [hj])

/-- In CLEAR the first cause found latches the trip, and those after it join the record. -/
theorem takeAll_clear {pt : Option TripPoint} {found : TripCause → Bool} {before after : List TripCause} {k : TripCause}
    {l : TripLog} (h : l.trip = .clear) (hbefore : ∀ j ∈ before, found j = false) (hk : found k = true) :
    l.takeAll pt found (before ++ k :: after) =
      ⟨.latched, some (joinAll found after ⟨k, pt, 0⟩), min 65535 (l.trips + 1), true⟩ := by
  have hnext : l.take pt k = ⟨.latched, some ⟨k, pt, 0⟩, min 65535 (l.trips + 1), true⟩ := by simp [TripLog.take, h]
  have hskip : l.takeAll pt found (before ++ k :: after) = (l.take pt k).takeAll pt found after := by
    have := takeAll_none (pt := pt) (l := l) hbefore
    simp only [TripLog.takeAll] at this ⊢
    rw [List.foldl_append, this, List.foldl_cons, if_pos hk]
  rw [hskip, hnext, takeAll_latched (r := ⟨k, pt, 0⟩) rfl rfl]

/-! ### What a cause leaves (R65, R173) -/

theorem handTrip_configuration (s : State) : (handTrip s).drl.frame = s.drl.frame := by
  unfold handTrip
  dsimp only
  split <;> simp [enterEnded_drl, driveTrip_drl, Drl.testEnd, Drl.trip, Drl.rest]

/-- A cause leaves the samples and the configuration of the drive, and of the monitor all but the trip. -/
theorem takeCause_leaves (k : TripCause) (s : State) :
    (takeCause k s).drl.frame = s.drl.frame ∧ (takeCause k s).drl.readyLevel = s.drl.readyLevel ∧
    (takeCause k s).drl.mismatches = s.drl.mismatches ∧
    (takeCause k s).lmu.driveFault = s.lmu.driveFault ∧ (takeCause k s).lmu.overloadCount = s.lmu.overloadCount ∧
    (takeCause k s).lmu.overloadLimit = s.lmu.overloadLimit := by
  cases h : s.lmu.trip with
  | clear =>
    rw [takeCause_lmu h, takeCause_clear h]
    obtain ⟨hmismatches, hready⟩ := (handTrip_drive (latchTrip k s)).samples
    exact ⟨by simp [handTrip_configuration], by simp [hready], by simp [hmismatches], rfl, rfl, rfl⟩
  | latched => simp [takeCause_latched h]

/-- `z` goes on from `s` with the test and the drive as they are, but for what a point samples. -/
structure Onward (s z : State) : Prop where
  tsq : z.tsq = s.tsq
  state : z.drl.state = s.drl.state
  velocity : z.drl.velocity = s.drl.velocity
  dacCode : z.drl.dacCode = s.drl.dacCode
  mode : z.drl.mode = s.drl.mode
  moveTarget : z.drl.moveTarget = s.drl.moveTarget
  moveOutcome : z.drl.moveOutcome = s.drl.moveOutcome
  notices : ∀ n, s.cli.notices.has n = true → z.cli.notices.has n = true
  pending : ∀ k, s.cli.pending.has k = true → z.cli.pending.has k = true

theorem Onward.of_eq {s z : State} (ht : z.tsq = s.tsq) (hd : z.drl = s.drl) (hc : z.cli = s.cli) : Onward s z := by
  constructor <;> simp [ht, hd, hc]

theorem Onward.of_samples {s z : State} (ht : z.tsq = s.tsq) (hd : SameMotion s.drl z.drl) (hc : z.cli = s.cli) :
    Onward s z :=
  ⟨ht, hd.state, hd.velocity, hd.dacCode, hd.mode, hd.moveTarget, hd.moveOutcome, fun _ h => by rwa [hc],
    fun _ h => by rwa [hc]⟩

theorem Onward.trans {s y z : State} (h : Onward s y) (h' : Onward y z) : Onward s z where
  tsq := h'.tsq.trans h.tsq
  state := h'.state.trans h.state
  velocity := h'.velocity.trans h.velocity
  dacCode := h'.dacCode.trans h.dacCode
  mode := h'.mode.trans h.mode
  moveTarget := h'.moveTarget.trans h.moveTarget
  moveOutcome := h'.moveOutcome.trans h.moveOutcome
  notices n hn := h'.notices n (h.notices n hn)
  pending k hk := h'.pending k (h.pending k hk)

/-- `z` is what a newly latched trip has made of `s`: the drive TRIPPED, its move reported, a test in progress ended
(R63, R65, R174). -/
structure Tripped (s z : State) : Prop where
  drive : z.drl.state = .tripped ∧ z.drl.velocity = 0 ∧ z.drl.dacCode = 0
  target : z.drl.moveTarget = none
  outcome : s.drl.state = .moving → z.drl.moveOutcome = some .tripped
  notices : ∀ n, s.cli.notices.has n = true → z.cli.notices.has n = true
  pending : ∀ k, s.cli.pending.has k = true → z.cli.pending.has k = true
  moveDone : s.drl.moveTarget.isSome = true → z.cli.notices.has .moveDone = true ∧ z.cli.pending.has .notice = true
  idle : s.inTest = false → z.tsq = s.tsq ∧ z.drl.mode = s.drl.mode
  test : s.inTest = true → z.tsq.state = .ended ∧ z.tsq.endReason = some .tripped ∧
    z.cli.pending.has .testEnd = true ∧ z.drl.mode = none

theorem Tripped.not_inTest {s z : State} (h : Tripped s z) : z.inTest = false := by
  cases hin : s.inTest with
  | false => rw [inTest_of_tsq (h.idle hin).1, hin]
  | true =>
    obtain ⟨hended, -⟩ := h.test hin
    simp [State.inTest, hended, SeqState.inTest]

theorem Tripped.driveEnable {s z : State} (h : Tripped s z) : z.driveEnable = false := by
  simp [State.driveEnable, h.drive, DriveState.enabled]

/-- What goes on after a trip keeps what it has made of the state before it. -/
theorem Tripped.onward {s y z : State} (h : Tripped s y) (h' : Onward y z) : Tripped s z where
  drive := by rw [h'.state, h'.velocity, h'.dacCode]; exact h.drive
  target := h'.moveTarget.trans h.target
  outcome hq := h'.moveOutcome.trans (h.outcome hq)
  notices n hn := h'.notices n (h.notices n hn)
  pending k hk := h'.pending k (h.pending k hk)
  moveDone hm := ⟨h'.notices _ (h.moveDone hm).1, h'.pending _ (h.moveDone hm).2⟩
  idle hin := ⟨h'.tsq.trans (h.idle hin).1, h'.mode.trans (h.idle hin).2⟩
  test hin := by
    obtain ⟨hended, hreason, hraised, hmode⟩ := h.test hin
    exact ⟨by rw [h'.tsq, hended], by rw [h'.tsq, hreason], h'.pending _ hraised, h'.mode.trans hmode⟩

/-- What goes on before a trip stands in the state that the trip finds. -/
theorem Onward.tripped {s y z : State} (h : Onward s y) (h' : Tripped y z) : Tripped s z where
  drive := h'.drive
  target := h'.target
  outcome hq := h'.outcome (h.state.trans hq)
  notices n hn := h'.notices n (h.notices n hn)
  pending k hk := h'.pending k (h.pending k hk)
  moveDone hm := h'.moveDone (by rwa [h.moveTarget])
  idle hin := by
    obtain ⟨htsq, hmode⟩ := h'.idle ((inTest_of_tsq h.tsq).trans hin)
    exact ⟨htsq.trans h.tsq, hmode.trans h.mode⟩
  test hin := h'.test ((inTest_of_tsq h.tsq).trans hin)

/-- A cause in LATCHED touches neither the test nor the drive. -/
theorem takeCause_onward {k : TripCause} {s : State} (h : s.lmu.trip = .latched) : Onward s (takeCause k s) := by
  rw [takeCause_latched h]
  exact .of_eq rfl rfl rfl

/-- What is noticed and pending before a trip is handed on stays so. -/
theorem handTrip_grows (s : State) :
    (∀ n, s.cli.notices.has n = true → (handTrip s).cli.notices.has n = true) ∧
    (∀ k, s.cli.pending.has k = true → (handTrip s).cli.pending.has k = true) := by
  have tripped : (∀ n, s.cli.notices.has n = true → (driveTrip s).cli.notices.has n = true) ∧
      (∀ k, s.cli.pending.has k = true → (driveTrip s).cli.pending.has k = true) := by
    unfold driveTrip
    dsimp only
    split
    · exact ⟨fun n hn => by simp [addNotice, noticeAdd_has, hn], fun k hk => addNotice_keepsPending _ hk⟩
    · exact ⟨fun _ hn => hn, fun _ hk => hk⟩
  have ended : Carried (driveTrip s) (if (driveTrip s).inTest then enterEnded .tripped none (driveTrip s)
      else driveTrip s) := by
    split
    · exact (Carried.refl _).enterEnded
    · exact Carried.refl _
  exact ⟨fun n hn => ended.cli.notices n (tripped.1 n hn),
    fun k hk => raise_keepsPending .trip (ended.cli.pending k (tripped.2 k hk))⟩

theorem handTrip_tripped (s : State) : Tripped s (handTrip s) := by
  obtain ⟨⟨hstate, hvelocity, hdac, -⟩, -, -, htarget, houtcome, hmove, -⟩ := handTrip_drive s
  obtain ⟨hnotices, hpending⟩ := handTrip_grows s
  exact
    { drive := ⟨hstate, hvelocity, hdac⟩
      target := htarget
      outcome := houtcome
      notices := hnotices
      pending := hpending
      moveDone := hmove
      idle := fun hin => by
        rw [handTrip_idle hin]
        simp [driveTrip_drl, Drl.trip, Drl.rest]
      test := handTrip_ends }

/-- A cause in CLEAR trips the part. -/
theorem takeCause_trips {k : TripCause} {s : State} (h : s.lmu.trip = .clear) : Tripped s (takeCause k s) := by
  rw [takeCause_clear h]
  have latched : Onward s (latchTrip k s) := .of_eq (by simp) (by simp) (by simp)
  exact latched.tripped (handTrip_tripped _)

/-! ### The four causes of a point -/

/-- `z` is `s` with its samples taken and then, if it is found, the cause `k`. -/
def TakesIf (k : TripCause) (found : Bool) (s z : State) : Prop :=
  ∃ y, Onward s y ∧ tripLog y = tripLog s ∧ y.latestPoint = s.latestPoint ∧
    z = if found then takeCause k y else y

namespace TakesIf

variable {k : TripCause} {found : Bool} {s z : State}

theorem log (h : TakesIf k found s z) :
    tripLog z = if found then (tripLog s).take s.tripPoint k else tripLog s := by
  obtain ⟨y, -, hlog, hlatest, rfl⟩ := h
  cases found with
  | true => rw [if_pos rfl, if_pos rfl, takeCause_tripLog, hlog, State.tripPoint, hlatest, State.tripPoint]
  | false => exact hlog

theorem latestPoint (h : TakesIf k found s z) : z.latestPoint = s.latestPoint := by
  obtain ⟨y, -, -, hlatest, rfl⟩ := h
  split
  · rw [(takeCause_frame k y).2.1, hlatest]
  · exact hlatest

theorem onward (h : TakesIf k found s z) (hno : s.lmu.trip = .latched ∨ found = false) : Onward s z := by
  obtain ⟨y, honward, hlog, -, rfl⟩ := h
  cases found with
  | true =>
    have hlatched : y.lmu.trip = .latched := (congrArg TripLog.trip hlog).trans (hno.resolve_right (by decide))
    exact honward.trans (takeCause_onward hlatched)
  | false => exact honward

theorem trips (h : TakesIf k true s z) (hclear : s.lmu.trip = .clear) : Tripped s z := by
  obtain ⟨y, honward, hlog, -, rfl⟩ := h
  exact honward.tripped (takeCause_trips ((congrArg TripLog.trip hlog).trans hclear))

end TakesIf

/-- The causes that the point of a conversion finds. -/
def foundOn (s : State) (c : Conversion) : TripCause → Bool
  | .driveReadyLost => s.drl.state.watchesReady && !c.driveReady
  | .commandReadback => decide (s.misread c) && decide (3 ≤ s.drl.mismatches)
  | .driveFault => c.driveFault
  | .overload => decide (s.drl.frame.overloadLimit < (s.forceOn c).natAbs) && decide (s.lmu.overloadCount ≠ 0)
  | .estop | .guardOpen | .upperLimit | .lowerLimit => false

theorem watchesReady_iff (s : State) : s.drl.state.watchesReady = true ↔ ¬ s.readyUnwatched := by
  unfold State.readyUnwatched
  cases s.drl.state <;> simp [DriveState.watchesReady]

theorem readyPoint_takes (ready : Bool) (s : State) :
    TakesIf .driveReadyLost (s.drl.state.watchesReady && !ready) s (readyPoint ready s) :=
  ⟨s.onDrl fun d => { d with readyLevel := ready },
    .of_samples rfl ⟨rfl, rfl, rfl, rfl, rfl, rfl, rfl, rfl, rfl, rfl, rfl, rfl, rfl⟩ rfl, rfl, rfl, rfl⟩

theorem sameMotion_mismatches (d : Drl) (n : Nat) : SameMotion d { d with mismatches := n } :=
  ⟨rfl, rfl, rfl, rfl, rfl, rfl, rfl, rfl, rfl, rfl, rfl, rfl, rfl⟩

theorem readbackPoint_takes (code held : Int) (s : State) :
    TakesIf .commandReadback
      (readbackMismatch s.drl.frame.fullScaleSpeed code held && decide (3 ≤ s.drl.mismatches)) s
      (readbackPoint code held s) := by
  unfold readbackPoint
  by_cases hmiss : readbackMismatch s.drl.frame.fullScaleSpeed code held = true
  · by_cases hfew : 3 ≤ s.drl.mismatches
    · exact ⟨s.onDrl fun d => { d with mismatches := 0 }, .of_samples rfl (sameMotion_mismatches _ _) rfl, rfl, rfl,
        by simp [hmiss, hfew, reportReadback]⟩
    · exact ⟨s.onDrl fun d => { d with mismatches := d.mismatches + 1 },
        .of_samples rfl (sameMotion_mismatches _ _) rfl, rfl, rfl, by simp [hmiss, hfew]⟩
  · exact ⟨s.onDrl fun d => { d with mismatches := 0 }, .of_samples rfl (sameMotion_mismatches _ _) rfl, rfl, rfl,
      by simp [hmiss]⟩

theorem driveFaultPoint_takes (fault : Bool) (s : State) :
    TakesIf .driveFault fault s (driveFaultPoint fault s) :=
  ⟨s.onLmu fun m => { m with driveFault := if fault then .asserted else .inactive }, .of_eq rfl rfl rfl, rfl, rfl, rfl⟩

theorem overloadPoint_takes (p : Point) (s : State) :
    TakesIf .overload (decide (s.lmu.overloadLimit < p.force.natAbs) && decide (s.lmu.overloadCount ≠ 0)) s
      (overloadPoint p s) := by
  unfold overloadPoint
  by_cases hbeyond : s.lmu.overloadLimit < p.force.natAbs
  · by_cases hcount : s.lmu.overloadCount = 0
    · exact ⟨s.onLmu fun m => { m with overloadCount := 1 }, .of_eq rfl rfl rfl, rfl, rfl, by simp [hbeyond, hcount]⟩
    · exact ⟨s, .of_eq rfl rfl rfl, rfl, rfl, by simp [hbeyond, hcount]⟩
  · exact ⟨s.onLmu fun m => { m with overloadCount := 0 }, .of_eq rfl rfl rfl, rfl, rfl, by simp [hbeyond]⟩

end Sys2Proof.Proofs
end

section
/-! The causes of a trip that a point finds (O9): the four causes along the point path, and what the trip leaves of the
drive and of the test (R47, R59, R65, R170 to R174). -/

namespace Sys2Proof.Proofs

open Sys2Proof.Machine Sys2Proof.Laws

/-! ### A test that goes on until the Limit Monitor takes the point -/

/-- A test in progress goes on, or it has ended on the point, TEST_END pending and the control mode absent (R39). -/
def TestGoesOn (s : State) : Prop :=
  s.inTest = true ∨ s.tsq.state = .ended ∧ s.cli.pending.has .testEnd = true ∧ s.drl.mode = none

theorem inTest_of_state {s : State} {q : SeqState} (h : s.tsq.state = q) (hq : q.inTest = true) : s.inTest = true := by
  rw [State.inTest, h, hq]

theorem enterEnded_goesOn (why : EndReason) (cause : Option StartCause) (s : State) :
    TestGoesOn (enterEnded why cause s) :=
  .inr ⟨by rw [enterEnded_tsq], enterEnded_raises why cause s, by rw [enterEnded_drl]; rfl⟩

theorem enterEnding_goesOn (why : EndReason) (s : State) : TestGoesOn (enterEnding why s) := by
  unfold enterEnding
  dsimp only
  split
  · exact enterEnded_goesOn _ _ _
  · exact .inl rfl

theorem enterHeld_goesOn (why : HeldReason) (i : Option Nat) (s : State) : TestGoesOn (enterHeld why i s) :=
  .inl (inTest_of_state (q := .held) (by rw [enterHeld_tsq]) rfl)

theorem enterSegment_goesOn (i : Nat) (p : Point) (s : State) : TestGoesOn (enterSegment i p s) :=
  .inl (inTest_of_state (q := .running) (by rw [enterSegment_tsq]) rfl)

theorem reachSegment_goesOn (i : Nat) (p : Point) (s : State) : TestGoesOn (reachSegment i p s) := by
  unfold reachSegment
  split
  · exact enterHeld_goesOn _ _ _
  · exact enterSegment_goesOn _ _ _

theorem onEndAction_goesOn (i : Nat) (x : OnEnd) (p : Point) (s : State) : TestGoesOn (onEndAction i x p s) := by
  cases x with
  | next =>
    unfold onEndAction
    dsimp only
    split
    · exact enterEnding_goesOn _ _
    · exact reachSegment_goesOn _ _ _
  | hold => exact enterHeld_goesOn _ _ _
  | endTest => exact enterEnding_goesOn _ _

variable {s : State}

theorem reportIfIdle_goesOn (h : s.inTest = true) : TestGoesOn (reportIfIdle s) := by
  unfold reportIfIdle reportIdle
  repeat' split
  · exact .inl h
  · exact enterEnded_goesOn _ _ _
  · exact .inl h
  · exact .inl h

theorem holdCause_inTest {why : HeldReason} (h : s.inTest = true) : (holdCause why s).inTest = true := by
  unfold holdCause
  split
  · exact inTest_of_state (q := .held) (by rw [enterHeld_tsq]) rfl
  · exact h

theorem slipAction_goesOn (h : s.inTest = true) : TestGoesOn (slipAction s) := by
  unfold slipAction
  split
  · exact enterHeld_goesOn _ _ _
  · exact enterEnding_goesOn _ _
  · exact enterEnding_goesOn _ _
  · exact .inl h

theorem evaluationPoint_goesOn {unrest : Bool} {p : Point} (h : s.inTest = true) :
    TestGoesOn (evaluationPoint unrest p s).1 := by
  unfold evaluationPoint
  split
  · dsimp only
    split
    · exact slipAction_goesOn ((inTest_of_tsq (by simp)).trans h)
    · exact .inl ((inTest_of_tsq (by simp)).trans h)
  · exact .inl h

/-- The Extensometer Manager leaves the test to go on. -/
theorem managerPoint_goesOn {fractured : Bool} {p : Point} (h : TestGoesOn s) :
    TestGoesOn (managerPoint fractured p s) := by
  rcases h with h | ⟨hended, hraised, hmode⟩
  · exact .inl ((inTest_of_tsq (by simp)).trans h)
  · exact .inr ⟨by simp [hended], (Carried.refl s).managerPoint.cli.pending _ hraised, by simp [hmode]⟩

theorem beginZero_state (s : State) : (beginZero s).tsq.state = s.tsq.state := by
  unfold beginZero
  repeat' split
  all_goals rfl

theorem startingPoint_goesOn {p : Point} (hq : s.tsq.state = .starting) : TestGoesOn (startingPoint p s) := by
  have zeroing : ∀ u : State, u.tsq.state = .starting → TestGoesOn (beginZero u) := fun u hu =>
    .inl (inTest_of_state (q := .starting) ((beginZero_state u).trans hu) rfl)
  have starting : ∀ u : State, u.tsq.state = .starting → TestGoesOn u := fun u hu => .inl (inTest_of_state hu rfl)
  unfold startingPoint
  split
  · unfold beginTare
    dsimp only
    repeat' split
    · exact zeroing _ hq
    · exact starting _ hq
    · exact zeroing _ hq
  · unfold waitTare
    repeat' split
    · exact zeroing _ hq
    · exact enterEnded_goesOn _ _ _
    · exact starting _ hq
  · exact starting _ hq
  · exact reachSegment_goesOn _ _ _

theorem runningTaken_goesOnInTest {fractured : Bool} {p : Point} (hq : s.tsq.state = .running) :
    TestGoesOn (runningTaken fractured p s) := by
  have counted : TestGoesOn (countSegmentTime s) := .inl (inTest_of_state (q := .running) hq rfl)
  unfold runningTaken runningPoint
  dsimp only
  repeat' split
  · exact enterEnding_goesOn _ _
  · exact counted
  · exact counted
  · exact onEndAction_goesOn _ _ _ _
  · exact counted

theorem sequencerPoint_goesOn {fractured : Bool} {p : Point} (h : TestGoesOn s) :
    TestGoesOn (sequencerPoint fractured p s) := by
  unfold sequencerPoint heldPoint
  repeat' split
  · next hq => exact startingPoint_goesOn hq
  · next hq => exact runningTaken_goesOnInTest hq
  · exact enterEnding_goesOn _ _
  · exact enterSegment_goesOn _ _ _
  all_goals exact h

/-- The consumers between the Drive Loop and the Limit Monitor leave a test to go on. -/
theorem passTest_goesOn {unrest : Bool} {p : Point} (h : TestGoesOn s) : TestGoesOn (passTest unrest p s) := by
  rcases h with h | h
  · exact sequencerPoint_goesOn (managerPoint_goesOn (evaluationPoint_goesOn h))
  · have hidle : s.inTest = false := by rw [State.inTest, h.1, SeqState.inTest]
    rw [passTest_idle hidle]
    exact .inr h

/-- The work of the drive leaves a test to go on. -/
theorem drivePointWork_goesOn {ready first : Bool} {p : Point} (h : s.inTest = true) :
    TestGoesOn (drivePointWork ready first p s) := by
  have same : ∀ u : State, u.tsq = s.tsq → u.inTest = true := fun u hu => (inTest_of_tsq hu).trans h
  cases hstate : s.drl.state <;> simp only [drivePointWork, hstate]
  case enabling => exact .inl (same _ (by simp))
  case running =>
    unfold runningDrive
    split
    · exact .inl h
    · dsimp only
      split
      · exact reportIfIdle_goesOn (holdCause_inTest (same _ (by simp [softStop])))
      · exact .inl (same _ (by simp))
  case stopping => exact reportIfIdle_goesOn h
  case moving =>
    unfold movingDrive
    split
    · exact .inl h
    · dsimp only
      repeat' split
      · exact .inl (same _ (by simp))
      · exact reportIfIdle_goesOn (same _ (by simp [softStop]))
      · exact .inl h
  all_goals exact .inl h

/-- Outside a test the work of the drive touches no test. -/
theorem drivePointWork_idle {ready first : Bool} {p : Point} (h : s.inTest = false) :
    (drivePointWork ready first p s).tsq = s.tsq := by
  have reported : ∀ u : State, u.tsq = s.tsq → (reportIfIdle u).tsq = s.tsq := fun u hu => by
    refine (reportIfIdle_keeps fun hq => ?_).1.trans hu
    rw [hu] at hq
    simp [State.inTest, hq, SeqState.inTest] at h
  have held : ∀ u : State, u.tsq = s.tsq → (holdCause .limit u).tsq = s.tsq := fun u hu => by
    have hq : u.tsq.state ≠ .running := fun hq => by
      rw [hu] at hq
      simp [State.inTest, hq, SeqState.inTest] at h
    rw [holdCause, if_neg hq, hu]
  cases hstate : s.drl.state <;> simp only [drivePointWork, hstate]
  case enabling => simp
  case running =>
    unfold runningDrive
    split
    · rfl
    · dsimp only
      split
      · exact reported _ (held _ (by simp [softStop]))
      · simp
  case stopping => exact reported _ rfl
  case moving =>
    unfold movingDrive
    split
    · rfl
    · dsimp only
      repeat' split
      · simp
      · exact reported _ (by simp [softStop])
      · rfl

/-- A TRIPPED drive has no work. -/
theorem drivePointWork_tripped {ready first : Bool} {p : Point} (h : s.drl.state = .tripped) :
    drivePointWork ready first p s = s := by
  simp [drivePointWork, h]

/-! ### The point up to the drive -/

theorem Carried.windowEntry {a s : State} {p : Point} (h : Carried a s) : Carried a (windowEntry p s) :=
  h.same (by simp) (by simp)

theorem Carried.tareWaitPoint {a s : State} (h : Carried a s) : Carried a (tareWaitPoint s) := by
  unfold Machine.tareWaitPoint closeTareWait tareWaitOut
  repeat' split
  · exact h
  · exact h.onFcu.onFcu.addNotice
  · exact h.onFcu.addNotice
  · exact h.onFcu

theorem Carried.rangeLogic {a s : State} {u : Use} {raw : Int} (h : Carried a s) : Carried a (rangeLogic u raw s) := by
  have changes : ∀ (r : Range) (x : State), Carried a x → Carried a (rangeChange r x) :=
    fun _ _ hx => hx.onFcu.addNotice
  unfold Machine.rangeLogic
  dsimp only
  repeat' split
  · exact h
  · exact changes _ _ h
  · exact changes _ _ h
  · exact changes _ _ h.onFcu
  · exact h.onFcu
  · exact h.onFcu

theorem Carried.captureTravelZero {a s : State} (h : Carried a s) : Carried a (captureTravelZero s) := by
  unfold Machine.captureTravelZero
  split
  · exact h.onDrl ⟨rfl, rfl, fun hx => ⟨hx, rfl⟩, rfl⟩
  · exact h

/-- What forming the point carries on. -/
theorem Carried.formedOn (s : State) (c : Conversion) : Carried s (formedOn s c).state := by
  unfold Proofs.formedOn formPoint
  dsimp only
  have begun : Carried s (Machine.takeLimits (tickClocks s)) := (Carried.refl s).same rfl rfl
  refine Carried.rangeLogic (Carried.tareWaitPoint (Carried.onFcu (Carried.windowEntry ?_)))
  exact begun.captureTravelZero.same rfl rfl

/-- The state in which the drive samples DRIVE_READY and the readback. -/
def pacedOn (s : State) (c : Conversion) : State := pacingPoint (formedOn s c).state

/-- The state between the two samples. -/
def readiedOn (s : State) (c : Conversion) : State := readyPoint c.driveReady (pacedOn s c)

theorem sampledOn_eq (s : State) (c : Conversion) :
    sampledOn s c = readbackPoint c.readback s.drl.velocity (readiedOn s c) := rfl

theorem pacedOn_carried (s : State) (c : Conversion) : Carried s (pacedOn s c) := (Carried.formedOn s c).pacingPoint

theorem pacedOn_motion (s : State) (c : Conversion) : SameMotion s.drl (pacedOn s c).drl := by
  rw [pacedOn, (pacingPoint_frame _).2.1]
  exact formedOn_motion s c

/-- The state in which the samples are taken goes on from the one before the point. -/
theorem pacedOn_onward (s : State) (c : Conversion) : Onward s (pacedOn s c) := by
  obtain ⟨hstate, hvelocity, hdac, hmode, -, -, -, -, htarget, -, houtcome, -, -⟩ := pacedOn_motion s c
  exact ⟨by simp [pacedOn, (formedOn_frame s c).1], hstate, hvelocity, hdac, hmode, htarget, houtcome,
    (pacedOn_carried s c).cli.notices, (pacedOn_carried s c).cli.pending⟩

theorem pacedOn_log (s : State) (c : Conversion) : tripLog (pacedOn s c) = tripLog s := by
  have hlmu : (pacedOn s c).lmu.trip = s.lmu.trip ∧ (pacedOn s c).lmu.record = s.lmu.record ∧
      (pacedOn s c).lmu.trips = s.lmu.trips := by
    simp [pacedOn, formedOn]
    rfl
  obtain ⟨htrip, hrecord, htrips⟩ := hlmu
  simp only [tripLog, htrip, hrecord, htrips, (pacedOn_carried s c).cli.trip]

theorem pacedOn_latest (s : State) (c : Conversion) : (pacedOn s c).latestPoint = some (formedOn s c).point := by
  simp [pacedOn, (formedOn_point s c).2.2]

/-! ### The causes of the drive -/

theorem readiedOn_takes (s : State) (c : Conversion) :
    TakesIf .driveReadyLost (foundOn s c .driveReadyLost) (pacedOn s c) (readiedOn s c) := by
  have h := readyPoint_takes c.driveReady (pacedOn s c)
  rwa [(pacedOn_motion s c).state] at h

/-- What the sample of DRIVE_READY leaves the readback check. -/
theorem readiedOn_drl (s : State) (c : Conversion) :
    (readiedOn s c).drl.frame = s.drl.frame ∧ (readiedOn s c).drl.mismatches = s.drl.mismatches ∧
    (readiedOn s c).drl.readyLevel = c.driveReady := by
  have hframe := (pacedOn_motion s c).frame
  have hmiss := (pacedOn_carried s c).mismatches
  unfold readiedOn readyPoint
  dsimp only
  split
  · obtain ⟨kframe, kready, kmiss, -⟩ :=
      takeCause_leaves .driveReadyLost ((pacedOn s c).onDrl fun d => { d with readyLevel := c.driveReady })
    exact ⟨kframe.trans hframe, kmiss.trans hmiss, kready⟩
  · exact ⟨hframe, hmiss, rfl⟩

theorem sampledOn_takes (s : State) (c : Conversion) :
    TakesIf .commandReadback (foundOn s c .commandReadback) (readiedOn s c) (sampledOn s c) := by
  obtain ⟨hframe, hmiss, -⟩ := readiedOn_drl s c
  have h := readbackPoint_takes c.readback s.drl.velocity (readiedOn s c)
  have hmisread : readbackMismatch s.drl.frame.fullScaleSpeed c.readback s.drl.velocity = decide (s.misread c) :=
    Bool.eq_iff_iff.2 ((readbackMismatch_iff s c).trans (decide_eq_true_iff).symm)
  rwa [hframe, hmiss, hmisread] at h

/-- The count of misses after the point (R59), and the level of DRIVE_READY (R47). -/
theorem sampledOn_drl (s : State) (c : Conversion) :
    (sampledOn s c).drl.readyLevel = c.driveReady ∧
    (¬ s.misread c → (sampledOn s c).drl.mismatches = 0) ∧
    (s.misread c → s.drl.mismatches < 3 → (sampledOn s c).drl.mismatches = s.drl.mismatches + 1) ∧
    (s.misread c → 3 ≤ s.drl.mismatches → (sampledOn s c).drl.mismatches = 0) := by
  obtain ⟨hframe, hmiss, hready⟩ := readiedOn_drl s c
  rw [sampledOn_eq]
  unfold readbackPoint
  simp only [hframe, hmiss, readbackMismatch_iff]
  split
  case isTrue hmis =>
    split
    case isTrue hmany =>
      obtain ⟨-, kready, kmiss, -⟩ :=
        takeCause_leaves .commandReadback ((readiedOn s c).onDrl fun d => { d with mismatches := 0 })
      exact ⟨kready.trans hready, fun h => absurd hmis h, fun _ h => by omega, fun _ _ => kmiss⟩
    case isFalse hfew =>
      exact ⟨hready, fun h => absurd hmis h, fun _ _ => by simp [hmiss], fun _ h => by omega⟩
  case isFalse hmis =>
    exact ⟨hready, fun _ => rfl, fun h => absurd h hmis, fun h => absurd h hmis⟩

/-- Where the drive finds no cause its samples are noted and no more. -/
theorem calm_of_notFound {s : State} {c : Conversion} (hready : foundOn s c .driveReadyLost = false)
    (hread : foundOn s c .commandReadback = false) :
    (c.driveReady = true ∨ s.readyUnwatched) ∧ (s.drl.mismatches < 3 ∨ ¬ s.misread c) := by
  constructor
  · by_cases hwatch : s.readyUnwatched
    · exact .inr hwatch
    · have := (watchesReady_iff s).2 hwatch
      exact .inl (by simpa [foundOn, this] using hready)
  · by_cases hmis : s.misread c
    · have hfew : (decide (s.misread c) && decide (3 ≤ s.drl.mismatches)) = false := hread
      rw [decide_eq_true hmis, Bool.true_and] at hfew
      exact .inl (Nat.lt_of_not_le (of_decide_eq_false hfew))
    · exact .inr hmis

/-- A trip found by the drive leaves the rest of the point up to the Limit Monitor nothing to do. -/
theorem passedOn_tripped {s : State} {c : Conversion} (h : Tripped s (sampledOn s c)) :
    passedOn s c = sampledOn s c := by
  rw [passedOn, drivePointWork_tripped h.drive.1, passTest_idle h.not_inTest]

theorem drive_trips {s : State} {c : Conversion} (hclear : s.lmu.trip = .clear)
    (hfound : foundOn s c .driveReadyLost = true ∨ foundOn s c .commandReadback = true) :
    Tripped s (sampledOn s c) := by
  have hpaced : (pacedOn s c).lmu.trip = .clear := (congrArg TripLog.trip (pacedOn_log s c)).trans hclear
  have ready := readiedOn_takes s c
  have read := sampledOn_takes s c
  cases hready : foundOn s c .driveReadyLost with
  | true =>
    rw [hready] at ready
    have hlatched : (readiedOn s c).lmu.trip = .latched := by
      have := congrArg TripLog.trip ready.log
      rw [if_pos rfl, TripLog.take, show (tripLog (pacedOn s c)).trip = .clear from hpaced] at this
      exact this
    exact ((pacedOn_onward s c).tripped (ready.trips hpaced)).onward (read.onward (.inl hlatched))
  | false =>
    have hread : foundOn s c .commandReadback = true := hfound.resolve_left (by simp [hready])
    rw [hready] at ready
    rw [hread] at read
    have hstill : (readiedOn s c).lmu.trip = .clear := (congrArg TripLog.trip ready.log).trans hpaced
    exact ((pacedOn_onward s c).trans (ready.onward (.inr rfl))).tripped (read.trips hstill)

/-- The drive's work on the point, and the test's, leave the log of the trip. -/
theorem passedOn_carried (s : State) (c : Conversion) : Carried (sampledOn s c) (passedOn s c) :=
  (Carried.refl _).drivePointWork.passTest

theorem passedOn_lmu (s : State) (c : Conversion) : (passedOn s c).lmu = (sampledOn s c).lmu := by
  simp [passedOn, (passTest_frame _ _ _).1]

theorem passedOn_log (s : State) (c : Conversion) : tripLog (passedOn s c) = tripLog (sampledOn s c) := by
  simp only [tripLog, passedOn_lmu, (passedOn_carried s c).cli.trip]

theorem passedOn_latest (s : State) (c : Conversion) : (passedOn s c).latestPoint = some (formedOn s c).point := by
  simp only [passedOn, (passTest_frame _ _ _).2, drivePointWork_frame]
  rw [(sampledOn_takes s c).latestPoint, (readiedOn_takes s c).latestPoint, pacedOn_latest]

/-- The counts of the monitor when it takes the point. -/
theorem sampledOn_lmu (s : State) (c : Conversion) :
    (sampledOn s c).lmu.overloadCount = s.lmu.overloadCount ∧
    (sampledOn s c).lmu.overloadLimit = s.drl.frame.overloadLimit ∧ (sampledOn s c).lmu.inputs = s.lmu.inputs := by
  obtain ⟨-, -, hlimit, hcount⟩ := formedOn_lmu s c
  have hpaced : (pacedOn s c).lmu = (formedOn s c).state.lmu := by simp [pacedOn]
  have ready : (readiedOn s c).lmu.overloadCount = (pacedOn s c).lmu.overloadCount ∧
      (readiedOn s c).lmu.overloadLimit = (pacedOn s c).lmu.overloadLimit := by
    unfold readiedOn readyPoint
    dsimp only
    split
    · obtain ⟨-, -, -, -, kcount, klimit⟩ :=
        takeCause_leaves .driveReadyLost ((pacedOn s c).onDrl fun d => { d with readyLevel := c.driveReady })
      exact ⟨kcount, klimit⟩
    · exact ⟨rfl, rfl⟩
  have read : (sampledOn s c).lmu.overloadCount = (readiedOn s c).lmu.overloadCount ∧
      (sampledOn s c).lmu.overloadLimit = (readiedOn s c).lmu.overloadLimit := by
    rw [sampledOn_eq]
    unfold readbackPoint reportReadback
    repeat' split
    · obtain ⟨-, -, -, -, kcount, klimit⟩ :=
        takeCause_leaves .commandReadback ((readiedOn s c).onDrl fun d => { d with mismatches := 0 })
      exact ⟨kcount, klimit⟩
    · exact ⟨rfl, rfl⟩
    · exact ⟨rfl, rfl⟩
  exact ⟨by rw [read.1, ready.1, hpaced, hcount], by rw [read.2, ready.2, hpaced, hlimit],
    by simp [sampledOn, formedOn, takeLimits]⟩

/-! ### The causes of the Limit Monitor -/

/-- The state once DRIVE_FAULT is taken. -/
def faultedOn (s : State) (c : Conversion) : State := driveFaultPoint c.driveFault (passedOn s c)

/-- The state once the overload is taken. -/
def loadedOn (s : State) (c : Conversion) : State := overloadPoint (formedOn s c).point (faultedOn s c)

theorem faultedOn_takes (s : State) (c : Conversion) :
    TakesIf .driveFault (foundOn s c .driveFault) (passedOn s c) (faultedOn s c) := driveFaultPoint_takes _ _

theorem faultedOn_lmu (s : State) (c : Conversion) :
    (faultedOn s c).lmu.driveFault = (if c.driveFault then .asserted else .inactive) ∧
    (faultedOn s c).lmu.overloadCount = s.lmu.overloadCount ∧
    (faultedOn s c).lmu.overloadLimit = s.drl.frame.overloadLimit ∧ (faultedOn s c).lmu.inputs = s.lmu.inputs := by
  obtain ⟨hcount, hlimit, hinputs⟩ := sampledOn_lmu s c
  have fault : (faultedOn s c).lmu.driveFault = (if c.driveFault then .asserted else .inactive) ∧
      (faultedOn s c).lmu.overloadCount = (passedOn s c).lmu.overloadCount ∧
      (faultedOn s c).lmu.overloadLimit = (passedOn s c).lmu.overloadLimit := by
    unfold faultedOn driveFaultPoint
    dsimp only
    split
    · obtain ⟨-, -, -, kfault, kcount, klimit⟩ := takeCause_leaves .driveFault
        ((passedOn s c).onLmu fun m => { m with driveFault := .asserted })
      exact ⟨kfault, kcount, klimit⟩
    · exact ⟨rfl, rfl, rfl⟩
  obtain ⟨kfault, kcount, klimit⟩ := fault
  rw [passedOn_lmu] at kcount klimit
  exact ⟨kfault, kcount.trans hcount, klimit.trans hlimit, by simp [faultedOn, passedOn_lmu, hinputs]⟩

theorem loadedOn_takes (s : State) (c : Conversion) :
    TakesIf .overload (foundOn s c .overload) (faultedOn s c) (loadedOn s c) := by
  obtain ⟨-, hcount, hlimit, -⟩ := faultedOn_lmu s c
  have h := overloadPoint_takes (formedOn s c).point (faultedOn s c)
  rwa [hcount, hlimit, (formedOn_point s c).2.1] at h

/-- The overload check: the count of points beyond the limit (R171). -/
theorem overloadPoint_counts (p : Point) (s : State) :
    (overloadPoint p s).lmu.driveFault = s.lmu.driveFault ∧
    (¬ s.lmu.overloadLimit < p.force.natAbs → (overloadPoint p s).lmu.overloadCount = 0) ∧
    (s.lmu.overloadLimit < p.force.natAbs → s.lmu.overloadCount ≤ 1 → (overloadPoint p s).lmu.overloadCount = 1) := by
  unfold overloadPoint
  split
  case isTrue hbeyond =>
    split
    case isTrue => exact ⟨rfl, fun h => absurd hbeyond h, fun _ _ => rfl⟩
    case isFalse hsome =>
      obtain ⟨-, -, -, kfault, kcount, -⟩ := takeCause_leaves .overload s
      exact ⟨kfault, fun h => absurd hbeyond h, fun _ h => by rw [kcount]; omega⟩
  case isFalse hwithin => exact ⟨rfl, fun _ => rfl, fun h => absurd h hwithin⟩

theorem loadedOn_lmu (s : State) (c : Conversion) :
    (loadedOn s c).lmu.driveFault = (if c.driveFault then .asserted else .inactive) ∧
    (loadedOn s c).lmu.inputs = s.lmu.inputs ∧
    (¬ s.drl.frame.overloadLimit < (s.forceOn c).natAbs → (loadedOn s c).lmu.overloadCount = 0) ∧
    (s.drl.frame.overloadLimit < (s.forceOn c).natAbs → s.lmu.overloadCount ≤ 1 →
      (loadedOn s c).lmu.overloadCount = 1) := by
  obtain ⟨hfault, hcount, hlimit, hinputs⟩ := faultedOn_lmu s c
  obtain ⟨kfault, kwithin, kbeyond⟩ := overloadPoint_counts (formedOn s c).point (faultedOn s c)
  rw [hlimit, (formedOn_point s c).2.1] at kwithin kbeyond
  rw [hcount] at kbeyond
  exact ⟨kfault.trans hfault, by simp [loadedOn, hinputs], kwithin, kbeyond⟩

/-! ### The whole point -/

/-- The state after the point. -/
def afterPoint (s : State) (c : Conversion) : State := offerPoint (formedOn s c).point (loadedOn s c)

theorem exec_afterPoint {s : State} {c : Conversion} (h : s.inReset = false) :
    exec (.conversionComplete c) s = .next (afterPoint s c) := exec_conversion h

theorem afterPoint_onward (s : State) (c : Conversion) : Onward (loadedOn s c) (afterPoint s c) := by
  have carried : Carried (loadedOn s c) (afterPoint s c) := (Carried.refl _).offerPoint
  constructor
  case notices => exact carried.cli.notices
  case pending => exact carried.cli.pending
  all_goals simp [afterPoint]

/-- The point of a trip that latches on the point of a conversion. -/
def tripPointOn (s : State) (c : Conversion) : TripPoint :=
  ⟨(formedOn s c).point.index, (formedOn s c).point.force, (formedOn s c).point.travel⟩

/-- The causes that a point can find, in their order. -/
def causeOrder : List TripCause := [.driveReadyLost, .commandReadback, .driveFault, .overload]

/-- The log of the trip after a point: the causes found, taken in turn (R172 to R174). -/
theorem afterPoint_log (s : State) (c : Conversion) :
    tripLog (afterPoint s c) = (tripLog s).takeAll (some (tripPointOn s c)) (foundOn s c) causeOrder := by
  have pointAt : ∀ u : State, u.latestPoint = some (formedOn s c).point → u.tripPoint = some (tripPointOn s c) :=
    fun u hu => by simp [State.tripPoint, hu, tripPointOn]
  have ready := readiedOn_takes s c
  have read := sampledOn_takes s c
  have fault := faultedOn_takes s c
  have load := loadedOn_takes s c
  have hpaced := pacedOn_latest s c
  have hreadied := ready.latestPoint.trans hpaced
  have hpassed := passedOn_latest s c
  have hfaulted := fault.latestPoint.trans hpassed
  have hoffer : tripLog (afterPoint s c) = tripLog (loadedOn s c) := by
    have carried : Carried (loadedOn s c) (afterPoint s c) := (Carried.refl _).offerPoint
    simp only [tripLog, carried.cli.trip]
    simp [afterPoint]
  have hready := ready.log
  have hread := read.log
  have hfault := fault.log
  have hload := load.log
  rw [pointAt _ hpaced, pacedOn_log] at hready
  rw [pointAt _ hreadied, hready] at hread
  rw [pointAt _ hpassed, passedOn_log, hread] at hfault
  rw [pointAt _ hfaulted, hfault] at hload
  rw [hoffer, hload]
  rfl

end Sys2Proof.Proofs
end

section
/-! The obligation about the causes of a trip that a point finds (O9). -/

namespace Sys2Proof.Proofs

open Sys2Proof.Machine Sys2Proof.Laws

/-! ### The part after a point that trips it -/

theorem take_latched (pt : Option TripPoint) (k : TripCause) (l : TripLog) : (l.take pt k).trip = .latched := by
  unfold TripLog.take
  split
  · rfl
  · next h => exact h

/-- A cause that is found leaves the trip latched. -/
theorem TakesIf.latches {k : TripCause} {s z : State} (h : TakesIf k true s z) : z.lmu.trip = .latched := by
  have hlog := congrArg TripLog.trip h.log
  rwa [if_pos rfl, take_latched] at hlog

/-- A latched trip stays so. -/
theorem TakesIf.staysLatched {k : TripCause} {found : Bool} {s z : State} (h : TakesIf k found s z)
    (hlatched : s.lmu.trip = .latched) : z.lmu.trip = .latched := by
  cases found with
  | true => exact h.latches
  | false => exact (congrArg TripLog.trip h.log).trans hlatched

variable {s : State} {c : Conversion}

/-- A cause that the drive finds leaves the trip latched when the drive does its work. -/
theorem sampledOn_latched (hfound : foundOn s c .driveReadyLost = true ∨ foundOn s c .commandReadback = true) :
    (sampledOn s c).lmu.trip = .latched := by
  have ready := readiedOn_takes s c
  have read := sampledOn_takes s c
  rcases hfound with h | h
  · rw [h] at ready
    exact read.staysLatched ready.latches
  · rw [h] at read
    exact read.latches

/-- A cause that the drive finds in CLEAR trips the part, and the rest of the point leaves it so. -/
theorem afterPoint_trippedByDrive (hclear : s.lmu.trip = .clear)
    (hfound : foundOn s c .driveReadyLost = true ∨ foundOn s c .commandReadback = true) :
    Tripped s (afterPoint s c) := by
  have tripped := drive_trips hclear hfound
  have hlatched : (passedOn s c).lmu.trip = .latched := by rw [passedOn_lmu, sampledOn_latched hfound]
  have fault := faultedOn_takes s c
  have load := loadedOn_takes s c
  rw [← passedOn_tripped tripped] at tripped
  exact ((tripped.onward (fault.onward (.inl hlatched))).onward
    (load.onward (.inl (fault.staysLatched hlatched)))).onward (afterPoint_onward s c)

/-- A cause that only the Limit Monitor finds in CLEAR trips the part as the test has left it. -/
theorem afterPoint_trippedByMonitor (hclear : s.lmu.trip = .clear) (hready : foundOn s c .driveReadyLost = false)
    (hread : foundOn s c .commandReadback = false)
    (hfound : foundOn s c .driveFault = true ∨ foundOn s c .overload = true) :
    Tripped (passedOn s c) (afterPoint s c) := by
  have fault := faultedOn_takes s c
  have load := loadedOn_takes s c
  have hpassed : (passedOn s c).lmu.trip = .clear := by
    have ready := (readiedOn_takes s c).log
    have read := (sampledOn_takes s c).log
    rw [hready, if_neg (by decide), pacedOn_log] at ready
    rw [hread, if_neg (by decide), ready] at read
    rw [passedOn_lmu]
    exact (congrArg TripLog.trip read).trans hclear
  cases hfault : foundOn s c .driveFault with
  | true =>
    rw [hfault] at fault
    exact ((fault.trips hpassed).onward (load.onward (.inl fault.latches))).onward (afterPoint_onward s c)
  | false =>
    rw [hfound.resolve_left (by simp [hfault])] at load
    rw [hfault] at fault
    have hfaulted : (faultedOn s c).lmu.trip = .clear := (congrArg TripLog.trip fault.log).trans hpassed
    exact ((fault.onward (.inr rfl)).tripped (load.trips hfaulted)).onward (afterPoint_onward s c)

/-- The state after a point whose cause trips the part: the drive, its move, and the test; `byDrive` says that the
drive found a cause. -/
structure PartTripped (s : State) (c : Conversion) (byDrive : Prop) (t : State) : Prop where
  drive : t.drl.state = .tripped ∧ t.drl.velocity = 0 ∧ t.drl.dacCode = 0 ∧ t.driveEnable = false ∧
    t.drl.moveTarget = none
  outcome : byDrive → s.drl.state = .moving → t.drl.moveOutcome = some .tripped
  moveDone : s.drl.moveTarget.isSome = true → t.cli.notices.moveDone = true ∧ t.cli.pending.notice = true
  idle : s.inTest = false → t.tsq = s.tsq
  test : s.inTest = true → t.tsq.state = .ended ∧ t.cli.pending.testEnd = true ∧ t.drl.mode = none ∧
    (byDrive → t.tsq.endReason = some .tripped)
  otherwise : ¬ byDrive →
    ∃ u, exec (.conversionComplete { c with driveFault := false })
        { s with lmu := { s.lmu with overloadCount := 0 } } = .next u ∧ t.fcu = u.fcu ∧
      (u.inTest = true → t.tsq.endReason = some .tripped) ∧ (u.inTest = false → t.tsq = u.tsq)

/-- The part tripped by the drive. -/
theorem partTripped_byDrive {byDrive : Prop} (hby : byDrive) (hclear : s.lmu.trip = .clear)
    (hfound : foundOn s c .driveReadyLost = true ∨ foundOn s c .commandReadback = true) :
    PartTripped s c byDrive (afterPoint s c) := by
  have tripped := afterPoint_trippedByDrive hclear hfound
  obtain ⟨hstate, hvelocity, hdac⟩ := tripped.drive
  exact
    { drive := ⟨hstate, hvelocity, hdac, tripped.driveEnable, tripped.target⟩
      outcome := fun _ => tripped.outcome
      moveDone := tripped.moveDone
      idle := fun hin => (tripped.idle hin).1
      test := fun hin => by
        obtain ⟨hended, hreason, hraised, hmode⟩ := tripped.test hin
        exact ⟨hended, hraised, hmode, fun _ => hreason⟩
      otherwise := fun h => absurd hby h }

/-- The test when the Limit Monitor takes a point on which the drive finds no cause. -/
theorem passedOn_test (hready : c.driveReady = true ∨ s.readyUnwatched)
    (hread : s.drl.mismatches < 3 ∨ ¬ s.misread c) :
    (s.inTest = false → (passedOn s c).tsq = s.tsq) ∧ (s.inTest = true → TestGoesOn (passedOn s c)) := by
  have htsq := (sampledOn_sampled hready hread).tsq
  refine ⟨fun hin => ?_, fun hin => ?_⟩
  · have hwork := (drivePointWork_idle (ready := c.driveReady) (first := firstEstimated (formedOn s c).point s)
      (p := (formedOn s c).point) ((inTest_of_tsq htsq).trans hin)).trans htsq
    rw [passedOn, passTest_idle ((inTest_of_tsq hwork).trans hin), hwork]
  · exact passTest_goesOn (drivePointWork_goesOn ((inTest_of_tsq htsq).trans hin))

/-- The same point with DRIVE_FAULT low and the overload count at 0 leaves the test and the Force Unit as the Limit
Monitor finds them. -/
theorem exec_withoutMonitor (hrun : s.inReset = false) (hready : c.driveReady = true ∨ s.readyUnwatched)
    (hread : s.drl.mismatches < 3 ∨ ¬ s.misread c) :
    ∃ u, exec (.conversionComplete { c with driveFault := false })
        { s with lmu := { s.lmu with overloadCount := 0 } } = .next u ∧
      u.tsq = (passedOn s c).tsq ∧ u.fcu = (passedOn s c).fcu := by
  have hexec := exec_conversion (s := s.onLmu zeroOverload) (c := { c with driveFault := false }) hrun
  rw [passedOn_zeroOverload hready hread] at hexec
  obtain ⟨n, hn⟩ := limitPoint_quiet (p := (formedOn (s.onLmu zeroOverload) { c with driveFault := false }).point)
    (s := (passedOn s c).onLmu zeroOverload) (.inl rfl)
  exact ⟨_, hexec, by simp [hn], by simp [hn]⟩

/-- The part tripped by the Limit Monitor. -/
theorem partTripped_byMonitor {byDrive : Prop} (hby : ¬ byDrive) (hrun : s.inReset = false)
    (hclear : s.lmu.trip = .clear) (hready : foundOn s c .driveReadyLost = false)
    (hread : foundOn s c .commandReadback = false)
    (hfound : foundOn s c .driveFault = true ∨ foundOn s c .overload = true) :
    PartTripped s c byDrive (afterPoint s c) := by
  have tripped := afterPoint_trippedByMonitor hclear hready hread hfound
  obtain ⟨hcalm, hcalm'⟩ := calm_of_notFound hready hread
  obtain ⟨hidle, htest⟩ := passedOn_test hcalm hcalm'
  obtain ⟨hstate, hvelocity, hdac⟩ := tripped.drive
  have hmotion := (sampledOn_sampled hcalm hcalm').motion
  refine ⟨⟨hstate, hvelocity, hdac, tripped.driveEnable, tripped.target⟩, fun h => absurd h hby, fun hmove => ?_,
    fun hin => ?_, fun hin => ?_, fun _ => ?_⟩
  · rcases (passedOn_carried s c).target (by rwa [hmotion.moveTarget]) with hsome | ⟨hnoticed, hpending⟩
    · exact tripped.moveDone hsome
    · exact ⟨tripped.notices .moveDone hnoticed, tripped.pending .notice hpending⟩
  · have hpassed := hidle hin
    exact (tripped.idle ((inTest_of_tsq hpassed).trans hin)).1.trans hpassed
  · rcases htest hin with hgoes | ⟨hended, hraised, hmode⟩
    · obtain ⟨hended, hreason, hraised, hmode⟩ := tripped.test hgoes
      exact ⟨hended, hraised, hmode, fun _ => hreason⟩
    · obtain ⟨htsq, hkept⟩ := tripped.idle (by rw [State.inTest, hended, SeqState.inTest])
      exact ⟨by rw [htsq, hended], tripped.pending .testEnd hraised, hkept.trans hmode, fun h => absurd h hby⟩
  · obtain ⟨u, hexec, htsq, hfcu⟩ := exec_withoutMonitor hrun hcalm hcalm'
    refine ⟨u, hexec, ?_, fun hin => ?_, fun hin => ?_⟩
    · rw [hfcu]
      simp [afterPoint, loadedOn, faultedOn]
    · exact (tripped.test ((inTest_of_tsq htsq).symm.trans hin)).2.1
    · exact (tripped.idle ((inTest_of_tsq htsq).symm.trans hin)).1.trans htsq.symm

/-! ### The samples and the counts after a point -/

/-- A latched trip leaves a TRIPPED drive so. -/
theorem afterPoint_staysTripped (hlatched : s.lmu.trip = .latched) (hq : s.drl.state = .tripped) :
    (afterPoint s c).drl.state = .tripped ∧ (afterPoint s c).drl.velocity = s.drl.velocity := by
  have hpaced : (pacedOn s c).lmu.trip = .latched := (congrArg TripLog.trip (pacedOn_log s c)).trans hlatched
  have ready := readiedOn_takes s c
  have read := sampledOn_takes s c
  have fault := faultedOn_takes s c
  have load := loadedOn_takes s c
  have hsampled := read.staysLatched (ready.staysLatched hpaced)
  have before : Onward s (sampledOn s c) := ((pacedOn_onward s c).trans (ready.onward (.inl hpaced))).trans
    (read.onward (.inl (ready.staysLatched hpaced)))
  have hpassed : (passedOn s c).lmu.trip = .latched := by rw [passedOn_lmu, hsampled]
  have after : Onward (passedOn s c) (afterPoint s c) := ((fault.onward (.inl hpassed)).trans
    (load.onward (.inl (fault.staysLatched hpassed)))).trans (afterPoint_onward s c)
  obtain ⟨hstate, hvelocity⟩ := (passedOn_carried s c).tripped (before.state.trans hq)
  exact ⟨after.state.trans hstate, after.velocity.trans (hvelocity.trans before.velocity)⟩

/-- The causes of the monitor leave the samples of the drive. -/
theorem afterPoint_samples (s : State) (c : Conversion) :
    (afterPoint s c).drl.readyLevel = (sampledOn s c).drl.readyLevel ∧
    (afterPoint s c).drl.mismatches = (sampledOn s c).drl.mismatches := by
  have carried := passedOn_carried s c
  have fault : (faultedOn s c).drl.readyLevel = (passedOn s c).drl.readyLevel ∧
      (faultedOn s c).drl.mismatches = (passedOn s c).drl.mismatches := by
    unfold faultedOn driveFaultPoint
    dsimp only
    split
    · obtain ⟨-, kready, kmiss, -⟩ := takeCause_leaves .driveFault
        ((passedOn s c).onLmu fun m => { m with driveFault := .asserted })
      exact ⟨kready, kmiss⟩
    · exact ⟨rfl, rfl⟩
  have load : (loadedOn s c).drl.readyLevel = (faultedOn s c).drl.readyLevel ∧
      (loadedOn s c).drl.mismatches = (faultedOn s c).drl.mismatches := by
    unfold loadedOn overloadPoint
    repeat' split
    · exact ⟨rfl, rfl⟩
    · obtain ⟨-, kready, kmiss, -⟩ := takeCause_leaves .overload (faultedOn s c)
      exact ⟨kready, kmiss⟩
    · exact ⟨rfl, rfl⟩
  have hdrl : (afterPoint s c).drl = (loadedOn s c).drl := by simp [afterPoint]
  rw [hdrl, load.1, load.2, fault.1, fault.2]
  exact ⟨carried.readyLevel, carried.mismatches⟩

/-! ### The obligation -/

theorem mem_causeOrder {k : TripCause} (h : foundOn s c k = true) : k ∈ causeOrder := by
  cases k <;> simp_all [foundOn, causeOrder]

/-- The record of a trip that latches on the point: its further causes are those found, the first
apart. -/
theorem latched_record {before after : List TripCause} {k : TripCause} {pt : TripPoint}
    (horder : causeOrder = before ++ k :: after) (hbefore : ∀ j ∈ before, foundOn s c j = false) (j : TripCause) :
    (joinAll (foundOn s c) after ⟨k, some pt, 0⟩).further.getLsbD j.ctorIdx = true ↔
      foundOn s c j = true ∧ j ≠ k := by
  obtain ⟨-, -, hfurther⟩ := joinAll_eq (foundOn s c) after ⟨k, some pt, 0⟩
  rw [hfurther]
  simp only [BitVec.ofNat_eq_ofNat, BitVec.getLsbD_zero, Bool.false_eq_true, false_or]
  refine ⟨fun ⟨⟨_, hj⟩, hne⟩ => ⟨hj, hne⟩, fun ⟨hj, hne⟩ => ⟨⟨?_, hj⟩, hne⟩⟩
  have hmem := mem_causeOrder hj
  rw [horder, List.mem_append, List.mem_cons] at hmem
  rcases hmem with hmem | hmem | hmem
  · exact absurd hj (by simp [hbefore j hmem])
  · exact absurd hmem hne
  · exact hmem

/-- What the log of a state says. -/
theorem tripLog_eq {t : State} {l : TripLog} (h : tripLog t = l) :
    t.lmu.trip = l.trip ∧ t.lmu.record = l.record ∧ t.lmu.trips = l.trips ∧ t.cli.pending.trip = l.raised := by
  subst h
  exact ⟨rfl, rfl, rfl, rfl⟩

/-- A cause that trips the part is the drive's or the monitor's alone. -/
theorem partTripped {byDrive : Prop} {k : TripCause}
    (hby : byDrive ↔ foundOn s c .driveReadyLost = true ∨ foundOn s c .commandReadback = true)
    (hrun : s.inReset = false) (hclear : s.lmu.trip = .clear) (hk : foundOn s c k = true) :
    PartTripped s c byDrive (afterPoint s c) := by
  by_cases hdrive : foundOn s c .driveReadyLost = true ∨ foundOn s c .commandReadback = true
  · exact partTripped_byDrive (hby.2 hdrive) hclear hdrive
  · obtain ⟨hready, hread⟩ := not_or.1 hdrive
    refine partTripped_byMonitor (mt hby.1 hdrive) hrun hclear (by simpa using hready) (by simpa using hread) ?_
    have hmem := mem_causeOrder hk
    simp only [causeOrder, List.mem_cons, List.not_mem_nil, or_false] at hmem
    rcases hmem with rfl | rfl | rfl | rfl
    · exact absurd hk hready
    · exact absurd hk hread
    · exact .inl hk
    · exact .inr hk

/-- Settles O9: the four causes in turn, by the log of the trip, and what the trip leaves of the drive and the test. -/
theorem tripCausesFoundOnAPoint : Obligations.TripCausesFoundOnAPoint := by
  intro s c hrun
  refine ⟨afterPoint s c, (formedOn s c).point, exec_afterPoint hrun, ?_, ?_⟩
  · simp [afterPoint, loadedOn, faultedOn, passedOn_latest]
  intro beyond found byDrive order
  obtain ⟨-, hforce, -⟩ := formedOn_point s c
  have hbeyond : beyond ↔ s.drl.frame.overloadLimit < (s.forceOn c).natAbs := by simp only [beyond, hforce]
  have hfound : ∀ k, found k ↔ foundOn s c k = true := fun k => by
    cases k with
    | driveReadyLost =>
      show c.driveReady = false ∧ ¬ s.readyUnwatched ↔ _
      rw [← watchesReady_iff]
      simp [foundOn, and_comm]
    | commandReadback =>
      show s.misread c ∧ 3 ≤ s.drl.mismatches ↔ (decide (s.misread c) && decide (3 ≤ s.drl.mismatches)) = true
      rw [Bool.and_eq_true, decide_eq_true_iff, decide_eq_true_iff]
    | driveFault => exact Iff.rfl
    | overload =>
      show beyond ∧ s.lmu.overloadCount ≠ 0 ↔ _
      rw [hbeyond]
      simp [foundOn]
    | _ => simp [found, foundOn]
  have hnot : ∀ {k}, ¬ found k → foundOn s c k = false := fun h => by
    rw [hfound] at h
    simpa using h
  have hlog := afterPoint_log s c
  obtain ⟨hready, hsampled⟩ := afterPoint_samples s c
  obtain ⟨kready, kagrees, kmisses, kreports⟩ := sampledOn_drl s c
  obtain ⟨hfault, hinputs, hwithin, hcount⟩ := loadedOn_lmu s c
  have hlmu : (afterPoint s c).lmu = (loadedOn s c).lmu := by simp [afterPoint]
  refine ⟨hready.trans kready, by rw [hlmu, hfault], by rw [hlmu, hinputs], fun h => hsampled.trans (kagrees h),
    fun h h' => hsampled.trans (kmisses h h'), fun h h' => hsampled.trans (kreports h h'),
    fun h => by rw [hlmu]; exact hwithin (mt hbeyond.2 h), fun h h' => by rw [hlmu]; exact hcount (hbeyond.1 h) h',
    fun hnone => ?_, fun k before after hclear horder hbefore hk => ?_, fun r hlatched hr => ?_⟩
  · rw [takeAll_none fun k _ => hnot (hnone k)] at hlog
    exact tripLog_eq hlog
  · rw [show causeOrder = before ++ k :: after from horder,
      takeAll_clear hclear (fun j hj => hnot (hbefore j hj)) ((hfound k).1 hk)] at hlog
    obtain ⟨htrip, hrecord, htrips, hraised⟩ := tripLog_eq hlog
    obtain ⟨jfirst, jpoint, -⟩ := joinAll_eq (foundOn s c) after ⟨k, some (tripPointOn s c), 0⟩
    have hby : byDrive ↔ foundOn s c .driveReadyLost = true ∨ foundOn s c .commandReadback = true :=
      or_congr (hfound .driveReadyLost) (hfound .commandReadback)
    obtain ⟨⟨hstate, hvelocity, hdac, henable, htarget⟩, houtcome, hmove, hidle, htest, hotherwise⟩ :=
      partTripped hby hrun hclear ((hfound k).1 hk)
    refine ⟨htrip, htrips, hraised, ⟨_, hrecord, jfirst, jpoint, fun j => ?_⟩, hstate, hvelocity, hdac, henable,
      htarget, houtcome, hmove, hidle, htest, hotherwise⟩
    rw [latched_record horder fun j hj => hnot (hbefore j hj), hfound]
  · rw [takeAll_latched (r := r) hlatched hr] at hlog
    obtain ⟨htrip, hrecord, htrips, hraised⟩ := tripLog_eq hlog
    obtain ⟨jfirst, jpoint, jfurther⟩ := joinAll_eq (foundOn s c) causeOrder r
    refine ⟨htrip.trans hlatched, htrips, hraised, afterPoint_staysTripped hlatched, _, hrecord, jfirst, jpoint,
      fun j => ?_⟩
    rw [jfurther, hfound, and_iff_right_of_imp mem_causeOrder]

end Sys2Proof.Proofs
end

section
/-! The Force Unit's requests (O23, O24): Tare, Configure Classifier and Load Calibration (R75, R77, R86). -/

namespace Sys2Proof.Proofs

open Sys2Proof.Machine Sys2Proof.Laws

/-- A request whose decision changes the Force Unit's record alone. -/
theorem request_measures {k tag : Byte} {d : State → Answer} {s : State} {x : Status} {f : Fcu}
    (hs : s.takesRequest) (h : d s.counted = ⟨x, [], { s.counted with fcu := f }⟩) :
    live (takeRequest k tag d) s = .next (({ s with fcu := f } : State).replied (replyKind k) tag [x.byte]) := by
  rw [request_runs k tag d s hs, h]
  rfl

/-! ### Configure Classifier (R86) -/

/-- The four settings of a Configure Classifier payload stand at their offsets (R196). -/
theorem classifierSettings_read {pl cl pu cu : Nat} (hpl : pl < 4294967296) (hcl : cl < 4294967296)
    (hpu : pu < 4294967296) (hcu : cu < 4294967296) :
    let q := u32 pl ++ u32 cl ++ u32 pu ++ u32 cu
    q.length = 16 ∧ natAt q 0 = pl ∧ natAt q 4 = cl ∧ natAt q 8 = pu ∧ natAt q 12 = cu := by
  intro q
  have hwords : q = [pl, cl, pu, cu].flatMap u32 := by simp [q]
  have word : ∀ {k w}, [pl, cl, pu, cu][k]? = some w → natAt q (4 * k) = w := fun hk => by
    rw [hwords, natAt_words (by simp [*]) hk]
  exact ⟨rfl, word (k := 0) rfl, word (k := 1) rfl, word (k := 2) rfl, word (k := 3) rfl⟩

theorem timerInRange_iff {p c : Nat} : timerInRange p c = true ↔ 1 ≤ p ∧ p ≤ 256 ∧ 1 ≤ c ∧ c ≤ 255 := by
  simp [timerInRange, and_assoc]

/-- A timer whose settings differ is reloaded with them, and any other is left as it stands (R86). -/
theorem timer_configure (p c : Nat) (t : Timer) : t.configure p c = if p = t.p ∧ c = t.c then t else ⟨p, c, p, c⟩ := rfl

/-- Settles O23: each decision on the counted state, by the state of the test, the tare wait and the settled flag, and
by the ranges of the four settings. -/
theorem tareAndClassifierRequests : Obligations.TareAndClassifierRequests := by
  refine ⟨fun s tag hs => ⟨fun hin => ?_, fun hin hwait => ?_, fun hin hwait hset => ?_, fun hin hwait hset => ?_,
    fun p hp => ?_⟩, fun s tag pl cl pu cu hs hpl hcl hpu hcu => ?_⟩
  · exact request_refuses (k := 0x50) (x := .wrongState) hs (by simp [decideTare, withEmpty, hin])
  · exact request_refuses (k := 0x50) (x := .busy) hs (by simp [decideTare, withEmpty, hin, hwait])
  · exact request_measures (k := 0x50) (x := .ok) hs
      (by simp [decideTare, withEmpty, hin, hwait, hset, answerOk, takeTare, State.onFcu])
  · exact request_measures (k := 0x50) (x := .accepted) hs
      (by simp [decideTare, withEmpty, hin, hwait, hset, answerAccepted, openTareWait, State.onFcu])
  · exact request_refuses (k := 0x50) (x := .badLength) hs (withEmpty_refuses hp _ _)
  · intro good
    obtain ⟨hlength, kpl, kcl, kpu, kcu⟩ := classifierSettings_read hpl hcl hpu hcu
    have hgood : (timerInRange pl cl && timerInRange pu cu) = true ↔ good := by
      rw [Bool.and_eq_true, timerInRange_iff, timerInRange_iff]
      simp only [good, and_assoc]
    refine ⟨fun hin => request_measures (k := 0x11) (x := .ok) hs ?_,
      fun hout => request_refuses (k := 0x11) (x := .outOfRange) hs ?_,
      fun q hq => request_refuses (k := 0x11) (x := .badLength) hs (if_pos hq)⟩
    · rw [decideConfigureClassifier, if_neg (not_not_intro hlength), kpl, kcl, kpu, kcu, if_pos (hgood.2 hin)]
      simp [answerOk, State.onFcu, timer_configure]
    · rw [decideConfigureClassifier, if_neg (not_not_intro hlength), kpl, kcl, kpu, kcu, if_neg (mt hgood.1 hout)]

/-! ### Load Calibration (R75) -/

theorem rangeOf_ctorIdx (r : Range) : rangeOf (BitVec.ofNat 8 r.ctorIdx) = some r := by cases r <;> rfl

theorem rangeOf_none {b : Byte} : rangeOf b = none ↔ 3 < b.toNat := enumAt_none

theorem breakpointBytes_length (t : List Breakpoint) : (breakpointBytes t).length = 8 * t.length := by
  simp [breakpointBytes, List.length_flatten, Function.comp_def, i32, u32, Nat.mul_comm]

/-- The breakpoints of a payload are those that its bytes were made from (R196). -/
theorem breakpointsOf_bytes {t : List Breakpoint} (hfits : ∀ b ∈ t, fits32 b.count = true ∧ fits32 b.force = true)
    (code n : Byte) : breakpointsOf t.length ([code, n] ++ breakpointBytes t) = t := by
  have record : ∀ k b, t[k]? = some b →
      ((breakpointBytes t).drop (8 * k)).take 8 = i32 b.count ++ i32 b.force := fun k b hk => by
    have hread := take_drop_flatten (t.map fun b => i32 b.count ++ i32 b.force) 8
      (by simp [i32, u32]) [] (k := k) (r := i32 b.count ++ i32 b.force) (by simp [hk])
    rwa [List.append_nil] at hread
  have skip : ∀ i, (code :: n :: breakpointBytes t).drop (2 + i) = (breakpointBytes t).drop i := fun i => by
    rw [Nat.add_comm]
    rfl
  refine List.ext_getElem? fun k => ?_
  rcases hk : t[k]? with _ | b
  · simpa [breakpointsOf] using hk
  · obtain ⟨hcount, hforce⟩ := hfits b (List.mem_of_getElem? hk)
    have hlt : k < t.length := (List.getElem?_eq_some_iff.1 hk).1
    have first : intAt (code :: n :: breakpointBytes t) (2 + 8 * k) = b.count := by
      rw [intAt, skip, show 4 = min 4 8 from rfl, ← List.take_take, record k b hk]
      exact ofBytesSigned_i32 hcount
    have second : intAt (code :: n :: breakpointBytes t) (6 + 8 * k) = b.force := by
      rw [intAt, show 6 + 8 * k = 2 + (8 * k + 4) by omega, skip, ← List.drop_drop, List.take_drop, record k b hk]
      exact ofBytesSigned_i32 hforce
    simp [breakpointsOf, hlt, first, second]

theorem strictlyIncreasing_iff (t : List Breakpoint) :
    strictlyIncreasing t = true ↔ t.Pairwise fun a b => a.count < b.count := by
  rw [← List.isChain_iff_pairwise]
  induction t with
  | nil => simp [strictlyIncreasing]
  | cons a t ih =>
    cases t with
    | nil => simp [strictlyIncreasing]
    | cons b t => simp [strictlyIncreasing, ih]

/-- The checks of R75 accept exactly the tables of 2 to 12 breakpoints in range whose counts rise. -/
theorem tableInRange_iff (t : List Breakpoint) :
    tableInRange t = true ↔ 2 ≤ t.length ∧ t.length ≤ 12 ∧
      (∀ b ∈ t, b.count.natAbs ≤ 8388607 ∧ b.force.natAbs ≤ 20000000) ∧
      t.Pairwise fun a b => a.count < b.count := by
  simp [tableInRange, strictlyIncreasing_iff, and_assoc]

/-- A payload of the length that its count asks for is decided by the test, the range code and the table (R75). -/
theorem decideLoadCalibration_counted {t : List Breakpoint} (hlength : t.length < 256)
    (hfits : ∀ b ∈ t, fits32 b.count = true ∧ fits32 b.force = true) (code : Byte) (s : State) :
    decideLoadCalibration ([code, BitVec.ofNat 8 t.length] ++ breakpointBytes t) s =
      if s.inTest then refuse .locked s
      else match rangeOf code with
        | none => refuse .outOfRange s
        | some r =>
          if tableInRange t then answerOk (s.onFcu fun f => { f with tables := f.tables.set r (some t) })
          else refuse .outOfRange s := by
  have hcount : (byteAt ([code, BitVec.ofNat 8 t.length] ++ breakpointBytes t) 1).toNat = t.length := by
    simp [byteAt, Nat.mod_eq_of_lt hlength]
  have hright : ¬ (([code, BitVec.ofNat 8 t.length] ++ breakpointBytes t).length < 2 ∨
      ([code, BitVec.ofNat 8 t.length] ++ breakpointBytes t).length ≠ 2 + 8 * t.length) := by
    simp [breakpointBytes_length]
    omega
  unfold decideLoadCalibration
  simp only [hcount, if_neg hright, breakpointsOf_bytes hfits]
  rfl

theorem decideLoadCalibration_badLength {code n : Byte} {q : List Byte} (h : q.length ≠ 8 * n.toNat) (s : State) :
    decideLoadCalibration ([code, n] ++ q) s = refuse .badLength s := by
  have hwrong : ([code, n] ++ q).length ≠ 2 + 8 * n.toNat := by simp; omega
  exact if_pos (.inr hwrong)

/-- Settles O24: the decision on the counted state, the table read back from its payload. -/
theorem loadCalibrationReplacesTable : Obligations.LoadCalibrationReplacesTable := by
  intro s tag r t hs hlength hfits p good
  have decision := decideLoadCalibration_counted hlength hfits
  refine ⟨fun hin => ?_, fun hin hgood => ?_, fun hin hbad => ?_, fun code hcode hin => ?_, fun code n q hq => ?_⟩
  · exact request_refuses (k := 0x13) (x := .locked) hs (by simp only [p, decision]; simp [hin])
  · have htable : tableInRange t = true := (tableInRange_iff t).2 hgood
    exact request_measures (k := 0x13) (x := .ok) hs
      (by simp only [p, decision]; simp [hin, rangeOf_ctorIdx, htable, answerOk, State.onFcu])
  · have htable : tableInRange t = false := Bool.eq_false_iff.2 (mt (tableInRange_iff t).1 hbad)
    exact request_refuses (k := 0x13) (x := .outOfRange) hs
      (by simp only [p, decision]; simp [hin, rangeOf_ctorIdx, htable])
  · exact request_refuses (k := 0x13) (x := .outOfRange) hs
      (by simp only [decision]; simp [hin, rangeOf_none.2 hcode])
  · exact request_refuses (k := 0x13) (x := .badLength) hs (decideLoadCalibration_badLength hq _)

end Sys2Proof.Proofs
end

section
/-! The events of the Force Unit, the Drive Loop, the Sample Store and the start of a test (O37, O38): a timer's period,
the expiries, the slip action, the down-range switch, and the ends of the waits and delays. -/

namespace Sys2Proof.Proofs

open Sys2Proof.Machine Sys2Proof.Laws

/-! ### The timers (R83) -/

theorem timer_count_prescale {t : Timer} (h : 2 ≤ t.prescale) :
    t.count = (⟨t.p, t.c, t.prescale - 1, t.ticks⟩, false) :=
  if_pos h

theorem timer_count_tick {t : Timer} (h : t.prescale < 2) (h' : 2 ≤ t.ticks) :
    t.count = (⟨t.p, t.c, t.p, t.ticks - 1⟩, false) := by
  rw [Timer.count, if_neg (Nat.not_le.2 h), if_pos h']

theorem timer_count_expires {t : Timer} (h : t.prescale < 2) (h' : t.ticks < 2) :
    t.count = (⟨t.p, t.c, t.p, t.c⟩, true) := by
  rw [Timer.count, if_neg (Nat.not_le.2 h), if_neg (Nat.not_le.2 h')]
  rfl

/-- A reloaded timer with `q` ticks and `r` points counted. -/
theorem timer_counted {p c q r : Nat} (hq : q < c) (hr : r < p) :
    (fun t => (Timer.count t).1)^[p * q + r] ⟨p, c, p, c⟩ = ⟨p, c, p - r, c - q⟩ := by
  induction q generalizing r with
  | zero =>
    induction r with
    | zero => rfl
    | succ r ih =>
      rw [← Nat.add_assoc, Function.iterate_succ_apply', ih (by omega), timer_count_prescale (by simp; omega)]
      simp [Nat.sub_sub]
  | succ q ihq =>
    induction r with
    | zero =>
      rw [show p * (q + 1) + 0 = p * q + (p - 1) + 1 by rw [Nat.mul_succ]; omega, Function.iterate_succ_apply',
        ihq (by omega) (by omega), timer_count_tick (by simp; omega) (by simp; omega)]
      simp [Nat.sub_sub]
    | succ r ih =>
      rw [← Nat.add_assoc, Function.iterate_succ_apply', ih (by omega), timer_count_prescale (by simp; omega)]
      simp [Nat.sub_sub]

/-- A timer just reloaded expires on its P x C-th point and on none before, and is then reloaded (R83). -/
theorem timer_period {p c : Nat} (hp : 1 ≤ p) (hc : 1 ≤ c) :
    let t : Nat → Timer := fun n => (fun t => (Timer.count t).1)^[n] ⟨p, c, p, c⟩
    (∀ n, n + 1 < p * c → (Timer.count (t n)).2 = false) ∧
    (Timer.count (t (p * c - 1))).2 = true ∧ t (p * c) = ⟨p, c, p, c⟩ := by
  intro t
  obtain ⟨k, rfl⟩ : ∃ k, c = k + 1 := ⟨c - 1, by omega⟩
  have hperiod : p * (k + 1) = p * k + (p - 1) + 1 := by rw [Nat.mul_succ]; omega
  have hlast : t (p * k + (p - 1)) = ⟨p, k + 1, 1, 1⟩ := by
    simp only [t]
    rw [timer_counted (by omega) (by omega), show p - (p - 1) = 1 by omega, show k + 1 - k = 1 by omega]
  have hexpires := timer_count_expires (t := ⟨p, k + 1, 1, 1⟩) Nat.one_lt_two Nat.one_lt_two
  refine ⟨fun n hn => ?_, ?_, ?_⟩
  · have hdiv : p * (n / p) + n % p = n := Nat.div_add_mod n p
    have hmod : n % p < p := Nat.mod_lt n hp
    have hticks : n / p < k + 1 := (Nat.div_lt_iff_lt_mul hp).2 (by rw [Nat.mul_comm]; omega)
    have hstate : t n = ⟨p, k + 1, p - n % p, k + 1 - n / p⟩ := by
      rw [← timer_counted hticks hmod, hdiv]
    rw [hstate]
    by_cases hprescale : 2 ≤ p - n % p
    · rw [timer_count_prescale hprescale]
    · have hmore : n / p ≠ k := by
        intro hk
        rw [hk] at hdiv
        omega
      rw [timer_count_tick (by simpa using hprescale) (by simp; omega)]
  · rw [hperiod, Nat.add_sub_cancel, hlast, hexpires]
  · simp only [t] at hlast ⊢
    rw [hperiod, Function.iterate_succ_apply', hlast, hexpires]

theorem steady_iff {x : Classifier} : x.steady = true ↔ x = .quiet ∨ x = .level := by
  cases x <;> simp [Classifier.steady]

theorem restless_iff {x : Classifier} : x.restless = true ↔ x = .falling ∨ x = .erratic := by
  cases x <;> simp [Classifier.restless]

/-! ### The tare wait and the range (R70, R72, R78) -/

theorem closeTareWait_eq (s : State) :
    closeTareWait s = { s with
      fcu := { s.fcu with tareWait := none, tareOffset := s.fcu.calForce, tareOutcome := .ok }
      cli := { s.cli with
        notices := { s.cli.notices with tareDone := true }
        pending := { s.cli.pending with notice := true } } } := rfl

theorem tareWaitOut_eq (s : State) :
    tareWaitOut s = { s with
      fcu := { s.fcu with tareWait := none, tareOutcome := .notSettled }
      cli := { s.cli with
        notices := { s.cli.notices with tareDone := true }
        pending := { s.cli.pending with notice := true } } } := rfl

theorem rangeChange_eq (r : Range) (s : State) :
    rangeChange r s = { s with
      fcu := { s.fcu with
        range := r, discardPending := true, history := [], slope := 0, downCount := 0
        rangeChanges := min 65535 (s.fcu.rangeChanges + 1) }
      cli := { s.cli with
        notices := { s.cli.notices with rangeChanged := true }
        pending := { s.cli.pending with notice := true } } } := by
  rw [← satSucc_max16]
  rfl

/-! ### The slip action (R35, R149) -/

/-- CONTINUE, a test in ENDING, and HOLD in a test already HELD: nothing follows from a slip (R35). -/
theorem slipAction_stands {s : State} (h : s.header.slipAction = .carryOn ∨ s.tsq.state = .ending ∨
    s.header.slipAction = .hold ∧ s.tsq.state = .held) : slipAction s = s := by
  unfold slipAction
  rcases h with h | h | ⟨h, h'⟩
  · rw [h]
  · rw [h]
    cases s.header.slipAction <;> rfl
  · rw [h, h']

theorem slipAction_holds {s : State} (h : s.header.slipAction = .hold) (hq : s.tsq.state = .running) :
    slipAction s = enterHeld .slip none s := by
  rw [slipAction, h, hq]

theorem slipAction_aborts {s : State} (h : s.header.slipAction = .abort)
    (hq : s.tsq.state = .running ∨ s.tsq.state = .held) : slipAction s = enterEnding .aborted s := by
  rcases hq with hq | hq <;> rw [slipAction, h, hq]

/-- The state `s` with one slip counted and SLIP noticed (R149). -/
def slipCounted (s : State) : State :=
  addNotice .slip (s.onEvu fun e => e.onResult fun r => { r with slipCount := satSucc max16 r.slipCount })

theorem slipCounted_evu {s : State} {r : ResultRecord} (hr : s.evu.result = some r) :
    (slipCounted s).evu = { s.evu with result := some { r with slipCount := min 65535 (r.slipCount + 1) } } := by
  simp [slipCounted, Evu.onResult, hr, satSucc_max16]

theorem countSlip_elastic {s : State} (hq : s.tsq.state.evaluated = true) (hphase : s.evu.phase = .elastic) :
    countSlip s = slipAction (slipCounted s) := if_pos (by simp [hq, hphase])

theorem countSlip_none {s : State} (h : s.tsq.state.evaluated = false ∨ s.evu.phase ≠ .elastic) : countSlip s = s :=
  if_neg (by rcases h with h | h <;> simp [h])

/-- SLIP and NOTICE stand after the slip action. -/
theorem slipAction_noticed (s : State) :
    (slipAction (slipCounted s)).cli.notices.slip = true ∧ (slipAction (slipCounted s)).cli.pending.notice = true := by
  have grows := (Carried.refl (slipCounted s)).slipAction.cli
  exact ⟨grows.notices .slip rfl, grows.pending .notice rfl⟩

/-- The unrest timer is reloaded and an unrest event is produced (R85). -/
def unrestProduced (s : State) : State :=
  s.onFcu fun f => { f with unrestTimer := f.unrestTimer.reload, unrestEvents := satSucc max16 f.unrestEvents }

theorem unrestExpiry_restless {s : State} (h : s.fcu.classifier = .falling ∨ s.fcu.classifier = .erratic) :
    unrestExpiry s = countSlip (unrestProduced s) := if_pos (restless_iff.2 h)

/-- What the slip action makes of the test and the drive of `s`, in a state with the evaluation `e` (R35). -/
theorem slipAction_outcomes {s v : State} {e : Evu} (hevu : v.evu = e) (htsq : v.tsq = s.tsq) (hdrl : v.drl = s.drl) :
    (s.header.slipAction = .carryOn ∨ s.tsq.state = .ending ∨ s.header.slipAction = .hold ∧ s.tsq.state = .held →
      (slipAction v).evu = e ∧ (slipAction v).tsq = s.tsq ∧ (slipAction v).drl = s.drl) ∧
    (s.header.slipAction = .hold → s.tsq.state = .running → s.drl.state = .running →
      (slipAction v).evu = e ∧ (slipAction v).tsq = { s.tsq with
        state := .held, heldReason := some .slip, heldAt := none, startStep := none, resumeEntry := none } ∧
      (slipAction v).drl = { s.drl with state := .holding, velocity := 0, dacCode := 0 } ∧
      (slipAction v).cli.pending.held = true) ∧
    (s.header.slipAction = .abort → s.tsq.state = .running → s.drl.state = .running → s.drl.velocity ≠ 0 →
      (slipAction v).evu = e ∧ (slipAction v).tsq = { s.tsq with
        state := .ending, pendingEnd := some .aborted, heldReason := none, heldAt := none, resumeEntry := none } ∧
      (slipAction v).drl = { s.drl with state := .stopping }) ∧
    (s.header.slipAction = .abort → s.tsq.state = .held → s.drl.state = .holding →
      (slipAction v).tsq.state = .ended ∧ (slipAction v).tsq.endReason = some .aborted ∧
      (slipAction v).drl.state = .idle ∧ (slipAction v).cli.pending.testEnd = true) := by
  rw [← header_congr htsq, ← htsq, ← hdrl]
  refine ⟨fun h => ?_, fun h hq hd => ?_, fun h hq hd hv => ?_, fun h hq hd => ?_⟩
  · rw [slipAction_stands h]
    exact ⟨hevu, rfl, rfl⟩
  · rw [slipAction_holds h hq, enterHeld_eq_heldNow (by decide) none (.inl hd)]
    exact ⟨hevu, rfl, rfl, rfl⟩
  · rw [slipAction_aborts h (.inl hq), enterEnding_of_moving .aborted hd hv]
    exact ⟨hevu, rfl, rfl⟩
  · have hstop := stop_of_rest (d := v.drl) (.inl hd)
    obtain ⟨hended, hreason, hidle⟩ := enterEnding_idle .aborted hstop
    rw [slipAction_aborts h (.inr hq)]
    exact ⟨hended, hreason, hidle, (enterEnding_endsAtOnce .aborted hstop).raised⟩

/-! ### The events of the Force Unit -/

/-- The level timer's expiry (R84): reloaded and settled, and an open tare wait takes the tare (R78, log 53). -/
theorem levelTimerExpires {s : State} (hrun : s.inReset = false) :
    (s.fcu.classifier = .quiet ∨ s.fcu.classifier = .level → s.fcu.tareWait = none →
      exec .levelTimerExpiry s = .next { s with fcu := { s.fcu with
        levelTimer := ⟨s.fcu.levelTimer.p, s.fcu.levelTimer.c, s.fcu.levelTimer.p, s.fcu.levelTimer.c⟩
        settled := true } }) ∧
    (s.fcu.classifier = .quiet ∨ s.fcu.classifier = .level → s.fcu.tareWait.isSome = true →
      exec .levelTimerExpiry s = .next { s with
        fcu := { s.fcu with
          levelTimer := ⟨s.fcu.levelTimer.p, s.fcu.levelTimer.c, s.fcu.levelTimer.p, s.fcu.levelTimer.c⟩
          settled := true, tareWait := none, tareOffset := s.fcu.calForce, tareOutcome := .ok }
        cli := { s.cli with
          notices := { s.cli.notices with tareDone := true }
          pending := { s.cli.pending with notice := true } } }) ∧
    (s.fcu.classifier ≠ .quiet → s.fcu.classifier ≠ .level → exec .levelTimerExpiry s = .next s) := by
  have runs : exec .levelTimerExpiry s = .next (levelExpiry s) := live_running _ _ hrun
  rw [runs]
  unfold levelExpiry
  refine ⟨fun hq hwait => ?_, fun hq hwait => ?_, fun hquiet hlevel => ?_⟩
  · rw [if_pos (steady_iff.2 hq)]
    simp [hwait, State.onFcu, Timer.reload]
  · rw [if_pos (steady_iff.2 hq)]
    simp [hwait, State.onFcu, Timer.reload, closeTareWait_eq]
  · rw [if_neg (mt steady_iff.1 (by simp [hquiet, hlevel]))]

/-- The down-range switch (R70, R72). -/
theorem downRangeSwitches {s : State} (hrun : s.inReset = false) :
    (s.inTest = false → s.fcu.range ≠ .d →
      exec .downRangeCountReached s = .next (rangeChange s.fcu.range.down s)) ∧
    (s.inTest = true ∨ s.fcu.range = .d → exec .downRangeCountReached s = .next s) := by
  have runs : exec .downRangeCountReached s = .next (downRangeReached s) := live_running _ _ hrun
  rw [runs]
  unfold downRangeReached State.mayRangeDown
  refine ⟨fun hin hrange => ?_, fun h => ?_⟩
  · rw [if_pos (by simp [hin, hrange])]
  · rw [if_neg (by rcases h with h | h <;> simp [h])]

/-- Settles O37: a timer's period, and each of the three rows by the classifier's state, the test and the range. -/
theorem forceEvents : Obligations.ForceEvents := by
  refine ⟨fun p c hp hc => timer_period hp hc, fun s hrun => ?_, fun s hrun => ?_⟩
  · obtain ⟨hsettles, htakes, hstands⟩ := levelTimerExpires hrun
    have runs : exec .unrestTimerExpiry s = .next (unrestExpiry s) := live_running _ _ hrun
    refine ⟨hsettles, htakes, hstands, fun hq => ?_, fun hfalling herratic => ?_⟩
    · rw [unrestExpiry_restless hq] at runs
      refine ⟨_, runs, by simp [unrestProduced, Timer.reload, satSucc_max16], fun h => ?_, fun r hev hphase hr => ?_⟩
      · rw [countSlip_none (s := unrestProduced s) h]
        rfl
      · obtain ⟨hnotice, hpending⟩ := slipAction_noticed (unrestProduced s)
        rw [countSlip_elastic (s := unrestProduced s) hev hphase]
        exact ⟨hnotice, hpending, slipAction_outcomes (slipCounted_evu (s := unrestProduced s) hr) rfl rfl⟩
    · rw [runs, unrestExpiry, if_neg (mt restless_iff.1 (by simp [hfalling, herratic]))]
  · obtain ⟨hswitch, hstands⟩ := downRangeSwitches hrun
    refine ⟨fun hin hrange => ?_, hstands⟩
    rw [hswitch hin hrange, rangeChange_eq]
    rfl

/-! ### The ends of the waits and delays -/

/-- The tare wait reaches its end (R78). -/
theorem tareWaitEnds {s : State} (h : s.fcu.tareWait.isSome = true) :
    tareWaitReached s = if s.fcu.settled then closeTareWait s else tareWaitOut s := by
  obtain ⟨n, hn⟩ := Option.isSome_iff_exists.1 h
  simp [tareWaitReached, hn]

/-- The start-time tare runs out (R22, R25). -/
theorem startTareEnds {s : State} (hq : s.tsq.state = .starting) (hstep : s.tsq.startStep = some .tare) :
    startTareReached s = if s.fcu.settled then beginZero (takeTare s)
      else failStart .tareNotSettled (s.onFcu fun f => { f with tareOutcome := .notSettled }) :=
  if_pos ⟨hq, hstep⟩

theorem beginZero_leavesTare (s : State) : (beginZero s).tsq.startStep ≠ some .tare := by
  unfold beginZero
  repeat' split
  all_goals simp [setStartStep]

/-- Settles O38: each wait by the state in which it runs, on the states that its end leaves. -/
theorem waitsAndDelaysEnd : Obligations.WaitsAndDelaysEnd := by
  refine ⟨fun s hrun => ?_, fun s hrun => ?_, fun s hrun => ?_, fun s hrun => ?_, fun s hrun => ?_⟩
  · have runs : exec .tareWaitTimeout s = .next (tareWaitReached s) := live_running _ _ hrun
    refine ⟨fun hwait => ?_, fun hwait => by simp [runs, tareWaitReached, hwait]⟩
    rw [runs, tareWaitEnds hwait]
    cases hset : s.fcu.settled <;> simp [closeTareWait_eq, tareWaitOut_eq]
  · have runs : exec .startTareTimeout s = .next (startTareReached s) := live_running _ _ hrun
    refine ⟨fun hq hstep hset => ⟨_, runs, ?_⟩, fun hq hstep hset => ⟨_, runs, ?_⟩, fun h => ?_⟩
    · rw [startTareEnds hq hstep, if_neg (by simp [hset]), failStart]
      refine ⟨?_, ?_, ?_, ?_, enterEnded_raises _ _ _, ?_, ?_⟩ <;> simp [enterEnded_tsq]
    · rw [startTareEnds hq hstep, if_pos hset]
      exact ⟨by simp [hq], beginZero_leavesTare _, by simp [takeTare]⟩
    · rw [runs, startTareReached, if_neg (by rcases h with h | h <;> simp [h])]
  · have runs : ∀ b, exec (.enableWaitExpiry b) s = .next (enableWaitReached b s) := fun b => live_running _ _ hrun
    refine ⟨fun hq => ⟨?_, ?_⟩, fun b hq => ?_⟩
    · rw [runs, enableWaitReached, if_pos hq]
      rfl
    · rw [runs, enableWaitReached, if_pos hq]
      rfl
    · rw [runs, enableWaitReached, if_neg hq]
  · have runs : ∀ b, exec (.encoderEdge b) s = .next (encoderStep b s) := fun b => live_running _ _ hrun
    exact ⟨runs true, runs false⟩
  · have runs : exec .paceDelayExpiry s = .next (paceDelayReached s) := live_running _ _ hrun
    refine ⟨fun hq => ?_, fun hq => ?_⟩
    · rw [runs, paceDelayReached, if_pos hq]
      rfl
    · rw [runs, paceDelayReached, if_neg hq]

end Sys2Proof.Proofs
end

section
/-! What a measured point leaves of the drive's place and of the test, whatever its consumers do with it: the frame
configuration, the encoder count and the travel zero stand, and no test begins to start. -/

namespace Sys2Proof.Proofs

open Sys2Proof.Machine Sys2Proof.Laws

/-- What the position and the travel of a point are read from (R49). -/
structure Place where
  frame : FrameConfig
  encoder : BitVec 48
  travelZero : Option (BitVec 48)
  captureZero : Bool

def placeOf (d : Drl) : Place := ⟨d.frame, d.encoder, d.travelZero, d.captureZero⟩

theorem hold_place (d : Drl) : placeOf d.hold = placeOf d := by
  unfold Drl.hold
  split <;> rfl

theorem enterStopping_place (d : Drl) : placeOf d.enterStopping = placeOf d := by
  unfold Drl.enterStopping
  split <;> rfl

theorem stop_place (d : Drl) : placeOf d.stop = placeOf d := by
  unfold Drl.stop
  split
  · exact enterStopping_place d
  all_goals rfl

theorem decelerate_place (d : Drl) : placeOf d.decelerate = placeOf d := by
  unfold Drl.decelerate
  dsimp only
  split <;> rfl

theorem ramp_place (d : Drl) : placeOf d.ramp = placeOf d := by
  unfold Drl.ramp
  split <;> rfl

/-- A state goes on from `a` with the drive's place as it is, and no test that was not STARTING is. -/
structure Placed (a s : State) : Prop where
  place : placeOf s.drl = placeOf a.drl
  started : s.tsq.state = .starting → a.tsq.state = .starting

namespace Placed

theorem refl (a : State) : Placed a a := ⟨rfl, id⟩

variable {a s t : State}

theorem same (h : Placed a s) (ht : t.tsq.state = s.tsq.state) (hd : t.drl = s.drl) : Placed a t :=
  ⟨by rw [hd, h.place], by rw [ht]; exact h.started⟩

theorem onDrl {f : Drl → Drl} (h : Placed a s) (hf : placeOf (f s.drl) = placeOf s.drl) : Placed a (s.onDrl f) :=
  ⟨hf.trans h.place, h.started⟩

/-- A change of the test's record to another state than STARTING. -/
theorem onTsq {f : Tsq → Tsq} (h : Placed a s) (hf : (f s.tsq).state ≠ .starting) : Placed a (s.onTsq f) :=
  ⟨h.place, fun hq => absurd hq hf⟩

/-! ### Ending, holding and entering -/

theorem enterEnded {why : EndReason} {cause : Option StartCause} (h : Placed a s) :
    Placed a (enterEnded why cause s) where
  place := by rw [enterEnded_drl]; exact h.place
  started hq := by simp [enterEnded_tsq] at hq

theorem enterEnding {why : EndReason} (h : Placed a s) : Placed a (enterEnding why s) := by
  have stopped : Placed a ((s.onTsq fun t =>
      { t with state := .ending, pendingEnd := some why, heldReason := none, heldAt := none
               resumeEntry := none }).onDrl Drl.stop) := (h.onTsq (by simp)).onDrl (stop_place _)
  unfold Machine.enterEnding
  dsimp only
  split
  · exact stopped.enterEnded
  · exact stopped

theorem enterHeld {why : HeldReason} {i : Option Nat} (h : Placed a s) : Placed a (enterHeld why i s) := by
  have held := h.onTsq (f := fun t =>
    { t with state := .held, heldReason := some why, heldAt := i, startStep := none, resumeEntry := none }) (by simp)
  unfold Machine.enterHeld
  dsimp only
  split
  · exact held.same rfl rfl
  · exact (held.onDrl (hold_place _)).same rfl rfl

theorem holdCause {why : HeldReason} (h : Placed a s) : Placed a (holdCause why s) := by
  unfold Machine.holdCause
  split
  · exact h.enterHeld
  · exact h

theorem slipAction (h : Placed a s) : Placed a (slipAction s) := by
  unfold Machine.slipAction
  split
  · exact h.enterHeld
  · exact h.enterEnding
  · exact h.enterEnding
  · exact h

theorem enterSegment {i : Nat} {p : Point} (h : Placed a s) : Placed a (enterSegment i p s) where
  place := by
    unfold Machine.enterSegment
    dsimp only
    split
    · rw [(offerSegmentStart_frame _ _ _).2.1]
      exact h.place
    · rw [(offerSegmentStart_frame _ _ _).2.1]
      exact h.place
  started hq := by simp [enterSegment_tsq] at hq

theorem reachSegment {i : Nat} {p : Point} (h : Placed a s) : Placed a (reachSegment i p s) := by
  unfold Machine.reachSegment
  split
  · exact h.enterHeld
  · exact h.enterSegment

theorem onEndAction {i : Nat} {x : OnEnd} {p : Point} (h : Placed a s) : Placed a (onEndAction i x p s) := by
  cases x with
  | next =>
    unfold Machine.onEndAction
    dsimp only
    split
    · exact h.enterEnding
    · exact h.reachSegment
  | hold => exact h.enterHeld
  | endTest => exact h.enterEnding

/-! ### The trip -/

theorem takeCause {k : TripCause} (h : Placed a s) : Placed a (takeCause k s) := by
  cases hclear : s.lmu.trip with
  | latched => exact h.same (by simp [takeCause_latched hclear]) (by simp [takeCause_latched hclear])
  | clear =>
    have tripped : Placed a (driveTrip (latchTrip k s)) :=
      ⟨by rw [driveTrip_drl]; exact h.place, fun hq => h.started (by simpa using hq)⟩
    rw [takeCause_clear hclear, handTrip]
    split
    · exact tripped.enterEnded.same rfl rfl
    · exact tripped.same rfl rfl

theorem readyPoint {ready : Bool} (h : Placed a s) : Placed a (readyPoint ready s) := by
  have sampled := h.onDrl (f := fun d => { d with readyLevel := ready }) rfl
  unfold Machine.readyPoint
  dsimp only
  split
  · exact sampled.takeCause
  · exact sampled

theorem readbackPoint {code held : Int} (h : Placed a s) : Placed a (readbackPoint code held s) := by
  unfold Machine.readbackPoint reportReadback
  repeat' split
  · exact (h.onDrl rfl).takeCause
  · exact h.onDrl rfl
  · exact h.onDrl rfl

theorem limitPoint {fault : Bool} {p : Point} (h : Placed a s) : Placed a (limitPoint fault p s) := by
  have faulted : Placed a (driveFaultPoint fault s) := by
    unfold driveFaultPoint
    dsimp only
    split
    · exact takeCause (h.same rfl rfl)
    · exact h.same rfl rfl
  unfold Machine.limitPoint overloadPoint
  repeat' split
  · exact faulted.same rfl rfl
  · exact faulted.takeCause
  · exact faulted.same rfl rfl

/-! ### The work of the drive -/

theorem reportIfIdle (h : Placed a s) : Placed a (reportIfIdle s) := by
  unfold Machine.reportIfIdle reportIdle
  repeat' split
  · exact ⟨h.place, h.started⟩
  · exact h.enterEnded
  · exact h
  · exact h

theorem softStop (h : Placed a s) : Placed a (softStop s) := (h.onDrl (decelerate_place _)).same rfl rfl

theorem freezePoint {m : ControlMode} {p : Point} (h : Placed a s) : Placed a (freezePoint m p s) := by
  unfold Machine.freezePoint
  dsimp only
  split
  all_goals exact ⟨h.place, h.started⟩

theorem setpointPoint {first : Bool} {m : ControlMode} {p : Point} (h : Placed a s) :
    Placed a (setpointPoint first m p s) := by
  unfold Machine.setpointPoint
  split
  · exact (h.onDrl rfl).freezePoint
  · exact h.freezePoint.onDrl (ramp_place _)

theorem runningDrive {first : Bool} {p : Point} (h : Placed a s) : Placed a (runningDrive first p s) := by
  unfold Machine.runningDrive
  split
  · exact h
  · dsimp only
    split
    · exact h.setpointPoint.softStop.holdCause.reportIfIdle
    · exact h.setpointPoint.onDrl rfl

theorem movingDrive {p : Point} (h : Placed a s) : Placed a (movingDrive p s) := by
  unfold Machine.movingDrive moveReached
  split
  · exact h
  · dsimp only
    repeat' split
    · exact ⟨h.place, h.started⟩
    · exact (h.onDrl rfl).softStop.reportIfIdle
    · exact h.onDrl rfl

theorem enablingPoint {ready : Bool} (h : Placed a s) : Placed a (enablingPoint ready s) := by
  unfold Machine.enablingPoint enableWaitOut
  dsimp only
  repeat' split
  all_goals exact ⟨h.place, h.started⟩

theorem drivePointWork {ready first : Bool} {p : Point} (h : Placed a s) :
    Placed a (drivePointWork ready first p s) := by
  unfold Machine.drivePointWork
  split
  · exact h.enablingPoint
  · exact h.runningDrive
  · exact (h.onDrl (decelerate_place _)).reportIfIdle
  · exact h.movingDrive
  all_goals exact h

/-! ### The test -/

theorem evaluationPoint {unrest : Bool} {p : Point} (h : Placed a s) : Placed a (evaluationPoint unrest p s).1 := by
  have applied : ∀ o, Placed a (applyEval o s) := fun o => h.same (by simp) (by simp)
  unfold Machine.evaluationPoint
  split
  · dsimp only
    split
    · exact (applied _).slipAction
    · exact applied _
  · exact h

theorem startingPoint {p : Point} (h : Placed a s) : Placed a (startingPoint p s) := by
  unfold Machine.startingPoint waitTare
  repeat' split
  · exact h.same (by simp) (by simp)
  · exact h.same (by simp) (by simp)
  · exact enterEnded (h.same rfl rfl)
  · exact h.same rfl rfl
  · exact h
  · rw [testEntry_eq]
    exact reachSegment (h.same (by simp [entryState_records]) (by simp [entryState_records]))

theorem runningTaken {fractured : Bool} {p : Point} (h : Placed a s) : Placed a (runningTaken fractured p s) := by
  have counted : Placed a (countSegmentTime s) := h.same rfl rfl
  unfold Machine.runningTaken runningPoint
  dsimp only
  repeat' split
  · exact counted.enterEnding
  · exact counted
  · exact counted
  · exact counted.onEndAction
  · exact counted

theorem sequencerPoint {fractured : Bool} {p : Point} (h : Placed a s) : Placed a (sequencerPoint fractured p s) := by
  unfold Machine.sequencerPoint heldPoint
  repeat' split
  · exact h.startingPoint
  · exact h.runningTaken
  · exact h.enterEnding
  · exact h.enterSegment
  all_goals exact h

end Placed

/-! ### The whole point -/

theorem sampledOn_placed (s : State) (c : Conversion) : Placed (formedOn s c).state (sampledOn s c) := by
  have paced : Placed (formedOn s c).state (pacingPoint (formedOn s c).state) :=
    (Placed.refl _).same (by simp) (by simp)
  exact paced.readyPoint.readbackPoint

/-- The state in which the Test Sequencer takes the point of a conversion. -/
def evaluatedOn (s : State) (c : Conversion) : State × Bool :=
  evaluationPoint (formedOn s c).unrest (formedOn s c).point
    (drivePointWork c.driveReady (firstEstimated (formedOn s c).point s) (formedOn s c).point (sampledOn s c))

theorem managedOn_placed (s : State) (c : Conversion) :
    Placed (formedOn s c).state (managerPoint (evaluatedOn s c).2 (formedOn s c).point (evaluatedOn s c).1) := by
  have evaluated : Placed (formedOn s c).state (evaluatedOn s c).1 :=
    (sampledOn_placed s c).drivePointWork.evaluationPoint
  exact evaluated.same (by simp) (by simp)

theorem passedOn_placed (s : State) (c : Conversion) : Placed (formedOn s c).state (passedOn s c) :=
  (managedOn_placed s c).sequencerPoint

theorem afterPoint_placed (s : State) (c : Conversion) : Placed (formedOn s c).state (afterPoint s c) := by
  have loaded : Placed (formedOn s c).state (loadedOn s c) := (passedOn_placed s c).limitPoint
  exact loaded.same (by simp [afterPoint]) (by simp [afterPoint])

end Sys2Proof.Proofs
end

section
/-! The Force Unit's record along a measured point (O30): the conversion, the classifier and the timers, the tare wait
and the range logic, and what the consumers of the point change of it (R68 to R85). -/

namespace Sys2Proof.Proofs

open Sys2Proof.Machine Sys2Proof.Laws

/-! ### The use of a conversion (R69, R70) -/

theorem use_discarded_iff {raw : Int} {f : Fcu} : f.use raw = .discarded ↔ f.discardPending = true := by
  unfold Fcu.use
  split
  · simp [*]
  · split <;> simp [*]

theorem use_overrange_iff {raw : Int} {f : Fcu} :
    f.use raw = .overrange ↔ f.discardPending = false ∧ f.range ≠ .a ∧ 8300000 ≤ raw.natAbs := by
  unfold Fcu.use
  split
  · simp [*]
  · split <;> simp_all

theorem use_used_iff {raw : Int} {f : Fcu} :
    f.use raw = .used ↔ f.discardPending = false ∧ (f.range = .a ∨ raw.natAbs < 8300000) := by
  unfold Fcu.use
  split
  · simp [*]
  · split
    · simp_all
    · simp_all [or_iff_not_imp_left]

theorem convert_used {capacity : Nat} {raw : Int} {f : Fcu} (h : f.use raw = .used) :
    f.convert capacity raw = { f with
      rawCount := raw
      calForce := calibrated capacity f.range (f.tables.get f.range) raw
      force := clampForce (calibrated capacity f.range (f.tables.get f.range) raw - f.tareOffset) } := by
  simp only [Fcu.convert, h]

theorem convert_unused {capacity : Nat} {raw : Int} {f : Fcu} (h : f.use raw ≠ .used) :
    f.convert capacity raw = { f with discardPending := false } := by
  unfold Fcu.convert
  split
  case h_1 hused => exact absurd hused h
  case h_2 => rfl
  case h_3 hover => rw [← (use_overrange_iff.1 hover).1]

/-- A conversion changes the count, the forces and the discard mark alone, and leaves no discard pending. -/
theorem convert_eq (capacity : Nat) (raw : Int) (f : Fcu) :
    ∃ n x y, f.convert capacity raw = { f with rawCount := n, calForce := x, force := y, discardPending := false } := by
  by_cases h : f.use raw = .used
  · exact ⟨_, _, _, by rw [convert_used h, ← (use_used_iff.1 h).1]⟩
  · exact ⟨_, _, _, convert_unused h⟩

/-! ### The steps of the record after the conversion -/

/-- The classifier and the timers change their own fields alone: `g` is the record once the point is classified. -/
theorem signalPoint_eq (quiet slope : Nat) (u : Use) (f : Fcu) :
    let g := if u = .used then f.classifyPoint quiet slope else f
    f.signalPoint quiet slope u = { g with
      levelTimer := (g.levelPoint f.classifier).levelTimer
      settled := (g.levelPoint f.classifier).settled
      unrestTimer := (g.unrestPoint f.classifier).unrestTimer
      unrestEvents := (g.unrestPoint f.classifier).unrestEvents } := by
  intro g
  show (g.levelPoint f.classifier).unrestPoint f.classifier = _
  generalize f.classifier = before
  unfold Fcu.levelPoint Fcu.unrestPoint
  repeat' split
  all_goals rfl

/-- The classifier changes its state, its history and its slope alone. -/
theorem classifyPoint_eq (quiet slope : Nat) (f : Fcu) :
    ∃ x q d n, f.classifyPoint quiet slope =
      { f with classifier := x, history := q, slope := d, signChanges := n } := by
  unfold Fcu.classifyPoint
  repeat' split
  all_goals exact ⟨_, _, _, _, rfl⟩

/-- The tare wait changes the tare alone. -/
theorem tareWaitPoint_fcu (s : State) :
    ∃ w x o, (tareWaitPoint s).fcu = { s.fcu with tareWait := w, tareOffset := x, tareOutcome := o } := by
  unfold tareWaitPoint
  repeat' split
  all_goals exact ⟨_, _, _, rfl⟩

/-- The range logic changes the range and what a range change touches alone. -/
theorem rangeLogic_fcu (u : Use) (raw : Int) (s : State) :
    ∃ r d q x n k, (rangeLogic u raw s).fcu = { s.fcu with
      range := r, discardPending := d, history := q, slope := x, downCount := n, rangeChanges := k } := by
  have counted : ∃ n, s.fcu.countDown raw = { s.fcu with downCount := n } := by
    unfold Fcu.countDown
    split <;> exact ⟨_, rfl⟩
  obtain ⟨n, hn⟩ := counted
  unfold rangeLogic
  simp only [State.onFcu, hn]
  repeat' split
  all_goals exact ⟨_, _, _, _, _, _, rfl⟩

/-! ### The record and the point of a conversion -/

/-- How the conversion is taken. -/
def useOn (s : State) (c : Conversion) : Use := s.fcu.use (saturate c.count)

/-- The record once the conversion is taken and the next index given. -/
def convertedOn (s : State) (c : Conversion) : Fcu :=
  { s.fcu.convert s.drl.frame.capacity (saturate c.count) with nextIndex := nextIndex s.fcu.nextIndex }

/-- The record once the point is classified. -/
def classifiedOn (s : State) (c : Conversion) : Fcu :=
  if useOn s c = .used then
    (convertedOn s c).classifyPoint s.drl.frame.quietThreshold s.drl.frame.slopeThreshold
  else convertedOn s c

/-- The state in which the tare wait takes the point. -/
def signalledOn (s : State) (c : Conversion) : State :=
  let x := (judgeHeads (captureTravelZero (takeLimits (tickClocks s)))).onFcu
    (Fcu.convert s.drl.frame.capacity (saturate c.count))
  (windowEntry (formedOn s c).point
    { x.onFcu (fun f => { f with nextIndex := nextIndex f.nextIndex }) with
      latestPoint := some (formedOn s c).point }).onFcu
    (Fcu.signalPoint s.drl.frame.quietThreshold s.drl.frame.slopeThreshold (useOn s c))

/-- The point formed is the signalled one with the tare wait and the range logic taken. -/
theorem formedOn_state (s : State) (c : Conversion) :
    (formedOn s c).state = rangeLogic (useOn s c) (saturate c.count) (tareWaitPoint (signalledOn s c)) := by
  simp [formedOn, formPoint, signalledOn, useOn]

theorem convertedOn_classifier (s : State) (c : Conversion) : (convertedOn s c).classifier = s.fcu.classifier := by
  obtain ⟨n, x, y, h⟩ := convert_eq s.drl.frame.capacity (saturate c.count) s.fcu
  rw [convertedOn, h]

theorem signalledOn_records (s : State) (c : Conversion) :
    (signalledOn s c).fcu =
      (convertedOn s c).signalPoint s.drl.frame.quietThreshold s.drl.frame.slopeThreshold (useOn s c) ∧
    (signalledOn s c).tsq = s.tsq ∧ (signalledOn s c).cli = s.cli := by
  obtain ⟨n, x, y, h⟩ := convert_eq s.drl.frame.capacity (saturate c.count) s.fcu
  simp [signalledOn, convertedOn, h]

/-- The signalled record: the classified one, with the timers that have taken the point (R83 to R85). -/
theorem signalledOn_fcu (s : State) (c : Conversion) :
    (signalledOn s c).fcu = { classifiedOn s c with
      levelTimer := ((classifiedOn s c).levelPoint s.fcu.classifier).levelTimer
      settled := ((classifiedOn s c).levelPoint s.fcu.classifier).settled
      unrestTimer := ((classifiedOn s c).unrestPoint s.fcu.classifier).unrestTimer
      unrestEvents := ((classifiedOn s c).unrestPoint s.fcu.classifier).unrestEvents } := by
  rw [(signalledOn_records s c).1, signalPoint_eq, convertedOn_classifier]
  rfl

/-! ### What the consumers of the point change -/

/-- A record that differs in the tare offset and the tare outcome alone: what a start's tare takes (R22). -/
def TareOnly (f g : Fcu) : Prop := g = { f with tareOffset := g.tareOffset, tareOutcome := g.tareOutcome }

theorem TareOnly.of_eq {f g : Fcu} (h : g = f) : TareOnly f g := by
  subst h
  rfl

theorem startingPoint_fcu (p : Point) (s : State) : TareOnly s.fcu (startingPoint p s).fcu := by
  unfold startingPoint beginTare waitTare
  dsimp only
  repeat' split
  all_goals simp [TareOnly, takeTare]

theorem sequencerPoint_fcu (fractured : Bool) (p : Point) (s : State) :
    TareOnly s.fcu (sequencerPoint fractured p s).fcu ∧
    (s.tsq.state ≠ .starting → (sequencerPoint fractured p s).fcu = s.fcu) := by
  cases hq : s.tsq.state with
  | starting =>
    rw [sequencerPoint, hq]
    exact ⟨startingPoint_fcu p s, fun h => absurd rfl h⟩
  | held =>
    have stands : (sequencerPoint fractured p s).fcu = s.fcu := by
      rw [sequencerPoint, hq]
      dsimp only
      split <;> simp
    exact ⟨.of_eq stands, fun _ => stands⟩
  | _ =>
    have stands : (sequencerPoint fractured p s).fcu = s.fcu := by simp [sequencerPoint, hq]
    exact ⟨.of_eq stands, fun _ => stands⟩

/-- After the point the Force Unit's record is the one that forming the point has left, but for the tare that a start
takes (R22). -/
theorem afterPoint_fcu (s : State) (c : Conversion) :
    TareOnly (formedOn s c).state.fcu (afterPoint s c).fcu ∧
    (s.tsq.state ≠ .starting → (afterPoint s c).fcu = (formedOn s c).state.fcu) := by
  have hafter : (afterPoint s c).fcu = (passedOn s c).fcu := by simp [afterPoint, loadedOn, faultedOn]
  have hbefore : (managerPoint (evaluatedOn s c).2 (formedOn s c).point (evaluatedOn s c).1).fcu =
      (formedOn s c).state.fcu := by simp [evaluatedOn, sampledOn]
  have hstart := (managedOn_placed s c).started
  rw [(formedOn_frame s c).1] at hstart
  obtain ⟨hany, hno⟩ := sequencerPoint_fcu (evaluatedOn s c).2 (formedOn s c).point
    (managerPoint (evaluatedOn s c).2 (formedOn s c).point (evaluatedOn s c).1)
  rw [hbefore] at hany hno
  rw [hafter]
  exact ⟨hany, fun hq => hno (mt hstart hq)⟩

/-- What the conversion and the classifier have given the record stands after the point. -/
theorem afterPoint_measured (s : State) (c : Conversion) :
    (afterPoint s c).fcu.rawCount = (convertedOn s c).rawCount ∧
    (afterPoint s c).fcu.calForce = (convertedOn s c).calForce ∧
    (afterPoint s c).fcu.nextIndex = nextIndex s.fcu.nextIndex ∧ (afterPoint s c).fcu.tables = s.fcu.tables := by
  obtain ⟨hany, -⟩ := afterPoint_fcu s c
  obtain ⟨_, _, _, _, _, _, hrange⟩ :=
    rangeLogic_fcu (useOn s c) (saturate c.count) (tareWaitPoint (signalledOn s c))
  obtain ⟨_, _, _, hwait⟩ := tareWaitPoint_fcu (signalledOn s c)
  obtain ⟨_, _, _, _, hclass⟩ :=
    classifyPoint_eq s.drl.frame.quietThreshold s.drl.frame.slopeThreshold (convertedOn s c)
  obtain ⟨_, _, _, hconvert⟩ := convert_eq s.drl.frame.capacity (saturate c.count) s.fcu
  have hclassified : (classifiedOn s c).rawCount = (convertedOn s c).rawCount ∧
      (classifiedOn s c).calForce = (convertedOn s c).calForce ∧
      (classifiedOn s c).nextIndex = (convertedOn s c).nextIndex ∧
      (classifiedOn s c).tables = (convertedOn s c).tables := by
    unfold classifiedOn
    split <;> simp [hclass]
  have htables : (convertedOn s c).tables = s.fcu.tables := by rw [convertedOn, hconvert]
  rw [hany, formedOn_state, hrange, hwait, signalledOn_fcu]
  exact ⟨hclassified.1, hclassified.2.1, hclassified.2.2.1, hclassified.2.2.2.trans htables⟩

end Sys2Proof.Proofs
end

section
/-! The point that a conversion forms (O30): calibration along the breakpoints, position and travel, stress and flags
(R49, R68 to R74, R79). -/

namespace Sys2Proof.Proofs

open Sys2Proof.Machine Sys2Proof.Laws

/-! ### Calibration (R73, R74) -/

theorem divRound_zero (b : Int) : divRound 0 b = 0 := by
  have hquotient : (2 * (0 : Int).natAbs + b.natAbs) / (2 * b.natAbs) = 0 := by
    rcases Nat.eq_zero_or_pos b.natAbs with h | h
    · simp [h]
    · exact Nat.div_eq_of_lt (by simp; omega)
  simp only [divRound, hquotient]
  split <;> rfl

/-- An exact quotient needs no rounding. -/
theorem divRound_mul {a b : Int} (h : 0 < a) : divRound (a * b) a = b := by
  have hquotient : (2 * (a * b).natAbs + a.natAbs) / (2 * a.natAbs) = b.natAbs := by
    rw [Int.natAbs_mul, show 2 * (a.natAbs * b.natAbs) + a.natAbs = a.natAbs + 2 * a.natAbs * b.natAbs by ring,
      Nat.add_mul_div_left _ _ (by omega), Nat.div_eq_of_lt (by omega), Nat.zero_add]
  have hsign : (decide (a * b < 0) = decide (a < 0)) ↔ 0 ≤ b := by
    rw [decide_eq_decide, Int.mul_neg_iff]
    omega
  simp only [divRound, hquotient, hsign]
  split <;> omega

/-- At a breakpoint the lines on both of its sides give its force. -/
theorem lineForce_shared {b0 b1 : Breakpoint} (b2 : Breakpoint) (h : b0.count < b1.count) :
    lineForce b1.count b0 b1 = lineForce b1.count b1 b2 := by
  rw [lineForce, lineForce, divRound_mul (by omega), Int.sub_self, Int.zero_mul, divRound_zero]
  omega

theorem pairFor_first {count : Int} {b1 b2 : Breakpoint} {rest : List Breakpoint} (h : rest = [] ∨ count ≤ b2.count) :
    pairFor count (b1 :: b2 :: rest) = some (b1, b2) := by
  cases rest with
  | nil => rfl
  | cons b3 rest => exact if_pos (h.resolve_left (by simp))

/-- The pair that serves a count gives the force on the line through the two breakpoints around the count, or through
the first or last two outside them (R73). -/
theorem pairFor_around {count : Int} {before rest : List Breakpoint} {b1 b2 : Breakpoint}
    (hrises : (before ++ b1 :: b2 :: rest).Pairwise fun a b => a.count < b.count)
    (hlow : before = [] ∨ b1.count ≤ count) (hhigh : rest = [] ∨ count ≤ b2.count) :
    ∃ x y, pairFor count (before ++ b1 :: b2 :: rest) = some (x, y) ∧
      lineForce count x y = lineForce count b1 b2 := by
  induction before with
  | nil => exact ⟨b1, b2, pairFor_first hhigh, rfl⟩
  | cons b0 before ih =>
    have habove : b1.count ≤ count := hlow.resolve_left (by simp)
    obtain ⟨hfirst, hothers⟩ := List.pairwise_cons.1 hrises
    cases before with
    | nil =>
      have hrise : b0.count < b1.count := hfirst b1 (by simp)
      by_cases hshared : count ≤ b1.count
      · obtain rfl : b1.count = count := by omega
        exact ⟨b0, b1, if_pos hshared, lineForce_shared b2 hrise⟩
      · exact ⟨b1, b2, (if_neg hshared).trans (pairFor_first hhigh), rfl⟩
    | cons b0' before =>
      have hbelow : b0'.count < b1.count := (List.pairwise_cons.1 hothers).1 b1 (by simp)
      obtain ⟨x, y, hpair, hline⟩ := ih hothers (.inr habove)
      refine ⟨x, y, Eq.trans ?_ hpair, hline⟩
      cases before <;> exact if_neg (by omega)

/-- The calibrated force off a table of rising counts (R73). -/
theorem calibrated_table {capacity : Nat} {r : Range} {raw : Int} {before rest : List Breakpoint} {b1 b2 : Breakpoint}
    (hrises : (before ++ b1 :: b2 :: rest).Pairwise fun a b => a.count < b.count)
    (hlow : before = [] ∨ b1.count ≤ raw) (hhigh : rest = [] ∨ raw ≤ b2.count) :
    calibrated capacity r (some (before ++ b1 :: b2 :: rest)) raw = clampForce (lineForce raw b1 b2) := by
  obtain ⟨x, y, hpair, hline⟩ := pairFor_around hrises hlow hhigh
  simp only [calibrated, hpair, hline]

/-- The calibrated force off the nominal line of a range (R74). -/
theorem calibrated_nominal (capacity : Nat) (r : Range) (raw : Int) :
    calibrated capacity r none raw =
      clampForce (divRound (raw * divRound capacity (5 ^ r.ctorIdx)) 8000000) := by
  cases r <;> rfl

/-! ### The fields of the point (R79) -/

/-- The state from which the point is made. -/
def measuredOn (s : State) (c : Conversion) : State :=
  (judgeHeads (captureTravelZero (takeLimits (tickClocks s)))).onFcu
    (Fcu.convert s.drl.frame.capacity (saturate c.count))

theorem formedOn_makes (s : State) (c : Conversion) :
    (formedOn s c).point = makePoint (useOn s c) (saturate c.count) (measuredOn s c) := by
  simp [formedOn, formPoint, measuredOn, useOn]

theorem measuredOn_records (s : State) (c : Conversion) :
    (measuredOn s c).fcu = s.fcu.convert s.drl.frame.capacity (saturate c.count) ∧ (measuredOn s c).tsq = s.tsq ∧
    (measuredOn s c).drl = (captureTravelZero s).drl ∧ (measuredOn s c).exm.source = s.exm.source := by
  simp [measuredOn]
  unfold captureTravelZero
  split <;> simp_all

/-- The first point after an accepted Start Test carries travel 0, and any other the position against the travel zero
(R49). -/
theorem capturedTravel (s : State) :
    (s.drl.captureZero = true → (captureTravelZero s).drl.travel = 0) ∧
    (s.drl.captureZero = false → match s.drl.travelZero with
      | none => (captureTravelZero s).drl.travel = s.drl.position
      | some z => (captureTravelZero s).drl.travel =
          clamp32 (s.drl.position - clamp32 (divRound (z.toInt * s.drl.frame.encoderScale) 100))) := by
  refine ⟨fun h => ?_, fun h => ?_⟩
  · simp [captureTravelZero, h, Drl.travel, Drl.position, clamp32, clampTo]
  · cases hz : s.drl.travelZero <;> simp [captureTravelZero, h, Drl.travel, hz, positionOf]

/-- The forces of a used conversion (R73, R74, R77). -/
theorem convertedOn_used {s : State} {c : Conversion} (h : useOn s c = .used) :
    (convertedOn s c).rawCount = saturate c.count ∧
    (convertedOn s c).calForce =
      calibrated s.drl.frame.capacity s.fcu.range (s.fcu.tables.get s.fcu.range) (saturate c.count) ∧
    (convertedOn s c).force = clampForce ((convertedOn s c).calForce - s.fcu.tareOffset) := by
  rw [convertedOn, convert_used h]
  exact ⟨rfl, rfl, rfl⟩

/-- A conversion that is not used leaves the count and the forces as they were (R69, R70). -/
theorem convertedOn_unused {s : State} {c : Conversion} (h : useOn s c ≠ .used) :
    (convertedOn s c).rawCount = s.fcu.rawCount ∧ (convertedOn s c).calForce = s.fcu.calForce ∧
    (convertedOn s c).force = s.fcu.force := by
  rw [convertedOn, convert_unused h]
  exact ⟨rfl, rfl, rfl⟩

/-- The fields of the point, by the records that it is formed from (R79, R80). -/
theorem formedOn_fields (s : State) (c : Conversion) :
    (formedOn s c).point.index = s.fcu.nextIndex ∧ (formedOn s c).point.position = s.drl.position ∧
    (formedOn s c).point.travel = (captureTravelZero s).drl.travel ∧
    (formedOn s c).point.force = (convertedOn s c).force ∧
    (formedOn s c).point.stress = stressOf s.area (formedOn s c).point.force ∧
    (formedOn s c).point.source = s.exm.source ∧
    (s.exm.source = .none → (formedOn s c).point.strain = 0 ∧ (formedOn s c).point.flags.noStrain = true) ∧
    (formedOn s c).point.flags.held = decide (s.tsq.state = .held) ∧
    (formedOn s c).point.flags.rangeChange = decide (useOn s c ≠ .used) ∧
    (formedOn s c).point.flags.overrange =
      decide (useOn s c = .used ∧ s.fcu.range = .a ∧ 8300000 ≤ (saturate c.count).natAbs) := by
  obtain ⟨hfcu, htsq, hdrl, hsource⟩ := measuredOn_records s c
  obtain ⟨n, x, y, hconvert⟩ := convert_eq s.drl.frame.capacity (saturate c.count) s.fcu
  have harea : (measuredOn s c).area = s.area := by simp only [State.area, htsq]
  have hposition : (captureTravelZero s).drl.position = s.drl.position := by simp [Drl.position]
  rw [formedOn_makes]
  simp only [makePoint, hfcu, htsq, hdrl, hsource, harea, hposition, convertedOn, hconvert, pointFlags]
  refine ⟨trivial, trivial, trivial, trivial, trivial, trivial, fun hnone => ?_, trivial, ?_, ?_⟩
  · simp [strainOf, hsource, hnone]
  · simp
  · simp [Bool.and_assoc]

theorem formedOn_force (s : State) (c : Conversion) : (formedOn s c).point.force = (convertedOn s c).force := by
  obtain ⟨-, -, -, hforce, -⟩ := formedOn_fields s c
  exact hforce

/-- The point formed is the latest one when its consumers have taken it. -/
theorem afterPoint_latest (s : State) (c : Conversion) : (afterPoint s c).latestPoint = some (formedOn s c).point := by
  have hoffered : (afterPoint s c).latestPoint = (loadedOn s c).latestPoint := by simp [afterPoint]
  rw [hoffered, (loadedOn_takes s c).latestPoint, (faultedOn_takes s c).latestPoint, passedOn_latest]

/-! ### The obligation -/

/-- Settles O30: the point as it is formed, and the records that stand when its consumers have taken it. -/
theorem conversionFormsThePoint : Obligations.ConversionFormsThePoint := by
  intro s c hrun raw limited first
  obtain ⟨hindex, hposition, htravel, hforce, hstress, hsource, hstrain, hheld, hchange, hover⟩ := formedOn_fields s c
  obtain ⟨hraw, hcal, hnext, htables⟩ := afterPoint_measured s c
  obtain ⟨htravelFirst, htravelLater⟩ := capturedTravel s
  have hplace : placeOf (afterPoint s c).drl = placeOf (captureTravelZero s).drl := by
    rw [(afterPoint_placed s c).place, formedOn, formPoint_drl]
    unfold captureTravelZero
    split <;> simp_all
  obtain ⟨hframe, hencoder, hzero, hcapture⟩ := Place.mk.inj hplace
  obtain ⟨kcapture, kzero⟩ := captureTravelZero_captured s
  have hconversion : afterPoint s c = conversion c s := rfl
  refine ⟨afterPoint s c, (formedOn s c).point, exec_afterPoint hrun, ?_, hindex, hnext, hposition,
    hcapture.trans kcapture, fun h => ⟨htravel.trans (htravelFirst h), ?_⟩, fun h => ⟨?_, ?_⟩, fun hkeep hin => ?_,
    fun hout => ?_, hstress, hsource, fun hnone => hstrain (hsource ▸ hnone), hheld, ?_⟩
  · exact afterPoint_latest s c
  · rw [hzero, kzero, if_pos h]
  · exact hzero.trans (kzero.trans (if_neg (Bool.eq_false_iff.1 h)))
  · specialize htravelLater h
    rw [hposition, htravel]
    exact htravelLater
  · have hused : useOn s c = .used := use_used_iff.2 ⟨hkeep, hin⟩
    obtain ⟨uraw, ucal, uforce⟩ := convertedOn_used hused
    refine ⟨?_, fun hnone => ?_, fun before b1 b2 rest htable hrises hlow hhigh => ?_, hraw.trans uraw, ?_, ?_⟩
    · rw [hforce, uforce, hcal]
      rfl
    · rw [hcal, ucal, hnone, calibrated_nominal]
      rfl
    · rw [hcal, ucal, htable]
      exact calibrated_table hrises hlow hhigh
    · rw [hchange, hused]
      rfl
    · rw [hover, hused]
      simp [raw, saturate]
  · have hunused : useOn s c ≠ .used := fun hused => by
      obtain ⟨hkeep, hin⟩ := use_used_iff.1 hused
      rcases hout with h | ⟨h, h'⟩
      · simp [h] at hkeep
      · exact hin.elim h (Nat.not_lt.2 h')
    obtain ⟨uraw, ucal, uforce⟩ := convertedOn_unused hunused
    exact ⟨hforce.trans uforce, hcal.trans ucal, hraw.trans uraw, hchange.trans (decide_eq_true hunused)⟩
  · rw [hframe, hencoder, htables, hconversion]
    simp

end Sys2Proof.Proofs
end

section
/-! The range, the classifier, the timers and the tare wait on a point (the first half of O31): the steps of the Force
Unit's record one by one (R70, R72, R78, R81 to R85), and what is noticed on the way. -/

namespace Sys2Proof.Proofs

open Sys2Proof.Machine Sys2Proof.Laws

/-! ### The attention record along the point -/

/-- What is noticed and pending in `s` is so in `t`. -/
structure Attended (s t : State) : Prop where
  notices : ∀ n, s.cli.notices.has n = true → t.cli.notices.has n = true
  pending : ∀ k, s.cli.pending.has k = true → t.cli.pending.has k = true

namespace Attended

variable {s t u : State}

theorem trans (h : Attended s t) (h' : Attended t u) : Attended s u :=
  ⟨fun n hn => h'.notices n (h.notices n hn), fun k hk => h'.pending k (h.pending k hk)⟩

theorem of_carried (h : Carried s t) : Attended s t := ⟨h.cli.notices, h.cli.pending⟩

theorem of_onward (h : Onward s t) : Attended s t := ⟨h.notices, h.pending⟩

theorem takeCause (k : TripCause) (s : State) : Attended s (takeCause k s) := by
  cases htrip : s.lmu.trip with
  | latched => exact of_onward (takeCause_onward htrip)
  | clear =>
    have hcli : (latchTrip k s).cli = s.cli := by simp
    obtain ⟨hnotices, hpending⟩ := handTrip_grows (latchTrip k s)
    rw [takeCause_clear htrip]
    exact ⟨fun n hn => hnotices n (by rwa [hcli]), fun j hj => hpending j (by rwa [hcli])⟩

theorem of_takesIf {k : TripCause} {found : Bool} (h : TakesIf k found s t) : Attended s t := by
  obtain ⟨y, honward, -, -, rfl⟩ := h
  have sampled := of_onward honward
  cases found with
  | true => exact sampled.trans (takeCause k y)
  | false => exact sampled

end Attended

/-- What is noticed when the point is formed stays so until its consumers have taken it. -/
theorem afterPoint_attends (s : State) (c : Conversion) : Attended (formedOn s c).state (afterPoint s c) := by
  have paced : Attended (formedOn s c).state (pacedOn s c) := .of_carried (Carried.refl _).pacingPoint
  have readied := paced.trans (.of_takesIf (readiedOn_takes s c))
  have sampled := readied.trans (.of_takesIf (sampledOn_takes s c))
  have passed : Attended (sampledOn s c) (passedOn s c) := .of_carried (Carried.refl _).drivePointWork.passTest
  have faulted := (sampled.trans passed).trans (.of_takesIf (faultedOn_takes s c))
  have loaded := faulted.trans (.of_takesIf (loadedOn_takes s c))
  exact loaded.trans (.of_onward (afterPoint_onward s c))

/-! ### The range logic (R69, R70, R72) -/

/-- The down-range count that a used conversion makes of the one before it (R72). -/
def countedDown (f : Fcu) (raw : Int) : Nat := if f.range ≠ .d ∧ raw.natAbs < 1200000 then f.downCount + 1 else 0

theorem countDown_eq (raw : Int) (f : Fcu) : f.countDown raw = { f with downCount := countedDown f raw } := by
  unfold Fcu.countDown countedDown
  split <;> rfl

/-- The conversion switches up (R69, R70). -/
def GoesUp (u : Use) (raw : Int) (f : Fcu) : Prop := u = .overrange ∨ u = .used ∧ f.range ≠ .a ∧ 7200000 < raw.natAbs

/-- The conversion switches down (R72). -/
def GoesDown (u : Use) (raw : Int) (s : State) : Prop :=
  u = .used ∧ ¬ GoesUp u raw s.fcu ∧ s.inTest = false ∧ 200 ≤ countedDown s.fcu raw

theorem rangeLogic_up {u : Use} {raw : Int} {s : State} (h : GoesUp u raw s.fcu) :
    rangeLogic u raw s = rangeChange s.fcu.range.up s := by
  rcases h with rfl | ⟨rfl, h⟩
  · rfl
  · exact if_pos h

theorem rangeLogic_down {u : Use} {raw : Int} {s : State} (h : GoesDown u raw s) :
    rangeLogic u raw s = rangeChange s.fcu.range.down (s.onFcu (Fcu.countDown raw)) := by
  obtain ⟨rfl, hup, hin, hcount⟩ := h
  have hstays : ¬ (s.fcu.range ≠ .a ∧ 7200000 < raw.natAbs) := fun h => hup (.inr ⟨rfl, h⟩)
  simp [rangeLogic, if_neg hstays, State.mayRangeDown, hin, countDown_eq, hcount]

/-- A conversion that switches no range leaves the count of R72, and the rest as it was. -/
theorem rangeLogic_stands {u : Use} {raw : Int} {s : State} (hup : ¬ GoesUp u raw s.fcu) (hdown : ¬ GoesDown u raw s) :
    rangeLogic u raw s = s.onFcu fun f =>
      { f with downCount := if u ≠ .used then f.downCount else if s.inTest then 0 else countedDown f raw } := by
  cases u with
  | overrange => exact absurd (.inl rfl) hup
  | discarded => rfl
  | used =>
    have hstays : ¬ (s.fcu.range ≠ .a ∧ 7200000 < raw.natAbs) := fun h => hup (.inr ⟨rfl, h⟩)
    cases hin : s.inTest with
    | true => simp [rangeLogic, if_neg hstays, State.mayRangeDown, hin]
    | false =>
      have hfew : ¬ 200 ≤ countedDown s.fcu raw := fun h => hdown ⟨rfl, hup, hin, h⟩
      simp [rangeLogic, if_neg hstays, State.mayRangeDown, hin, State.onFcu, countDown_eq, if_neg hfew]

/-- The range of `t` has been changed to `r`, with the notice of it; `n` counts the range changes before (R70). -/
structure Switched (r : Range) (n : Nat) (t : State) : Prop where
  range : t.fcu.range = r
  record : t.fcu.discardPending = true ∧ t.fcu.history = [] ∧ t.fcu.slope = 0 ∧ t.fcu.downCount = 0 ∧
    t.fcu.rangeChanges = min 65535 (n + 1)
  notice : t.cli.notices.has .rangeChanged = true
  pending : t.cli.pending.has .notice = true

theorem rangeChange_switched (r : Range) (s : State) : Switched r s.fcu.rangeChanges (rangeChange r s) := by
  rw [rangeChange_eq]
  exact ⟨rfl, ⟨rfl, rfl, rfl, rfl, rfl⟩, rfl, rfl⟩

/-! ### The classifier (R81, R82) -/

theorem differences_eq (l : List Int) : differences l = List.zipWith (fun a b => b - a) l (l.drop 1) := by
  induction l with
  | nil => rfl
  | cons a l ih =>
    cases l with
    | nil => rfl
    | cons b l => simpa [differences] using ih

/-- Along differences that are not 0 the sign changes where one of two neighbours is negative and the other positive. -/
theorem signChanges_eq {l : List Int} (h : ∀ a ∈ l, a ≠ 0) :
    signChanges l = (List.zipWith (fun a b => decide (a < 0 ↔ 0 < b)) l (l.drop 1)).count true := by
  induction l with
  | nil => rfl
  | cons a l ih =>
    cases l with
    | nil => rfl
    | cons b l =>
      have hb : b ≠ 0 := h b (by simp)
      have hsame : decide (a < 0) = decide (b < 0) ↔ ¬ (a < 0 ↔ 0 < b) := by
        rw [decide_eq_decide]
        omega
      have hrest := ih fun x hx => h x (List.mem_cons_of_mem a hx)
      simp only [signChanges, hrest, hsame, List.drop_succ_cons, List.drop_zero, List.zipWith_cons_cons,
        List.count_cons, beq_true, decide_eq_true_eq, ite_not]
      split <;> omega

theorem signChangeCount_eq (history : List Int) (force : Int) :
    let forces := history ++ [force]
    let steps := (List.zipWith (fun a b => b - a) forces (forces.drop 1)).filter (· ≠ 0)
    signChangeCount history force =
      (List.zipWith (fun a b => decide (a < 0 ↔ 0 < b)) steps (steps.drop 1)).count true := by
  intro forces steps
  rw [signChangeCount, differences_eq, signChanges_eq]
  simp

theorem classifyPoint_short {quiet slope : Nat} {f : Fcu} (h : f.history.length < 16) :
    f.classifyPoint quiet slope = { f with history := f.history ++ [f.force] } := by
  unfold Fcu.classifyPoint
  split
  case h_1 => exact if_neg (Nat.not_le.2 h)
  case h_2 hnil => rw [hnil]; rfl

theorem classifyPoint_full {quiet limit : Nat} {f : Fcu} {oldest : Int} {rest : List Int}
    (h : f.history = oldest :: rest) (hlength : rest.length = 15) :
    f.classifyPoint quiet limit = { f with
      slope := f.force - oldest, signChanges := signChangeCount f.history f.force
      classifier := classify quiet limit f.force (f.force - oldest) (signChangeCount f.history f.force)
      history := rest ++ [f.force] } := by
  have hfull : 16 ≤ f.history.length := by simp [h, hlength]
  unfold Fcu.classifyPoint
  split
  case h_1 a l heq =>
    obtain ⟨rfl, rfl⟩ := List.cons.inj (heq.symm.trans h)
    exact if_pos hfull
  case h_2 hnil => rw [hnil] at h; cases h

/-! ### The timers on a point (R84, R85) -/

/-- The level timer and the settled flag, by the classifier before the point and on it (R84). -/
theorem levelPoint_spec (before : Classifier) (f : Fcu) :
    let steady : Classifier → Prop := fun x => x = .quiet ∨ x = .level
    let g := f.levelPoint before
    let l := f.levelTimer
    (steady before → steady f.classifier →
      (2 ≤ l.prescale → g.settled = f.settled ∧ g.levelTimer = ⟨l.p, l.c, l.prescale - 1, l.ticks⟩) ∧
      (l.prescale < 2 → 2 ≤ l.ticks → g.settled = f.settled ∧ g.levelTimer = ⟨l.p, l.c, l.p, l.ticks - 1⟩) ∧
      (l.prescale < 2 → l.ticks < 2 → g.settled = true ∧ g.levelTimer = ⟨l.p, l.c, l.p, l.c⟩)) ∧
    (¬ steady before → steady f.classifier → g.settled = f.settled ∧ g.levelTimer = ⟨l.p, l.c, l.p, l.c⟩) ∧
    (steady before → ¬ steady f.classifier → g.settled = false ∧ g.levelTimer = l) ∧
    (¬ steady before → ¬ steady f.classifier → g.settled = f.settled ∧ g.levelTimer = l) := by
  intro steady g l
  simp only [steady, g, l, ← steady_iff]
  refine ⟨fun hbefore hnow => ?_, fun hbefore hnow => ?_, fun hbefore hnow => ?_, fun hbefore hnow => ?_⟩
  · rw [Fcu.levelPoint, if_pos hnow, if_pos hbefore]
    refine ⟨fun h => ?_, fun h h' => ?_, fun h h' => ?_⟩
    · simp [timer_count_prescale h]
    · simp [timer_count_tick h h']
    · simp [timer_count_expires h h']
  · rw [Fcu.levelPoint, if_pos hnow, if_neg hbefore]
    exact ⟨rfl, rfl⟩
  · rw [Fcu.levelPoint, if_neg hnow, if_pos hbefore]
    exact ⟨rfl, rfl⟩
  · rw [Fcu.levelPoint, if_neg hnow, if_neg hbefore]
    exact ⟨rfl, rfl⟩

/-- The unrest timer and its events, by the classifier before the point and on it (R85). -/
theorem unrestPoint_spec (before : Classifier) (f : Fcu) :
    let restless : Classifier → Prop := fun x => x = .falling ∨ x = .erratic
    let g := f.unrestPoint before
    let u := f.unrestTimer
    let reloaded : Timer := ⟨u.p, u.c, u.p, u.c⟩
    (restless f.classifier →
      (2 ≤ u.prescale → g.unrestTimer = ⟨u.p, u.c, u.prescale - 1, u.ticks⟩ ∧ g.unrestEvents = f.unrestEvents) ∧
      (u.prescale < 2 → 2 ≤ u.ticks →
        g.unrestTimer = ⟨u.p, u.c, u.p, u.ticks - 1⟩ ∧ g.unrestEvents = f.unrestEvents) ∧
      (u.prescale < 2 → u.ticks < 2 →
        g.unrestTimer = reloaded ∧ g.unrestEvents = min 65535 (f.unrestEvents + 1))) ∧
    (¬ restless f.classifier → g.unrestEvents = f.unrestEvents ∧
      (restless before → g.unrestTimer = reloaded) ∧ (¬ restless before → g.unrestTimer = u)) := by
  intro restless g u reloaded
  simp only [restless, g, u, reloaded, ← restless_iff]
  refine ⟨fun hnow => ?_, fun hnow => ?_⟩
  · rw [Fcu.unrestPoint, if_pos hnow]
    refine ⟨fun h => ?_, fun h h' => ?_, fun h h' => ?_⟩
    · simp [timer_count_prescale h]
    · simp [timer_count_tick h h']
    · simp [timer_count_expires h h', satSucc_max16]
  · rw [Fcu.unrestPoint, if_neg hnow]
    refine ⟨?_, fun h => ?_, fun h => ?_⟩
    · split <;> rfl
    · rw [if_pos h]
      rfl
    · rw [if_neg h]

/-! ### The tare wait on a point (R78) -/

theorem tareWaitPoint_none {s : State} (h : s.fcu.tareWait = none) : tareWaitPoint s = s := by
  simp only [tareWaitPoint, h]

theorem tareWaitPoint_settled {s : State} {n : Nat} (h : s.fcu.tareWait = some n) (hset : s.fcu.settled = true) :
    tareWaitPoint s = closeTareWait s := by
  simp only [tareWaitPoint, h, if_pos hset]

theorem tareWaitPoint_counts {s : State} {n : Nat} (h : s.fcu.tareWait = some n) (hset : s.fcu.settled = false)
    (hn : n + 1 < 20000) : tareWaitPoint s = s.onFcu fun f => { f with tareWait := some (n + 1) } := by
  simp only [tareWaitPoint, h, if_neg (Bool.eq_false_iff.1 hset), if_neg (Nat.not_le.2 hn)]

theorem tareWaitPoint_out {s : State} {n : Nat} (h : s.fcu.tareWait = some n) (hset : s.fcu.settled = false)
    (hn : 20000 ≤ n + 1) : tareWaitPoint s = tareWaitOut s := by
  simp only [tareWaitPoint, h, if_neg (Bool.eq_false_iff.1 hset), if_pos hn]

end Sys2Proof.Proofs
end

section
/-! The Force Unit's record after a point by the record before it (the first half of O31): range, history, classifier,
timers and tare wait, each by the step that makes it. -/

namespace Sys2Proof.Proofs

open Sys2Proof.Machine Sys2Proof.Laws

/-! ### The record that the range logic takes -/

/-- The state in which the range logic takes the point. -/
def waitedOn (s : State) (c : Conversion) : State := tareWaitPoint (signalledOn s c)

/-- The classified record is the one before the point but for the measurement and the classification. -/
theorem classifiedOn_eq (s : State) (c : Conversion) :
    ∃ n x y q i d k, classifiedOn s c = { s.fcu with
      rawCount := n, calForce := x, force := y, discardPending := false, nextIndex := nextIndex s.fcu.nextIndex
      classifier := q, history := i, slope := d, signChanges := k } := by
  obtain ⟨n, x, y, hconvert⟩ := convert_eq s.drl.frame.capacity (saturate c.count) s.fcu
  obtain ⟨q, i, d, k, hclass⟩ :=
    classifyPoint_eq s.drl.frame.quietThreshold s.drl.frame.slopeThreshold (convertedOn s c)
  unfold classifiedOn
  split
  · rw [hclass, convertedOn, hconvert]
    exact ⟨_, _, _, _, _, _, _, rfl⟩
  · rw [convertedOn, hconvert]
    exact ⟨_, _, _, _, _, _, _, rfl⟩

/-- What the classifier leaves to the timers and the tare wait. -/
theorem classifiedOn_timers (s : State) (c : Conversion) :
    (classifiedOn s c).levelTimer = s.fcu.levelTimer ∧ (classifiedOn s c).settled = s.fcu.settled ∧
    (classifiedOn s c).unrestTimer = s.fcu.unrestTimer ∧ (classifiedOn s c).unrestEvents = s.fcu.unrestEvents := by
  obtain ⟨_, _, _, _, _, _, _, h⟩ := classifiedOn_eq s c
  rw [h]
  exact ⟨rfl, rfl, rfl, rfl⟩

/-- The record as the tare wait finds it. -/
theorem signalledOn_tare (s : State) (c : Conversion) :
    (signalledOn s c).fcu.tareWait = s.fcu.tareWait ∧ (signalledOn s c).fcu.tareOffset = s.fcu.tareOffset ∧
    (signalledOn s c).fcu.tareOutcome = s.fcu.tareOutcome ∧
    (signalledOn s c).fcu.calForce = (classifiedOn s c).calForce ∧
    (signalledOn s c).fcu.settled = ((classifiedOn s c).levelPoint s.fcu.classifier).settled := by
  obtain ⟨_, _, _, _, _, _, _, h⟩ := classifiedOn_eq s c
  rw [signalledOn_fcu]
  refine ⟨?_, ?_, ?_, rfl, rfl⟩ <;> rw [h]

/-- The record as the range logic finds it. -/
theorem waitedOn_range (s : State) (c : Conversion) :
    (waitedOn s c).inTest = s.inTest ∧ (waitedOn s c).fcu.range = s.fcu.range ∧
    (waitedOn s c).fcu.downCount = s.fcu.downCount ∧ (waitedOn s c).fcu.rangeChanges = s.fcu.rangeChanges ∧
    (waitedOn s c).fcu.discardPending = false ∧ (waitedOn s c).fcu.history = (classifiedOn s c).history ∧
    (waitedOn s c).fcu.slope = (classifiedOn s c).slope := by
  obtain ⟨_, _, _, _, _, _, _, h⟩ := classifiedOn_eq s c
  obtain ⟨_, _, _, hwait⟩ := tareWaitPoint_fcu (signalledOn s c)
  have htsq : (waitedOn s c).tsq = s.tsq := by simp [waitedOn, (signalledOn_records s c).2.1]
  refine ⟨inTest_of_tsq htsq, ?_⟩
  rw [waitedOn, hwait, signalledOn_fcu]
  refine ⟨?_, ?_, ?_, ?_, rfl, rfl⟩ <;> rw [h]

/-! ### The record after the point -/

/-- The fields that the tare wait and the range logic leave, and the tare wait itself. -/
theorem afterPoint_signalled (s : State) (c : Conversion) :
    (afterPoint s c).fcu.classifier = (classifiedOn s c).classifier ∧
    (afterPoint s c).fcu.levelTimer = ((classifiedOn s c).levelPoint s.fcu.classifier).levelTimer ∧
    (afterPoint s c).fcu.settled = ((classifiedOn s c).levelPoint s.fcu.classifier).settled ∧
    (afterPoint s c).fcu.unrestTimer = ((classifiedOn s c).unrestPoint s.fcu.classifier).unrestTimer ∧
    (afterPoint s c).fcu.unrestEvents = ((classifiedOn s c).unrestPoint s.fcu.classifier).unrestEvents ∧
    (afterPoint s c).fcu.tareWait = (waitedOn s c).fcu.tareWait ∧
    (s.tsq.state ≠ .starting → (afterPoint s c).fcu.tareOffset = (waitedOn s c).fcu.tareOffset ∧
      (afterPoint s c).fcu.tareOutcome = (waitedOn s c).fcu.tareOutcome) := by
  obtain ⟨hany, hexact⟩ := afterPoint_fcu s c
  obtain ⟨_, _, _, _, _, _, hrange⟩ := rangeLogic_fcu (useOn s c) (saturate c.count) (waitedOn s c)
  obtain ⟨_, _, _, hwait⟩ := tareWaitPoint_fcu (signalledOn s c)
  rw [formedOn_state, ← waitedOn, hrange] at hany hexact
  have hsignalled := signalledOn_fcu s c
  have htare : s.tsq.state ≠ .starting → (afterPoint s c).fcu.tareOffset = (waitedOn s c).fcu.tareOffset ∧
      (afterPoint s c).fcu.tareOutcome = (waitedOn s c).fcu.tareOutcome := fun hq => by
    rw [hexact hq]
    exact ⟨rfl, rfl⟩
  rw [hany, waitedOn, hwait, hsignalled]
  rw [hany, waitedOn, hwait, hsignalled] at htare
  exact ⟨rfl, rfl, rfl, rfl, rfl, rfl, htare⟩

/-- A range change that the point brings stands after it. -/
theorem afterPoint_switched {s v : State} {c : Conversion} {r : Range} (h : (formedOn s c).state = rangeChange r v) :
    Switched r v.fcu.rangeChanges (afterPoint s c) := by
  obtain ⟨hrange, hrecord, hnotice, hpending⟩ := rangeChange_switched r v
  have attends := afterPoint_attends s c
  have hany := (afterPoint_fcu s c).1
  rw [h] at attends hany
  refine ⟨?_, ?_, attends.notices _ hnotice, attends.pending _ hpending⟩
  · rw [hany]
    exact hrange
  · rw [hany]
    exact hrecord

/-- The range after the point (R69, R70, R72). -/
theorem afterPoint_range (s : State) (c : Conversion) :
    let t := afterPoint s c
    let raw := saturate c.count
    let up := GoesUp (useOn s c) raw s.fcu
    let down := GoesDown (useOn s c) raw s
    (up → t.fcu.range = s.fcu.range.up) ∧ (down → t.fcu.range = s.fcu.range.down) ∧
    (up ∨ down → t.fcu.discardPending = true ∧ t.fcu.history = [] ∧ t.fcu.slope = 0 ∧ t.fcu.downCount = 0 ∧
      t.fcu.rangeChanges = min 65535 (s.fcu.rangeChanges + 1) ∧ t.cli.notices.rangeChanged = true ∧
      t.cli.pending.notice = true) ∧
    (¬ up → ¬ down → t.fcu.range = s.fcu.range ∧ t.fcu.discardPending = false ∧
      t.fcu.rangeChanges = s.fcu.rangeChanges ∧ t.fcu.history = (classifiedOn s c).history ∧
      t.fcu.slope = (classifiedOn s c).slope ∧
      t.fcu.downCount = if useOn s c ≠ .used then s.fcu.downCount
        else if s.inTest then 0 else countedDown s.fcu raw) := by
  intro t raw up down
  obtain ⟨hin, hrange, hcount, hchanges, hkeep, hhistory, hslope⟩ := waitedOn_range s c
  have hcounted : countedDown (waitedOn s c).fcu raw = countedDown s.fcu raw := by
    simp only [countedDown, hrange, hcount]
  have hup : GoesUp (useOn s c) raw (waitedOn s c).fcu ↔ up := by simp only [up, GoesUp, hrange]
  have hdown : GoesDown (useOn s c) raw (waitedOn s c) ↔ down := by
    simp only [down, GoesDown, hup, up, hin, hcounted]
  have hany := (afterPoint_fcu s c).1
  have hstate := formedOn_state s c
  rw [← waitedOn] at hstate
  have upward : up → Switched s.fcu.range.up s.fcu.rangeChanges t := fun h => by
    have switched := afterPoint_switched (hstate.trans (rangeLogic_up (hup.2 h)))
    rwa [hrange, hchanges] at switched
  have downward : down → Switched s.fcu.range.down s.fcu.rangeChanges t := fun h => by
    have switched := afterPoint_switched (hstate.trans (rangeLogic_down (hdown.2 h)))
    rwa [hrange, onFcu_fcu, countDown_eq, hchanges] at switched
  refine ⟨fun h => ?_, fun h => ?_, fun h => ?_, fun hnoup hnodown => ?_⟩
  · exact (upward h).range
  · exact (downward h).range
  · obtain ⟨r, -, ⟨hdiscard, hhistory, hslope, hcount, hchanges⟩, hnotice, hpending⟩ :
        ∃ r, Switched r s.fcu.rangeChanges t := h.elim (fun h => ⟨_, upward h⟩) fun h => ⟨_, downward h⟩
    exact ⟨hdiscard, hhistory, hslope, hcount, hchanges, hnotice, hpending⟩
  · rw [hstate, rangeLogic_stands (mt hup.1 hnoup) (mt hdown.1 hnodown), hin] at hany
    simp only [t]
    rw [hany]
    simp only [onFcu_fcu, hrange, hkeep, hchanges, hhistory, hslope, hcount, hcounted, true_and]

/-! ### The classifier -/

/-- What the classifier makes of the record on a point (R81, R82). -/
theorem classifiedOn_spec (s : State) (c : Conversion) :
    let g := classifiedOn s c
    let force := (formedOn s c).point.force
    (useOn s c ≠ .used → g.history = s.fcu.history ∧ g.classifier = s.fcu.classifier) ∧
    (useOn s c = .used → s.fcu.history.length < 16 →
      g.history = s.fcu.history ++ [force] ∧ g.classifier = s.fcu.classifier) ∧
    (∀ oldest rest, useOn s c = .used → s.fcu.history = oldest :: rest → rest.length = 15 →
      g.history = rest ++ [force] ∧ g.slope = force - oldest ∧
      g.classifier = classify s.drl.frame.quietThreshold s.drl.frame.slopeThreshold force (force - oldest)
        (signChangeCount s.fcu.history force)) := by
  intro g force
  have hforce : force = (convertedOn s c).force := formedOn_force s c
  have hhistory : (convertedOn s c).history = s.fcu.history := by
    obtain ⟨_, _, _, h⟩ := convert_eq s.drl.frame.capacity (saturate c.count) s.fcu
    rw [convertedOn, h]
  have hclass := convertedOn_classifier s c
  rw [hforce, ← hhistory, ← hclass]
  simp only [g, classifiedOn]
  refine ⟨fun h => ?_, fun h hshort => ?_, fun oldest rest h hfull hlength => ?_⟩
  · rw [if_neg h]
    exact ⟨rfl, rfl⟩
  · rw [if_pos h, classifyPoint_short hshort]
    exact ⟨rfl, rfl⟩
  · rw [if_pos h, classifyPoint_full hfull hlength]
    exact ⟨rfl, rfl, rfl⟩

/-! ### The tare wait -/

/-- The tare wait after the point (R78). -/
theorem afterPoint_tareWait (s : State) (c : Conversion) :
    let t := afterPoint s c
    let closed := t.fcu.tareWait = none ∧ t.cli.notices.tareDone = true ∧ t.cli.pending.notice = true
    (∀ n, s.fcu.tareWait = some n → s.tsq.state ≠ .starting →
      (t.fcu.settled = true → closed ∧ t.fcu.tareOffset = t.fcu.calForce ∧ t.fcu.tareOutcome = .ok) ∧
      (t.fcu.settled = false → n + 1 < 20000 → t.fcu.tareWait = some (n + 1) ∧
        t.fcu.tareOffset = s.fcu.tareOffset ∧ t.fcu.tareOutcome = s.fcu.tareOutcome) ∧
      (t.fcu.settled = false → 20000 ≤ n + 1 → closed ∧
        t.fcu.tareOffset = s.fcu.tareOffset ∧ t.fcu.tareOutcome = .notSettled)) ∧
    (s.fcu.tareWait = none → t.fcu.tareWait = none ∧
      (s.tsq.state ≠ .starting →
        t.fcu.tareOffset = s.fcu.tareOffset ∧ t.fcu.tareOutcome = s.fcu.tareOutcome)) := by
  intro t closed
  obtain ⟨-, -, hsettled, -, -, hwait, htare⟩ := afterPoint_signalled s c
  obtain ⟨kwait, koffset, koutcome, kforce, ksettled⟩ := signalledOn_tare s c
  have hforce : t.fcu.calForce = (signalledOn s c).fcu.calForce := by
    obtain ⟨_, _, _, _, h⟩ :=
      classifyPoint_eq s.drl.frame.quietThreshold s.drl.frame.slopeThreshold (convertedOn s c)
    rw [(afterPoint_measured s c).2.1, kforce, classifiedOn]
    split <;> simp [h]
  have attends : Attended (waitedOn s c) t := by
    have ranged : Attended (waitedOn s c) (formedOn s c).state := by
      rw [formedOn_state]
      exact .of_carried (Carried.refl _).rangeLogic
    exact ranged.trans (afterPoint_attends s c)
  have noticed : (waitedOn s c).cli.notices.has .tareDone = true → (waitedOn s c).cli.pending.has .notice = true →
      t.cli.notices.tareDone = true ∧ t.cli.pending.notice = true := fun hn hp =>
    ⟨attends.notices _ hn, attends.pending _ hp⟩
  have hsettled : t.fcu.settled = (signalledOn s c).fcu.settled := hsettled.trans ksettled.symm
  rw [waitedOn] at noticed hwait htare
  refine ⟨fun n hn hq => ⟨fun hset => ?_, fun hset hfew => ?_, fun hset hmany => ?_⟩, fun hnone => ?_⟩
  · obtain ⟨hoffset, houtcome⟩ := htare hq
    rw [tareWaitPoint_settled (kwait.trans hn) (hsettled ▸ hset), closeTareWait_eq] at hwait noticed hoffset houtcome
    exact ⟨⟨hwait, noticed rfl rfl⟩, hoffset.trans hforce.symm, houtcome⟩
  · obtain ⟨hoffset, houtcome⟩ := htare hq
    rw [tareWaitPoint_counts (kwait.trans hn) (hsettled ▸ hset) hfew] at hwait hoffset houtcome
    exact ⟨hwait, hoffset.trans koffset, houtcome.trans koutcome⟩
  · obtain ⟨hoffset, houtcome⟩ := htare hq
    rw [tareWaitPoint_out (kwait.trans hn) (hsettled ▸ hset) hmany, tareWaitOut_eq] at hwait noticed hoffset houtcome
    exact ⟨⟨hwait, noticed rfl rfl⟩, hoffset.trans koffset, houtcome⟩
  · rw [tareWaitPoint_none (kwait.trans hnone)] at hwait htare
    refine ⟨hwait.trans (kwait.trans hnone), fun hq => ?_⟩
    obtain ⟨hoffset, houtcome⟩ := htare hq
    exact ⟨hoffset.trans koffset, houtcome.trans koutcome⟩

end Sys2Proof.Proofs
end

section
/-! The slip count along the evaluation of a point (the second half of O31): every step but that of R149 keeps it (R135,
R149). -/

namespace Sys2Proof.Proofs

open Sys2Proof.Machine Sys2Proof.Laws

/-- The slip count of the result record held. -/
def slipsOf (e : Evu) : Option Nat := e.result.map (·.slipCount)

theorem slipsOf_onResult {f : ResultRecord → ResultRecord} (h : ∀ r, (f r).slipCount = r.slipCount) (e : Evu) :
    slipsOf (e.onResult f) = slipsOf e := by
  unfold slipsOf Evu.onResult
  cases e.result with
  | none => rfl
  | some r => exact congrArg some (h r)

theorem slipsOf_ite {p : Prop} [Decidable p] {e g k : Evu} (hg : slipsOf g = slipsOf e) (hk : slipsOf k = slipsOf e) :
    slipsOf (if p then g else k) = slipsOf e := by
  split
  · exact hg
  · exact hk

/-! ### The fit (R136 to R138, R148) -/

@[simp] theorem fixLine_slips (l : ElasticLine) (i : Nat) (e : Evu) : slipsOf (fixLine l i e) = slipsOf e :=
  slipsOf_onResult (fun _ => by rfl) _

@[simp] theorem openSearch_slips (hd : PlanHeader) (e : Evu) : slipsOf (openSearch hd e) = slipsOf e := by
  unfold openSearch
  split <;> rfl

@[simp] theorem failFit_slips (hd : PlanHeader) (nominal : Option Nat) (why : Absence) (i : Nat) (e : Evu) :
    slipsOf (failFit hd nominal why i e) = slipsOf e := by
  unfold failFit
  cases fallbackModulus hd nominal with
  | none => exact slipsOf_onResult (fun _ => by rfl) _
  | some m =>
    dsimp only
    split
    · exact fixLine_slips _ _ _
    · rw [openSearch_slips, fixLine_slips]
      rfl

@[simp] theorem closeFit_slips (hd : PlanHeader) (nominal : Option Nat) (i : Nat) (e : Evu) :
    slipsOf (closeFit hd nominal i e) = slipsOf e := by
  unfold closeFit
  dsimp only
  repeat' split
  · exact failFit_slips _ _ _ _ _
  · exact failFit_slips _ _ _ _ _
  · exact failFit_slips _ _ _ _ _
  · rw [openSearch_slips, fixLine_slips]
    rfl

@[simp] theorem closeExtensometer_slips (x : EvalInput) (e : Evu) : slipsOf (closeExtensometer x e) = slipsOf e := by
  have failed : ∀ g : Evu, slipsOf (if g.fit = .collecting then
      (failFit x.header x.nominal .extensometerRemoved x.point.index g).onResult fun r =>
        { r with rp := if 0 < x.header.offsetStrain then r.rp.close .extensometerRemoved else r.rp }
      else g) = slipsOf g := fun g =>
    slipsOf_ite ((slipsOf_onResult (fun _ => by rfl) _).trans (failFit_slips _ _ _ _ _)) rfl
  have searched : ∀ g : Evu, slipsOf (if g.search = .opened then
      { g with search := .closed }.onResult fun r => { r with rp := r.rp.close .extensometerRemoved }
      else g) = slipsOf g := fun g => slipsOf_ite (slipsOf_onResult (fun _ => by rfl) _) rfl
  unfold closeExtensometer
  dsimp only
  exact slipsOf_ite ((slipsOf_onResult (fun _ => by rfl) _).trans ((searched _).trans (failed e)))
    ((searched _).trans (failed e))

@[simp] theorem stepSource_slips (x : EvalInput) (o : EvalOut) : slipsOf (stepSource x o).evu = slipsOf o.evu := by
  unfold stepSource
  split
  · exact closeExtensometer_slips x o.evu
  · rfl

@[simp] theorem stepFit_slips (x : EvalInput) (o : EvalOut) : slipsOf (stepFit x o).evu = slipsOf o.evu := by
  unfold stepFit
  repeat' split
  · exact closeFit_slips _ _ _ _
  all_goals rfl

/-! ### The maximum and fracture (R144 to R147) -/

@[simp] theorem stepFmax_slips (x : EvalInput) (o : EvalOut) : slipsOf (stepFmax x o).evu = slipsOf o.evu := by
  unfold stepFmax
  repeat' split
  all_goals rfl

@[simp] theorem armFracture_slips (x : EvalInput) (e : Evu) : slipsOf (armFracture x e) = slipsOf e := by
  unfold armFracture
  split <;> rfl

@[simp] theorem fixMaximum_slips (x : EvalInput) (o : EvalOut) : slipsOf (fixMaximum x o).evu = slipsOf o.evu :=
  (slipsOf_onResult (fun _ => by rfl) _).trans (slipsOf_onResult (fun _ => by rfl) _)

@[simp] theorem stepMaxPassed_slips (x : EvalInput) (o : EvalOut) :
    slipsOf (stepMaxPassed x o).evu = slipsOf o.evu := by
  have rearmed : ∀ e, slipsOf (rearm x e) = slipsOf e := fun e => by
    unfold rearm
    repeat' split
    all_goals rfl
  unfold stepMaxPassed
  dsimp only
  split <;> exact rearmed _

@[simp] theorem stepMaxEffects_slips (x : EvalInput) (o : EvalOut) :
    slipsOf (stepMaxEffects x o).evu = slipsOf o.evu := by
  unfold stepMaxEffects
  split
  · exact fixMaximum_slips x o
  · rfl

theorem fractureEffects_slips (x : EvalInput) (o : EvalOut) : slipsOf (fractureEffects x o).evu = slipsOf o.evu := by
  have fitted : ∀ y : EvalOut, slipsOf (if y.evu.fit = .collecting then
      y.on (closeFit x.header x.nominal x.point.index) else y).evu = slipsOf y.evu := fun y => by
    split
    · exact closeFit_slips _ _ _ _
    · rfl
  have fixed : ∀ y : EvalOut, slipsOf (if y.evu.rmOpen then fixMaximum x y else y).evu = slipsOf y.evu := fun y => by
    split
    · exact fixMaximum_slips x y
    · rfl
  have searched : ∀ e : Evu, slipsOf (if e.search = .opened then
      { e with search := .closed }.onResult fun r => { r with rp := r.rp.close .fracturedFirst }
      else e) = slipsOf e := fun e => slipsOf_ite (slipsOf_onResult (fun _ => by rfl) _) rfl
  have broken : ∀ e : Evu, slipsOf (e.onResult fun r =>
      if r.reh = .opened then { r with reh := r.reh.close .fracturedFirst, rel := r.rel.close .fracturedFirst }
      else if e.phase = .yielding then { r with rel := r.rel.close .fracturedFirst }
      else r) = slipsOf e := fun e => by
    refine slipsOf_onResult (fun r => ?_) e
    split
    · rfl
    · split <;> rfl
  unfold fractureEffects
  dsimp only
  exact (slipsOf_onResult (fun _ => by rfl) _).trans
    ((broken _).trans ((searched _).trans ((fixed _).trans (fitted o))))

/-! ### Yield and the search (R139, R140, R142, R143) -/

@[simp] theorem stepYield_slips (x : EvalInput) (o : EvalOut) : slipsOf (stepYield x o).evu = slipsOf o.evu := by
  have tracked : ∀ e, slipsOf (trackSmax x.point e) = slipsOf e := fun e => by
    unfold trackSmax
    repeat' split
    all_goals rfl
  unfold stepYield elasticYield upperYield endYield
  dsimp only
  repeat' split
  · exact (slipsOf_onResult (fun _ => by rfl) _).trans (tracked _)
  · exact (slipsOf_onResult (fun _ => by rfl) _).trans (tracked _)
  · exact tracked _
  · rfl
  · rfl
  · exact slipsOf_onResult (fun _ => by rfl) _
  · exact slipsOf_onResult (fun _ => by rfl) _
  all_goals rfl

@[simp] theorem stepSearch_slips (x : EvalInput) (o : EvalOut) : slipsOf (stepSearch x o).evu = slipsOf o.evu := by
  unfold stepSearch crossing
  dsimp only
  repeat' split
  · rfl
  · exact slipsOf_onResult (fun _ => by rfl) _
  all_goals rfl

/-! ### The whole evaluation -/

/-- A slip is counted on the point exactly when an unrest event meets the phase ELASTIC, and the count moves with it
alone (R149). -/
theorem unbrokenSteps_slip (x : EvalInput) {o : EvalOut} (hno : o.slip = false) :
    let z := unbrokenSteps x o
    (z.slip = true ↔ x.unrest = true ∧ z.evu.phase = .elastic) ∧
    slipsOf z.evu = if z.slip then (slipsOf o.evu).map (satSucc max16) else slipsOf o.evu := by
  intro z
  simp only [z, unbrokenSteps, stepPrev]
  generalize hy : stepMaxEffects x (stepSearch x (stepFit x (stepMaxPassed x (stepYield x o)))) = y
  have hslips : slipsOf y.evu = slipsOf o.evu := by simp [← hy]
  have hslip : y.slip = false := by simp [← hy, hno]
  rw [← hslips]
  unfold stepSlip
  split
  case isTrue h =>
    refine ⟨by simp [h], ?_⟩
    simp [EvalOut.on, slipsOf, Evu.onResult, Function.comp_def]
  case isFalse h =>
    simp only [on_flags, hslip]
    exact ⟨⟨fun h => by simp at h, fun hslips => absurd hslips h⟩, rfl⟩

/-- The slip count and the slip flag of the evaluation of a point (R149). -/
theorem evaluate_slip (x : EvalInput) {e : Evu} (h : e.phase ≠ .fractured) :
    let z := evaluate x e
    (z.slip = true ↔ x.unrest = true ∧ z.evu.phase = .elastic) ∧
    slipsOf z.evu = if z.slip then (slipsOf e).map (satSucc max16) else slipsOf e := by
  intro z
  simp only [z, evaluate, if_neg h]
  split
  · have hphase := (fractureEffects_breaks x
      ((stepFmax x (stepSource x ⟨e, [], false, false⟩)).on (armFracture x))).1
    simp [hphase, fractureEffects_slips]
  · have steps := unbrokenSteps_slip x
      (o := (stepFmax x (stepSource x ⟨e, [], false, false⟩)).on (armFracture x)) (by simp)
    simpa using steps

end Sys2Proof.Proofs
end

section
/-! What the consumers of a point leave of its slips (the second half of O31): no step but the evaluation of the point
changes the phase, the slip count or the notice SLIP of a test in progress (R35, R149). -/

namespace Sys2Proof.Proofs

open Sys2Proof.Machine Sys2Proof.Laws

/-- `s` goes on from `a` with the slip count, the phase and the notice SLIP as they are. -/
structure SlipKept (a s : State) : Prop where
  slips : slipsOf s.evu = slipsOf a.evu
  phase : s.evu.phase = a.evu.phase
  notice : s.cli.notices.slip = a.cli.notices.slip

namespace SlipKept

theorem refl (a : State) : SlipKept a a := ⟨rfl, rfl, rfl⟩

variable {a s t : State}

theorem trans (h : SlipKept a s) (h' : SlipKept s t) : SlipKept a t :=
  ⟨h'.slips.trans h.slips, h'.phase.trans h.phase, h'.notice.trans h.notice⟩

theorem same (h : SlipKept a s) (he : t.evu = s.evu) (hn : t.cli.notices.slip = s.cli.notices.slip) : SlipKept a t :=
  h.trans ⟨congrArg slipsOf he, congrArg Evu.phase he, hn⟩

/-- A change outside the Evaluation Unit and the attention record. -/
theorem apart (h : SlipKept a s) (he : t.evu = s.evu) (hc : t.cli = s.cli) : SlipKept a t := h.same he (by rw [hc])

theorem onTsq {f : Tsq → Tsq} (h : SlipKept a s) : SlipKept a (s.onTsq f) := h.apart rfl rfl

theorem onDrl {f : Drl → Drl} (h : SlipKept a s) : SlipKept a (s.onDrl f) := h.apart rfl rfl

theorem onExm {f : Exm → Exm} (h : SlipKept a s) : SlipKept a (s.onExm f) := h.apart rfl rfl

theorem raise {k : Source} (h : SlipKept a s) : SlipKept a (raise k s) := h.same rfl rfl

theorem addNotice {n : Notice} (hn : n ≠ .slip) (h : SlipKept a s) : SlipKept a (addNotice n s) := by
  have stands := noticeAdd_has s.cli.notices n .slip
  rw [decide_eq_false hn, Bool.false_or] at stands
  exact h.same rfl stands

/-! ### Pacing and the Sample Store -/

theorem pacingPoint (h : SlipKept a s) : SlipKept a (pacingPoint s) := by
  unfold Machine.pacingPoint
  repeat' split
  all_goals exact h.same rfl rfl

theorem storeRecord {mark : Bool} {k : RecordKind} {i : Option Nat} {p : Point} (h : SlipKept a s) :
    SlipKept a (storeRecord mark k i p s) := by
  unfold Machine.storeRecord pacingStored pacingCount
  dsimp only
  repeat' split
  all_goals exact h.same rfl rfl

theorem storeMark {k : RecordKind} {p : Point} (h : SlipKept a s) : SlipKept a (storeMark k p s) :=
  storeRecord (h.same rfl rfl)

theorem decideThinning (h : SlipKept a s) : SlipKept a (decideThinning s) := by
  unfold Machine.decideThinning
  dsimp only
  split <;> exact h.same rfl rfl

theorem offerSegmentStart {i : Nat} {p : Point} (h : SlipKept a s) : SlipKept a (offerSegmentStart i p s) := by
  unfold Machine.offerSegmentStart
  dsimp only
  split
  · exact h.decideThinning.storeRecord
  · exact h.decideThinning.same rfl rfl

theorem offerPoint {p : Point} (h : SlipKept a s) : SlipKept a (offerPoint p s) := by
  have counted : SlipKept a (countOffered s) := h.apart (by simp) (by simp)
  unfold Machine.offerPoint decidePoint
  dsimp only
  repeat' split
  · exact counted.decideThinning.storeRecord
  · exact counted.decideThinning.same rfl rfl
  · exact counted.decideThinning
  · exact h

theorem handMarks {ms : List (RecordKind × Point)} (h : SlipKept a s) : SlipKept a (handMarks ms s) := by
  induction ms generalizing s with
  | nil => exact h
  | cons x rest ih => exact ih h.storeMark

/-! ### The heads -/

theorem setHeadState {x : Head} {st : HeadState} (h : SlipKept a s) : SlipKept a (setHeadState x st s) := by
  unfold Machine.setHeadState
  split
  · exact h
  · exact h.same rfl rfl

theorem headTestEnd {x : Head} (h : SlipKept a s) : SlipKept a (headTestEnd x s) := by
  unfold Machine.headTestEnd
  split
  · exact h.setHeadState
  · exact h

theorem extTestEnd (h : SlipKept a s) : SlipKept a (extTestEnd s) := by
  have ended : SlipKept a (Machine.headTestEnd .rear (Machine.headTestEnd .front s)) := h.headTestEnd.headTestEnd
  unfold Machine.extTestEnd
  dsimp only
  split <;> exact ended.apart (by simp) (by simp)

theorem handover {x : Trigger} (h : SlipKept a s) : SlipKept a (handover x s) := by
  unfold Machine.handover
  dsimp only
  exact (h.onExm.storeMark (k := .handover) (p := s.latest)).apart (by simp) (by simp; rfl)

theorem removalCheck {p : Point} (h : SlipKept a s) : SlipKept a (removalCheck p s) := by
  unfold Machine.removalCheck
  repeat' split
  · exact h.onExm
  · exact h.handover
  · exact h
  · exact h.handover
  all_goals exact h

theorem managerPoint {fractured : Bool} {p : Point} (h : SlipKept a s) : SlipKept a (managerPoint fractured p s) := by
  unfold Machine.managerPoint
  split
  · exact h.apart (by simp) (by simp)
  · split
    · exact h.removalCheck
    · exact h

/-! ### Ending, holding and entering -/

theorem enterEnded {why : EndReason} {cause : Option StartCause} (h : SlipKept a s) :
    SlipKept a (enterEnded why cause s) := by
  have closed : ∀ u : State, SlipKept a u → SlipKept a (evalTestEnd why u) := fun u hu => by
    refine hu.trans ⟨?_, evalTestEnd_phase why u, by simp⟩
    exact (slipsOf_onResult (fun _ => by rfl) _).trans (slipsOf_ite (failFit_slips _ _ _ _ _) rfl)
  exact raise (storeMark (extTestEnd (closed _ h.onTsq.onDrl)))

theorem enterEnding {why : EndReason} (h : SlipKept a s) : SlipKept a (enterEnding why s) := by
  unfold Machine.enterEnding
  dsimp only
  split
  · exact enterEnded (h.same rfl rfl)
  · exact h.same rfl rfl

theorem enterHeld {why : HeldReason} {i : Option Nat} (h : SlipKept a s) : SlipKept a (enterHeld why i s) := by
  unfold Machine.enterHeld
  dsimp only
  split <;> exact h.same rfl rfl

theorem holdCause {why : HeldReason} (h : SlipKept a s) : SlipKept a (holdCause why s) := by
  unfold Machine.holdCause
  split
  · exact h.enterHeld
  · exact h

theorem slipAction (h : SlipKept a s) : SlipKept a (slipAction s) := by
  unfold Machine.slipAction
  split
  · exact h.enterHeld
  · exact h.enterEnding
  · exact h.enterEnding
  · exact h

theorem enterSegment {i : Nat} {p : Point} (h : SlipKept a s) : SlipKept a (enterSegment i p s) := by
  unfold Machine.enterSegment
  dsimp only
  split <;> exact offerSegmentStart (h.same rfl rfl)

theorem reachSegment {i : Nat} {p : Point} (h : SlipKept a s) : SlipKept a (reachSegment i p s) := by
  unfold Machine.reachSegment
  split
  · exact h.enterHeld
  · exact h.enterSegment

theorem onEndAction {i : Nat} {x : OnEnd} {p : Point} (h : SlipKept a s) : SlipKept a (onEndAction i x p s) := by
  cases x with
  | next =>
    unfold Machine.onEndAction
    dsimp only
    split
    · exact h.enterEnding
    · exact h.reachSegment
  | hold => exact h.enterHeld
  | endTest => exact h.enterEnding

theorem runningTaken {fractured : Bool} {p : Point} (h : SlipKept a s) : SlipKept a (runningTaken fractured p s) := by
  have counted : SlipKept a (countSegmentTime s) := h.same rfl rfl
  unfold Machine.runningTaken runningPoint
  dsimp only
  repeat' split
  · exact counted.enterEnding
  · exact counted
  · exact counted
  · exact counted.onEndAction
  · exact counted

theorem sequencerPoint {fractured : Bool} {p : Point} (h : SlipKept a s) (hq : s.tsq.state ≠ .starting) :
    SlipKept a (sequencerPoint fractured p s) := by
  unfold Machine.sequencerPoint heldPoint
  repeat' split
  · next hstart => exact absurd hstart hq
  · exact h.runningTaken
  · exact h.enterEnding
  · exact h.enterSegment
  all_goals exact h

/-! ### The work of the drive -/

theorem reportIfIdle (h : SlipKept a s) : SlipKept a (reportIfIdle s) := by
  unfold Machine.reportIfIdle reportIdle
  repeat' split
  · exact addNotice (by decide) (h.same rfl rfl)
  · exact h.enterEnded
  · exact h
  · exact h

theorem softStop (h : SlipKept a s) : SlipKept a (softStop s) := addNotice (by decide) (h.same rfl rfl)

theorem setpointPoint {first : Bool} {m : ControlMode} {p : Point} (h : SlipKept a s) :
    SlipKept a (setpointPoint first m p s) := by
  unfold Machine.setpointPoint Machine.freezePoint
  dsimp only
  repeat' split
  all_goals exact h.same rfl rfl

theorem drivePointWork {ready first : Bool} {p : Point} (h : SlipKept a s) :
    SlipKept a (drivePointWork ready first p s) := by
  unfold Machine.drivePointWork
  split
  · unfold enablingPoint enableWaitOut
    dsimp only
    repeat' split
    all_goals exact h.same rfl rfl
  · unfold Machine.runningDrive
    split
    · exact h
    · dsimp only
      split
      · exact h.setpointPoint.softStop.holdCause.reportIfIdle
      · exact h.setpointPoint.same rfl rfl
  · exact reportIfIdle (h.same rfl rfl)
  · unfold Machine.movingDrive moveReached
    split
    · exact h
    · dsimp only
      repeat' split
      · exact h.same rfl rfl
      · exact reportIfIdle (softStop (h.same rfl rfl))
      · exact h.same rfl rfl
  all_goals exact h

/-! ### Forming the point -/

theorem tareWaitPoint (h : SlipKept a s) : SlipKept a (tareWaitPoint s) := by
  unfold Machine.tareWaitPoint
  repeat' split
  all_goals exact h.same rfl rfl

theorem rangeLogic {u : Use} {raw : Int} (h : SlipKept a s) : SlipKept a (rangeLogic u raw s) := by
  unfold Machine.rangeLogic
  dsimp only
  repeat' split
  all_goals exact h.same rfl rfl

end SlipKept

theorem sampledOn_of_calm {s : State} {c : Conversion} (h : s.calm c) : Sampled s c (sampledOn s c) := by
  obtain ⟨-, hready, hread, -⟩ := h
  exact sampledOn_sampled hready hread

/-- Up to the drive a point without a trip touches neither the phase nor the slips. -/
theorem sampledOn_slipKept {s : State} {c : Conversion} (h : s.calm c) : SlipKept s (sampledOn s c) := by
  obtain ⟨-, hready, hread, -⟩ := h
  have signalled : SlipKept s (signalledOn s c) := (SlipKept.refl s).apart (by simp [signalledOn])
    (signalledOn_records s c).2.2
  have formed : SlipKept s (formedOn s c).state := by
    rw [formedOn_state]
    exact signalled.tareWaitPoint.rangeLogic
  rw [sampledOn_calm hready hread]
  exact formed.pacingPoint.same rfl rfl

end Sys2Proof.Proofs
end

section
/-! A point that the Evaluation Unit takes (the second half of O31): what the drive's work leaves of the test, the slip
that the evaluation counts, and what follows from it on the same point (R35, R57, R64, R85, R149). -/

namespace Sys2Proof.Proofs

open Sys2Proof.Machine Sys2Proof.Laws

/-! ### The drive's work in a test (R31, R57, R64) -/

/-- Outside ENDING the work of the drive leaves the test as it is, RUNNING with its drive RUNNING, unless it holds a
RUNNING test at a soft limit. -/
theorem drivePointWork_test {ready first : Bool} {p : Point} {s : State} (hq : s.tsq.state ≠ .ending) :
    let d := drivePointWork ready first p s
    d.tsq = s.tsq ∧ (s.tsq.state = .running → s.drl.state = .running → d.drl.state = .running) ∨
    s.tsq.state = .running ∧ d.tsq.state = .held ∧ (d.drl.state = .idle ∨ d.drl.state = .stopping) := by
  intro d
  have reported : ∀ u : State, u.tsq = s.tsq → (reportIfIdle u).tsq = s.tsq := fun u hu =>
    (reportIfIdle_keeps (by rwa [hu])).1.trans hu
  simp only [d]
  cases hstate : s.drl.state <;> simp only [drivePointWork, hstate]
  case running =>
    unfold runningDrive
    cases s.drl.mode with
    | none => exact .inl ⟨rfl, fun _ _ => hstate⟩
    | some m =>
      dsimp only
      split
      · by_cases hrun : s.tsq.state = .running
        · obtain ⟨hat, -⟩ := limitStop_atLimit (x := setpointPoint first m p s) (by simpa using hrun)
          have hheld : (holdCause .limit (softStop (setpointPoint first m p s))).tsq.state = .held := by
            simp [holdCause, softStop, hrun, enterHeld_tsq]
          refine .inr ⟨hrun, ?_, hat.state ▸ decelerate_state _⟩
          rw [(reportIfIdle_keeps (by simp [hheld])).1, hheld]
        · refine .inl ⟨reported _ ?_, fun h => absurd h hrun⟩
          rw [holdCause, if_neg (by simpa [softStop] using hrun)]
          simp [softStop]
      · exact .inl ⟨by simp, fun _ _ => by simp [Drl.write, hstate]⟩
  case enabling => exact .inl ⟨by simp, by simp⟩
  case stopping => exact .inl ⟨reported _ rfl, by simp⟩
  case moving =>
    refine .inl ⟨?_, by simp⟩
    unfold movingDrive
    split
    · rfl
    · dsimp only
      repeat' split
      · simp
      · exact reported _ (by simp [softStop])
      · rfl
  all_goals exact .inl ⟨trivial, by simp⟩

/-- A drive at rest or slowing down is so after its work on the point. -/
theorem drivePointWork_rests {ready first : Bool} {p : Point} {s : State} (hq : s.tsq.state ≠ .ending)
    (h : s.drl.state = .holding ∨ s.drl.state = .idle ∨ s.drl.state = .stopping) :
    let d := drivePointWork ready first p s
    d.drl.state = .holding ∨ d.drl.state = .idle ∨ d.drl.state = .stopping := by
  intro d
  rcases h with h | h | h <;> simp only [d, drivePointWork, h]
  · simp
  · simp
  · rw [stoppingDrive, (reportIfIdle_keeps (s := s.onDrl Drl.decelerate) hq).2.2.1]
    exact .inr (decelerate_state _)

/-- A drive in STOPPING that is not yet at rest after the point leaves the test as it is (R57). -/
theorem drivePointWork_slows {ready first : Bool} {p : Point} {s : State} (h : s.drl.state = .stopping)
    (hfast : s.drl.frame.decelStep < s.drl.velocity.natAbs) : (drivePointWork ready first p s).tsq = s.tsq := by
  have hslow := ((decelerated_eq (v := s.drl.velocity) (decelStep_nonneg _)).2 hfast).1
  rw [drivePointWork, h]
  dsimp only
  rw [stoppingDrive, reportIfIdle_of_stopping (by simp [decelerate_slows hslow])]
  rfl

/-! ### The states of an evaluated point -/

/-- The state in which the Evaluation Unit takes the point. -/
def drivenOn (s : State) (c : Conversion) : State :=
  drivePointWork c.driveReady (firstEstimated (formedOn s c).point s) (formedOn s c).point (sampledOn s c)

/-- What the evaluation makes of the point. -/
def judgedOn (s : State) (c : Conversion) : EvalOut :=
  evaluate ((drivenOn s c).evalInput (formedOn s c).unrest (formedOn s c).point) (drivenOn s c).evu

/-- The state in which the slip action, if any, is taken. -/
def appliedOn (s : State) (c : Conversion) : State := applyEval (judgedOn s c) (drivenOn s c)

theorem evaluatedOn_eq {s : State} {c : Conversion} (h : (drivenOn s c).tsq.state.evaluated = true) :
    evaluatedOn s c =
      (if (judgedOn s c).slip then slipAction (appliedOn s c) else appliedOn s c, (judgedOn s c).fractured) :=
  if_pos h

/-- A calm point finds no overload. -/
theorem passedOn_unloaded {s : State} {c : Conversion} (h : s.calm c) :
    (passedOn s c).lmu.overloadCount = 0 ∨
      (formedOn s c).point.force.natAbs ≤ (passedOn s c).lmu.overloadLimit := by
  obtain ⟨hlimit, hcount⟩ := (sampledOn_of_calm h).overload
  obtain ⟨-, -, -, -, hforce⟩ := h
  have hlmu : (passedOn s c).lmu = (sampledOn s c).lmu := by simp [passedOn, (passTest_frame _ _ _).1]
  rwa [hlmu, hcount, hlimit, (formedOn_point s c).2.1]

/-- The calm point, with its states named. -/
theorem calmPoint_of {s : State} {c : Conversion} (h : s.calm c) :
    CalmPoint s c (formedOn s c).point (sampledOn s c) (passedOn s c) (afterPoint s c) := by
  have sampled := sampledOn_of_calm h
  have passes := limits_passOn (passedOn_unloaded h)
  obtain ⟨hrun, -, -, hfault, -⟩ := h
  rw [← hfault] at passes
  exact ⟨exec_afterPoint hrun, afterPoint_latest s c, (formedOn_point s c).1, sampled, rfl, passes⟩

/-- After the Test Sequencer a calm point touches neither the phase nor the slips. -/
theorem afterPoint_slipKept {s : State} {c : Conversion} (h : s.calm c) :
    SlipKept (passedOn s c) (afterPoint s c) := by
  obtain ⟨n, hn⟩ := limitPoint_quiet (passedOn_unloaded h)
  obtain ⟨-, -, -, hfault, -⟩ := h
  have hafter : afterPoint s c =
      offerPoint (formedOn s c).point (limitPoint c.driveFault (formedOn s c).point (passedOn s c)) := rfl
  rw [hafter, hfault, hn]
  exact SlipKept.offerPoint ((SlipKept.refl _).apart rfl rfl)

/-- The drive's work on an evaluated point leaves the test evaluated, and in ENDING as it is. -/
theorem drivenOn_evaluated {s : State} {c : Conversion} (h : s.evaluates c) :
    (drivenOn s c).tsq.state.evaluated = true ∧
    (s.tsq.state = .held ∨ s.tsq.state = .ending → (drivenOn s c).tsq = s.tsq) := by
  obtain ⟨hcalm, hstate⟩ := h
  have sampled := sampledOn_of_calm hcalm
  have evaluated : ∀ t : Tsq, t = s.tsq → t.state.evaluated = true := fun t ht => by
    rcases hstate with h | h | ⟨h, -⟩ <;> simp [ht, h, SeqState.evaluated]
  rcases hstate with hq | hq | ⟨hq, hstop, hfast⟩
  · refine ⟨?_, by simp [hq]⟩
    rcases drivePointWork_test (ready := c.driveReady) (first := firstEstimated (formedOn s c).point s)
      (p := (formedOn s c).point) (s := sampledOn s c) (by simp [sampled.tsq, hq]) with ⟨htsq, -⟩ | ⟨-, hheld, -⟩
    · exact evaluated _ (htsq.trans sampled.tsq)
    · rw [drivenOn, hheld]
      rfl
  · have htsq : (drivenOn s c).tsq = s.tsq := by
      rcases drivePointWork_test (ready := c.driveReady) (first := firstEstimated (formedOn s c).point s)
        (p := (formedOn s c).point) (s := sampledOn s c) (by simp [sampled.tsq, hq]) with ⟨htsq, -⟩ | ⟨hrun, -⟩
      · exact htsq.trans sampled.tsq
      · simp [sampled.tsq, hq] at hrun
    exact ⟨evaluated _ htsq, fun _ => htsq⟩
  · have htsq : (drivenOn s c).tsq = s.tsq :=
      (drivePointWork_slows (sampled.motion.state.trans hstop)
        (by rw [sampled.motion.frame, sampled.motion.velocity]; exact hfast)).trans sampled.tsq
    exact ⟨evaluated _ htsq, fun _ => htsq⟩

/-! ### The unrest event and the slip (R85, R149) -/

/-- The timer expires on the point that finds its last count. -/
theorem timer_expires_iff (t : Timer) : t.count.2 = true ↔ t.prescale < 2 ∧ t.ticks < 2 := by
  unfold Timer.count
  repeat' split
  all_goals simp; omega

/-- An unrest event goes with the point when the timer expires in FALLING or ERRATIC (R85). -/
theorem formedOn_unrest (s : State) (c : Conversion) :
    (formedOn s c).unrest = true ↔
      ((afterPoint s c).fcu.classifier = .falling ∨ (afterPoint s c).fcu.classifier = .erratic) ∧
      s.fcu.unrestTimer.prescale < 2 ∧ s.fcu.unrestTimer.ticks < 2 := by
  obtain ⟨n, x, y, hconvert⟩ := convert_eq s.drl.frame.capacity (saturate c.count) s.fcu
  have hunrest : (formedOn s c).unrest =
      (convertedOn s c).unrestEvent s.drl.frame.quietThreshold s.drl.frame.slopeThreshold (useOn s c) := by
    simp [formedOn, formPoint, convertedOn, useOn, hconvert]
  have hlevel : ∀ (f : Fcu) (before : Classifier), (f.levelPoint before).classifier = f.classifier ∧
      (f.levelPoint before).unrestTimer = f.unrestTimer := fun f before => by
    unfold Fcu.levelPoint
    repeat' split
    all_goals exact ⟨rfl, rfl⟩
  obtain ⟨hclassifier, htimer⟩ := hlevel (classifiedOn s c) (convertedOn s c).classifier
  have hevent : (formedOn s c).unrest =
      ((classifiedOn s c).classifier.restless && (classifiedOn s c).unrestTimer.count.2) := by
    rw [hunrest, ← hclassifier, ← htimer]
    rfl
  rw [hevent, (classifiedOn_timers s c).2.2.1, (afterPoint_signalled s c).1, Bool.and_eq_true, restless_iff,
    timer_expires_iff]

theorem applyEval_slipNotice (o : EvalOut) (s : State) :
    (applyEval o s).cli.notices.slip = (o.slip || s.cli.notices.slip) ∧
    (o.slip = true → (applyEval o s).cli.pending.notice = true) := by
  have marked : SlipKept (s.onEvu fun _ => o.evu) (handMarks o.marks (s.onEvu fun _ => o.evu)) :=
    (SlipKept.refl _).handMarks
  have raised : ∀ u : State, u.cli.notices.slip = s.cli.notices.slip →
      (if o.slip then addNotice .slip u else u).cli.notices.slip = (o.slip || s.cli.notices.slip) ∧
      (o.slip = true → (if o.slip then addNotice .slip u else u).cli.pending.notice = true) := fun u hu => by
    cases o.slip with
    | true => exact ⟨rfl, fun _ => rfl⟩
    | false => exact ⟨hu, fun h => absurd h (by decide)⟩
  unfold applyEval
  dsimp only
  refine raised _ ?_
  split
  · exact marked.notice
  · exact marked.notice

/-- The slips of a point that the Evaluation Unit takes: the phase and the count are those of its evaluation, and SLIP
is noticed with a slip alone (R149). -/
theorem evaluatedPoint_slips {s : State} {c : Conversion} (h : s.evaluates c) (hphase : s.evu.phase ≠ .fractured) :
    ((judgedOn s c).slip = true ↔ (formedOn s c).unrest = true ∧ (afterPoint s c).evu.phase = .elastic) ∧
    slipsOf (afterPoint s c).evu =
      (if (judgedOn s c).slip then (slipsOf s.evu).map (satSucc max16) else slipsOf s.evu) ∧
    (afterPoint s c).cli.notices.slip = ((judgedOn s c).slip || s.cli.notices.slip) := by
  obtain ⟨hevaluated, -⟩ := drivenOn_evaluated h
  obtain ⟨hcalm, hstate⟩ := h
  have driven : SlipKept s (drivenOn s c) := (sampledOn_slipKept hcalm).drivePointWork
  obtain ⟨hslip, hslips⟩ := evaluate_slip ((drivenOn s c).evalInput (formedOn s c).unrest (formedOn s c).point)
    (e := (drivenOn s c).evu) (by rwa [driven.phase])
  rw [← judgedOn] at hslip hslips
  have evaluated : SlipKept (appliedOn s c) (evaluatedOn s c).1 := by
    rw [evaluatedOn_eq hevaluated]
    dsimp only
    split
    · exact (SlipKept.refl _).slipAction
    · exact SlipKept.refl _
  have hstarted : (managerPoint (evaluatedOn s c).2 (formedOn s c).point (evaluatedOn s c).1).tsq.state ≠ .starting :=
    fun hq => by
      have hstart := (managedOn_placed s c).started hq
      rw [(formedOn_frame s c).1] at hstart
      rcases hstate with h | h | ⟨h, -⟩ <;> simp [h] at hstart
  have passed : SlipKept (appliedOn s c) (passedOn s c) := evaluated.managerPoint.sequencerPoint hstarted
  have after := passed.trans (afterPoint_slipKept hcalm)
  have happlied : (appliedOn s c).evu = (judgedOn s c).evu := applyEval_evu _ _
  rw [after.slips, after.phase, after.notice, happlied, hslips, driven.slips]
  refine ⟨hslip, rfl, ?_⟩
  rw [appliedOn, (applyEval_slipNotice _ _).1, driven.notice]

end Sys2Proof.Proofs
end

section
/-! What follows from a slip on its point (R35, R149), and the range, the classifier and the slips of a point (O31). -/

namespace Sys2Proof.Proofs

open Sys2Proof.Machine Sys2Proof.Laws

/-! ### The slip action on its point (R31, R35, R38) -/

/-- A test in HELD with no Resume taken, in ENDING or in ENDED: the Test Sequencer leaves it on a point without
fracture (R34, R38). -/
theorem sequencerPoint_rests {p : Point} {s : State}
    (h : s.tsq.state = .held ∧ s.tsq.resumeEntry = none ∨ s.tsq.state = .ending ∨ s.tsq.state = .ended) :
    sequencerPoint false p s = s := by
  rcases h with ⟨hq, hresume⟩ | hq | hq
  · simp [sequencerPoint, hq, heldPoint, hresume]
  · rw [sequencerPoint, hq]
  · rw [sequencerPoint, hq]

/-- A point with a slip: what the slip action makes of the test and the drive stands, where the test rests after it. -/
theorem slippedPoint {s : State} {c : Conversion} (h : s.evaluates c) (hslip : (judgedOn s c).slip = true) :
    Carried (slipAction (appliedOn s c)) (afterPoint s c) ∧
    ((slipAction (appliedOn s c)).tsq.state = .held ∧ (slipAction (appliedOn s c)).tsq.resumeEntry = none ∨
      (slipAction (appliedOn s c)).tsq.state = .ending ∨ (slipAction (appliedOn s c)).tsq.state = .ended →
      (afterPoint s c).tsq = (slipAction (appliedOn s c)).tsq ∧
      (afterPoint s c).drl = (slipAction (appliedOn s c)).drl) := by
  have hunbroken : (judgedOn s c).fractured = false := Bool.eq_false_iff.2 fun hbroken => by
    have hno := evaluate_slip_of_fractured _ _ hbroken
    rw [← judgedOn, hslip] at hno
    exact absurd hno (by decide)
  have hpassed : passedOn s c = sequencerPoint false (formedOn s c).point
      (managerPoint false (formedOn s c).point (slipAction (appliedOn s c))) := by
    have hevaluated := evaluatedOn_eq (drivenOn_evaluated h).1
    rw [if_pos hslip, hunbroken] at hevaluated
    rw [show passedOn s c = sequencerPoint (evaluatedOn s c).2 (formedOn s c).point
      (managerPoint (evaluatedOn s c).2 (formedOn s c).point (evaluatedOn s c).1) from rfl, hevaluated]
  have ends := (calmPoint_of h.1).ends
  refine ⟨?_, fun hrests => ?_⟩
  · have passed : Carried (slipAction (appliedOn s c)) (passedOn s c) := by
      rw [hpassed]
      exact (Carried.refl _).managerPoint.sequencerPoint
    exact passed.trans ends.carried
  · rw [ends.tsq, ends.drl, hpassed, sequencerPoint_rests (by simpa using hrests)]
    simp

/-- A drive that a stop request takes ends at rest or slows down (R57). -/
theorem stop_ends {d : Drl}
    (h : d.state = .running ∨ d.state = .holding ∨ d.state = .idle ∨ d.state = .stopping) :
    d.stop.state = .idle ∨ d.stop.state = .stopping := by
  rcases h with h | h | h | h
  · exact stop_of_running h
  · exact .inl (stop_of_rest (.inl h))
  · exact .inl (stop_of_rest (.inr h))
  · exact .inr (by rw [Drl.stop, h]; exact h)

/-- Such a drive ends its test through ENDING, STOPPING, or at once, IDLE (R38). -/
theorem enterEnding_ends {s : State} (why : EndReason) (h : s.drl.stop.state = .idle ∨ s.drl.stop.state = .stopping) :
    EndsFor why s.tsq.segmentTime (enterEnding why s) := by
  rcases h with hstop | hstop
  · exact .inr (enterEnding_idle why hstop)
  · obtain ⟨hstate, hpending, htime, hdrl⟩ := enterEnding_moving (s := s) why (by simp [hstop])
    exact .inl ⟨hstate, hpending, htime, by rw [hdrl, hstop]⟩

/-- The drive and the test that a slip finds under ABORT can be ended (R35). -/
theorem drivenOn_endable {s : State} {c : Conversion} (h : s.evaluates c)
    (hstate : s.tsq.state = .running ∧ s.drl.state = .running ∨
      s.tsq.state = .held ∧ (s.drl.state = .holding ∨ s.drl.state = .idle ∨ s.drl.state = .stopping)) :
    ((drivenOn s c).tsq.state = .running ∨ (drivenOn s c).tsq.state = .held) ∧
    ((drivenOn s c).drl.state = .running ∨ (drivenOn s c).drl.state = .holding ∨ (drivenOn s c).drl.state = .idle ∨
      (drivenOn s c).drl.state = .stopping) := by
  have sampled := sampledOn_of_calm h.1
  rcases hstate with ⟨hq, hd⟩ | ⟨hq, hd⟩
  · rcases drivePointWork_test (ready := c.driveReady) (first := firstEstimated (formedOn s c).point s)
      (p := (formedOn s c).point) (s := sampledOn s c) (by simp [sampled.tsq, hq])
      with ⟨htsq, hruns⟩ | ⟨-, hheld, hrests⟩
    · refine ⟨.inl ?_, .inl (hruns (by rw [sampled.tsq, hq]) (sampled.motion.state.trans hd))⟩
      rw [drivenOn, htsq, sampled.tsq, hq]
    · exact ⟨.inr hheld, .inr (.inr hrests)⟩
  · refine ⟨.inr ?_, .inr (drivePointWork_rests (by simp [sampled.tsq, hq]) (by rwa [sampled.motion.state]))⟩
    rw [(drivenOn_evaluated h).2 (.inl hq), hq]

/-- What a slip brings on its point, by the slip action (R35, R149). -/
theorem slippedPoint_outcomes {s : State} {c : Conversion} (h : s.evaluates c) (hslip : (judgedOn s c).slip = true) :
    let t := afterPoint s c
    t.cli.pending.notice = true ∧
    (s.tsq.state = .ending → t.tsq = s.tsq) ∧
    (s.header.slipAction = .hold → s.tsq.state = .running → s.drl.state = .running →
      s.drl.frame.softMin < s.drl.position → s.drl.position < s.drl.frame.softMax →
      t.tsq = { s.tsq with
        state := .held, heldReason := some .slip, heldAt := none, startStep := none, resumeEntry := none } ∧
      t.drl.state = .holding ∧ t.drl.velocity = 0 ∧ t.drl.dacCode = 0 ∧ t.cli.pending.held = true) ∧
    (s.header.slipAction = .hold → s.tsq.state = .held → s.tsq.resumeEntry = none → t.tsq = s.tsq) ∧
    (s.header.slipAction = .abort → s.tsq.state = .running ∧ s.drl.state = .running ∨
        s.tsq.state = .held ∧ (s.drl.state = .holding ∨ s.drl.state = .idle ∨ s.drl.state = .stopping) →
      t.tsq.state = .ending ∧ t.tsq.pendingEnd = some .aborted ∧ t.drl.state = .stopping ∨
      t.tsq.state = .ended ∧ t.tsq.endReason = some .aborted ∧ t.drl.state = .idle) := by
  intro t
  obtain ⟨hcarried, hrests⟩ := slippedPoint h hslip
  have sampled := sampledOn_of_calm h.1
  have happlied : (appliedOn s c).tsq = (drivenOn s c).tsq ∧ (appliedOn s c).drl = (drivenOn s c).drl := by
    simp [appliedOn]
  obtain ⟨htsq, hdrl⟩ := happlied
  have hheader : (drivenOn s c).header = s.header := by
    simp [State.header, drivenOn, sampled.tsq]
  obtain ⟨hstands, hholds, -⟩ := slipAction_outcomes (s := drivenOn s c) (v := appliedOn s c) rfl htsq hdrl
  rw [hheader] at hstands hholds
  refine ⟨?_, fun hq => ?_, fun haction hq hd hmin hmax => ?_, fun haction hq hresume => ?_, fun haction hstate => ?_⟩
  · exact ((Carried.refl _).slipAction.trans hcarried).cli.pending .notice ((applyEval_slipNotice _ _).2 hslip)
  · have hdriven := (drivenOn_evaluated h).2 (.inr hq)
    obtain ⟨-, ktsq, -⟩ := hstands (.inr (.inl (by rw [hdriven, hq])))
    rw [(hrests (.inr (.inl (by rw [ktsq, hdriven, hq])))).1, ktsq, hdriven]
  · obtain ⟨wtsq, -, wstate⟩ := runningDrive_inside (first := firstEstimated (formedOn s c).point s)
      (p := (formedOn s c).point) (s := sampledOn s c) (by rwa [sampled.softMin, (formedOn_point s c).1])
      (by rwa [sampled.softMax, (formedOn_point s c).1])
    have hdriven : drivenOn s c =
        runningDrive (firstEstimated (formedOn s c).point s) (formedOn s c).point (sampledOn s c) := by
      simp [drivenOn, drivePointWork, sampled.motion.state, hd]
    rw [← hdriven, sampled.tsq] at wtsq
    rw [← hdriven, sampled.motion.state] at wstate
    obtain ⟨-, ktsq, kdrl, kheld⟩ := hholds haction (by rw [wtsq, hq]) (wstate.trans hd)
    obtain ⟨ttsq, tdrl⟩ := hrests (.inl (by rw [ktsq]; exact ⟨rfl, rfl⟩))
    rw [ttsq, tdrl, ktsq, kdrl, wtsq]
    exact ⟨rfl, rfl, rfl, rfl, hcarried.cli.pending .held kheld⟩
  · have hdriven := (drivenOn_evaluated h).2 (.inl hq)
    obtain ⟨-, ktsq, -⟩ := hstands (.inr (.inr ⟨haction, by rw [hdriven, hq]⟩))
    rw [(hrests (.inl (by rw [ktsq, hdriven]; exact ⟨hq, hresume⟩))).1, ktsq, hdriven]
  · obtain ⟨hdtest, hddrive⟩ := drivenOn_endable h hstate
    have habort : slipAction (appliedOn s c) = enterEnding .aborted (appliedOn s c) :=
      slipAction_aborts (by rw [header_congr htsq, hheader, haction]) (by rwa [htsq])
    have ends := enterEnding_ends (s := appliedOn s c) .aborted (by rw [hdrl]; exact stop_ends hddrive)
    rw [← habort] at ends
    obtain ⟨ttsq, tdrl⟩ := hrests (.inr (ends.imp (·.1) (·.1)))
    rw [ttsq, tdrl]
    exact ends.imp (fun ⟨hq, hwhy, _, hd⟩ => ⟨hq, hwhy, hd⟩) id

/-! ### The obligation -/

/-- Settles O31: the Force Unit's record after the point by the steps that make it, and the slip of an evaluated point
by the evaluation that counts it. -/
theorem rangeAndClassifierOnAPoint : Obligations.RangeAndClassifierOnAPoint := by
  refine ⟨fun s c hrun => ?_, fun s c r h hphase hr => ?_⟩
  · intro raw discarded overrange used counted up down
    have hdiscarded : discarded ↔ useOn s c = .discarded := use_discarded_iff.symm
    have hoverrange : overrange ↔ useOn s c = .overrange := by
      rw [useOn, use_overrange_iff, ← Bool.not_eq_true]
      rfl
    have hused : used ↔ useOn s c = .used := by
      simp only [used, hdiscarded, hoverrange]
      cases useOn s c <;> simp
    have hcounted : counted = countedDown s.fcu raw := rfl
    have hup : up ↔ GoesUp (useOn s c) raw s.fcu := by simp only [up, hoverrange, hused, GoesUp]
    have hdown : down ↔ GoesDown (useOn s c) raw s := by simp only [down, hused, hup, hcounted, GoesDown]
    obtain ⟨rup, rdown, rswitch, rstands⟩ := afterPoint_range s c
    obtain ⟨cunused, cshort, cfull⟩ := classifiedOn_spec s c
    obtain ⟨kclassifier, klevel, ksettled, kunrest, kevents, -⟩ := afterPoint_signalled s c
    obtain ⟨glevel, gsettled, gunrest, gevents⟩ := classifiedOn_timers s c
    have levels := levelPoint_spec s.fcu.classifier (classifiedOn s c)
    have unrests := unrestPoint_spec s.fcu.classifier (classifiedOn s c)
    refine ⟨afterPoint s c, (formedOn s c).point, exec_afterPoint hrun, afterPoint_latest s c, fun h => rup (hup.1 h),
      fun h => rdown (hdown.1 h), fun h => rswitch (h.imp hup.1 hdown.1), fun hnoup hnodown => ?_, fun h => ?_,
      fun oldest rest h hhistory hlength => ?_, ?_, ?_, afterPoint_tareWait s c⟩
    · obtain ⟨hrange, hkeep, hchanges, hhistory, -, hcount⟩ := rstands (mt hup.2 hnoup) (mt hdown.2 hnodown)
      rw [hhistory, hcount]
      refine ⟨hrange, hkeep, hchanges, fun h => ?_, fun h => ?_,
        fun h hshort => (cshort (hused.1 h) hshort).1, fun h hfull => ?_,
        fun h => (cunused (by simp [hdiscarded.1 h])).1⟩
      · simp [hdiscarded.1 h]
      · simp [hused.1 h, hcounted, raw, saturate]
      · cases hs : s.fcu.history with
        | nil => simp [hs] at hfull
        | cons oldest rest => exact (cfull oldest rest (hused.1 h) hs (by simpa [hs] using hfull)).1
    · rw [kclassifier]
      by_cases huse : used
      · exact (cshort (hused.1 huse) (h.resolve_left (not_not_intro huse))).2
      · exact (cunused (mt hused.2 huse)).2
    · obtain ⟨-, hslope, hclassifier⟩ := cfull oldest rest (hused.1 h) hhistory hlength
      intro forces steps changes slope limit
      refine ⟨fun hnoup hnodown => ?_, ?_⟩
      · obtain ⟨-, -, -, -, kslope, -⟩ := rstands (mt hup.2 hnoup) (mt hdown.2 hnodown)
        exact kslope.trans hslope
      · rw [kclassifier, hclassifier, signChangeCount_eq]
        rfl
    · rw [kclassifier, klevel, ksettled]
      rwa [glevel, gsettled] at levels
    · rw [kclassifier, kunrest, kevents]
      rwa [gunrest, gevents] at unrests
  · obtain ⟨hslip, hslips, hnotice⟩ := evaluatedPoint_slips h hphase
    rw [formedOn_unrest] at hslip
    have hbefore : slipsOf s.evu = some r.slipCount := by rw [slipsOf, hr, Option.map_some]
    rw [hbefore] at hslips
    obtain ⟨r', hr', hcount⟩ : ∃ r', (afterPoint s c).evu.result = some r' ∧
        r'.slipCount = if (judgedOn s c).slip then min 65535 (r.slipCount + 1) else r.slipCount := by
      rw [← satSucc_max16]
      refine Option.map_eq_some_iff.1 (hslips.trans ?_)
      split <;> rfl
    refine ⟨afterPoint s c, r', exec_afterPoint h.1.1, hr', ?_⟩
    intro event slips
    have hslips : slips ↔ (judgedOn s c).slip = true := hslip.symm
    rw [hslips]
    refine ⟨fun hno => ?_, fun hslipped => ?_⟩
    · rw [hcount, hnotice, Bool.eq_false_iff.2 hno]
      exact ⟨rfl, rfl⟩
    · rw [hcount, hnotice, if_pos hslipped, hslipped]
      exact ⟨rfl, rfl, slippedPoint_outcomes h hslipped⟩

end Sys2Proof.Proofs
end

section
/-! Poll rounds and the arbiter of the gauge link (O40): what each choice of R99 starts (R98 to R101, R107, R130). -/

namespace Sys2Proof.Proofs

open Sys2Proof.Machine Sys2Proof.Laws

/-! ### Poll rounds (R98) -/

theorem configuredHeads_eq (s : State) :
    configuredHeads s = (if s.exm.heads.front.configured = true then [.front] else []) ++
      (if s.exm.heads.rear.configured = true then [.rear] else []) := by
  have front : (s.exm.heads.get .front).configured = s.exm.heads.front.configured := rfl
  have rear : (s.exm.heads.get .rear).configured = s.exm.heads.rear.configured := rfl
  cases hf : s.exm.heads.front.configured <;> cases hr : s.exm.heads.rear.configured <;>
    simp [configuredHeads, front, rear, hf, hr]

theorem exec_pollRoundDue {s : State} (hin : s.inReset = false) :
    exec .pollRoundDue s = .next { s with glc := { s.glc with
      pollClock := 40
      roundList := if s.glc.roundList = [] then
          (if s.exm.heads.front.configured = true then [.front] else []) ++
          (if s.exm.heads.rear.configured = true then [.rear] else [])
        else s.glc.roundList } } := by
  have runs : exec .pollRoundDue s = .next (pollRound s) := live_running pollRound s hin
  rw [runs, ← configuredHeads_eq]
  cases hlist : s.glc.roundList <;> simp [pollRound, State.onGlc, roundPoints, hlist]

/-! ### What the arbiter chooses (R99, R100, R101, R130) -/

theorem nextTransaction_round {s : State} {h : Head} {rest : List Head} (hround : s.glc.roundList = h :: rest) :
    nextTransaction s = some (h, .poll, .round) := by simp [nextTransaction, hround]

theorem streamChoice_none {s : State} (hnone : ∀ h, ¬ s.streams h) : streamChoice s = none := by
  have wants : ∀ h, wantsStream s h = false := fun h => Bool.eq_false_iff.2 (mt (wantsStream_iff s h).1 (hnone h))
  simp [streamChoice, wants]

/-- A head that wants a stream read has its turn where the other head wants none or was streamed last, and FRONT also
where none has been streamed yet (R100). -/
theorem streamChoice_some {s : State} {h : Head} (hstreams : s.streams h)
    (hturn : ¬ s.streams (if h = .front then .rear else .front) ∨
      s.glc.lastStreamed ≠ some h ∧ (s.glc.lastStreamed ≠ none ∨ h = .front)) : streamChoice s = some h := by
  simp only [← wantsStream_iff] at hstreams hturn
  unfold streamChoice
  cases h with
  | front =>
    rw [hstreams]
    cases hr : wantsStream s .rear with
    | false => rfl
    | true =>
      have hlast : s.glc.lastStreamed ≠ some .front := by simpa [hr] using hturn
      simp [hlast]
  | rear =>
    rw [hstreams]
    cases hf : wantsStream s .front with
    | false => rfl
    | true =>
      have hlast : s.glc.lastStreamed ≠ some .rear ∧ s.glc.lastStreamed ≠ none := by simpa [hf] using hturn
      cases hs : s.glc.lastStreamed with
      | none => exact absurd hs hlast.2
      | some k =>
        cases k with
        | front => rfl
        | rear => exact absurd hs hlast.1

theorem slotChoice_linkWait {s : State} {c : SlotCommand} (hslot : s.glc.slot = some c) (hphase : c.phase = .linkWait)
    (hfree : c.kind ≠ .lift ∨ s.exm.source ≠ .extensometer) : slotChoice s = some (c.head, c.kind.op) := by
  have goes : ¬ (c.kind = .lift ∧ s.exm.source = .extensometer) := fun h => hfree.elim (· h.1) (· h.2)
  simp [slotChoice, hslot, hphase, goes]

theorem slotChoice_pollDue {s : State} {c : SlotCommand} (hslot : s.glc.slot = some c)
    (hphase : c.phase = .confirming) (hdue : c.pollDue = true) : slotChoice s = some (c.head, .poll) := by
  simp [slotChoice, hslot, hphase, hdue]

/-- The slot's transaction is taken unless the last was the slot's and a stream read is wanted (R99). -/
theorem nextTransaction_slot {s : State} {h : Head} {o : GaugeOp} (hround : s.glc.roundList = [])
    (hchoice : slotChoice s = some (h, o)) (hturn : s.glc.lastFromSlot = false ∨ ∀ h, ¬ s.streams h) :
    nextTransaction s = some (h, o, .slot) := by
  cases hlast : s.glc.lastFromSlot with
  | false => simp [nextTransaction, hround, hchoice, hlast]
  | true =>
    have hnone := streamChoice_none (hturn.resolve_left (by simp [hlast]))
    simp [nextTransaction, hround, hchoice, hlast, hnone]

theorem nextTransaction_stream {s : State} {h : Head} (hround : s.glc.roundList = [])
    (hturn : s.slotRests ∨ s.glc.lastFromSlot = true) (hchoice : streamChoice s = some h) :
    nextTransaction s = some (h, .read, .stream) := by
  rcases hturn with hrests | hlast
  · simp [nextTransaction, hround, (slotChoice_none_iff s).2 hrests, hchoice]
  · simp [nextTransaction, hround, hlast, hchoice]

theorem nextTransaction_none {s : State} (hround : s.glc.roundList = []) (hrests : s.slotRests)
    (hnone : ∀ h, ¬ s.streams h) : nextTransaction s = none := by
  simp [nextTransaction, hround, (slotChoice_none_iff s).2 hrests, streamChoice_none hnone]

/-! ### The start (R99, R107) -/

theorem exec_gaugeTransactionStart {s : State} {h : Head} {o : GaugeOp} {src : TxSource} (hin : s.inReset = false)
    (hfree : s.glc.current = none) (hnext : nextTransaction s = some (h, o, src)) :
    exec .gaugeTransactionStart s = .next (startTransaction h o src s) := by
  have runs : exec .gaugeTransactionStart s = .next (arbiter s) := live_running arbiter s hin
  rw [runs, arbiter, hfree, hnext]

theorem exec_gaugeTransactionStart_idle {s : State} (hin : s.inReset = false)
    (hidle : s.glc.current ≠ none ∨ nextTransaction s = none) : exec .gaugeTransactionStart s = .next s := by
  have runs : exec .gaugeTransactionStart s = .next (arbiter s) := live_running arbiter s hin
  have idle : arbiter s = s := by
    rcases hidle with hbusy | hnone
    · obtain ⟨x, hx⟩ := Option.ne_none_iff_exists'.1 hbusy
      simp [arbiter, hx]
    · simp [arbiter, hnone]
  rw [runs, idle]

/-- Settles O40: the arbiter's choice in each case of R99, and the start of what it chooses. -/
theorem gaugeLinkStarts : Obligations.GaugeLinkStarts := by
  unfold Obligations.GaugeLinkStarts
  refine ⟨fun s hin => exec_pollRoundDue hin, fun s hin => ⟨?_, ?_, ?_, ?_, ?_, ?_⟩⟩
  · intro h rest hfree hround
    rw [exec_gaugeTransactionStart hin hfree (nextTransaction_round hround)]
    simp [startTransaction, State.onGlc, started_eq, hround]
  · intro c hfree hround hslot hphase hlift hturn
    have choice := nextTransaction_slot hround (slotChoice_linkWait hslot hphase hlift) hturn
    rw [exec_gaugeTransactionStart hin hfree choice]
    simp [startTransaction, State.onGlc, started_eq, hslot, hphase]
  · intro c hfree hround hslot hphase hdue hturn
    have choice := nextTransaction_slot hround (slotChoice_pollDue hslot hphase hdue) hturn
    rw [exec_gaugeTransactionStart hin hfree choice]
    simp [startTransaction, State.onGlc, started_eq, hslot, hphase]
  · intro h hfree hround hturn hstreams hother
    have choice := nextTransaction_stream hround hturn (streamChoice_some hstreams hother)
    rw [exec_gaugeTransactionStart hin hfree choice]
    simp [startTransaction, State.onGlc, started_eq]
  · exact fun hbusy => exec_gaugeTransactionStart_idle hin (.inl hbusy)
  · exact fun hround hrests hnone =>
      exec_gaugeTransactionStart_idle hin (.inr (nextTransaction_none hround hrests hnone))

end Sys2Proof.Proofs
end

section
/-! Confirmation polls and the end of the confirmation time (O44; R102, R103, R129): the command freed UNCONFIRMED, and
what a LIFT that is not confirmed leaves or holds. -/

namespace Sys2Proof.Proofs

open Sys2Proof.Machine Sys2Proof.Laws

theorem exec_confirmationPollDue {s : State} (hin : s.inReset = false) :
    exec .confirmationPollDue s = .next (confirmationDue s) := live_running confirmationDue s hin

theorem confirmingNow_none {g : Glc} (hrests : ∀ c, g.slot = some c → c.phase ≠ .confirming) :
    g.confirmingNow = none := by
  unfold Glc.confirmingNow
  split
  · next c hslot => rw [if_neg (hrests c hslot)]
  · rfl

/-! ### The freed slot (R103) -/

/-- The command that stands in the slot once it is freed: the oldest that waits (R101, R103). -/
theorem freeSlot_eq (g : Glc) :
    g.freeSlot.slot = (match g.waiting with
      | [] => none
      | w :: _ => some ⟨w.head, w.kind, .exm, .linkWait, 0, false⟩) ∧
    g.freeSlot.waiting = g.waiting.drop 1 := by
  cases hw : g.waiting <;> simp [Glc.freeSlot, Glc.enter, hw]

theorem freeCommand_glc (c : SlotCommand) (o : SlotOutcome) (s : State) :
    (freeCommand c o s).glc = (takeOutcome c.head c.kind o (outcomeNoted c o s)).glc.freeSlot := by
  rw [freeCommand_eq]
  split <;> rfl

/-! ### A LIFT that is not confirmed (R129) -/

theorem liftOutcome_unwatched {h : Head} {o : SlotOutcome} {s : State} (hwatch : s.exm.liftWatch.get h = false) :
    liftOutcome h o s = s := by simp [liftOutcome, hwatch]

/-- The notice alone, where there is no RUNNING test of the LIFT's own (R129; log 35). -/
theorem liftMissed_notices {holds : Bool} {s : State} (hno : s.tsq.state ≠ .running ∨ holds = false) :
    liftMissed holds s = addNotice .liftUnconfirmed s := by
  cases holds with
  | false => rfl
  | true => simp [liftMissed, holdCause, hno.resolve_right (by decide)]

/-- The RUNNING test that the LIFT was asked for in is held, the drive HOLDING at 0 (R31, R129). -/
theorem liftMissed_holds {s : State} (hq : s.tsq.state = .running) (hdrive : s.drl.state = .running) :
    liftMissed true s = heldNow .liftUnconfirmed none (addNotice .liftUnconfirmed s) := by
  rw [← enterHeld_eq_heldNow (s := addNotice .liftUnconfirmed s) (why := .liftUnconfirmed) (by decide) none
    (.inl hdrive)]
  simp [liftMissed, holdCause, hq]

/-- An unwatched LIFT ends with its last command recorded and the slot handed on, and nothing else of the test. -/
theorem unwatchedLift_freed {s : State} {c : SlotCommand} (o : SlotOutcome) (hkind : c.kind = .lift)
    (hwatch : s.exm.liftWatch.get c.head = false) :
    let t := freeCommand c o s
    t.glc.slot = (match s.glc.waiting with
      | [] => none
      | w :: _ => some ⟨w.head, w.kind, .exm, .linkWait, 0, false⟩) ∧
    t.glc.waiting = s.glc.waiting.drop 1 ∧ t.exm = s.exm ∧ t.tsq = s.tsq ∧ t.drl = s.drl := by
  have noted : takeOutcome c.head c.kind o (outcomeNoted c o s) = outcomeNoted c o s := by
    rw [hkind]
    exact liftOutcome_unwatched hwatch
  have freed := freeCommand_freedFrom c o s
  have link := freeCommand_glc c o s
  rw [noted] at freed link
  obtain ⟨slot, waiting⟩ := freeSlot_eq (outcomeNoted c o s).glc
  dsimp only
  rw [link]
  exact ⟨slot, waiting, freed.exm, freed.tsq, freed.drl⟩

/-- A watched LIFT that ends UNCONFIRMED leaves the lift watch, adds its notice and holds the test it was asked for
in, if that is RUNNING (R129; log 35). -/
theorem watchedLift_freed {s : State} {c : SlotCommand} (hkind : c.kind = .lift)
    (hwatch : s.exm.liftWatch.get c.head = true) :
    let t := freeCommand c .unconfirmed s
    t.exm.liftWatch.get c.head = false ∧ t.cli.notices.liftUnconfirmed = true ∧ t.cli.pending.notice = true ∧
    (s.tsq.state = .running → s.exm.liftHolds.get c.head = true → s.drl.state = .running →
      t.tsq.state = .held ∧ t.tsq.heldReason = some .liftUnconfirmed ∧ t.drl.state = .holding ∧
      t.drl.velocity = 0 ∧ t.cli.pending.held = true) ∧
    (s.tsq.state ≠ .running ∨ s.exm.liftHolds.get c.head = false → t.tsq = s.tsq ∧ t.drl = s.drl) := by
  have freed := freeCommand_freedFrom c .unconfirmed s
  have missed : liftOutcome c.head .unconfirmed (outcomeNoted c .unconfirmed s) =
      liftMissed (s.exm.liftHolds.get c.head) (setWatch c.head false (outcomeNoted c .unconfirmed s)) :=
    liftOutcome_missed hwatch (by decide)
  rw [hkind, takeOutcome, missed] at freed
  obtain ⟨hexm, hnotice, hpending, hholds, -⟩ := liftMissed_outcome freed
  refine ⟨by rw [hexm]; exact perHead_get_set _ _ _, hnotice, hpending, fun hq hhold hdrive => ?_, fun hno => ?_⟩
  · obtain ⟨held, reason, drive, pending⟩ := hholds hq hhold hdrive
    rw [hhold, liftMissed_holds (by exact hq) (by exact hdrive)] at freed
    exact ⟨held, reason, drive, by rw [freed.drl]; rfl, pending⟩
  · rw [liftMissed_notices (by exact hno)] at freed
    exact ⟨freed.tsq, freed.drl⟩

/-- Settles O44: the command in CONFIRMING is freed UNCONFIRMED, by the outcome of a LIFT. -/
theorem confirmationRunsOut : Obligations.ConfirmationRunsOut := by
  unfold Obligations.ConfirmationRunsOut
  refine fun s hin => ⟨fun c hslot hphase => ⟨?_, ?_⟩, fun hrests => ⟨?_, ?_⟩⟩
  · rw [exec_confirmationPollDue hin]
    simp [confirmationDue, Glc.confirmingNow, hslot, hphase, State.onGlc]
  · obtain ⟨last, done, -⟩ := freeCommand_freedIn c .unconfirmed s
    exact ⟨_, exec_confirmationTimeout hin hslot hphase, last, done, unwatchedLift_freed .unconfirmed,
      watchedLift_freed⟩
  · rw [exec_confirmationPollDue hin, confirmationDue, confirmingNow_none hrests]
  · have runs : exec .confirmationTimeout s = .next (confirmationOut s) := live_running confirmationOut s hin
    rw [runs, confirmationOut, confirmingNow_none hrests]

end Sys2Proof.Proofs
end

section
/-! What follows from the result of a transaction and from the outcome of a command (R25, R103, R104, R114, R121): the
head states that change, a failed start, a forced handover and the lifts asked for leave the counts of the link, the
entries of the heads but for their states, and every command that stands but for the ZEROs withdrawn. -/

namespace Sys2Proof.Proofs

open Sys2Proof.Machine Sys2Proof.Laws

/-! ### The link's record -/

/-- The link's record goes on from `g` by commands asked for, and by ZEROs withdrawn from the waiting list (R101,
R104). -/
structure LinkFollows (g g' : Glc) : Prop where
  rest : g' = { g with slot := g'.slot, waiting := g'.waiting }
  slot : ∀ c, g.slot = some c → g'.slot = some c
  entered : ∀ c, g'.slot = some c → g.slot = some c ∨ c.phase = .linkWait
  stands : ∀ h k, k ≠ .zero → g.stands h k = true → g'.stands h k = true

namespace LinkFollows

theorem refl (g : Glc) : LinkFollows g g := ⟨rfl, fun _ h => h, fun _ h => .inl h, fun _ _ _ h => h⟩

theorem of_eq {g g' : Glc} (h : g' = g) : LinkFollows g g' := h ▸ refl g

theorem trans {g g' g'' : Glc} (h : LinkFollows g g') (h' : LinkFollows g' g'') : LinkFollows g g'' where
  rest := h'.rest.trans (by rw [h.rest])
  slot c hc := h'.slot c (h.slot c hc)
  entered c hc := (h'.entered c hc).elim (h.entered c) .inr
  stands x k hk hx := h'.stands x k hk (h.stands x k hk hx)

end LinkFollows

theorem stands_iff {g : Glc} {h : Head} {k : HeadCmd} :
    g.stands h k = true ↔ (∃ c, g.slot = some c ∧ c.head = h ∧ c.kind = k) ∨ ⟨h, k⟩ ∈ g.waiting := by
  rw [Glc.stands, Bool.or_eq_true, waiting_any_iff]
  cases g.slot <;> simp

theorem ask_linkFollows (h : Head) (k : HeadCmd) (g : Glc) : LinkFollows g (g.ask h k) := by
  unfold Glc.ask
  split
  · exact .refl g
  · split
    · next hnone =>
      refine ⟨rfl, fun c hc => by simp [hnone] at hc, fun c hc => .inr ?_, fun x j _ hx => stands_iff.2 (.inr ?_)⟩
      · obtain rfl := Option.some.inj hc
        rfl
      · simpa [hnone, Glc.enter] using stands_iff.1 hx
    · exact ⟨rfl, fun _ hc => hc, fun _ hc => .inl hc,
        fun x j _ hx => stands_iff.2 ((stands_iff.1 hx).imp_right (List.mem_append_left _))⟩

theorem withdrawZeros_linkFollows (g : Glc) : LinkFollows g (g.withdraw fun w => w.kind = .zero) where
  rest := rfl
  slot _ hc := hc
  entered _ hc := .inl hc
  stands x k hk hx := stands_iff.2 ((stands_iff.1 hx).imp_right fun hm => by simpa [Glc.withdraw, hk] using hm)

/-! ### A head's entry -/

/-- What a change of a head's state leaves of its entry; a failed-poll count of 0 stays 0 (R110, R112). -/
structure EntryKept (e e' : HeadEntry) : Prop where
  identity : e'.identity = e.identity
  latest : e'.latest = e.latest
  zeroed : e'.zeroed = e.zeroed
  lastGood : e'.lastGood = e.lastGood
  readOk : e'.readOk = e.readOk
  noPolls : e.failedPolls = 0 → e'.failedPolls = 0

theorem EntryKept.refl (e : HeadEntry) : EntryKept e e := ⟨rfl, rfl, rfl, rfl, rfl, id⟩

theorem EntryKept.of_eq {e e' : HeadEntry} (h : e' = e) : EntryKept e e' := h ▸ .refl e

theorem EntryKept.trans {e e' e'' : HeadEntry} (a : EntryKept e e') (b : EntryKept e' e'') : EntryKept e e'' where
  identity := b.identity.trans a.identity
  latest := b.latest.trans a.latest
  zeroed := b.zeroed.trans a.zeroed
  lastGood := b.lastGood.trans a.lastGood
  readOk := b.readOk.trans a.readOk
  noPolls h := b.noPolls (a.noPolls h)

theorem enter_entryKept (st : HeadState) (e : HeadEntry) : EntryKept e (e.enter st) :=
  ⟨rfl, rfl, rfl, rfl, rfl, fun h => by simp [HeadEntry.enter, h]⟩

/-! ### The attention record -/

theorem Cli.GrowsTo.trans {a b c : Cli} (h : Cli.GrowsTo a b) (h' : Cli.GrowsTo b c) : Cli.GrowsTo a c :=
  ⟨fun n hn => h'.notices n (h.notices n hn), fun k hk => h'.pending k (h.pending k hk), h'.trip.trans h.trip⟩

/-! ### The relation -/

/-- The state goes on from `s` by what follows from a result or from an outcome. Every head whose state has changed
has raised HEAD_STATE (R110). -/
structure Follows (s u : State) : Prop where
  link : LinkFollows s.glc u.glc
  entry : ∀ h, EntryKept (s.exm.heads.get h) (u.exm.heads.get h)
  moved : ∀ h, (u.exm.heads.get h).state ≠ (s.exm.heads.get h).state → u.cli.pending.has .headState = true
  source : s.exm.source ≠ .extensometer → u.exm.source ≠ .extensometer
  cli : Cli.GrowsTo s.cli u.cli

namespace Follows

theorem trans {s u w : State} (a : Follows s u) (b : Follows u w) : Follows s w where
  link := a.link.trans b.link
  entry h := (a.entry h).trans (b.entry h)
  moved h hne := by
    by_cases hu : (u.exm.heads.get h).state = (s.exm.heads.get h).state
    · exact b.moved h (by rwa [hu])
    · exact b.cli.pending _ (a.moved h hu)
  source hs := b.source (a.source hs)
  cli := a.cli.trans b.cli

/-- A change that leaves every head's state and its data. -/
theorem of_kept {s u : State} (hlink : LinkFollows s.glc u.glc)
    (hheads : ∀ h, EntryKept (s.exm.heads.get h) (u.exm.heads.get h) ∧
      (u.exm.heads.get h).state = (s.exm.heads.get h).state)
    (hsource : s.exm.source ≠ .extensometer → u.exm.source ≠ .extensometer) (hcli : Carried s u) : Follows s u :=
  ⟨hlink, fun h => (hheads h).1, fun h hne => absurd (hheads h).2 hne, hsource, hcli.cli⟩

/-- A change outside the link and the heads. -/
theorem of_carried {s u : State} (hcli : Carried s u) (hglc : u.glc = s.glc) (hexm : u.exm = s.exm) : Follows s u :=
  of_kept (.of_eq hglc) (fun h => by rw [hexm]; exact ⟨.refl _, rfl⟩) (by rw [hexm]; exact id) hcli

theorem refl (s : State) : Follows s s := of_carried (.refl s) rfl rfl

end Follows

/-! ### Lifts and identities asked for (R111, R114, R127) -/

/-- A command is asked for, and the lift watch may change with it. -/
theorem asked_follows {h : Head} {k : HeadCmd} {s u : State} (hglc : u.glc = s.glc.ask h k) (hcli : u.cli = s.cli)
    (hdrl : u.drl = s.drl) (hheads : u.exm.heads = s.exm.heads) (hsource : u.exm.source = s.exm.source) :
    Follows s u :=
  .of_kept (hglc ▸ ask_linkFollows h k s.glc) (fun x => by rw [hheads]; exact ⟨.refl _, rfl⟩)
    (by rw [hsource]; exact id)
    ((Carried.refl s).same hcli hdrl)

theorem recoveryLift_follows (h : Head) (s : State) : Follows s (recoveryLift h s) := by
  unfold recoveryLift
  split
  · split
    · exact asked_follows (h := h) (k := .lift) rfl rfl rfl rfl rfl
    · exact asked_follows (h := h) (k := .lift) rfl rfl rfl rfl rfl
  · exact .refl s

theorem recoverBoth_follows (s : State) : Follows s (recoverBoth s) :=
  (recoveryLift_follows .front s).trans (recoveryLift_follows .rear _)

theorem askLiftIf_follows (p : HeadState → Bool) (h : Head) (s : State) : Follows s (askLiftIf p h s) := by
  unfold askLiftIf
  split
  · exact asked_follows (h := h) (k := .lift) rfl rfl rfl rfl rfl
  · exact .refl s

theorem askIdentify_follows (h : Head) (s : State) : Follows s (askIdentify h s) := by
  unfold askIdentify
  dsimp only
  split
  · exact asked_follows (h := h) (k := .identify) rfl rfl rfl rfl rfl
  · exact .refl s

theorem storeMark_follows (k : RecordKind) (p : Point) (s : State) : Follows s (storeMark k p s) :=
  .of_carried (Carried.refl s).storeMark (by simp) (by simp)

/-! ### The forced handover (R121, R127) -/

/-- The manager's record of a handover, before its mark and its lifts (R127). -/
def handedOver (k : Trigger) (s : State) : State :=
  s.onExm fun m =>
    { m with ratio := some (formRatio m.window), source := .estimated, removal := .handedOver
             trigger := some k, handoverPoint := some s.latest.index }

theorem handover_eq (k : Trigger) (s : State) :
    handover k s = recoverBoth (askLiftIf (· = .measuring) .rear (askLiftIf (· = .measuring) .front
      (storeMark .handover s.latest (handedOver k s)))) := rfl

theorem handover_follows (k : Trigger) (s : State) : Follows s (handover k s) := by
  have record : Follows s (handedOver k s) :=
    .of_kept (.refl _) (fun _ => ⟨.refl _, rfl⟩) (fun _ => by simp [handedOver]) (Carried.refl s).onExm
  rw [handover_eq]
  exact (((record.trans (storeMark_follows _ _ _)).trans (askLiftIf_follows _ _ _)).trans
    (askLiftIf_follows _ _ _)).trans (recoverBoth_follows _)

/-! ### The end of a test (R39, R104, R117) -/

theorem setHeadState_follows (h : Head) (st : HeadState) (s : State) : Follows s (setHeadState h st s) where
  link := .of_eq (by simp)
  entry k := by
    by_cases hk : k = h
    · subst hk
      unfold setHeadState
      split
      · exact .refl _
      · simpa using enter_entryKept st _
    · rw [setHeadState_other hk]
      exact .refl _
  moved k hne := by
    by_cases hk : k = h
    · subst hk
      exact setHeadState_raises (Ne.symm (by simpa using hne))
    · exact absurd (by rw [setHeadState_other hk]) hne
  source hs := by simpa using hs
  cli := (Carried.refl s).setHeadState.cli

theorem headTestEnd_follows (h : Head) (s : State) : Follows s (headTestEnd h s) := by
  unfold headTestEnd
  split
  · exact setHeadState_follows h .clamped s
  · exact .refl s

/-- The manager's record at the end of a test, when its heads no longer measure and its ZEROs are withdrawn (R104,
R117). -/
def testForgotten (s : State) : State :=
  withdrawWaiting (fun w => w.kind = .zero) (s.onExm fun m =>
    { m with source := .none, frozenStrain := none, removal := .idle, zeroAsked := none
             liftHolds := ⟨false, false⟩
             heads := m.heads.map fun e => { e with testHead := false } })

theorem testForgotten_entry (h : Head) (s : State) :
    (testForgotten s).exm.heads.get h = { s.exm.heads.get h with testHead := false } := by
  cases h <;> rfl

theorem testForgotten_follows (s : State) : Follows s (testForgotten s) := by
  refine .of_kept (withdrawZeros_linkFollows s.glc) (fun h => ?_) (fun _ => by simp [testForgotten])
    ((Carried.refl s).same rfl rfl)
  rw [testForgotten_entry]
  exact ⟨⟨rfl, rfl, rfl, rfl, rfl, id⟩, rfl⟩

theorem extTestEnd_eq (s : State) :
    extTestEnd s =
      if s.exm.source = .extensometer then recoverBoth (testForgotten (headTestEnd .rear (headTestEnd .front s)))
      else testForgotten (headTestEnd .rear (headTestEnd .front s)) := by
  simp only [extTestEnd]
  rfl

theorem extTestEnd_follows (s : State) : Follows s (extTestEnd s) := by
  have forgotten := ((headTestEnd_follows .front s).trans (headTestEnd_follows .rear _)).trans (testForgotten_follows _)
  rw [extTestEnd_eq]
  split
  · exact forgotten.trans (recoverBoth_follows _)
  · exact forgotten

theorem enterEnded_follows (why : EndReason) (cause : Option StartCause) (s : State) :
    Follows s (enterEnded why cause s) := by
  unfold enterEnded
  dsimp only
  have begun : Follows s (evalTestEnd why ((s.onTsq fun t =>
      { t with state := .ended, endReason := some why, startCause := cause, currentSegment := none
               segmentTime := 0, heldReason := none, heldAt := none, pendingEnd := none, startStep := none
               startTareCount := 0, resumeEntry := none }).onDrl Drl.testEnd)) :=
    .of_carried ((Carried.refl s).onTsq.onDrl DriveKept.testEnd).evalTestEnd (by simp) (by simp)
  exact ((begun.trans (extTestEnd_follows _)).trans (storeMark_follows _ _ _)).trans
    (.of_carried (Carried.raise (by decide) (.refl _)) rfl rfl)

/-! ### A head goes to a state (R25, R110, R121) -/

theorem headLeftCheck_follows (h : Head) (before : HeadState) (s : State) : Follows s (headLeftCheck h before s) := by
  unfold headLeftCheck
  split
  · exact enterEnded_follows _ _ s
  · exact .refl s

theorem forcedHandoverCheck_follows (before : HeadState) (s : State) : Follows s (forcedHandoverCheck before s) := by
  unfold forcedHandoverCheck
  split
  · exact handover_follows _ s
  · exact .refl s

theorem headGoes_follows (h : Head) (st : HeadState) (s : State) : Follows s (headGoes h st s) :=
  ((setHeadState_follows h st s).trans (headLeftCheck_follows h _ _)).trans (forcedHandoverCheck_follows _ _)

/-! ### The outcome of a command (R113, R117, R129) -/

theorem liftOutcome_follows (h : Head) (o : SlotOutcome) (s : State) : Follows s (liftOutcome h o s) := by
  have unwatched : Carried s (setWatch h false s) := (Carried.refl s).onExm
  have missed : ∀ holds, Carried s (liftMissed holds (setWatch h false s)) := fun holds => by
    unfold liftMissed
    dsimp only
    split
    · exact unwatched.addNotice.holdCause
    · exact unwatched.addNotice
  have carried : Carried s (liftOutcome h o s) := by
    unfold liftOutcome
    dsimp only
    split
    · cases o with
      | confirmed => exact unwatched
      | unconfirmed => exact missed _
      | failed => exact missed _
    · exact .refl s
  exact .of_kept (.of_eq (by simp)) (fun k => by rw [liftOutcome_heads]; exact ⟨.refl _, rfl⟩) (by simp) carried

theorem clampOutcome_follows (h : Head) (o : SlotOutcome) (s : State) : Follows s (clampOutcome h o s) := by
  unfold clampOutcome
  split
  · exact (headGoes_follows h .present s).trans (recoveryLift_follows h _)
  · exact .refl s

/-- A ZERO that is confirmed where the head's status shows it zeroed already changes no entry. -/
theorem zeroConfirmed_follows {h : Head} {s : State} (hzeroed : (s.exm.heads.get h).zeroed = true) :
    Follows s (zeroConfirmed h s) := by
  have noted : Follows s (onHead h (fun e => { e with zeroed := true }) s) := by
    refine .of_kept (.refl _) (fun k => ?_) (by simp) (Carried.refl s).onExm
    by_cases hk : k = h
    · subst hk
      rw [onHead_get]
      exact ⟨⟨rfl, rfl, hzeroed.symm, rfl, rfl, id⟩, rfl⟩
    · rw [onHead_get_other hk]
      exact ⟨.refl _, rfl⟩
  unfold zeroConfirmed
  dsimp only
  split
  · exact noted.trans (asked_follows (h := .rear) (k := .zero) rfl rfl rfl rfl rfl)
  · exact noted.trans (.of_kept (.refl _) (fun _ => ⟨.refl _, rfl⟩) id (Carried.refl _).onExm.onTsq)

theorem zeroOutcome_follows {h : Head} {o : SlotOutcome} {s : State}
    (hzeroed : o = .confirmed → (s.exm.heads.get h).zeroed = true) : Follows s (zeroOutcome h o s) := by
  unfold zeroOutcome
  split
  · cases o with
    | confirmed => exact zeroConfirmed_follows (hzeroed rfl)
    | unconfirmed => exact enterEnded_follows _ _ s
    | failed => exact enterEnded_follows _ _ s
  · exact .refl s

theorem takeOutcome_follows {h : Head} {k : HeadCmd} {o : SlotOutcome} {s : State}
    (hzeroed : k = .zero → o = .confirmed → (s.exm.heads.get h).zeroed = true) : Follows s (takeOutcome h k o s) := by
  cases k with
  | clamp => exact clampOutcome_follows h o s
  | lift => exact liftOutcome_follows h o s
  | zero => exact zeroOutcome_follows (hzeroed rfl)
  | identify => exact .refl s

/-! ### The states of the heads -/

theorem headTestEnd_rests {h : Head} (k : Head) {s : State} (hm : (s.exm.heads.get h).state ≠ .measuring) :
    ((headTestEnd k s).exm.heads.get h).state = (s.exm.heads.get h).state := by
  unfold headTestEnd
  split
  · next hmeasuring =>
    rw [setHeadState_other fun hk => ?_]
    subst hk
    exact hm hmeasuring
  · rfl

/-- The end of a test moves no head but those that measure (R117). -/
theorem extTestEnd_rests {h : Head} {s : State} (hm : (s.exm.heads.get h).state ≠ .measuring) :
    ((extTestEnd s).exm.heads.get h).state = (s.exm.heads.get h).state := by
  have front := headTestEnd_rests .front hm
  have rear := headTestEnd_rests .rear (front ▸ hm)
  have forgotten : ((testForgotten (headTestEnd .rear (headTestEnd .front s))).exm.heads.get h).state =
      (s.exm.heads.get h).state := by
    rw [testForgotten_entry, ← front, ← rear]
  rw [extTestEnd_eq]
  split
  · simpa using forgotten
  · exact forgotten

theorem enterEnded_rests {h : Head} (why : EndReason) (cause : Option StartCause) {s : State}
    (hm : (s.exm.heads.get h).state ≠ .measuring) :
    ((enterEnded why cause s).exm.heads.get h).state = (s.exm.heads.get h).state := by
  simp only [enterEnded, raise_frame, storeMark_frame]
  exact extTestEnd_rests (by simpa using hm)

theorem headLeftCheck_rests {h : Head} (k : Head) (before : HeadState) {s : State}
    (hm : (s.exm.heads.get h).state ≠ .measuring) :
    ((headLeftCheck k before s).exm.heads.get h).state = (s.exm.heads.get h).state := by
  unfold headLeftCheck
  split
  · exact enterEnded_rests _ _ hm
  · rfl

/-- The head stands in the state that it goes to, whatever that brings on. -/
theorem headGoes_state {h : Head} {st : HeadState} (s : State) (hst : st ≠ .measuring) :
    ((headGoes h st s).exm.heads.get h).state = st := by
  have set := setHeadState_state h st s
  have left := headLeftCheck_rests h (s.exm.heads.get h).state (set ▸ hst)
  have forced : ∀ before (u : State), (forcedHandoverCheck before u).exm.heads = u.exm.heads := fun before u => by
    unfold forcedHandoverCheck
    split <;> simp
  rw [headGoes, forced, left, set]

end Sys2Proof.Proofs
end

section
/-! The end of a transaction (O41; R91 to R97, R105, R107): the link is free, its failure is counted, and what follows
from the result leaves the counts; an accepted READ brings the head's extension. -/

namespace Sys2Proof.Proofs

open Sys2Proof.Machine Sys2Proof.Laws

/-! ### The link's record through a result -/

/-- A head goes to a state, if there is one for it to go to. -/
def goesIf (h : Head) (target : Option HeadState) (s : State) : State :=
  match target with
  | some x => headGoes h x s
  | none => s

theorem goesIf_follows (h : Head) (target : Option HeadState) (s : State) : Follows s (goesIf h target s) := by
  cases target with
  | some x => exact headGoes_follows h x s
  | none => exact .refl s

/-- The head's entry with the status that it has sent (R112). -/
def statusNoted (h : Head) (st : HeadStatus) (s : State) : State :=
  onHead h (fun e => { e with latest := some st, zeroed := st.zeroed, failedPolls := 0 }) s

theorem takeStatus_eq (h : Head) (st : HeadStatus) (s : State) :
    takeStatus h st s =
      recoveryLift h (goesIf h (statusTarget st (s.exm.heads.get h).state) (statusNoted h st s)) := by
  have state : ((statusNoted h st s).exm.heads.get h).state = (s.exm.heads.get h).state := by simp [statusNoted]
  rw [← state]
  rfl

/-- The head's entry with its failed POLLs forgotten (R112). -/
def pollsForgotten (h : Head) (s : State) : State := onHead h (fun e => { e with failedPolls := 0 }) s

theorem takeAck_eq (h : Head) (k : HeadCmd) (s : State) :
    takeAck h k s = goesIf h (ackTarget k (s.exm.heads.get h).state) (pollsForgotten h s) := by
  have state : ((pollsForgotten h s).exm.heads.get h).state = (s.exm.heads.get h).state := by simp [pollsForgotten]
  rw [← state]
  rfl

/-- The head's entry with its identity (R111). -/
def identityNoted (h : Head) (i : Identity) (s : State) : State :=
  onHead h (fun e => { e with identity := some i, failedPolls := 0 }) s

theorem takeIdentity_eq (h : Head) (i : Identity) (s : State) :
    takeIdentity h i s =
      if (s.exm.heads.get h).state = .absent ∨ (s.exm.heads.get h).state = .lost then
        recoveryLift h (headGoes h .present (identityNoted h i s))
      else identityNoted h i s := by
  have state : ((identityNoted h i s).exm.heads.get h).state = (s.exm.heads.get h).state := by simp [identityNoted]
  rw [← state]
  rfl

/-- The head's entry with what its presence had brought forgotten (R112). -/
def headForgotten (h : Head) (s : State) : State :=
  onHead h (fun e => { e with identity := none, latest := none, zeroed := false, failedPolls := 0 }) s

theorem pollsLost_eq (h : Head) (s : State) : pollsLost h s = headGoes h .absent (headForgotten h s) := rfl

theorem takeStatus_link (h : Head) (st : HeadStatus) (s : State) : LinkFollows s.glc (takeStatus h st s).glc := by
  rw [takeStatus_eq]
  exact ((goesIf_follows h _ (statusNoted h st s)).trans (recoveryLift_follows h _)).link

theorem takeAck_link (h : Head) (k : HeadCmd) (s : State) : LinkFollows s.glc (takeAck h k s).glc := by
  rw [takeAck_eq]
  exact (goesIf_follows h _ (pollsForgotten h s)).link

theorem takeIdentity_link (h : Head) (i : Identity) (s : State) : LinkFollows s.glc (takeIdentity h i s).glc := by
  rw [takeIdentity_eq]
  split
  · exact ((headGoes_follows h .present (identityNoted h i s)).trans (recoveryLift_follows h _)).link
  · exact .refl _

theorem pollFailed_link (h : Head) (s : State) : LinkFollows s.glc (pollFailed h s).glc := by
  unfold pollFailed
  split
  · split
    · exact (headGoes_follows h .absent (headForgotten h s)).link
    · exact .refl _
  · exact .refl _

theorem takeResult_link (x : Transaction) (r : TxResult) (s : State) : LinkFollows s.glc (takeResult x r s).glc := by
  unfold takeResult
  split
  · split
    · exact (askIdentify_follows x.head s).link.trans (takeStatus_link _ _ _)
    · exact takeStatus_link x.head _ (onHead x.head _ s)
    · exact takeAck_link _ _ s
    · exact takeIdentity_link _ _ s
    · split
      · exact pollFailed_link _ s
      · exact .refl _
      · exact .refl _
      · exact .refl _
  · exact .refl _

theorem failureCondition_follows (h : Head) (s : State) : Follows s (failureCondition h s) := by
  unfold failureCondition
  dsimp only
  split
  · exact .trans (.of_carried (Carried.refl s).addNotice rfl rfl) (headGoes_follows h .lost _)
  · exact .refl s

theorem beforeSlot_link (x : Transaction) (r : TxResult) (s : State) :
    LinkFollows { s.glc with current := none, heads := s.glc.heads.modify x.head (GlcHead.after r) }
      (beforeSlot x r s).glc := by
  have taken := takeResult_link x r (s.onGlc fun g =>
    { g with current := none, heads := g.heads.modify x.head (GlcHead.after r) })
  unfold beforeSlot
  split
  · exact taken.trans (failureCondition_follows _ _).link
  · exact taken

/-! ### The counts through the slot's turn -/

/-- The link stays free, and its counts and those of the heads stand (R105, R107). -/
structure CountsKept (g g' : Glc) : Prop where
  current : g'.current = g.current
  counters : g'.counters = g.counters
  heads : ∀ h, ∃ c, g'.heads.get h = { g.heads.get h with lastCommand := c }

namespace CountsKept

theorem refl (g : Glc) : CountsKept g g := ⟨rfl, rfl, fun _ => ⟨_, rfl⟩⟩

theorem trans {g g' g'' : Glc} (a : CountsKept g g') (b : CountsKept g' g'') : CountsKept g g'' where
  current := b.current.trans a.current
  counters := b.counters.trans a.counters
  heads h := by
    obtain ⟨c, hc⟩ := a.heads h
    obtain ⟨c', hc'⟩ := b.heads h
    exact ⟨c', by rw [hc', hc]⟩

theorem of_link {g g' : Glc} (h : LinkFollows g g') : CountsKept g g' := by
  rw [h.rest]
  exact ⟨rfl, rfl, fun _ => ⟨_, rfl⟩⟩

end CountsKept

theorem takeOutcome_link (h : Head) (k : HeadCmd) (o : SlotOutcome) (s : State) :
    LinkFollows s.glc (takeOutcome h k o s).glc := by
  by_cases hzero : k = .zero ∧ o = .confirmed
  · obtain ⟨rfl, rfl⟩ := hzero
    unfold takeOutcome zeroOutcome zeroConfirmed
    dsimp only
    repeat' split
    · exact ask_linkFollows .rear .zero s.glc
    · exact .refl _
    · exact .refl _
  · exact (takeOutcome_follows fun hk ho => absurd ⟨hk, ho⟩ hzero).link

theorem freeSlot_counts (g : Glc) : CountsKept g g.freeSlot := by
  unfold Glc.freeSlot
  split
  · exact ⟨rfl, rfl, fun _ => ⟨_, rfl⟩⟩
  · exact ⟨rfl, rfl, fun _ => ⟨_, rfl⟩⟩

theorem freeCommand_counts (c : SlotCommand) (o : SlotOutcome) (s : State) :
    CountsKept s.glc (freeCommand c o s).glc := by
  have noted : CountsKept s.glc (outcomeNoted c o s).glc := by
    refine ⟨rfl, rfl, fun h => ?_⟩
    simp only [outcomeNoted, onGlc_glc, perHead_get_modify_eq]
    split
    · exact ⟨_, rfl⟩
    · exact ⟨_, rfl⟩
  rw [freeCommand_glc]
  exact (noted.trans (.of_link (takeOutcome_link _ _ _ _))).trans (freeSlot_counts _)

theorem slotCompletion_counts (x : Transaction) (r : TxResult) (b : Bool) (u : State) :
    CountsKept u.glc (slotCompletion x r b u).glc := by
  have ended : ∀ c, CountsKept u.glc (slotTransactionEnd c r u).glc := fun c => by
    unfold slotTransactionEnd
    repeat' split
    · exact freeCommand_counts _ _ u
    · exact freeCommand_counts _ _ u
    · exact ⟨rfl, rfl, fun _ => ⟨_, rfl⟩⟩
  unfold slotCompletion
  repeat' split
  · exact .refl _
  · exact .refl _
  · exact ended _
  · exact .refl _
  · exact freeCommand_counts _ _ u
  · exact freeCommand_counts _ _ u
  · exact .refl _
  · exact .refl _
  · exact .refl _

/-! ### The whole completion -/

/-- The link after the transaction `x` of the state `s` has ended with the result `r` (R93, R105, R107). -/
structure LinkEnded (x : Transaction) (r : TxResult) (s t : State) : Prop where
  free : t.glc.current = none
  fromSlot : t.glc.lastFromSlot = decide (x.source = .slot)
  counters : t.glc.counters = s.glc.counters.after r
  head : ∃ c, t.glc.heads.get x.head = { (s.glc.heads.get x.head).after r with lastCommand := c }

theorem completeTransaction_linkEnded (x : Transaction) (r : TxResult) (s : State) :
    LinkEnded x r s (completeTransaction x r s) := by
  have kept := CountsKept.trans (.of_link (beforeSlot_link x r s))
    (slotCompletion_counts x r (signalledBy x r s) (beforeSlot x r s))
  obtain ⟨c, hc⟩ := kept.heads x.head
  rw [completeTransaction_eq]
  refine ⟨kept.current, rfl, congrArg (GaugeCounters.after r) kept.counters, c, ?_⟩
  simpa [endCounted] using hc

/-- The counts of a head after a failed transaction (R105). -/
theorem LinkEnded.failed {x : Transaction} {why : FailureKind} {s t : State} (h : LinkEnded x (.failure why) s t) :
    let a := s.glc.heads.get x.head
    let b := t.glc.heads.get x.head
    (t.glc.current = none ∧ t.glc.lastFromSlot = decide (x.source = .slot)) ∧ b.limit = a.limit ∧
    b.consecutive = (if a.limit ≤ a.consecutive + 1 then 0 else a.consecutive + 1) ∧
    b.total = min 65535 (a.total + 1) ∧ b.lastFailure = why := by
  obtain ⟨c, hc⟩ := h.head
  simp only [hc, GlcHead.after, satSucc_max16]
  exact ⟨⟨h.free, h.fromSlot⟩, trivial, trivial, trivial, trivial⟩

theorem exec_gaugeReplyTimeout {s : State} {x : Transaction} (began : Bool) (hin : s.inReset = false)
    (hx : s.glc.current = some x) :
    exec (.gaugeReplyTimeout began) s = .next (completeTransaction x (.failure (timeoutKind began)) s) := by
  have runs : exec (.gaugeReplyTimeout began) s = .next (replyTimeout began s) := live_running _ s hin
  rw [runs]
  simp [replyTimeout, hx]

theorem acceptReply_failure {h : Head} {o : GaugeOp} {bs : List Byte} {why : FailureKind}
    (hfails : acceptReply h o bs = .failure why) : why = .badCheck := by
  unfold acceptReply at hfails
  dsimp only at hfails
  repeat' split at hfails
  · cases hfails
  · exact (TxResult.failure.inj hfails).symm
  · exact (TxResult.failure.inj hfails).symm

/-- A complete reply that carries nothing its operation defines ends the transaction as BAD_CHECK (R92). -/
theorem exec_gaugeTransactionEnd_badCheck {s : State} {x : Transaction} {bs : List Byte} (hin : s.inReset = false)
    (hx : s.glc.current = some x) (hlength : bs.length = x.op.length)
    (hnone : ∀ payload d, x.op.carries payload d → bs ≠ x.op.reply x.head payload) :
    exec (.gaugeTransactionEnd bs) s = .next (completeTransaction x (.failure .badCheck) s) := by
  rw [exec_gaugeTransactionEnd hin hx (by rw [hlength, messageLength_eq])]
  cases haccept : acceptReply x.head x.op bs with
  | failure why => rw [acceptReply_failure haccept]
  | success d =>
    obtain ⟨payload, hcarries, heq⟩ := acceptReply_success.1 haccept
    exact absurd heq (hnone payload d hcarries)

theorem exec_gaugeTransactionEnd_success {s : State} {x : Transaction} {payload : List Byte} {d : TxData}
    (hin : s.inReset = false) (hx : s.glc.current = some x) (hcarries : x.op.carries payload d) :
    exec (.gaugeTransactionEnd (x.op.reply x.head payload)) s = .next (completeTransaction x (.success d) s) := by
  rw [exec_gaugeTransactionEnd hin hx (reply_length (carries_length hcarries)),
    acceptReply_success.2 ⟨payload, hcarries, rfl⟩]

theorem exec_gaugeTransactionEnd_short {s : State} {x : Transaction} {bs : List Byte} (hin : s.inReset = false)
    (hx : s.glc.current = some x) (hlength : bs.length < x.op.length) : exec (.gaugeTransactionEnd bs) s = .next s := by
  have runs : exec (.gaugeTransactionEnd bs) s = .next (replyEnd bs s) := live_running _ s hin
  rw [runs]
  simp [replyEnd, hx, messageLength_eq, Nat.not_le.2 hlength]

end Sys2Proof.Proofs
end

section
/-! What the slot's turn makes of a transaction that ended SUCCESS (R102, R103): it frees the command in the slot, takes
it to CONFIRMING, or leaves it as it stands, and leaves what the result has made of the heads. -/

namespace Sys2Proof.Proofs

open Sys2Proof.Machine Sys2Proof.Laws

/-! ### The slot's turn -/

/-- The slot's command `c` is on the link by the transaction `x`. -/
abbrev OwnedBy (x : Transaction) (c : SlotCommand) : Prop := c.phase = .onLink ∧ x.source = .slot

/-- The transaction `x`, ended SUCCESS with `d`, frees the slot's command `c` CONFIRMED: its own IDENTIFY, or a status
of its head that shows what it wants (R102). -/
def FreedBy (x : Transaction) (d : TxData) (c : SlotCommand) : Prop :=
  OwnedBy x c ∧ c.kind = .identify ∨
  c.phase = .confirming ∧ x.head = c.head ∧ ∃ st, (TxResult.success d).status = some st ∧ confirms c.kind st = true

/-- The slot's turn concerns neither a command on the link by another transaction nor one of the other head. -/
theorem slotCompletion_other {x : Transaction} {r : TxResult} {b : Bool} {u : State}
    (hother : ∀ c, u.glc.slot = some c → ¬ OwnedBy x c ∧ (c.phase = .confirming → x.head ≠ c.head)) :
    slotCompletion x r b u = u := by
  unfold slotCompletion
  split
  · rfl
  · next c hslot =>
    obtain ⟨hown, hhead⟩ := hother c hslot
    split
    · rfl
    · next hphase => rw [if_neg fun hsource => hown ⟨hphase, hsource⟩]
    · next hphase => rw [if_neg (hhead hphase)]

theorem slotCompletion_freed {x : Transaction} {d : TxData} {c : SlotCommand} {u : State}
    (hslot : u.glc.slot = some c) (hfreed : FreedBy x d c) :
    slotCompletion x (.success d) false u = freeCommand c .confirmed u := by
  rcases hfreed with ⟨⟨hphase, hsource⟩, hkind⟩ | ⟨hphase, hhead, st, hstatus, hconfirms⟩
  · simp [slotCompletion, hslot, hphase, hsource, slotTransactionEnd, hkind]
  · exact slotCompletion_confirmed hslot hphase hhead hstatus hconfirms

theorem slotCompletion_acknowledged {x : Transaction} {d : TxData} {c : SlotCommand} {u : State}
    (hslot : u.glc.slot = some c) (hown : OwnedBy x c) (hkind : c.kind ≠ .identify) :
    slotCompletion x (.success d) false u =
      u.onGlc fun g => { g with slot := some { c with phase := .confirming, timeLeft := 4000, pollDue := false } } := by
  simp [slotCompletion, hslot, hown, slotTransactionEnd, hkind, confirmationPoints]

theorem slotCompletion_stands {x : Transaction} {d : TxData} {u : State}
    (hstands : ∀ c, u.glc.slot = some c → ¬ OwnedBy x c ∧ ¬ FreedBy x d c) :
    slotCompletion x (.success d) false u = u := by
  unfold slotCompletion
  split
  · rfl
  · next c hslot =>
    obtain ⟨hown, hnot⟩ := hstands c hslot
    split
    · rfl
    · next hphase => rw [if_neg fun hsource => hown ⟨hphase, hsource⟩]
    · next hphase =>
      split
      · next hhead =>
        rw [if_neg (by decide)]
        split
        · next st hstatus => rw [if_neg fun hconfirms => hnot (.inr ⟨hphase, hhead, st, hstatus, hconfirms⟩)]
        · rfl
      · rfl

/-! ### What it leaves -/

/-- From `u` to `t` the slot's turn has left the heads and a test that has ended, and every command that stands but for
the ZEROs and the command that `x` frees. -/
structure Settled (x : Transaction) (d : TxData) (u t : State) : Prop where
  entry : ∀ h, EntryKept (u.exm.heads.get h) (t.exm.heads.get h)
  state : ∀ h, (t.exm.heads.get h).state = (u.exm.heads.get h).state
  pending : ∀ k, u.cli.pending.has k = true → t.cli.pending.has k = true
  ended : u.tsq.state = .ended → t.tsq = u.tsq
  stands : ∀ h k, k ≠ .zero → u.glc.stands h k = true →
    (∀ c, u.glc.slot = some c → c.head = h → c.kind = k → ¬ FreedBy x d c) → t.glc.stands h k = true

theorem Settled.refl (x : Transaction) (d : TxData) (u : State) : Settled x d u u :=
  ⟨fun _ => .refl _, fun _ => rfl, fun _ h => h, fun _ => rfl, fun _ _ _ h _ => h⟩

theorem zeroConfirmed_state (h k : Head) (s : State) :
    ((zeroConfirmed h s).exm.heads.get k).state = (s.exm.heads.get k).state := by
  have noted : ((onHead h (fun e => { e with zeroed := true }) s).exm.heads.get k).state =
      (s.exm.heads.get k).state := by
    by_cases hk : k = h
    · subst hk; simp
    · rw [onHead_get_other hk]
  unfold zeroConfirmed
  dsimp only
  split
  · exact noted
  · exact noted

/-- A command that is confirmed moves no head. -/
theorem takeOutcome_confirmed_state (h k : Head) (j : HeadCmd) (s : State) :
    ((takeOutcome h j .confirmed s).exm.heads.get k).state = (s.exm.heads.get k).state := by
  cases j with
  | clamp => simp [takeOutcome, clampOutcome]
  | lift => rw [takeOutcome, liftOutcome_heads]
  | zero =>
    unfold takeOutcome zeroOutcome
    dsimp only
    split
    · exact zeroConfirmed_state h k s
    · rfl
  | identify => rfl

theorem freeCommand_settled {x : Transaction} {d : TxData} {c : SlotCommand} {u : State}
    (hslot : u.glc.slot = some c) (hfreed : FreedBy x d c)
    (hzeroed : c.kind = .zero → (u.exm.heads.get c.head).zeroed = true) :
    Settled x d u (freeCommand c .confirmed u) := by
  have follows : Follows (outcomeNoted c .confirmed u)
      (takeOutcome c.head c.kind .confirmed (outcomeNoted c .confirmed u)) :=
    takeOutcome_follows fun hk _ => hzeroed hk
  have states := fun h => takeOutcome_confirmed_state c.head h c.kind (outcomeNoted c .confirmed u)
  have ended := takeOutcome_ended (h := c.head) (k := c.kind) (o := .confirmed) (s := outcomeNoted c .confirmed u)
  have freed := freeCommand_freedFrom c .confirmed u
  generalize takeOutcome c.head c.kind .confirmed (outcomeNoted c .confirmed u) = w at follows states ended freed
  refine ⟨fun h => ?_, fun h => ?_, fun k hk => freed.pending k (follows.cli.pending k hk),
    fun hq => freed.tsq.trans (ended hq), fun h k hk hstands hother => (freed.stands h k).2 ?_⟩
  · rw [freed.exm]; exact follows.entry h
  · rw [freed.exm]; exact states h
  · exact (stands_iff_mem (follows.link.slot c hslot) fun hsame => hother c hslot hsame.1 hsame.2 hfreed).1
      (follows.link.stands h k hk hstands)

/-- The command that has been acknowledged stands as before, but for its phase. -/
theorem acknowledged_settled {x : Transaction} {d : TxData} {c : SlotCommand} {u : State}
    (hslot : u.glc.slot = some c) :
    Settled x d u (u.onGlc fun g =>
      { g with slot := some { c with phase := .confirming, timeLeft := 4000, pollDue := false } }) :=
  ⟨fun _ => .refl _, fun _ => rfl, fun _ h => h, fun _ => rfl, fun _ _ _ h _ => by simpa [Glc.stands, hslot] using h⟩

/-- The slot's turn after a success, where a status that shows the head zeroed has been taken. -/
theorem slotCompletion_settled {x : Transaction} {d : TxData} {u : State}
    (hzeroed : ∀ st, (TxResult.success d).status = some st → st.zeroed = true →
      (u.exm.heads.get x.head).zeroed = true) :
    Settled x d u (slotCompletion x (.success d) false u) := by
  by_cases hfreed : ∃ c, u.glc.slot = some c ∧ FreedBy x d c
  · obtain ⟨c, hslot, hfreed⟩ := hfreed
    rw [slotCompletion_freed hslot hfreed]
    refine freeCommand_settled hslot hfreed fun hk => ?_
    rcases hfreed with ⟨-, hkind⟩ | ⟨-, hhead, st, hstatus, hconfirms⟩
    · exact absurd (hk.symm.trans hkind) (by decide)
    · rw [hk] at hconfirms
      rw [← hhead]
      exact hzeroed st hstatus hconfirms
  by_cases hown : ∃ c, u.glc.slot = some c ∧ OwnedBy x c
  · obtain ⟨c, hslot, hown⟩ := hown
    rw [slotCompletion_acknowledged hslot hown fun hkind => hfreed ⟨c, hslot, .inl ⟨hown, hkind⟩⟩]
    exact acknowledged_settled hslot
  · rw [slotCompletion_stands fun c hslot => ⟨fun h => hown ⟨c, hslot, h⟩, fun h => hfreed ⟨c, hslot, h⟩⟩]
    exact .refl x d u

/-! ### The result and the slot's turn together -/

theorem completeTransaction_success (x : Transaction) (d : TxData) (s : State) :
    completeTransaction x (.success d) s =
      endCounted x (.success d) (slotCompletion x (.success d) false (resultTaken x (.success d) s)) := rfl

theorem statusTaken_entry (h : Head) (st : HeadStatus) (s : State) :
    EntryKept { s.exm.heads.get h with latest := some st, zeroed := st.zeroed, failedPolls := 0 }
      ((takeStatus h st s).exm.heads.get h) := by
  have follows := (goesIf_follows h (statusTarget st (s.exm.heads.get h).state) (statusNoted h st s)).trans
    (recoveryLift_follows h _)
  rw [takeStatus_eq]
  simpa [statusNoted] using follows.entry h

/-- The state in which a head's status is taken: after the IDENTIFY that a POLL of a missing head asks for (R111), or
with the extension that a READ brings (R95). -/
def beforeStatus (h : Head) (d : TxData) (s : State) : State :=
  match d with
  | .extension v _ => onHead h (fun e => { e with lastGood := v, readOk := true }) s
  | .status _ | .ack _ | .identity _ => askIdentify h s

/-- The state in which a transaction's result is taken: the link is free and the head's failure is counted (R93,
R105). -/
def linkFreed (x : Transaction) (r : TxResult) (s : State) : State :=
  s.onGlc fun g => { g with current := none, heads := g.heads.modify x.head (GlcHead.after r) }

theorem resultTaken_eq (x : Transaction) (r : TxResult) (s : State) :
    resultTaken x r s = takeResult x r (linkFreed x r s) := rfl

theorem resultTaken_status {x : Transaction} {d : TxData} {st : HeadStatus} {s : State}
    (hconfigured : (s.exm.heads.get x.head).configured = true) (hd : d = .status st ∨ ∃ e, d = .extension e st) :
    resultTaken x (.success d) s =
      takeStatus x.head st (beforeStatus x.head d (linkFreed x (.success d) s)) := by
  rw [resultTaken_eq]
  rcases hd with rfl | ⟨e, rfl⟩
  · exact if_pos hconfigured
  · exact if_pos hconfigured

/-! ### O41 -/

/-- An accepted READ brings the extension of a configured head (R95). -/
theorem read_isTaken {x : Transaction} {v : Int} {st : HeadStatus} {s : State}
    (hconfigured : (s.exm.heads.get x.head).configured = true) :
    let a := (completeTransaction x (.success (.extension v st)) s).exm.heads.get x.head
    a.lastGood = v ∧ a.readOk = true := by
  have entry := statusTaken_entry x.head st
    (beforeStatus x.head (.extension v st) (linkFreed x (.success (.extension v st)) s))
  rw [← resultTaken_status (s := s) hconfigured (.inr ⟨v, rfl⟩)] at entry
  have settled := slotCompletion_settled (x := x) (d := .extension v st)
    (u := resultTaken x (.success (.extension v st)) s) fun st' hst hz => by
      rw [entry.zeroed, show st = st' from Option.some.inj hst, hz]
  have last := entry.trans (settled.entry x.head)
  rw [completeTransaction_success]
  refine ⟨last.lastGood.trans ?_, last.readOk.trans ?_⟩ <;> simp [beforeStatus]

/-- Settles O41: the completion of a transaction ends it in the link's record, by the result that the command brings. -/
theorem transactionsEnd : Obligations.TransactionsEnd := by
  unfold Obligations.TransactionsEnd
  intro s x hin hx
  dsimp only
  refine ⟨⟨_, exec_gaugeReplyTimeout false hin hx, ?_⟩, ⟨_, exec_gaugeReplyTimeout true hin hx, ?_⟩,
    fun reply hlength hnone => ⟨_, exec_gaugeTransactionEnd_badCheck hin hx hlength hnone, ?_⟩,
    fun payload d hcarries => ⟨?_, _, exec_gaugeTransactionEnd_success hin hx hcarries, ?_⟩,
    fun reply hlength => exec_gaugeTransactionEnd_short hin hx hlength⟩
  · have ended := completeTransaction_linkEnded x (.failure .noReply) s
    exact ⟨ended.failed, by rw [← satSucc_max32]; exact ended.counters⟩
  · have ended := completeTransaction_linkEnded x (.failure .truncated) s
    exact ⟨ended.failed, by rw [← satSucc_max32]; exact ended.counters⟩
  · have ended := completeTransaction_linkEnded x (.failure .badCheck) s
    exact ⟨ended.failed, by rw [← satSucc_max32]; exact ended.counters⟩
  · rw [reply_length (carries_length hcarries), messageLength_eq]
  · obtain ⟨free, fromSlot, counters, c, hc⟩ := completeTransaction_linkEnded x (.success d) s
    simp only [hc, GlcHead.after]
    refine ⟨⟨free, fromSlot⟩, counters, trivial, trivial, trivial, trivial, fun e st hd hconfigured => ?_⟩
    subst hd
    exact read_isTaken hconfigured

end Sys2Proof.Proofs
end

section
/-! A head that moves in the course of a completion, and the heads that are lost (O43; R25, R103, R105, R110, R112,
R115, R121). -/

namespace Sys2Proof.Proofs

open Sys2Proof.Machine Sys2Proof.Laws

/-! ### A head moves (R25, R110) -/

/-- From `s` to `t` a start that had the head `h`, CLAMPED, for its own has failed (R25). -/
def StartFails (h : Head) (s t : State) : Prop :=
  s.tsq.state = .starting → (s.exm.heads.get h).testHead = true → (s.exm.heads.get h).state = .clamped →
    t.tsq.state = .ended ∧ t.tsq.endReason = some .startFailed ∧ t.tsq.startCause = some .headLeft

/-- From `s` to `u` the head `h` has come to the state `q`, with what follows from it. -/
structure HeadMoved (h : Head) (q : HeadState) (s u : State) : Prop where
  follows : Follows s u
  state : (u.exm.heads.get h).state = q
  starts : q ≠ .clamped → StartFails h s u

theorem headGoes_moved (h : Head) {q : HeadState} (s : State) (hq : q ≠ .measuring) :
    HeadMoved h q s (headGoes h q s) := by
  refine ⟨headGoes_follows h q s, headGoes_state s hq, fun hleft hstart htest hclamped => ?_⟩
  have leaves : headGoes h q s = failStart .headLeft (setHeadState h q s) := by
    simp [headGoes, headLeftCheck, forcedHandoverCheck, hstart, htest, hclamped, hleft]
  rw [leaves, failStart, enterEnded_tsq]
  exact ⟨rfl, rfl, rfl⟩

theorem goesIf_moved (h : Head) {target : Option HeadState} (s : State) (htarget : target ≠ some .measuring) :
    HeadMoved h (target.getD (s.exm.heads.get h).state) s (goesIf h target s) := by
  cases target with
  | some q => exact headGoes_moved h s fun hq => htarget (congrArg some hq)
  | none => exact ⟨.refl s, rfl, fun hleft _ _ hclamped => absurd hclamped hleft⟩

theorem HeadMoved.recovers {h : Head} {q : HeadState} {s u : State} (a : HeadMoved h q s u) :
    HeadMoved h q s (recoveryLift h u) where
  follows := a.follows.trans (recoveryLift_follows h u)
  state := by simpa using a.state
  starts hq := by simpa [StartFails] using a.starts hq

/-! ### The failure condition (R105, R115) -/

/-- The head `h` is LOST in `t`, with HEAD_LOST, its count begun again, and what it had brought kept (R105, R115). -/
structure HeadLost (h : Head) (s t : State) : Prop where
  state : (t.exm.heads.get h).state = .lost
  entry : EntryKept (s.exm.heads.get h) (t.exm.heads.get h)
  count : (t.glc.heads.get h).consecutive = 0
  noticed : t.cli.notices.has .headLost = true
  notice : t.cli.pending.has .notice = true
  moved : t.cli.pending.has .headState = true

/-- A head that measures or lifts is lost by its failure condition. -/
theorem afterFailureCondition_lost {h : Head} {s : State}
    (hstate : (s.exm.heads.get h).state = .measuring ∨ (s.exm.heads.get h).state = .lifting) :
    HeadLost h s (afterFailureCondition h s) := by
  have goes : afterFailureCondition h s = headGoes h .lost (addNotice .headLost (s.onGlc fun g =>
      { g with heads := g.heads.modify h fun x => { x with consecutive := 0 } })) := if_pos hstate
  obtain ⟨follows, lost, -⟩ := headGoes_moved h (q := .lost) (addNotice .headLost (s.onGlc fun g =>
    { g with heads := g.heads.modify h fun x => { x with consecutive := 0 } })) (by decide)
  obtain ⟨c, hc⟩ := (CountsKept.of_link follows.link).heads h
  rw [goes]
  refine ⟨lost, follows.entry h, by simp [hc], follows.cli.notices .headLost rfl, follows.cli.pending .notice rfl,
    follows.moved h ?_⟩
  rw [lost]
  rcases hstate with hstate | hstate <;> simp [hstate]

/-- The outcome of a command leaves its head where it stands, unless it measures or clamps. -/
theorem takeOutcome_rests {h : Head} {k : HeadCmd} {o : SlotOutcome} {s : State}
    (hm : (s.exm.heads.get h).state ≠ .measuring) (hc : (s.exm.heads.get h).state ≠ .clamping) :
    ((takeOutcome h k o s).exm.heads.get h).state = (s.exm.heads.get h).state := by
  cases k with
  | clamp => rw [takeOutcome, clampOutcome_other fun h => hc h.2]
  | lift => rw [takeOutcome, liftOutcome_heads]
  | zero =>
    unfold takeOutcome zeroOutcome
    dsimp only
    split
    · cases o with
      | confirmed => exact zeroConfirmed_state h h s
      | unconfirmed => exact enterEnded_rests _ _ hm
      | failed => exact enterEnded_rests _ _ hm
    · rfl
  | identify => rfl

/-- A head stays lost when the command that was being confirmed for it is freed. -/
theorem HeadLost.freed {c : SlotCommand} {s u : State} (a : HeadLost c.head s u) :
    HeadLost c.head s (freeCommand c .unconfirmed u) := by
  have follows : Follows (outcomeNoted c .unconfirmed u)
      (takeOutcome c.head c.kind .unconfirmed (outcomeNoted c .unconfirmed u)) := takeOutcome_follows fun _ => nofun
  have rests := takeOutcome_rests (h := c.head) (k := c.kind) (o := .unconfirmed) (s := outcomeNoted c .unconfirmed u)
    (by rw [show ((outcomeNoted c .unconfirmed u).exm.heads.get c.head).state = .lost from a.state]; decide)
    (by rw [show ((outcomeNoted c .unconfirmed u).exm.heads.get c.head).state = .lost from a.state]; decide)
  have freed := freeCommand_freedFrom c .unconfirmed u
  obtain ⟨last, hlast⟩ := (freeCommand_counts c .unconfirmed u).heads c.head
  refine ⟨?_, ?_, ?_, ?_, freed.pending _ (follows.cli.pending _ a.notice),
    freed.pending _ (follows.cli.pending _ a.moved)⟩
  · rw [freed.exm, rests]
    exact a.state
  · rw [freed.exm]
    exact a.entry.trans (follows.entry c.head)
  · rw [hlast]
    exact a.count
  · rw [freed.notices]
    exact follows.cli.notices _ a.noticed

theorem confirmingFor_some {h : Head} {g : Glc} {c : SlotCommand} (hc : g.confirmingFor h = some c) : c.head = h := by
  unfold Glc.confirmingFor at hc
  split at hc
  · split at hc
    · next hconfirming => rw [← Option.some.inj hc]; exact hconfirming.2
    · cases hc
  · cases hc

theorem confirmingFor_none {h : Head} {g : Glc} (hnone : ∀ c, g.slot = some c → c.phase = .confirming → c.head ≠ h) :
    g.confirmingFor h = none := by
  unfold Glc.confirmingFor
  split
  · next c hslot => rw [if_neg fun hc => hnone c hslot hc.1 hc.2]
  · rfl

theorem headFails_idle {h : Head} {s : State} (hc : (afterFailureCondition h s).glc.confirmingFor h = none) :
    headFails h s = afterFailureCondition h s := by
  unfold afterFailureCondition at hc ⊢
  simp only [headFails, hc]

theorem headFails_lost {h : Head} {s : State}
    (hstate : (s.exm.heads.get h).state = .measuring ∨ (s.exm.heads.get h).state = .lifting) :
    HeadLost h s (headFails h s) := by
  have lost := afterFailureCondition_lost hstate
  cases hc : (afterFailureCondition h s).glc.confirmingFor h with
  | none => rw [headFails_idle hc]; exact lost
  | some c =>
    rw [headFails_confirming hc]
    obtain rfl := confirmingFor_some hc
    exact lost.freed

/-- Where the head neither measures nor lifts, and no command of it is being confirmed, its count alone changes. -/
theorem headFails_counts {h : Head} {s : State} (hm : (s.exm.heads.get h).state ≠ .measuring)
    (hl : (s.exm.heads.get h).state ≠ .lifting)
    (hnone : ∀ c, s.glc.slot = some c → c.phase = .confirming → c.head ≠ h) :
    headFails h s = { s with glc := { s.glc with
      heads := s.glc.heads.set h { s.glc.heads.get h with consecutive := 0 } } } := by
  have rests : afterFailureCondition h s = s.onGlc fun g =>
      { g with heads := g.heads.modify h fun x => { x with consecutive := 0 } } := if_neg (not_or.2 ⟨hm, hl⟩)
  rw [headFails_idle (by rw [rests]; exact confirmingFor_none hnone), rests]
  rfl

/-! ### The third failed POLL (R112) -/

theorem countsPolls_iff (q : HeadState) : q.countsPolls = true ↔ q = .present ∨ q = .clamping ∨ q = .clamped := by
  cases q <;> simp [HeadState.countsPolls]

/-- A head that its POLLs have lost: ABSENT, with what its presence had brought cleared, and a start of its own failed
(R112, R25). -/
theorem pollsLost_outcome {h : Head} {s : State} (hcounts : (s.exm.heads.get h).state.countsPolls = true) :
    let t := pollsLost h s
    let a := t.exm.heads.get h
    a.state = .absent ∧ a.identity = none ∧ a.latest = none ∧ a.zeroed = false ∧ a.failedPolls = 0 ∧
    t.cli.pending.has .headState = true ∧ StartFails h s t := by
  obtain ⟨follows, absent, starts⟩ := headGoes_moved h (q := .absent) (headForgotten h s) (by decide)
  have entry := follows.entry h
  simp only [headForgotten, onHead_get] at entry
  rw [pollsLost_eq]
  refine ⟨absent, entry.identity, entry.latest, entry.zeroed, entry.noPolls rfl, follows.moved h ?_, ?_⟩
  · rw [absent, headForgotten, onHead_get]
    intro hsame
    rw [← hsame] at hcounts
    cases hcounts
  · simpa [StartFails, headForgotten] using starts (by decide)

/-! ### O43 -/

theorem exec_failedPollLimit {h : Head} {s : State} (hin : s.inReset = false) :
    exec (.failedPollLimit h) s = .next
      (if (s.exm.heads.get h).configured && (s.exm.heads.get h).state.countsPolls then pollsLost h s else s) :=
  live_running (failedPolls h) s hin

/-- Settles O43: the failure condition by the state of the head, the failed POLLs by the states that count them. -/
theorem headsAreLost : Obligations.HeadsAreLost := by
  unfold Obligations.HeadsAreLost
  refine ⟨fun s h hin => ?_, fun s h hin => ?_⟩
  · have runs : exec (.headFailureCondition h) s = .next (headFails h s) := live_running _ s hin
    refine ⟨fun hstate => ?_, fun hm hl hnone => by rw [runs, headFails_counts hm hl hnone]⟩
    have lost := headFails_lost hstate
    exact ⟨_, runs, lost.state, lost.entry.identity, lost.entry.zeroed, lost.entry.lastGood, lost.count, lost.noticed,
      lost.notice, lost.moved⟩
  · dsimp only
    simp only [exec_failedPollLimit hin]
    refine ⟨fun hconfigured hstate => ?_, fun hnot => ?_⟩
    · have counts := (countsPolls_iff _).2 hstate
      exact ⟨_, congrArg _ (if_pos (by rw [hconfigured, counts]; rfl)), pollsLost_outcome counts⟩
    · rw [if_neg]
      rw [Bool.and_eq_true, countsPolls_iff]
      rintro ⟨hconfigured, hstate⟩
      rcases hnot with hnot | ⟨hp, hc, hd⟩
      · rw [hnot] at hconfigured
        cases hconfigured
      · exact hstate.elim hp (·.elim hc hd)

end Sys2Proof.Proofs
end

section
/-! The strain handed over by a LIFT that takes the last measuring head off the specimen (R121, R123, R127). -/

namespace Sys2Proof.Proofs

open Sys2Proof.Machine Sys2Proof.Laws

/-! ### What a handover leaves of the manager's record -/

/-- The lift watch alone has changed of the manager's record. -/
def WatchOnly (m m' : Exm) : Prop := ∃ watch holds, m' = { m with liftWatch := watch, liftHolds := holds }

theorem WatchOnly.refl (m : Exm) : WatchOnly m m := ⟨_, _, rfl⟩

theorem WatchOnly.trans {m m' m'' : Exm} (a : WatchOnly m m') (b : WatchOnly m' m'') : WatchOnly m m'' := by
  obtain ⟨_, _, rfl⟩ := a
  obtain ⟨watch, holds, rfl⟩ := b
  exact ⟨watch, holds, rfl⟩

theorem askLiftIf_watchOnly (p : HeadState → Bool) (h : Head) (s : State) : WatchOnly s.exm (askLiftIf p h s).exm := by
  unfold askLiftIf
  split
  · exact ⟨_, _, rfl⟩
  · exact .refl _

theorem recoveryLift_watchOnly (h : Head) (s : State) : WatchOnly s.exm (recoveryLift h s).exm := by
  unfold recoveryLift
  split
  · split
    · exact ⟨_, _, rfl⟩
    · exact .refl _
  · exact .refl _

/-- The mark and the lifts of a handover change the lift watch alone of the manager's record. -/
theorem handover_watchOnly (k : Trigger) (s : State) : WatchOnly (handedOver k s).exm (handover k s).exm := by
  have mark : (storeMark .handover s.latest (handedOver k s)).exm = (handedOver k s).exm := by simp
  rw [handover_eq, ← mark]
  exact (((askLiftIf_watchOnly _ .front _).trans (askLiftIf_watchOnly _ .rear _)).trans
    (recoveryLift_watchOnly .front _)).trans (recoveryLift_watchOnly .rear _)

theorem storeMark_ring (k : RecordKind) (p : Point) (s : State) :
    ∃ r, (storeMark k p s).sms.ring = s.sms.ring ++ [r] ∧ r.kind = k ∧ r.segment = none ∧
      r.point = { p with flags := { p.flags with thinned := r.point.flags.thinned } } :=
  ⟨_, storeRecord_ring true k none p _, rfl, rfl, rfl⟩

theorem handover_sms (k : Trigger) (s : State) :
    (handover k s).sms = (storeMark .handover s.latest (handedOver k s)).sms := by
  rw [handover_eq]
  simp

theorem formRatio_window {q : List (Int × Int)} {oldest newest : Int × Int} (hhead : q.head? = some oldest)
    (hlast : q.getLast? = some newest) :
    formRatio q =
      { kind := if 2 ≤ q.length ∧ 1000 ≤ newest.1 - oldest.1 ∧ 0 < newest.2 - oldest.2 then .window else .nominal
        travelH := newest.1, strainH := newest.2
        deltaTravel := newest.1 - oldest.1, deltaStrain := newest.2 - oldest.2 } := by
  simp only [formRatio, hhead, hlast]

/-- A handover from `w` where no head measures, seen from `s`, whose ring and latest point stand in `w`. -/
theorem handover_outcome {k : Trigger} {s w t : State} (hexm : t.exm = (handover k w).exm)
    (hsms : t.sms = (handover k w).sms) (hring : w.sms = s.sms) (hlatest : w.latest = s.latest)
    (hrest : ∀ h, (w.exm.heads.get h).state ≠ .measuring) : s.handedOverOn t k s.latest := by
  obtain ⟨watch, holds, exm⟩ := handover_watchOnly k w
  rw [← hexm] at exm
  have source : t.exm.source = .estimated := by rw [exm]; rfl
  have removal : t.exm.removal = .handedOver := by rw [exm]; rfl
  have trigger : t.exm.trigger = some k := by rw [exm]; rfl
  have point : t.exm.handoverPoint = some s.latest.index := by rw [exm, ← hlatest]; rfl
  have heads : t.exm.heads = w.exm.heads := by rw [exm]; rfl
  have window : t.exm.window = w.exm.window := by rw [exm]; rfl
  have ratio : t.exm.ratio = some (formRatio t.exm.window) := by rw [window, exm]; rfl
  have marked : s.marked t .handover s.latest := by
    obtain ⟨r, joined, kind, segment, copied⟩ := storeMark_ring .handover w.latest (handedOver k w)
    refine ⟨[], r, [], ?_, kind, segment, hlatest ▸ copied⟩
    rw [hsms, handover_sms, joined, ← hring]
    simp [handedOver]
  refine ⟨source, removal, trigger, point, marked, fun h hmeasures => ?_, fun hempty => ?_,
    fun oldest newest hhead hlast => ?_⟩
  · rw [heads] at hmeasures
    exact absurd hmeasures (hrest h)
  · rw [ratio, hempty]
    rfl
  · rw [ratio, formRatio_window hhead hlast]

/-- The last measuring head goes LIFTING, and the strain is handed over (R121). -/
theorem headGoes_handsOver {h : Head} {s : State} (hmeasuring : (s.exm.heads.get h).state = .measuring)
    (hsource : s.exm.source = .extensometer) (hin : s.inTest = true)
    (hrest : ∀ k, ((setHeadState h .lifting s).exm.heads.get k).state ≠ .measuring) :
    headGoes h .lifting s = handover .headLost (setHeadState h .lifting s) := by
  have none : ((setHeadState h .lifting s).exm.heads.count fun e => e.state = .measuring) = 0 :=
    Nat.eq_zero_of_not_pos fun hpos => by
      obtain ⟨k, hk⟩ := perHead_count_pos.1 hpos
      exact hrest k (by simpa using hk)
  have tested : (setHeadState h .lifting s).inTest = true := by simpa [State.inTest] using hin
  simp [headGoes, headLeftCheck, forcedHandoverCheck, hmeasuring, hsource, tested, none]

theorem other_head {h k : Head} (hne : k ≠ h) : k = if h = .front then .rear else .front := by
  cases h <;> cases k <;> simp at hne ⊢

theorem setHeadState_noneMeasures {h : Head} {s : State}
    (hother : (s.exm.heads.get (if h = .front then .rear else .front)).state ≠ .measuring) (k : Head) :
    ((setHeadState h .lifting s).exm.heads.get k).state ≠ .measuring := by
  by_cases hk : k = h
  · subst hk; simp
  · rwa [setHeadState_other hk, other_head hk]

end Sys2Proof.Proofs
end

section
/-! What the result of a transaction does to its head and to the slot (O42; R102, R103, R111 to R114, R117, R121, R129):
the entry noted, the head moved, and the slot's turn. -/

namespace Sys2Proof.Proofs

open Sys2Proof.Machine Sys2Proof.Laws

/-! ### The head after the slot's turn -/

/-- From the entry noted in `v` to `t` the head `h` has come to the state `q`, with HEAD_STATE and the end of a start
(R25, R110). -/
structure HeadTaken (h : Head) (q : HeadState) (v t : State) : Prop where
  entry : EntryKept (v.exm.heads.get h) (t.exm.heads.get h)
  state : (t.exm.heads.get h).state = q
  moved : q ≠ (v.exm.heads.get h).state → t.cli.pending.has .headState = true
  starts : q ≠ .clamped → StartFails h v t

theorem HeadMoved.settled {h : Head} {q : HeadState} {v u t : State} {x : Transaction} {d : TxData}
    (a : HeadMoved h q v u) (b : Settled x d u t) : HeadTaken h q v t where
  entry := (a.follows.entry h).trans (b.entry h)
  state := (b.state h).trans a.state
  moved hne := b.pending _ (a.follows.moved h (by rwa [a.state]))
  starts hq hstart htest hclamped := by
    have ended := a.starts hq hstart htest hclamped
    rwa [b.ended ended.1]

theorem StartFails.of_reads {h : Head} {s v t : State} (a : StartFails h v t) (htsq : v.tsq = s.tsq)
    (htest : (v.exm.heads.get h).testHead = (s.exm.heads.get h).testHead)
    (hstate : (v.exm.heads.get h).state = (s.exm.heads.get h).state) : StartFails h s t := by
  unfold StartFails
  rw [← htsq, ← htest, ← hstate]
  exact a

/-- The recovery lift of a PRESENT head, when its entry was noted in `v` with the arms not LIFTED (R114). -/
theorem recoveryLift_asks {h : Head} {v w : State} {st : HeadStatus} (follows : Follows v w)
    (hlatest : (v.exm.heads.get h).latest = some st) (harms : st.arms ≠ .lifted)
    (hsource : v.exm.source ≠ .extensometer) (hpresent : ((recoveryLift h w).exm.heads.get h).state = .present) :
    (recoveryLift h w).glc.stands h .lift = true :=
  recoveryLift_stands (by simpa using hpresent) ((follows.entry h).latest.trans hlatest) harms (follows.source hsource)

/-! ### A status (R112 to R114) -/

theorem confirms_iff_shows (k : HeadCmd) (st : HeadStatus) : confirms k st = true ↔ st.shows k := by
  cases k <;> simp [confirms, HeadStatus.shows]

theorem freedBy_status {x : Transaction} {d : TxData} {st : HeadStatus} {c : SlotCommand}
    (hd : d = .status st ∨ ∃ e, d = .extension e st) (hown : ¬ OwnedBy x c) :
    FreedBy x d c ↔ c.phase = .confirming ∧ c.head = x.head ∧ st.shows c.kind := by
  simp only [FreedBy, hown, false_and, false_or, carries_status hd, Option.some.injEq, exists_eq_left',
    confirms_iff_shows, eq_comm (a := x.head)]

theorem statusTarget_shown {st : HeadStatus} (harms : st.arms = .clamped) (hseated : st.seated = true) :
    statusTarget st .clamping = some .clamped := if_pos ⟨harms, hseated⟩

theorem statusTarget_opened {st : HeadStatus} {q : HeadState} (hq : q = .clamped ∨ q = .lifting)
    (harms : st.arms = .lifted) : statusTarget st q = some .present := by
  rcases hq with rfl | rfl <;> exact if_pos harms

theorem statusTarget_none {st : HeadStatus} {q : HeadState}
    (hshown : ¬ (q = .clamping ∧ st.arms = .clamped ∧ st.seated = true))
    (hopened : ¬ ((q = .clamped ∨ q = .lifting) ∧ st.arms = .lifted)) : statusTarget st q = none := by
  cases q with
  | clamping => exact if_neg fun h => hshown ⟨rfl, h⟩
  | clamped => exact if_neg fun h => hopened ⟨.inl rfl, h⟩
  | lifting => exact if_neg fun h => hopened ⟨.inr rfl, h⟩
  | absent => rfl
  | present => rfl
  | measuring => rfl
  | lost => rfl

theorem statusTarget_ne_measuring (st : HeadStatus) (q : HeadState) : statusTarget st q ≠ some .measuring := by
  unfold statusTarget
  repeat' split
  all_goals nofun

theorem takeStatus_moved (h : Head) (st : HeadStatus) (s : State) :
    HeadMoved h ((statusTarget st (s.exm.heads.get h).state).getD (s.exm.heads.get h).state) (statusNoted h st s)
      (takeStatus h st s) := by
  have state : ((statusNoted h st s).exm.heads.get h).state = (s.exm.heads.get h).state := by simp [statusNoted]
  have moved := goesIf_moved h (statusNoted h st s) (statusTarget_ne_measuring st (s.exm.heads.get h).state)
  rw [takeStatus_eq]
  rw [state] at moved
  exact moved.recovers

theorem takeStatus_lifts {h : Head} {st : HeadStatus} {s : State}
    (hpresent : ((takeStatus h st s).exm.heads.get h).state = .present) (harms : st.arms ≠ .lifted)
    (hsource : s.exm.source ≠ .extensometer) : (takeStatus h st s).glc.stands h .lift = true := by
  rw [takeStatus_eq] at hpresent ⊢
  exact recoveryLift_asks (goesIf_follows h _ (statusNoted h st s)) (by simp [statusNoted]) harms
    (by simpa [statusNoted] using hsource) hpresent

/-- Before a status is taken the test and the source stand, and of the head's entry all but the value of a READ. -/
theorem beforeStatus_reads (h : Head) (d : TxData) (s : State) :
    (beforeStatus h d s).tsq = s.tsq ∧ (beforeStatus h d s).exm.source = s.exm.source ∧
    ∃ v ok, (beforeStatus h d s).exm.heads.get h = { s.exm.heads.get h with lastGood := v, readOk := ok } := by
  cases d with
  | extension v st => exact ⟨rfl, rfl, v, true, by simp [beforeStatus]⟩
  | _ =>
    refine ⟨(askIdentify_frame h s).2.1, ?_, (s.exm.heads.get h).lastGood, (s.exm.heads.get h).readOk, ?_⟩ <;>
      simp [beforeStatus]

/-- The head after a status has been taken and the slot has had its turn. -/
theorem status_headTaken {x : Transaction} {d : TxData} {st : HeadStatus} {s : State}
    (hconfigured : (s.exm.heads.get x.head).configured = true) (hd : d = .status st ∨ ∃ e, d = .extension e st) :
    let e := s.exm.heads.get x.head
    let u := resultTaken x (.success d) s
    let t := slotCompletion x (.success d) false u
    Settled x d u t ∧
    HeadTaken x.head ((statusTarget st e.state).getD e.state)
      (statusNoted x.head st (beforeStatus x.head d (linkFreed x (.success d) s))) t := by
  have moved := takeStatus_moved x.head st (beforeStatus x.head d (linkFreed x (.success d) s))
  obtain ⟨-, -, v, ok, entry⟩ := beforeStatus_reads x.head d (linkFreed x (.success d) s)
  rw [← resultTaken_status hconfigured hd, entry] at moved
  have settled := slotCompletion_settled (x := x) (d := d) (u := resultTaken x (.success d) s) fun st' hst hz => by
    rw [(moved.follows.entry x.head).zeroed, statusNoted, onHead_get]
    rwa [carries_status hd, Option.some.injEq, ← hst] at *
  exact ⟨settled, moved.settled settled⟩

end Sys2Proof.Proofs
end

section
/-! The four kinds of result in their heads and in the slot, and the obligation (O42). -/

namespace Sys2Proof.Proofs

open Sys2Proof.Machine Sys2Proof.Laws

/-! ### A status -/

/-- What a status makes of its head (R112 to R114). -/
def StatusShown (h : Head) (st : HeadStatus) (s t : State) : Prop :=
  let e := s.exm.heads.get h
  let a := t.exm.heads.get h
  let shown := e.state = .clamping ∧ st.arms = .clamped ∧ st.seated = true
  let opened := (e.state = .clamped ∨ e.state = .lifting) ∧ st.arms = .lifted
  a.identity = e.identity ∧ a.latest = some st ∧ a.zeroed = st.zeroed ∧ a.failedPolls = 0 ∧
  (a.state ≠ e.state → t.cli.pending.headState = true) ∧ (shown → a.state = .clamped) ∧
  (opened → a.state = .present ∧ StartFails h s t) ∧ (¬ shown → ¬ opened → a.state = e.state)

section
variable {x : Transaction} {d : TxData} {st : HeadStatus} {s : State}

theorem status_isShown (hconfigured : (s.exm.heads.get x.head).configured = true)
    (hd : d = .status st ∨ ∃ e, d = .extension e st) :
    StatusShown x.head st s (completeTransaction x (.success d) s) := by
  obtain ⟨-, entry, state, moved, starts⟩ := status_headTaken hconfigured hd
  obtain ⟨htsq, -, v, ok, before⟩ := beforeStatus_reads x.head d (linkFreed x (.success d) s)
  have same : (linkFreed x (.success d) s).exm = s.exm := rfl
  rw [completeTransaction_success]
  generalize slotCompletion x (.success d) false (resultTaken x (.success d) s) = t at *
  simp only [statusNoted, onHead_get, before, same] at entry moved
  have fails : (statusTarget st (s.exm.heads.get x.head).state).getD (s.exm.heads.get x.head).state ≠ .clamped →
      StartFails x.head s t := fun hq =>
    (starts hq).of_reads htsq (by simp [statusNoted, before, same]) (by simp [statusNoted, before, same])
  refine ⟨entry.identity, entry.latest, entry.zeroed, entry.noPolls rfl, fun hne => moved (state ▸ hne), ?_, ?_, ?_⟩
  · rintro ⟨hclamping, harms, hseated⟩
    exact state.trans (by rw [hclamping, statusTarget_shown harms hseated]; rfl)
  · rintro ⟨hstate, harms⟩
    rw [statusTarget_opened hstate harms] at state fails
    exact ⟨state, fails (by simp)⟩
  · intro hshown hopened
    exact state.trans (by rw [statusTarget_none hshown hopened]; rfl)

/-- A command that the slot held, or that has entered it since, is not on the link by `x`. -/
theorem resultTaken_notOwned (hother : ∀ c, s.glc.slot = some c → ¬ OwnedBy x c) {r : TxResult} {c : SlotCommand}
    (hslot : (resultTaken x r s).glc.slot = some c) : ¬ OwnedBy x c := by
  rcases (takeResult_link x r (linkFreed x r s)).entered c hslot with hbefore | hwaits
  · exact hother c hbefore
  · exact fun hown => absurd (hwaits.symm.trans hown.1) (by decide)

/-- A missing head that answers a POLL is to be identified (R111). -/
theorem status_asksIdentify (hconfigured : (s.exm.heads.get x.head).configured = true)
    (hother : ∀ c, s.glc.slot = some c → ¬ OwnedBy x c)
    (hmissing : (s.exm.heads.get x.head).state = .absent ∨ (s.exm.heads.get x.head).state = .lost) :
    (completeTransaction x (.success (.status st)) s).glc.stands x.head .identify = true := by
  obtain ⟨settled, -⟩ := status_headTaken (d := .status st) hconfigured (.inl rfl)
  have asked : (beforeStatus x.head (.status st) (linkFreed x (.success (.status st)) s)).glc.stands x.head .identify =
      true := by
    have asks : beforeStatus x.head (.status st) (linkFreed x (.success (.status st)) s) =
        askCommand x.head .identify (linkFreed x (.success (.status st)) s) := if_pos hmissing
    rw [asks]
    exact ask_stands _ _ _
  have stands := (takeStatus_link x.head st _).stands _ _ (by decide) asked
  rw [← resultTaken_status hconfigured (.inl rfl)] at stands
  refine settled.stands _ _ (by decide) stands fun c hslot _ hkind => ?_
  rw [freedBy_status (.inl rfl) (resultTaken_notOwned hother hslot), hkind]
  exact fun hfreed => hfreed.2.2

/-- A head that stands PRESENT with its arms not LIFTED is to be lifted (R114). -/
theorem status_asksLift (hconfigured : (s.exm.heads.get x.head).configured = true)
    (hd : d = .status st ∨ ∃ e, d = .extension e st) (hother : ∀ c, s.glc.slot = some c → ¬ OwnedBy x c)
    (hpresent : ((completeTransaction x (.success d) s).exm.heads.get x.head).state = .present)
    (harms : st.arms ≠ .lifted) (hsource : s.exm.source ≠ .extensometer) :
    (completeTransaction x (.success d) s).glc.stands x.head .lift = true := by
  obtain ⟨settled, -⟩ := status_headTaken hconfigured hd
  obtain ⟨-, source, -⟩ := beforeStatus_reads x.head d (linkFreed x (.success d) s)
  have present : ((resultTaken x (.success d) s).exm.heads.get x.head).state = .present :=
    (settled.state x.head).symm.trans hpresent
  have stands : (resultTaken x (.success d) s).glc.stands x.head .lift = true := by
    rw [resultTaken_status hconfigured hd] at present ⊢
    exact takeStatus_lifts present harms (by rw [source]; exact hsource)
  refine settled.stands _ _ (by decide) stands fun c hslot _ hkind => ?_
  rw [freedBy_status hd (resultTaken_notOwned hother hslot), hkind]
  exact fun hfreed => harms hfreed.2.2

theorem liftOutcome_confirmed_watch (h : Head) (s : State) :
    (liftOutcome h .confirmed s).exm.liftWatch.get h = false := by
  cases hwatch : s.exm.liftWatch.get h with
  | false => rw [liftOutcome_unwatched hwatch, hwatch]
  | true => simp [liftOutcome, hwatch, setWatch]

/-- A status frees the slot's CONFIRMING command of its head where it shows what the command wants, and leaves any
other as it stands (R102). -/
theorem status_slot (hd : d = .status st ∨ ∃ e, d = .extension e st)
    (hother : ∀ c, s.glc.slot = some c → ¬ OwnedBy x c) {c : SlotCommand} (hslot : s.glc.slot = some c) :
    let t := completeTransaction x (.success d) s
    (c.phase = .confirming → c.head = x.head → st.shows c.kind → c.freedIn .confirmed t ∧
      (c.kind = .lift → t.exm.liftWatch.get x.head = false)) ∧
    (c.phase ≠ .confirming ∨ c.head ≠ x.head ∨ ¬ st.shows c.kind → t.glc.slot = some c) := by
  have slot : (resultTaken x (.success d) s).glc.slot = some c := (takeResult_link x _ (linkFreed x _ s)).slot c hslot
  have freed := freedBy_status hd (hother c hslot)
  dsimp only
  rw [completeTransaction_success]
  refine ⟨fun hphase hhead hshows => ?_, fun hnot => ?_⟩
  · rw [slotCompletion_freed slot (freed.2 ⟨hphase, hhead, hshows⟩)]
    refine ⟨endCounted_freedIn _ _ (freeCommand_freedIn _ _ _), fun hlift => ?_⟩
    show (freeCommand c .confirmed _).exm.liftWatch.get x.head = false
    rw [(freeCommand_freedFrom _ _ _).exm, hlift, ← hhead]
    exact liftOutcome_confirmed_watch _ _
  · rw [slotCompletion_stands fun c' hc' => ?_]
    · exact slot
    · obtain rfl : c' = c := Option.some.inj (hc'.symm.trans slot)
      refine ⟨hother c' hslot, fun hfreed => ?_⟩
      obtain ⟨hphase, hhead, hshows⟩ := freed.1 hfreed
      exact hnot.elim (· hphase) (·.elim (· hhead) (· hshows))

end

/-! ### The acknowledgement of a COMMAND (R113, R114) -/

section
variable {x : Transaction} {k : HeadCmd} {s : State}

theorem ackTarget_ne_measuring (k : HeadCmd) (q : HeadState) : ackTarget k q ≠ some .measuring := by
  unfold ackTarget
  repeat' split
  all_goals nofun

theorem resultTaken_ack (hconfigured : (s.exm.heads.get x.head).configured = true) :
    resultTaken x (.success (.ack k)) s =
      goesIf x.head (ackTarget k (s.exm.heads.get x.head).state)
        (pollsForgotten x.head (linkFreed x (.success (.ack k)) s)) := by
  have taken : resultTaken x (.success (.ack k)) s = takeAck x.head k (linkFreed x (.success (.ack k)) s) :=
    if_pos hconfigured
  rw [taken, takeAck_eq]
  rfl

/-- The head after its command has been acknowledged. -/
theorem ack_headTaken (hconfigured : (s.exm.heads.get x.head).configured = true) :
    let e := s.exm.heads.get x.head
    let t := slotCompletion x (.success (.ack k)) false (resultTaken x (.success (.ack k)) s)
    HeadTaken x.head ((ackTarget k e.state).getD e.state)
      (pollsForgotten x.head (linkFreed x (.success (.ack k)) s)) t := by
  have moved := goesIf_moved x.head (pollsForgotten x.head (linkFreed x (.success (.ack k)) s))
    (ackTarget_ne_measuring k (s.exm.heads.get x.head).state)
  have state : ((pollsForgotten x.head (linkFreed x (.success (.ack k)) s)).exm.heads.get x.head).state =
      (s.exm.heads.get x.head).state := by simp [pollsForgotten, linkFreed]
  rw [← resultTaken_ack hconfigured, state] at moved
  exact moved.settled (slotCompletion_settled nofun)

theorem ack_head (hconfigured : (s.exm.heads.get x.head).configured = true) :
    let e := s.exm.heads.get x.head
    let t := completeTransaction x (.success (.ack k)) s
    let a := t.exm.heads.get x.head
    (a.identity = e.identity ∧ a.latest = e.latest ∧ a.zeroed = e.zeroed ∧ a.failedPolls = 0) ∧
    (a.state ≠ e.state → t.cli.pending.headState = true) ∧
    a.state = (ackTarget k e.state).getD e.state ∧ (a.state ≠ .clamped → StartFails x.head s t) := by
  obtain ⟨entry, state, moved, starts⟩ := ack_headTaken (k := k) hconfigured
  have same : (linkFreed x (.success (.ack k)) s).exm = s.exm := rfl
  rw [completeTransaction_success]
  generalize slotCompletion x (.success (.ack k)) false (resultTaken x (.success (.ack k)) s) = t at *
  simp only [pollsForgotten, onHead_get, same] at entry moved
  exact ⟨⟨entry.identity, entry.latest, entry.zeroed, entry.noPolls rfl⟩, fun hne => moved (state ▸ hne), state,
    fun hq => (starts (state ▸ hq)).of_reads rfl (by simp [pollsForgotten, same]) (by simp [pollsForgotten, same])⟩

theorem ackTarget_clamp : ackTarget .clamp .present = some .clamping := rfl

theorem ackTarget_lift {q : HeadState} (hq : q = .present ∨ q = .clamping ∨ q = .clamped ∨ q = .measuring) :
    ackTarget .lift q = some .lifting := if_pos hq

theorem ackTarget_none {k : HeadCmd} {q : HeadState}
    (hstays : k = .zero ∨ k = .clamp ∧ q ≠ .present ∨
      k = .lift ∧ ¬ (q = .present ∨ q = .clamping ∨ q = .clamped ∨ q = .measuring)) : ackTarget k q = none := by
  rcases hstays with rfl | ⟨rfl, hq⟩ | ⟨rfl, hq⟩
  · rfl
  · exact if_neg hq
  · exact if_neg hq

/-- A command that has been acknowledged is CONFIRMING from then on (R102). -/
theorem ack_slot {c : SlotCommand} (hslot : s.glc.slot = some c) (hown : OwnedBy x c) (hkind : c.kind ≠ .identify) :
    let u := resultTaken x (.success (.ack k)) s
    let t := completeTransaction x (.success (.ack k)) s
    t.glc.slot = some { c with phase := .confirming, timeLeft := 4000, pollDue := false } ∧
    t.exm = u.exm ∧ t.sms = u.sms := by
  have slot : (resultTaken x (.success (.ack k)) s).glc.slot = some c :=
    (takeResult_link x _ (linkFreed x _ s)).slot c hslot
  dsimp only
  rw [completeTransaction_success, slotCompletion_acknowledged slot hown hkind]
  generalize resultTaken x (.success (.ack k)) s = u
  exact ⟨rfl, rfl, rfl⟩

/-- The acknowledgement of a LIFT of the last measuring head hands the strain over (R121). -/
theorem ackLift_handsOver (hconfigured : (s.exm.heads.get x.head).configured = true)
    (hmeasuring : (s.exm.heads.get x.head).state = .measuring)
    (hother : (s.exm.heads.get (if x.head = .front then .rear else .front)).state ≠ .measuring)
    (hsource : s.exm.source = .extensometer) (hin : s.inTest = true) :
    ∃ w, resultTaken x (.success (.ack .lift)) s = handover .headLost w ∧ w.sms = s.sms ∧ w.latest = s.latest ∧
      ∀ h, (w.exm.heads.get h).state ≠ .measuring := by
  have target : ackTarget .lift (s.exm.heads.get x.head).state = some .lifting := by rw [hmeasuring]; rfl
  have taken := resultTaken_ack (k := .lift) hconfigured
  rw [target] at taken
  obtain ⟨v, hv⟩ : ∃ v, v = pollsForgotten x.head (linkFreed x (.success (.ack .lift)) s) := ⟨_, rfl⟩
  have states : ∀ h, (v.exm.heads.get h).state = (s.exm.heads.get h).state := fun h => by
    rw [hv]
    by_cases hh : h = x.head
    · subst hh; simp [pollsForgotten, linkFreed]
    · rw [pollsForgotten, onHead_get_other hh]; rfl
  have kept : v.tsq = s.tsq ∧ v.exm.source = s.exm.source ∧ v.sms = s.sms ∧ v.latestPoint = s.latestPoint := by
    rw [hv]; exact ⟨rfl, rfl, rfl, rfl⟩
  obtain ⟨htsq, hsourced, hsms, hlatest⟩ := kept
  rw [← hv] at taken
  have rest := setHeadState_noneMeasures (h := x.head) (s := v) (by rwa [states])
  refine ⟨setHeadState x.head .lifting v, taken.trans (headGoes_handsOver ?_ ?_ ?_ rest), ?_, ?_, rest⟩
  · rw [states, hmeasuring]
  · rw [hsourced, hsource]
  · rwa [State.inTest, htsq]
  · simpa using hsms
  · simp [State.latest, hlatest]

end

/-! ### The identity that an IDENTIFY brings (R111) -/

section
variable {x : Transaction} {i : Identity} {s : State}

theorem resultTaken_identity (hconfigured : (s.exm.heads.get x.head).configured = true) :
    resultTaken x (.success (.identity i)) s = takeIdentity x.head i (linkFreed x (.success (.identity i)) s) :=
  if_pos hconfigured

/-- The state in which an IDENTIFY leaves a head: PRESENT, where it was missing (R111). -/
def identifiedState (q : HeadState) : HeadState := if q = .absent ∨ q = .lost then .present else q

theorem takeIdentity_moved (h : Head) (i : Identity) (s : State) :
    HeadMoved h (identifiedState (s.exm.heads.get h).state) (identityNoted h i s) (takeIdentity h i s) := by
  rw [takeIdentity_eq, identifiedState]
  split
  · exact (headGoes_moved h _ (by decide)).recovers
  · next hfound =>
    have state : ((identityNoted h i s).exm.heads.get h).state = (s.exm.heads.get h).state := by simp [identityNoted]
    exact ⟨.refl _, state, fun hleft _ _ hclamped => absurd (state.symm.trans hclamped) hleft⟩

theorem identity_headTaken (hconfigured : (s.exm.heads.get x.head).configured = true) :
    let u := resultTaken x (.success (.identity i)) s
    let t := slotCompletion x (.success (.identity i)) false u
    Settled x (.identity i) u t ∧
    HeadTaken x.head (identifiedState (s.exm.heads.get x.head).state)
      (identityNoted x.head i (linkFreed x (.success (.identity i)) s)) t := by
  have moved := takeIdentity_moved x.head i (linkFreed x (.success (.identity i)) s)
  rw [← resultTaken_identity hconfigured] at moved
  have settled := slotCompletion_settled (x := x) (d := .identity i)
    (u := resultTaken x (.success (.identity i)) s) nofun
  exact ⟨settled, moved.settled settled⟩

theorem identity_head (hconfigured : (s.exm.heads.get x.head).configured = true) :
    let e := s.exm.heads.get x.head
    let t := completeTransaction x (.success (.identity i)) s
    let a := t.exm.heads.get x.head
    (a.identity = some i ∧ a.latest = e.latest ∧ a.zeroed = e.zeroed ∧ a.failedPolls = 0) ∧
    (a.state ≠ e.state → t.cli.pending.headState = true) ∧ a.state = identifiedState e.state := by
  obtain ⟨-, entry, state, moved, -⟩ := identity_headTaken (i := i) hconfigured
  have same : (linkFreed x (.success (.identity i)) s).exm = s.exm := rfl
  rw [completeTransaction_success]
  generalize slotCompletion x (.success (.identity i)) false (resultTaken x (.success (.identity i)) s) = t at *
  simp only [identityNoted, onHead_get, same] at entry moved
  exact ⟨⟨entry.identity, entry.latest, entry.zeroed, entry.noPolls rfl⟩, fun hne => moved (state ▸ hne), state⟩

/-- The slot's own IDENTIFY is freed CONFIRMED (R111). -/
theorem identity_isFreed {c : SlotCommand} (hslot : s.glc.slot = some c) (hown : OwnedBy x c)
    (hkind : c.kind = .identify) : c.freedIn .confirmed (completeTransaction x (.success (.identity i)) s) := by
  have slot : (resultTaken x (.success (.identity i)) s).glc.slot = some c :=
    (takeResult_link x _ (linkFreed x _ s)).slot c hslot
  rw [completeTransaction_success, slotCompletion_freed slot (.inl ⟨hown, hkind⟩)]
  exact endCounted_freedIn _ _ (freeCommand_freedIn _ _ _)

/-- A head that an IDENTIFY has found, with its arms not LIFTED, is to be lifted (R111, R114). -/
theorem identity_asksLift {c : SlotCommand} {st : HeadStatus}
    (hconfigured : (s.exm.heads.get x.head).configured = true) (hslot : s.glc.slot = some c)
    (hkind : c.kind = .identify)
    (hfound : (s.exm.heads.get x.head).state = .absent ∨ (s.exm.heads.get x.head).state = .lost)
    (hlatest : (s.exm.heads.get x.head).latest = some st)
    (hpresent : ((completeTransaction x (.success (.identity i)) s).exm.heads.get x.head).state = .present)
    (harms : st.arms ≠ .lifted) (hsource : s.exm.source ≠ .extensometer) :
    (completeTransaction x (.success (.identity i)) s).glc.stands x.head .lift = true := by
  obtain ⟨settled, -⟩ := identity_headTaken (i := i) hconfigured
  have slot : (resultTaken x (.success (.identity i)) s).glc.slot = some c :=
    (takeResult_link x _ (linkFreed x _ s)).slot c hslot
  have present : ((resultTaken x (.success (.identity i)) s).exm.heads.get x.head).state = .present :=
    (settled.state x.head).symm.trans hpresent
  have stands : (resultTaken x (.success (.identity i)) s).glc.stands x.head .lift = true := by
    have found : resultTaken x (.success (.identity i)) s = recoveryLift x.head
        (headGoes x.head .present (identityNoted x.head i (linkFreed x (.success (.identity i)) s))) :=
      (resultTaken_identity hconfigured).trans ((takeIdentity_eq _ _ _).trans (if_pos hfound))
    rw [found] at present ⊢
    exact recoveryLift_asks (headGoes_follows x.head .present (identityNoted x.head i (linkFreed x _ s)))
      (by simpa [identityNoted, linkFreed] using hlatest) harms hsource present
  refine settled.stands _ _ (by decide) stands fun c' hc' _ hlift => ?_
  obtain rfl : c' = c := Option.some.inj (hc'.symm.trans slot)
  exact absurd (hkind.symm.trans hlift) (by decide)

end

/-! ### A POLL that fails (R112) -/

section
variable {x : Transaction} {why : FailureKind} {s : State}

/-- A failed transaction of a head that neither measures nor lifts, while the slot holds no command of it, ends with
its result. -/
theorem completeTransaction_quiet
    (hslot : ∀ c, s.glc.slot = some c → c.head ≠ x.head ∧ (c.phase = .onLink → x.source ≠ .slot))
    (hm : ((resultTaken x (.failure why) s).exm.heads.get x.head).state ≠ .measuring)
    (hl : ((resultTaken x (.failure why) s).exm.heads.get x.head).state ≠ .lifting) :
    completeTransaction x (.failure why) s = endCounted x (.failure why) (resultTaken x (.failure why) s) := by
  have unlost : failureCondition x.head (resultTaken x (.failure why) s) = resultTaken x (.failure why) s :=
    if_neg (not_or.2 ⟨hm, hl⟩)
  have before : beforeSlot x (.failure why) s = resultTaken x (.failure why) s := by
    rw [beforeSlot, unlost, ite_self]
  rw [completeTransaction_eq, before, slotCompletion_other fun c hc => ?_]
  rcases (takeResult_link x (.failure why) (linkFreed x _ s)).entered c hc with hbefore | hwaits
  · obtain ⟨hhead, hown⟩ := hslot c hbefore
    exact ⟨fun ⟨hphase, hsource⟩ => hown hphase hsource, fun _ hsame => hhead hsame.symm⟩
  · exact ⟨fun ⟨hphase, _⟩ => absurd (hwaits.symm.trans hphase) (by decide),
      fun hphase => absurd (hwaits.symm.trans hphase) (by decide)⟩

theorem resultTaken_pollFailed (hconfigured : (s.exm.heads.get x.head).configured = true) (hop : x.op = .poll) :
    resultTaken x (.failure why) s = pollFailed x.head (linkFreed x (.failure why) s) := by
  have configured : ((linkFreed x (.failure why) s).exm.heads.get x.head).configured = true := hconfigured
  rw [resultTaken_eq, takeResult, if_pos configured, hop]

/-- What a failed POLL makes of its head: one more failed POLL, the loss of the head with the third, and nothing in the
states that do not count them (R112). -/
theorem pollFailed_outcome (h : Head) (s : State) :
    let e := s.exm.heads.get h
    (e.state.countsPolls = true → e.failedPolls + 1 < 3 →
      (pollFailed h s).exm.heads.get h = { e with failedPolls := e.failedPolls + 1 }) ∧
    (e.state.countsPolls = true → 3 ≤ e.failedPolls + 1 → pollFailed h s = pollsLost h s) ∧
    (e.state.countsPolls = false → pollFailed h s = s) := by
  refine ⟨fun hcounts hfew => ?_, fun hcounts hthird => ?_, fun hnot => ?_⟩
  · rw [pollFailed, if_pos hcounts, if_neg (Nat.not_le.2 hfew), onHead_get]
  · rw [pollFailed, if_pos hcounts, if_pos hthird]
  · rw [pollFailed, if_neg (by rw [hnot]; decide)]

/-- What a failed POLL leaves of its head, when the slot holds no command of it (R112). -/
theorem pollFailure_isTaken (hconfigured : (s.exm.heads.get x.head).configured = true) (hop : x.op = .poll)
    (hslot : ∀ c, s.glc.slot = some c → c.head ≠ x.head ∧ (c.phase = .onLink → x.source ≠ .slot)) :
    let e := s.exm.heads.get x.head
    let t := completeTransaction x (.failure why) s
    let a := t.exm.heads.get x.head
    let counts := e.state = .present ∨ e.state = .clamping ∨ e.state = .clamped
    (counts → e.failedPolls + 1 < 3 → a = { e with failedPolls := e.failedPolls + 1 }) ∧
    (counts → 3 ≤ e.failedPolls + 1 → a.state = .absent ∧ a.identity = none ∧ a.latest = none ∧ a.zeroed = false ∧
      a.failedPolls = 0 ∧ t.cli.pending.headState = true ∧ StartFails x.head s t) ∧
    (¬ counts → e.state ≠ .measuring → e.state ≠ .lifting → a = e) := by
  obtain ⟨few, third, uncounted⟩ := pollFailed_outcome x.head (linkFreed x (.failure why) s)
  have taken := resultTaken_pollFailed (why := why) hconfigured hop
  have quiet := completeTransaction_quiet (why := why) hslot
  dsimp only
  refine ⟨fun hcounts hfew => ?_, fun hcounts hthird => ?_, fun hnot hm hl => ?_⟩
  · have entry := few ((countsPolls_iff _).2 hcounts) hfew
    rw [← taken] at entry
    rw [quiet]
    · exact entry
    · rw [entry]
      intro hm
      exact absurd (hm ▸ hcounts) (by decide)
    · rw [entry]
      intro hl
      exact absurd (hl ▸ hcounts) (by decide)
  · have counts := (countsPolls_iff _).2 hcounts
    have lost := pollsLost_outcome (s := linkFreed x (.failure why) s) counts
    rw [← third counts hthird, ← taken] at lost
    rw [quiet (by rw [lost.1]; decide) (by rw [lost.1]; decide)]
    exact lost
  · rw [← countsPolls_iff, Bool.not_eq_true] at hnot
    have same := uncounted hnot
    rw [← taken] at same
    rw [quiet (by rw [same]; exact hm) (by rw [same]; exact hl), same]
    rfl

end

/-! ### O42 -/

/-- The slot's own transaction that fails frees its command FAILED (R102). -/
theorem ownFailure_frees {x : Transaction} {c : SlotCommand} (why : FailureKind) {s : State}
    (hslot : s.glc.slot = some c) (hown : OwnedBy x c) :
    c.freedIn .failed (completeTransaction x (.failure why) s) := by
  rw [completeTransaction_eq,
    slotCompletion_ownFailure ((beforeSlot_link x (.failure why) s).slot c hslot) hown.1 hown.2]
  exact endCounted_freedIn _ _ (freeCommand_freedIn _ _ _)

/-- Settles O42: the completion by the kind of its result, in the head's entry and state and in the slot. -/
theorem repliesMoveHeads : Obligations.RepliesMoveHeads := by
  unfold Obligations.RepliesMoveHeads
  intro s x hin hx hconfigured
  dsimp only
  refine ⟨fun payload d st hcarries hd _ hother => ⟨_, exec_gaugeTransactionEnd_success hin hx hcarries, ?_⟩,
    fun k c payload _ hcarries hown hkind hne => ⟨_, exec_gaugeTransactionEnd_success hin hx hcarries, ?_⟩,
    fun i c payload hcarries hown hkind => ⟨_, exec_gaugeTransactionEnd_success hin hx hcarries, ?_⟩,
    fun began c hown => ⟨_, exec_gaugeReplyTimeout began hin hx, ?_⟩,
    fun began hop hslot => ⟨_, exec_gaugeReplyTimeout began hin hx, pollFailure_isTaken hconfigured hop hslot⟩⟩
  · have unowned : ∀ c, s.glc.slot = some c → ¬ OwnedBy x c := fun c hslot hown => hother c hslot hown.1 hown.2
    obtain ⟨identity, latest, zeroed, polls, moved, shown, opened, stays⟩ := status_isShown hconfigured hd
    refine ⟨identity, latest, zeroed, polls, moved, shown, opened, stays, fun hstatus hmissing => ?_,
      fun hpresent harms hsource => status_asksLift hconfigured hd unowned hpresent harms hsource,
      fun c hslot => status_slot hd unowned hslot⟩
    subst hstatus
    exact status_asksIdentify hconfigured unowned hmissing
  · obtain ⟨hslot, hphase, hsource, -⟩ := hown
    obtain ⟨⟨identity, latest, zeroed, polls⟩, moved, state, starts⟩ := ack_head (k := k) hconfigured
    obtain ⟨confirming, exm, sms⟩ := ack_slot (k := k) hslot ⟨hphase, hsource⟩ (hkind ▸ hne)
    refine ⟨confirming, identity, latest, zeroed, polls, moved, fun hk hpresent => ?_, fun hk hon => ?_,
      fun hk hmeasuring hrest hext htest => ?_, fun hstays => ?_⟩
    · rw [state, hk, hpresent, ackTarget_clamp]
      rfl
    · subst hk
      rw [ackTarget_lift hon] at state
      exact ⟨state, starts (by rw [state]; simp)⟩
    · subst hk
      obtain ⟨w, taken, hsms, hlatest, hnone⟩ := ackLift_handsOver hconfigured hmeasuring hrest hext htest
      rw [taken] at exm sms
      exact handover_outcome exm sms hsms hlatest hnone
    · rw [state, ackTarget_none hstays]
      rfl
  · obtain ⟨hslot, hphase, hsource, -⟩ := hown
    obtain ⟨⟨identity, latest, zeroed, polls⟩, moved, state⟩ := identity_head (i := i) hconfigured
    refine ⟨identity, latest, zeroed, polls, moved, fun hfound => ⟨state.trans (if_pos hfound),
      fun st hst hpresent harms hext => identity_asksLift hconfigured hslot hkind hfound hst hpresent harms hext⟩,
      fun hfound => state.trans (if_neg hfound), identity_isFreed hslot ⟨hphase, hsource⟩ hkind⟩
  · obtain ⟨hslot, hphase, hsource, -⟩ := hown
    exact ownFailure_frees _ hslot ⟨hphase, hsource⟩

end Sys2Proof.Proofs
end

section
/-! The requests about the heads (O25, O26): Head Command and Configure Heads (R98, R101, R104, R105, R106, R109,
R116). -/

namespace Sys2Proof.Proofs

open Sys2Proof.Machine Sys2Proof.Laws

/-! ### Head Command (R101, R116) -/

theorem headOf_code (h : Head) : headOf (BitVec.ofNat 8 h.ctorIdx) = some h := by cases h <;> rfl

theorem headCmdOf_code (k : HeadCmd) : headCmdOf (BitVec.ofNat 8 k.ctorIdx) = some k := by cases k <;> rfl

theorem headOf_undefined {b : Byte} (h : 1 < b.toNat) : headOf b = none :=
  List.getElem?_eq_none h

theorem headCmdOf_undefined {b : Byte} (h : 3 < b.toNat) : headCmdOf b = none :=
  List.getElem?_eq_none h

/-- The head states and the moments in which a kind of command is taken (R116). -/
theorem headCommandTaken_iff (k : HeadCmd) (st : HeadState) (s : State) :
    headCommandTaken k st s = true ↔ match k with
      | .clamp => st = .present ∧ s.inTest = false
      | .lift => (st = .present ∨ st = .clamping ∨ st = .clamped ∨ st = .lifting) ∧ s.exm.source ≠ .extensometer
      | .zero => st = .clamped ∧ s.inTest = false
      | .identify => True := by
  cases k <;> simp [headCommandTaken, or_assoc]

theorem decideHeadCommand_codes (h : Head) (k : HeadCmd) (s : State) :
    decideHeadCommand [BitVec.ofNat 8 h.ctorIdx, BitVec.ofNat 8 k.ctorIdx] s = requestHeadCommand h k s := by
  have head : headOf (byteAt [BitVec.ofNat 8 h.ctorIdx, BitVec.ofNat 8 k.ctorIdx] 0) = some h := headOf_code h
  have kind : headCmdOf (byteAt [BitVec.ofNat 8 h.ctorIdx, BitVec.ofNat 8 k.ctorIdx] 1) = some k := headCmdOf_code k
  simp only [decideHeadCommand, head, kind]
  rfl

theorem decideHeadCommand_undefined {a b : Byte} (h : 1 < a.toNat ∨ 3 < b.toNat) (s : State) :
    decideHeadCommand [a, b] s = refuse .outOfRange s := by
  have none : headOf (byteAt [a, b] 0) = none ∨ headCmdOf (byteAt [a, b] 1) = none :=
    h.imp headOf_undefined headCmdOf_undefined
  unfold decideHeadCommand
  rw [if_neg (by simp)]
  split
  · next head kind => simp [head, kind] at none
  · rfl

theorem requestHeadCommand_unconfigured {h : Head} {k : HeadCmd} {s : State}
    (hno : (s.exm.heads.get h).configured = false) : requestHeadCommand h k s = refuse .notConfigured s := if_pos hno

/-- A configured head's command is checked by the head's state, then by the slot. -/
theorem requestHeadCommand_configured {h : Head} {k : HeadCmd} {s : State}
    (hyes : (s.exm.heads.get h).configured = true) :
    requestHeadCommand h k s =
      if headCommandTaken k (s.exm.heads.get h).state s then
        match s.glc.slot with
        | some _ => refuse .busy s
        | none => answerAccepted (s.onGlc (Glc.enter h k .computer))
      else refuse .wrongState s := if_neg (by simp [hyes])

/-- Settles O26: the request by its codes, its length, the head and the slot, on the counted state. -/
theorem headCommandEntersTheSlot : Obligations.HeadCommandEntersTheSlot := by
  intro s tag h k hs p st taken
  have hdecides : decideHeadCommand p s.counted = requestHeadCommand h k s.counted := decideHeadCommand_codes h k _
  have htaken : headCommandTaken k (s.counted.exm.heads.get h).state s.counted = true ↔ taken := by
    simp only [headCommandTaken_iff, counted_frame, counted_reads]
    rfl
  have configured : (s.exm.heads.get h).configured = true → (s.counted.exm.heads.get h).configured = true := id
  refine ⟨fun hyes hmay hslot => ?_, fun hyes hmay hslot => ?_, fun hyes hmay => ?_, fun hno => ?_, fun a b hab => ?_,
    fun q hq => ?_⟩
  · have run := request_runs 0x58 tag (decideHeadCommand p) s hs
    rw [hdecides, requestHeadCommand_configured (configured hyes), if_pos (htaken.2 hmay)] at run
    simp only [counted_frame, hslot] at run
    exact run
  · refine request_refuses (k := 0x58) (x := .busy) hs ?_
    obtain ⟨x, hx⟩ := Option.ne_none_iff_exists'.1 hslot
    rw [hdecides, requestHeadCommand_configured (configured hyes), if_pos (htaken.2 hmay)]
    simp only [counted_frame, hx]
  · refine request_refuses (k := 0x58) (x := .wrongState) hs ?_
    rw [hdecides, requestHeadCommand_configured (configured hyes), if_neg (mt htaken.1 hmay)]
  · refine request_refuses (k := 0x58) (x := .notConfigured) hs ?_
    rw [hdecides, requestHeadCommand_unconfigured (s := s.counted) hno]
  · exact request_refuses (k := 0x58) (x := .outOfRange) hs (decideHeadCommand_undefined hab _)
  · exact request_refuses (k := 0x58) (x := .badLength) hs (if_pos hq)

/-! ### A request answered OK -/

/-- `t` is `u` with the reply OK of a request of `s` at the newest end of the queue. -/
structure RepliedOk (kind tag : Byte) (s u t : State) : Prop where
  replies : t.cli.replies = s.cli.replies ++ [⟨kind, tag, [0x00]⟩]
  tsq : t.tsq = u.tsq
  drl : t.drl = u.drl
  fcu : t.fcu = u.fcu
  glc : t.glc = u.glc
  exm : t.exm = u.exm
  evu : t.evu = u.evu
  sms : t.sms = u.sms
  lmu : t.lmu = u.lmu
  pending : t.cli.pending = u.cli.pending

/-- A request answered OK leaves the state that its decision has made, and its reply. -/
theorem request_replies {k tag : Byte} {d : State → Answer} {s u : State} (hs : s.takesRequest)
    (h : d s.counted = answerOk u) (hreplies : u.cli.replies = s.cli.replies) :
    ∃ t, live (takeRequest k tag d) s = .next t ∧ RepliedOk (replyKind k) tag s u t := by
  refine ⟨queueReply k tag (answerOk u), by rw [request_runs k tag d s hs, h], ?_, rfl, rfl, rfl, rfl, rfl, rfl, rfl,
    rfl, rfl⟩
  show u.cli.replies ++ [⟨replyKind k, tag, [Status.ok.byte]⟩] = _
  rw [hreplies, okByte]

/-! ### Configure Heads (R98, R104, R105, R106, R109) -/

theorem ynOf_flag {b : Byte} (h : b.toNat ≤ 1) : ynOf b = some (decide (b = 1)) := by
  have hb : b = 0 ∨ b = 1 := by bv_omega
  rcases hb with rfl | rfl <;> rfl

/-- The four fields of a Configure Heads payload (R196). -/
theorem configureHeads_fields (front rear : Byte) {lf lr : Nat} (hf : lf < 4294967296) (hr : lr < 4294967296) :
    let p := [front] ++ u32 lf ++ [rear] ++ u32 lr
    p.length = 10 ∧ ynAt p 0 = ynOf front ∧ natAt p 1 = lf ∧ ynAt p 5 = ynOf rear ∧ natAt p 6 = lr := by
  refine ⟨rfl, rfl, ?_, rfl, ?_⟩
  · exact natAt_append (a := [front]) rfl hf ([rear] ++ u32 lr)
  · exact natAt_append (a := [front] ++ u32 lf ++ [rear]) rfl hr []

/-- Configure Heads outside a test takes its four fields where all are in range (R106, R109). -/
theorem decideConfigureHeads_payload {front rear : Byte} {lf lr : Nat} (hf : lf < 4294967296) (hr : lr < 4294967296)
    {s : State} (hin : s.inTest = false) :
    decideConfigureHeads ([front] ++ u32 lf ++ [rear] ++ u32 lr) s =
      if front.toNat ≤ 1 ∧ rear.toNat ≤ 1 ∧ 1 ≤ lf ∧ lf ≤ 255 ∧ 1 ≤ lr ∧ lr ≤ 255 then
        answerOk (configureHeads (decide (front = 1)) (decide (rear = 1)) lf lr s)
      else refuse .outOfRange s := by
  obtain ⟨hlength, hfront, hlf, hrear, hlr⟩ := configureHeads_fields front rear hf hr
  unfold decideConfigureHeads
  rw [hfront, hlf, hrear, hlr, hlength, if_neg (by decide), if_neg (by simp [hin])]
  by_cases flags : front.toNat ≤ 1 ∧ rear.toNat ≤ 1
  · rw [ynOf_flag flags.1, ynOf_flag flags.2]
    by_cases limits : limitInRange lf = true ∧ limitInRange lr = true
    · rw [if_pos (by simpa [limitInRange, flags, and_assoc] using limits)]
      exact if_pos (by simp [limits])
    · rw [if_neg (by simpa [limitInRange, flags, and_assoc] using limits)]
      exact if_neg (by simpa using limits)
  · rw [if_neg fun h => flags ⟨h.1, h.2.1⟩]
    rcases not_and_or.1 flags with h | h
    · rw [ynOf_none.2 (Nat.not_le.1 h)]
    · rw [ynOf_none.2 (Nat.not_le.1 h)]
      cases ynOf front <;> rfl

/-- A head, as the configuring of the other head leaves it. -/
structure LeavesHead (h : Head) (s t : State) : Prop where
  entry : t.exm.heads.get h = s.exm.heads.get h
  link : t.glc.heads.get h = s.glc.heads.get h
  round : t.glc.roundList ⊆ s.glc.roundList
  waiting : t.glc.waiting ⊆ s.glc.waiting
  pending : s.cli.pending.headState = true → t.cli.pending.headState = true

/-- What is gone of a head that is no longer configured: its entry, its total-failure count, its POLL and its waiting
commands (R98, R104, R105, R109). -/
structure HeadDropped (h : Head) (t : State) : Prop where
  entry : t.exm.heads.get h = .reset
  total : (t.glc.heads.get h).total = 0
  round : h ∉ t.glc.roundList
  waiting : ∀ w ∈ t.glc.waiting, w.head ≠ h

/-- What the configured flag of a Configure Heads makes of its head (R109). -/
structure HeadConfigured (h : Head) (flag : Bool) (s t : State) : Prop where
  counts : (t.glc.heads.get h).limit = (s.glc.heads.get h).limit ∧
    (t.glc.heads.get h).consecutive = (s.glc.heads.get h).consecutive
  configures : flag = true → t.exm.heads.get h = { s.exm.heads.get h with configured := true }
  drops : flag = false → (s.exm.heads.get h).configured = true →
    HeadDropped h t ∧ ((s.exm.heads.get h).state ≠ .absent → t.cli.pending.headState = true)
  stays : flag = false → (s.exm.heads.get h).configured = false → t.exm.heads.get h = s.exm.heads.get h

theorem HeadDropped.of_leaves {h : Head} {s t : State} (a : HeadDropped h s) (b : LeavesHead h s t) :
    HeadDropped h t :=
  ⟨b.entry.trans a.entry, by rw [b.link, a.total], fun hm => a.round (b.round hm),
    fun w hw => a.waiting w (b.waiting hw)⟩

theorem HeadConfigured.of_leaves {h : Head} {flag : Bool} {s u v t : State} (before : LeavesHead h s u)
    (a : HeadConfigured h flag u v) (after : LeavesHead h v t) : HeadConfigured h flag s t where
  counts := by rw [after.link, ← before.link]; exact a.counts
  configures hflag := by rw [after.entry, a.configures hflag, before.entry]
  drops hflag hyes := by
    rw [← before.entry] at hyes ⊢
    obtain ⟨dropped, raised⟩ := a.drops hflag hyes
    exact ⟨dropped.of_leaves after, fun hst => after.pending (raised hst)⟩
  stays hflag hno := by
    rw [← before.entry] at hno ⊢
    rw [after.entry, a.stays hflag hno]

theorem LeavesHead.refl (h : Head) (s : State) : LeavesHead h s s :=
  ⟨rfl, rfl, List.Subset.refl _, List.Subset.refl _, id⟩

theorem dropHead_glc (h : Head) (s : State) :
    (dropHead h s).glc = { s.glc with
      waiting := s.glc.waiting.filter fun w => !decide (w.head = h)
      roundList := s.glc.roundList.filter (· ≠ h)
      heads := s.glc.heads.modify h fun x => { x with total := 0 } } := rfl

theorem resetHead_cli (h : Head) (s : State) :
    (resetHead h s).cli.pending.headState =
      (decide ((s.exm.heads.get h).state ≠ .absent) || s.cli.pending.headState) := by
  unfold resetHead
  dsimp only
  split
  · next h => simp [h]
  · next h => simp [h, raise, SourceSet.add]

theorem resetHead_entry (h k : Head) (s : State) :
    (resetHead h s).exm.heads.get k = if k = h then .reset else s.exm.heads.get k := by
  have set : (onHead h (fun _ => .reset) s).exm.heads.get k = if k = h then .reset else s.exm.heads.get k :=
    perHead_get_modify_eq _ _ _ _
  unfold resetHead
  dsimp only
  split
  · exact set
  · exact set

theorem configureHead_configured (h : Head) (flag : Bool) (s : State) :
    HeadConfigured h flag s (configureHead h flag s) := by
  cases flag with
  | true => exact ⟨⟨rfl, rfl⟩, fun _ => onHead_get _ _ _, nofun, nofun⟩
  | false =>
    cases hyes : (s.exm.heads.get h).configured with
    | false =>
      have stays : configureHead h false s = s := by simp [configureHead, hyes]
      rw [stays]
      exact ⟨⟨rfl, rfl⟩, nofun, fun _ hc => absurd (hyes.symm.trans hc) (by decide), fun _ _ => rfl⟩
    | true =>
      have drops : configureHead h false s = resetHead h (dropHead h s) := by simp [configureHead, hyes]
      rw [drops]
      refine ⟨?_, nofun, fun _ _ => ⟨⟨?_, ?_, ?_, ?_⟩, fun hst => ?_⟩,
        fun _ hc => absurd (hyes.symm.trans hc) (by decide)⟩
      · simp [dropHead_glc]
      · simp [resetHead_entry]
      · simp [dropHead_glc]
      · simp [dropHead_glc]
      · simp [dropHead_glc]
      · simp [resetHead_cli, hst]

theorem configureHead_leaves {h k : Head} (hne : k ≠ h) (flag : Bool) (s : State) :
    LeavesHead k s (configureHead h flag s) := by
  unfold configureHead
  split
  · exact ⟨onHead_get_other hne _ _, rfl, List.Subset.refl _, List.Subset.refl _, id⟩
  · split
    · refine ⟨?_, ?_, ?_, ?_, fun hp => ?_⟩
      · simp [resetHead_entry, hne]
      · simp [dropHead_glc, perHead_get_modify_other _ hne]
      · simp [dropHead_glc]
      · simp [dropHead_glc]
      · simp [resetHead_cli, hp]
    · exact .refl _ _

/-- Both failure limits taken, with the counts at 0 (R106). -/
def limitsTaken (lf lr : Nat) (s : State) : State := takeFailureLimit .rear lr (takeFailureLimit .front lf s)

theorem limitsTaken_link (lf lr : Nat) (h : Head) (s : State) :
    ((limitsTaken lf lr s).glc.heads.get h).limit = (PerHead.mk lf lr).get h ∧
    ((limitsTaken lf lr s).glc.heads.get h).consecutive = 0 := by
  cases h <;> exact ⟨rfl, rfl⟩

theorem configureHeads_configured (h : Head) (front rear : Bool) (lf lr : Nat) (s : State) :
    HeadConfigured h ((PerHead.mk front rear).get h) (limitsTaken lf lr s)
      (configureHeads front rear lf lr s) := by
  cases h with
  | front =>
    exact .of_leaves (.refl _ _) (configureHead_configured .front front _) (configureHead_leaves (by decide) rear _)
  | rear =>
    exact .of_leaves (configureHead_leaves (by decide) front _) (configureHead_configured .rear rear _) (.refl _ _)

/-- Settles O25: the four fields of the payload, and each head by its flag, apart from the other. -/
theorem configureHeadsTakesBothHeads : Obligations.ConfigureHeadsTakesBothHeads := by
  intro s tag front rear lf lr hs hlf hlr p good
  refine ⟨fun hin => ?_, fun hin hbad => ?_, fun hin hgood => ?_⟩
  · exact request_refuses (k := 0x12) (x := .locked) hs (by simp [decideConfigureHeads, p, u32, hin])
  · refine request_refuses (k := 0x12) (x := .outOfRange) hs ?_
    rw [decideConfigureHeads_payload hlf hlr (by simpa using hin), if_neg hbad]
  · obtain ⟨t, run, replied⟩ := request_replies (k := 0x12) (tag := tag) (d := decideConfigureHeads p) hs
      ((decideConfigureHeads_payload hlf hlr (by simpa using hin)).trans (if_pos hgood)) (by simp)
    refine ⟨t, run, replied.replies, ?_,
      by simp [replied.tsq, replied.drl, replied.fcu, replied.evu, replied.sms, replied.lmu]⟩
    intro h flag
    obtain ⟨⟨limit, consecutive⟩, configures, drops, stays⟩ :=
      configureHeads_configured h (decide (front = 1)) (decide (rear = 1)) lf lr s.counted
    obtain ⟨limitTaken, countTaken⟩ := limitsTaken_link lf lr h s.counted
    have flagOf : (PerHead.mk (decide (front = 1)) (decide (rear = 1))).get h = decide (flag = 1) := by
      cases h <;> rfl
    rw [flagOf] at configures drops stays
    rw [replied.glc, replied.exm, replied.pending]
    refine ⟨(limit.trans limitTaken).trans ?_, consecutive.trans countTaken, fun hone => configures (by simp [hone]),
      fun hzero hyes => ?_, fun hzero hno => stays (by simp [hzero]) hno⟩
    · cases h <;> rfl
    obtain ⟨dropped, raised⟩ := drops (by simp [hzero]) hyes
    exact ⟨dropped.entry, dropped.total, dropped.round, dropped.waiting, raised⟩

end Sys2Proof.Proofs
end

section
/-! Remove Extensometer (O27): the strain handed over on request, and the lifts still missing (R101, R127, R128). -/

namespace Sys2Proof.Proofs

open Sys2Proof.Machine Sys2Proof.Laws

/-! ### Lifts that are asked for and watched (R101, R127, R129) -/

/-- A LIFT of the head stands, and its outcome is watched for. -/
def LiftWatched (h : Head) (s : State) : Prop := s.glc.stands h .lift = true ∧ s.exm.liftWatch.get h = true

theorem perHead_get_set_eq {α : Type} (t : PerHead α) (h k : Head) (x : α) :
    (t.set h x).get k = if k = h then x else t.get k := by cases h <;> cases k <;> rfl

theorem askWatchedLift_glc (h : Head) (s : State) : (askWatchedLift h s).glc = s.glc.ask h .lift := rfl

theorem askWatchedLift_watch (h k : Head) (s : State) :
    (askWatchedLift h s).exm.liftWatch.get k = if k = h then true else s.exm.liftWatch.get k :=
  perHead_get_set_eq s.exm.liftWatch h k true

theorem askWatchedLift_watched (h : Head) (s : State) : LiftWatched h (askWatchedLift h s) :=
  ⟨ask_stands h .lift s.glc, (askWatchedLift_watch h h s).trans (if_pos rfl)⟩

namespace LiftWatched

variable {h : Head} {s : State}

theorem askWatchedLift (k : Head) (a : LiftWatched h s) : LiftWatched h (askWatchedLift k s) := by
  obtain ⟨stands, watched⟩ := a
  refine ⟨(ask_linkFollows k .lift s.glc).stands h .lift (by decide) stands, ?_⟩
  rw [askWatchedLift_watch, watched, ite_self]

theorem askLiftIf (p : HeadState → Bool) (k : Head) (a : LiftWatched h s) : LiftWatched h (askLiftIf p k s) := by
  unfold Machine.askLiftIf
  split
  · exact a.askWatchedLift k
  · exact a

theorem recoveryLift (k : Head) (a : LiftWatched h s) : LiftWatched h (recoveryLift k s) := by
  unfold Machine.recoveryLift
  repeat' split
  · exact a.askWatchedLift k
  · exact ⟨(ask_linkFollows k .lift s.glc).stands h .lift (by decide) a.1, a.2⟩
  · exact a

end LiftWatched

theorem askLiftIf_watched {p : HeadState → Bool} {h : Head} {s : State} (hp : p (s.exm.heads.get h).state = true) :
    LiftWatched h (askLiftIf p h s) := by
  rw [askLiftIf, if_pos hp]
  exact askWatchedLift_watched h s

/-- A handover asks for a watched LIFT of every head that measures (R127). -/
theorem handover_watched {h : Head} {s : State} (k : Trigger) (hm : (s.exm.heads.get h).state = .measuring) :
    LiftWatched h (handover k s) := by
  have measures : ∀ u : State, u.exm.heads = s.exm.heads →
      decide ((u.exm.heads.get h).state = .measuring) = true := fun u hu => by simp [hu, hm]
  rw [handover_eq]
  refine LiftWatched.recoveryLift .rear (LiftWatched.recoveryLift .front ?_)
  cases h with
  | front => exact LiftWatched.askLiftIf _ .rear (askLiftIf_watched (measures _ (by simp [handedOver])))
  | rear => exact askLiftIf_watched (measures _ (by simp [handedOver]))

/-- The manager's record after a handover, the lift watch apart (R123, R127). -/
theorem handover_record (k : Trigger) (s : State) :
    (handover k s).exm.source = .estimated ∧ (handover k s).exm.removal = .handedOver ∧
    (handover k s).exm.trigger = some k ∧ (handover k s).exm.handoverPoint = some s.latest.index ∧
    (handover k s).exm.ratio = some (formRatio s.exm.window) ∧ (handover k s).exm.window = s.exm.window := by
  obtain ⟨watch, holds, exm⟩ := handover_watchOnly k s
  rw [exm]
  exact ⟨rfl, rfl, rfl, rfl, rfl, rfl⟩

theorem storeMark_newest (k : RecordKind) (p : Point) (s : State) :
    ∃ r, (storeMark k p s).sms.ring = s.sms.ring ++ [r] ∧ r.kind = k ∧ r.seq = nextSeq s.sms.newest :=
  ⟨_, storeRecord_ring true k none p _, rfl, rfl⟩

/-- The HANDOVER mark is the newest record after a handover (R127, R156). -/
theorem handover_newest (k : Trigger) (s : State) :
    ∃ r, (handover k s).sms.ring = s.sms.ring ++ [r] ∧ r.kind = .handover ∧ r.seq = nextSeq s.sms.newest := by
  rw [handover_sms]
  exact storeMark_newest .handover s.latest (handedOver k s)

/-! ### The lifts still missing (R128) -/

theorem liftAsked_iff {h : Head} {s : State} : s.liftAsked h ↔ s.glc.stands h .lift = true := stands_iff.symm

theorem liftMissing_iff {h : Head} {s : State} : liftMissing s h = true ↔ s.leftOn h := by
  simp [liftMissing, State.leftOn, liftAsked_iff]

theorem mem_liftsMissing {h : Head} {s : State} : h ∈ liftsMissing s ↔ s.leftOn h := by
  rw [liftsMissing, List.mem_filter, liftMissing_iff]
  cases h <;> simp

theorem liftRetry_iff {s : State} : liftRetry s.exm = true ↔ s.retriesLifts := by
  simp [liftRetry, State.retriesLifts]

theorem ask_enters {g : Glc} {h : Head} {k : HeadCmd} (hno : g.stands h k = false) (hslot : g.slot = none) :
    g.ask h k = { g with slot := some ⟨h, k, .exm, .linkWait, 0, false⟩ } := by
  simp [Glc.ask, hno, hslot, Glc.enter]

theorem ask_waits {g : Glc} {h : Head} {k : HeadCmd} (hno : g.stands h k = false) (hslot : g.slot ≠ none) :
    g.ask h k = { g with waiting := g.waiting ++ [⟨h, k⟩] } := by
  obtain ⟨c, hc⟩ := Option.ne_none_iff_exists'.1 hslot
  simp [Glc.ask, hno, hc]

/-- A command of another head stands as before when one is asked for. -/
theorem ask_stands_other {g : Glc} {h h' : Head} {k : HeadCmd} (hne : h' ≠ h) :
    (g.ask h k).stands h' k = g.stands h' k := by
  unfold Glc.ask
  split
  · rfl
  · split
    · next hslot => simp [Glc.stands, Glc.enter, hslot, Ne.symm hne]
    · next hslot => simp [Glc.stands, hslot, Ne.symm hne]

/-- With a command in the slot, lifts that do not stand wait in their order. -/
theorem askWatchedLifts_waits {hs : List Head} (hnodup : hs.Nodup) {s : State} (hslot : s.glc.slot ≠ none)
    (hno : ∀ h ∈ hs, s.glc.stands h .lift = false) :
    (askWatchedLifts hs s).glc = { s.glc with waiting := s.glc.waiting ++ hs.map fun h => ⟨h, .lift⟩ } := by
  induction hs generalizing s with
  | nil => simp [askWatchedLifts]
  | cons h rest ih =>
    obtain ⟨hfirst, hrest⟩ := List.nodup_cons.1 hnodup
    have waits : (askWatchedLift h s).glc = { s.glc with waiting := s.glc.waiting ++ [⟨h, .lift⟩] } :=
      ask_waits (hno h (by simp)) hslot
    rw [askWatchedLifts, ih hrest (by rwa [waits]) fun h' hm => ?_, waits]
    · simp
    · rw [askWatchedLift_glc, ask_stands_other (ne_of_mem_of_not_mem hm hfirst)]
      exact hno h' (List.mem_cons_of_mem _ hm)

/-- With the slot free, the first lift enters it and the others wait. -/
theorem askWatchedLifts_enters {h : Head} {rest : List Head} (hnodup : (h :: rest).Nodup) {s : State}
    (hslot : s.glc.slot = none) (hno : ∀ k ∈ h :: rest, s.glc.stands k .lift = false) :
    (askWatchedLifts (h :: rest) s).glc = { s.glc with
      slot := some ⟨h, .lift, .exm, .linkWait, 0, false⟩
      waiting := s.glc.waiting ++ rest.map fun k => ⟨k, .lift⟩ } := by
  obtain ⟨hfirst, hrest⟩ := List.nodup_cons.1 hnodup
  have enters : (askWatchedLift h s).glc = { s.glc with slot := some ⟨h, .lift, .exm, .linkWait, 0, false⟩ } :=
    ask_enters (hno h (by simp)) hslot
  rw [askWatchedLifts, askWatchedLifts_waits hrest (by rw [enters]; nofun) fun k hm => ?_, enters]
  rw [askWatchedLift_glc, ask_stands_other (ne_of_mem_of_not_mem hm hfirst)]
  exact hno k (List.mem_cons_of_mem _ hm)

theorem askWatchedLifts_watch (hs : List Head) (k : Head) (s : State) :
    (askWatchedLifts hs s).exm.liftWatch.get k = if k ∈ hs then true else s.exm.liftWatch.get k := by
  induction hs generalizing s with
  | nil => rfl
  | cons h rest ih =>
    rw [askWatchedLifts, ih, askWatchedLift_watch]
    by_cases hk : k = h <;> simp [hk]

/-! ### The decision -/

theorem decideRemoveExtensometer_hands {s : State} (hq : s.tsq.state.evaluated = true)
    (hr : s.exm.removal = .watching ∨ s.exm.removal = .deferred) :
    decideRemoveExtensometer [] s = answerOk (handover .request s) := if_pos (by simp [hq, hr])

theorem decideRemoveExtensometer_retries {s : State} (hretry : s.retriesLifts) (hleft : ∃ h, s.leftOn h) :
    decideRemoveExtensometer [] s = answerOk (askWatchedLifts (liftsMissing s) s) := by
  obtain ⟨h, hh⟩ := hleft
  have missing : (liftsMissing s).isEmpty = false := by
    rw [List.isEmpty_eq_false_iff]
    exact List.ne_nil_of_mem (mem_liftsMissing.2 hh)
  have notOver : ¬ (s.exm.removal = .watching ∨ s.exm.removal = .deferred) := by
    rcases hretry with h | ⟨h, -⟩ <;> simp [h]
  have watched : (s.tsq.state.evaluated && (s.exm.removal = .watching || s.exm.removal = .deferred)) = false := by
    simpa using fun _ => not_or.1 notOver
  simp only [decideRemoveExtensometer, withEmpty, watched, liftRetry_iff.2 hretry, missing]
  rfl

theorem decideRemoveExtensometer_refuses {s : State}
    (hover : s.tsq.state.evaluated = false ∨ s.exm.removal ≠ .watching ∧ s.exm.removal ≠ .deferred)
    (hnone : ¬ s.retriesLifts ∨ ∀ h, ¬ s.leftOn h) :
    decideRemoveExtensometer [] s = refuse .wrongState s := by
  have watched : (s.tsq.state.evaluated && (s.exm.removal = .watching || s.exm.removal = .deferred)) = false := by
    rcases hover with h | h <;> simp [h]
  have missing : (liftRetry s.exm && !(liftsMissing s).isEmpty) = false := by
    rcases hnone with h | h
    · rw [Bool.eq_false_iff.2 (mt liftRetry_iff.1 h), Bool.false_and]
    · have none : liftsMissing s = [] := List.eq_nil_iff_forall_not_mem.2 fun k hk => h k (mem_liftsMissing.1 hk)
      simp [none]
  simp only [decideRemoveExtensometer, withEmpty, watched, missing]
  rfl

theorem handover_handsOver {s t : State} {tag : Byte} (a : RepliedOk 0xDA tag s (handover .request s.counted) t) :
    t.exm.source = .estimated ∧ t.exm.removal = .handedOver ∧ t.exm.trigger = some .request ∧
    t.exm.handoverPoint = some s.latest.index ∧ t.exm.ratio = some (formRatio s.exm.window) ∧
    (∃ r, t.sms.ring = s.sms.ring ++ [r] ∧ r.kind = .handover ∧ r.seq = nextSeq s.sms.newest) ∧
    (∀ h, (s.exm.heads.get h).state = .measuring → t.liftAsked h ∧ t.exm.liftWatch.get h = true) := by
  obtain ⟨source, removal, trigger, point, ratio, -⟩ := handover_record .request s.counted
  rw [a.exm, a.sms]
  refine ⟨source, removal, trigger, point, ratio, handover_newest .request s.counted, fun h hm => ?_⟩
  obtain ⟨stands, watched⟩ := handover_watched (s := s.counted) .request hm
  exact ⟨liftAsked_iff.2 (by rwa [a.glc]), watched⟩

/-- The lifts missing are asked for, FRONT first, and watched (R101, R128). -/
theorem askWatchedLifts_asks {s t : State} {tag : Byte}
    (a : RepliedOk 0xDA tag s (askWatchedLifts (liftsMissing s.counted) s.counted) t) :
    (∃ asked : List Head, asked.Sublist [.front, .rear] ∧ (∀ h, h ∈ asked ↔ s.leftOn h) ∧
      (s.glc.slot ≠ none →
        t.glc.slot = s.glc.slot ∧ t.glc.waiting = s.glc.waiting ++ asked.map fun h => ⟨h, .lift⟩) ∧
      (∀ h rest, s.glc.slot = none → asked = h :: rest →
        t.glc.slot = some ⟨h, .lift, .exm, .linkWait, 0, false⟩ ∧
        t.glc.waiting = s.glc.waiting ++ rest.map fun h => ⟨h, .lift⟩)) ∧
    (∀ h, s.leftOn h → t.exm.liftWatch.get h = true) ∧
    (∀ h, ¬ s.leftOn h → t.exm.liftWatch.get h = s.exm.liftWatch.get h) := by
  have mem : ∀ h, h ∈ liftsMissing s.counted ↔ s.leftOn h := fun h => mem_liftsMissing
  have nodup : (liftsMissing s.counted).Nodup := List.Nodup.filter _ (by decide)
  have unasked : ∀ h ∈ liftsMissing s.counted, s.counted.glc.stands h .lift = false := fun h hm =>
    Bool.eq_false_iff.2 (mt liftAsked_iff.2 (mem_liftsMissing.1 hm).2)
  have watch := askWatchedLifts_watch (liftsMissing s.counted)
  rw [a.glc, a.exm]
  refine ⟨⟨liftsMissing s.counted, List.filter_sublist, mem, fun hslot => ?_, fun h rest hslot hasked => ?_⟩,
    fun h hl => (watch h _).trans (if_pos ((mem h).2 hl)), fun h hl => (watch h _).trans (if_neg (mt (mem h).1 hl))⟩
  · rw [askWatchedLifts_waits nodup (s := s.counted) hslot unasked]
    exact ⟨rfl, rfl⟩
  · rw [hasked] at nodup unasked ⊢
    rw [askWatchedLifts_enters nodup (s := s.counted) hslot unasked]
    exact ⟨rfl, rfl⟩

/-- Settles O27: the decision by the removal state and the lifts missing, on the counted state. -/
theorem removeExtensometerHandsOver : Obligations.RemoveExtensometerHandsOver := by
  refine fun s tag hs => ⟨fun hq hr => ?_, fun hretry hleft => ?_, fun hover hnone => ?_⟩
  · obtain ⟨t, run, replied⟩ := request_replies (k := 0x5A) (tag := tag) hs
      (decideRemoveExtensometer_hands (s := s.counted) hq hr) (by simp)
    obtain ⟨source, removal, trigger, point, ratio, mark, lifts⟩ := handover_handsOver replied
    exact ⟨t, run, replied.replies, source, removal, trigger, point, ratio, mark, lifts,
      by simp [replied.tsq, replied.drl, replied.fcu, replied.evu, replied.lmu]⟩
  · obtain ⟨t, run, replied⟩ := request_replies (k := 0x5A) (tag := tag) hs
      (decideRemoveExtensometer_retries (s := s.counted) hretry hleft) (by simp)
    obtain ⟨asked, watched, rest⟩ := askWatchedLifts_asks replied
    exact ⟨t, run, replied.replies, asked, watched, rest, by simp [replied.tsq, replied.drl, replied.fcu, replied.evu,
      replied.lmu, replied.exm, replied.sms]⟩
  · exact request_refuses (k := 0x5A) (x := .wrongState) hs
      (decideRemoveExtensometer_refuses (s := s.counted) hover hnone)

end Sys2Proof.Proofs
end

section
/-! What a point leaves of the readings of the heads (O36): the freshness that its formation has given each head's
newest value, and the handover window, whatever the consumers of the point do with the heads (R118, R122). -/

namespace Sys2Proof.Proofs

open Sys2Proof.Machine Sys2Proof.Laws

/-- What judging a head's newest value gives and leaves (R118). -/
structure Reading where
  freshness : Freshness
  readOk : Bool
  readFailed : Bool

/-- The readings of both heads, and the handover window (R118, R122). -/
structure Readings where
  heads : Head → Reading
  window : List (Int × Int)

def readingOf (e : HeadEntry) : Reading := ⟨e.freshness, e.readOk, e.readFailed⟩

def readingsOf (m : Exm) : Readings := ⟨fun h => readingOf (m.heads.get h), m.window⟩

theorem readingsOf_congr {m n : Exm} (hheads : ∀ h, readingOf (n.heads.get h) = readingOf (m.heads.get h))
    (hwindow : n.window = m.window) : readingsOf n = readingsOf m := by simp only [readingsOf, hheads, hwindow]

/-! ### The operations on the heads -/

theorem WatchOnly.readings {m n : Exm} (h : WatchOnly m n) : readingsOf n = readingsOf m := by
  obtain ⟨watch, holds, rfl⟩ := h
  rfl

@[simp] theorem setHeadState_readings (h : Head) (st : HeadState) (s : State) :
    readingsOf (setHeadState h st s).exm = readingsOf s.exm := by
  unfold setHeadState
  split
  · rfl
  · refine readingsOf_congr (fun k => ?_) rfl
    have entered : (raise .headState (onHead h (HeadEntry.enter st) s)).exm.heads.get k =
        if k = h then HeadEntry.enter st (s.exm.heads.get k) else s.exm.heads.get k := perHead_get_modify_eq _ _ _ _
    rw [entered]
    split <;> rfl

@[simp] theorem askLiftIf_readings (p : HeadState → Bool) (h : Head) (s : State) :
    readingsOf (askLiftIf p h s).exm = readingsOf s.exm := (askLiftIf_watchOnly p h s).readings

@[simp] theorem recoverBoth_readings (s : State) : readingsOf (recoverBoth s).exm = readingsOf s.exm :=
  ((recoveryLift_watchOnly .front s).trans (recoveryLift_watchOnly .rear _)).readings

@[simp] theorem handover_readings (k : Trigger) (s : State) : readingsOf (handover k s).exm = readingsOf s.exm :=
  (handover_watchOnly k s).readings

@[simp] theorem removalCheck_readings (p : Point) (s : State) :
    readingsOf (removalCheck p s).exm = readingsOf s.exm := by
  unfold removalCheck
  repeat' split
  · rfl
  all_goals simp

@[simp] theorem fractureFreeze_readings (p : Point) (s : State) :
    readingsOf (fractureFreeze p s).exm = readingsOf s.exm := by
  unfold fractureFreeze
  dsimp only
  split
  · rw [recoverBoth_readings, askLiftIf_readings, askLiftIf_readings]
    rfl
  · rw [askLiftIf_readings, askLiftIf_readings]
    rfl

@[simp] theorem headTestEnd_readings (h : Head) (s : State) :
    readingsOf (headTestEnd h s).exm = readingsOf s.exm := by
  unfold headTestEnd
  split
  · simp
  · rfl

@[simp] theorem headTestEntry_readings (h : Head) (s : State) :
    readingsOf (headTestEntry h s).exm = readingsOf s.exm := by
  unfold headTestEntry
  split
  · simp
  · rfl

@[simp] theorem withdrawWaiting_readings (p : WaitingCmd → Bool) (s : State) :
    readingsOf (withdrawWaiting p s).exm = readingsOf s.exm := rfl

theorem testForgotten_readings (s : State) : readingsOf (testForgotten s).exm = readingsOf s.exm :=
  readingsOf_congr (fun h => by rw [testForgotten_entry]; rfl) rfl

@[simp] theorem extTestEnd_readings (s : State) : readingsOf (extTestEnd s).exm = readingsOf s.exm := by
  rw [extTestEnd_eq]
  split
  · rw [recoverBoth_readings, testForgotten_readings]
    simp
  · rw [testForgotten_readings]
    simp

@[simp] theorem extTestEntry_readings (s : State) : readingsOf (extTestEntry s).exm = readingsOf s.exm := by
  have measures : readingsOf (headTestEntry .rear (headTestEntry .front s)).exm = readingsOf s.exm := by simp
  unfold extTestEntry
  dsimp only
  split
  · exact measures
  · exact measures

/-! ### The test -/

@[simp] theorem enterEnded_readings (why : EndReason) (cause : Option StartCause) (s : State) :
    readingsOf (enterEnded why cause s).exm = readingsOf s.exm := by simp [enterEnded]

@[simp] theorem enterEnding_readings (why : EndReason) (s : State) :
    readingsOf (enterEnding why s).exm = readingsOf s.exm := by
  unfold enterEnding
  dsimp only
  split <;> simp

@[simp] theorem slipAction_readings (s : State) : readingsOf (slipAction s).exm = readingsOf s.exm := by
  unfold slipAction
  split <;> simp

@[simp] theorem onEndAction_readings (i : Nat) (a : OnEnd) (p : Point) (s : State) :
    readingsOf (onEndAction i a p s).exm = readingsOf s.exm := by
  cases a with
  | next =>
    unfold onEndAction
    dsimp only
    split <;> simp
  | hold => simp [onEndAction]
  | endTest => simp [onEndAction]

@[simp] theorem runningTaken_readings (fractured : Bool) (p : Point) (s : State) :
    readingsOf (runningTaken fractured p s).exm = readingsOf s.exm := by
  unfold runningTaken runningPoint
  dsimp only
  repeat' split
  all_goals simp

@[simp] theorem beginZero_readings (s : State) : readingsOf (beginZero s).exm = readingsOf s.exm := by
  unfold beginZero askZero
  repeat' split
  all_goals exact readingsOf_congr (fun _ => by simp) (by simp)

@[simp] theorem startingPoint_readings (p : Point) (s : State) :
    readingsOf (startingPoint p s).exm = readingsOf s.exm := by
  unfold startingPoint beginTare waitTare failStart
  dsimp only
  repeat' split
  all_goals simp [testEntry_eq, entryState_records]

@[simp] theorem sequencerPoint_readings (fractured : Bool) (p : Point) (s : State) :
    readingsOf (sequencerPoint fractured p s).exm = readingsOf s.exm := by
  unfold sequencerPoint
  repeat' split
  all_goals simp

@[simp] theorem evaluationPoint_readings (unrest : Bool) (p : Point) (s : State) :
    readingsOf (evaluationPoint unrest p s).1.exm = readingsOf s.exm := by
  unfold evaluationPoint
  dsimp only
  repeat' split
  all_goals simp

@[simp] theorem managerPoint_readings (fractured : Bool) (p : Point) (s : State) :
    readingsOf (managerPoint fractured p s).exm = readingsOf s.exm := by
  unfold managerPoint
  repeat' split
  all_goals simp

/-! ### The trip and the drive -/

@[simp] theorem takeCause_readings (k : TripCause) (s : State) :
    readingsOf (takeCause k s).exm = readingsOf s.exm := by
  unfold takeCause handTrip
  dsimp only
  repeat' split
  all_goals simp

@[simp] theorem readyPoint_readings (ready : Bool) (s : State) :
    readingsOf (readyPoint ready s).exm = readingsOf s.exm := by
  unfold readyPoint
  dsimp only
  split <;> simp

@[simp] theorem readbackPoint_readings (code held : Int) (s : State) :
    readingsOf (readbackPoint code held s).exm = readingsOf s.exm := by
  unfold readbackPoint reportReadback
  repeat' split
  all_goals simp

@[simp] theorem limitPoint_readings (fault : Bool) (p : Point) (s : State) :
    readingsOf (limitPoint fault p s).exm = readingsOf s.exm := by
  unfold limitPoint overloadPoint driveFaultPoint
  dsimp only
  repeat' split
  all_goals simp

@[simp] theorem reportIfIdle_readings (s : State) : readingsOf (reportIfIdle s).exm = readingsOf s.exm := by
  unfold reportIfIdle reportIdle
  repeat' split
  all_goals simp

@[simp] theorem runningDrive_readings (first : Bool) (p : Point) (s : State) :
    readingsOf (runningDrive first p s).exm = readingsOf s.exm := by
  unfold runningDrive
  dsimp only
  repeat' split
  all_goals simp

@[simp] theorem movingDrive_readings (p : Point) (s : State) :
    readingsOf (movingDrive p s).exm = readingsOf s.exm := by
  unfold movingDrive moveReached
  dsimp only
  repeat' split
  all_goals simp

@[simp] theorem drivePointWork_readings (ready first : Bool) (p : Point) (s : State) :
    readingsOf (drivePointWork ready first p s).exm = readingsOf s.exm := by
  unfold drivePointWork
  split
  all_goals simp [stoppingDrive]

/-- What forming the point has made of the readings stands after the point. -/
theorem afterPoint_readings (s : State) (c : Conversion) :
    readingsOf (afterPoint s c).exm = readingsOf (formedOn s c).state.exm := by
  have limited : readingsOf (loadedOn s c).exm = readingsOf (passedOn s c).exm :=
    limitPoint_readings c.driveFault (formedOn s c).point (passedOn s c)
  have sampled : readingsOf (sampledOn s c).exm = readingsOf (formedOn s c).state.exm := by simp [sampledOn]
  rw [afterPoint, (offerPoint_frame _ _).2.2.2.2.1, limited, passedOn, passTest]
  simp [sampled]

end Sys2Proof.Proofs
end

section
/-! The strain that a point carries (O36): by the freshness of the heads' values and by the strain source, and the point
that joins the handover window (R118 to R120, R122, R123). -/

namespace Sys2Proof.Proofs

open Sys2Proof.Machine Sys2Proof.Laws

/-! ### The strain of heads whose values are judged (R118, R119) -/

/-- A head's newest value judged: its freshness, and a new interval (R118). -/
theorem judge_reading (e : HeadEntry) :
    e.judge.freshness = e.judged ∧ e.judge.lastGood = e.lastGood ∧
    (e.configured = true → e.judge.readOk = false ∧ e.judge.readFailed = false) := by
  unfold HeadEntry.judge HeadEntry.judged
  cases e.configured <;> simp

section
variable {f r : HeadEntry} (le : Nat)

theorem twoHeadStrain_fresh (hf : f.freshness = .fresh) (hr : r.freshness = .fresh) :
    twoHeadStrain le f r = (strainTwo le f r, .empty) := by simp [twoHeadStrain, hf, hr]

theorem twoHeadStrain_front (hf : f.freshness = .fresh) (hr : r.freshness ≠ .fresh) :
    twoHeadStrain le f r = (strainOne le f, { PointFlags.empty with oneSided := true }) := by
  cases hcase : r.freshness with
  | fresh => exact absurd hcase hr
  | substituted => simp [twoHeadStrain, hf, hcase]
  | carried => simp [twoHeadStrain, hf, hcase]

theorem twoHeadStrain_rear (hf : f.freshness ≠ .fresh) (hr : r.freshness = .fresh) :
    twoHeadStrain le f r = (strainOne le r, { PointFlags.empty with oneSided := true }) := by
  cases hcase : f.freshness with
  | fresh => exact absurd hcase hf
  | substituted => simp [twoHeadStrain, hr, hcase]
  | carried => simp [twoHeadStrain, hr, hcase]

/-- Of two held values, one that was substituted marks their mean so. -/
theorem twoHeadStrain_substituted (hf : f.freshness ≠ .fresh) (hr : r.freshness ≠ .fresh)
    (hheld : f.freshness = .substituted ∨ r.freshness = .substituted) :
    twoHeadStrain le f r = (strainTwo le f r, heldFlags true) := by
  cases hfront : f.freshness with
  | fresh => exact absurd hfront hf
  | substituted => cases hrear : r.freshness <;> simp_all [twoHeadStrain]
  | carried => cases hrear : r.freshness <;> simp_all [twoHeadStrain]

theorem twoHeadStrain_carried (hf : f.freshness = .carried) (hr : r.freshness = .carried) :
    twoHeadStrain le f r = (strainTwo le f r, heldFlags false) := by simp [twoHeadStrain, hf, hr]

theorem oneHeadStrain_eq (two : Bool) (e : HeadEntry) :
    oneHeadStrain le two e = (strainOne le e, { PointFlags.empty with
      substituted := e.freshness = .substituted, carried := e.freshness = .carried, oneSided := two }) := by
  cases he : e.freshness <;> simp [oneHeadStrain, he, heldFlags, PointFlags.empty]

end

/-- The one head that measures. -/
theorem extensometerStrain_one {s : State} {h : Head} (hm : (s.exm.heads.get h).state = .measuring)
    (hother : (s.exm.heads.get (if h = .front then .rear else .front)).state ≠ .measuring) :
    extensometerStrain s = oneHeadStrain s.gaugeLength (s.exm.heads.front.testHead && s.exm.heads.rear.testHead)
      (s.exm.heads.get h) := by
  cases h with
  | front =>
    have rear : s.exm.heads.rear.state ≠ .measuring := hother
    have front : s.exm.heads.front.state = .measuring := hm
    simp [extensometerStrain, front, rear, PerHead.get]
  | rear =>
    have front : s.exm.heads.front.state ≠ .measuring := hother
    have rear : s.exm.heads.rear.state = .measuring := hm
    simp [extensometerStrain, front, rear, PerHead.get]

theorem extensometerStrain_two {s : State} (hf : s.exm.heads.front.state = .measuring)
    (hr : s.exm.heads.rear.state = .measuring) :
    extensometerStrain s = twoHeadStrain s.gaugeLength s.exm.heads.front s.exm.heads.rear := by
  simp [extensometerStrain, hf, hr]

/-! ### The strain of a point (R120) -/

/-- The point carries a strain and its strain flags. -/
def Carries (p : Point) (x : Int × PointFlags) : Prop :=
  p.strain = x.1 ∧ p.flags.substituted = x.2.substituted ∧ p.flags.carried = x.2.carried ∧
  p.flags.oneSided = x.2.oneSided ∧ p.flags.estimated = x.2.estimated ∧ p.flags.frozen = x.2.frozen ∧
  p.flags.noStrain = x.2.noStrain

theorem strainOf_congr {s t : State} (hexm : t.exm = s.exm) (htsq : t.tsq = s.tsq) (travel : Int) :
    strainOf t travel = strainOf s travel := by
  simp only [strainOf, extensometerStrain, State.gaugeLength, State.parallelLength, hexm, htsq]

/-- The strain of a point comes from the heads as they are judged on it. -/
theorem formedOn_carries (s : State) (c : Conversion) :
    Carries (formedOn s c).point (strainOf (judgeHeads s) (formedOn s c).point.travel) := by
  have htsq : (measuredOn s c).tsq = (judgeHeads s).tsq := by simp [(measuredOn_records s c).2.1]
  have hexm : (measuredOn s c).exm = (judgeHeads s).exm := by simp [measuredOn, judgeHeads]
  rw [formedOn_makes, ← strainOf_congr hexm htsq]
  exact ⟨rfl, rfl, rfl, rfl, rfl, rfl, rfl⟩

theorem judged_head (s : State) (h : Head) :
    (judgeHeads s).exm.heads.get h = (s.exm.heads.get h).judge := perHead_get_map _ _ _

theorem strainOne_judge (le : Nat) (e : HeadEntry) : strainOne le e.judge = strainOne le e := by
  rw [strainOne, (judge_reading e).2.1, strainOne]

theorem strainTwo_judge (le : Nat) (f r : HeadEntry) : strainTwo le f.judge r.judge = strainTwo le f r := by
  rw [strainTwo, (judge_reading f).2.1, (judge_reading r).2.1, strainTwo]

/-- The strain of two measuring heads (R119). -/
theorem strain_twoHeads {s : State} {c : Conversion} (hs : s.exm.source = .extensometer)
    (hf : s.exm.heads.front.state = .measuring) (hr : s.exm.heads.rear.state = .measuring) :
    Carries (formedOn s c).point
      (twoHeadStrain s.gaugeLength s.exm.heads.front.judge s.exm.heads.rear.judge) := by
  have judged : strainOf (judgeHeads s) (formedOn s c).point.travel = extensometerStrain (judgeHeads s) := by
    simp [strainOf, hs]
  have two := extensometerStrain_two (s := judgeHeads s) (((judge_keeps _).2).trans hf) (((judge_keeps _).2).trans hr)
  have carries := formedOn_carries s c
  rw [judged, two] at carries
  exact carries

/-- The strain of one measuring head (R119). -/
theorem strain_oneHead {s : State} {c : Conversion} {h : Head} (hs : s.exm.source = .extensometer)
    (hm : (s.exm.heads.get h).state = .measuring)
    (hother : (s.exm.heads.get (if h = .front then .rear else .front)).state ≠ .measuring) :
    Carries (formedOn s c).point
      (oneHeadStrain s.gaugeLength (s.exm.heads.front.testHead && s.exm.heads.rear.testHead)
        (s.exm.heads.get h).judge) := by
  have judged : strainOf (judgeHeads s) (formedOn s c).point.travel = extensometerStrain (judgeHeads s) := by
    simp [strainOf, hs]
  have one := extensometerStrain_one (s := judgeHeads s) (h := h) (by rw [judged_head, (judge_keeps _).2, hm])
    (by rwa [judged_head, (judge_keeps _).2])
  have tests : (judgeHeads s).exm.heads.front.testHead = s.exm.heads.front.testHead ∧
      (judgeHeads s).exm.heads.rear.testHead = s.exm.heads.rear.testHead := ⟨(judge_keeps _).1, (judge_keeps _).1⟩
  have carries := formedOn_carries s c
  rw [judged, one, judged_head, tests.1, tests.2] at carries
  exact carries

/-- The estimate from travel, limited once (R123). -/
theorem estimatedStrain_eq (lc : Nat) (ratio : Option TransferRatio) (travel : Int) :
    estimatedStrain lc ratio travel = clampTo (-2000000) 2000000 (match ratio with
      | none => divRound (travel * 10000) lc
      | some x => match x.kind with
        | .window => x.strainH + divRound ((travel - x.travelH) * x.deltaStrain) x.deltaTravel
        | .nominal => x.strainH + divRound ((travel - x.travelH) * 10000) lc) := by
  cases ratio with
  | none => rfl
  | some x => cases hkind : x.kind <;> simp [estimatedStrain, hkind, clampStrain]

theorem strain_estimated {s : State} {c : Conversion} (hs : s.exm.source = .estimated) :
    Carries (formedOn s c).point (estimatedStrain s.parallelLength s.exm.ratio (formedOn s c).point.travel,
      { PointFlags.empty with estimated := true }) := by
  have estimates : strainOf (judgeHeads s) (formedOn s c).point.travel =
      (estimatedStrain s.parallelLength s.exm.ratio (formedOn s c).point.travel,
        { PointFlags.empty with estimated := true }) := by
    simp only [strainOf, judgeHeads_frame, hs]
    rfl
  exact estimates ▸ formedOn_carries s c

theorem strain_frozen {s : State} {c : Conversion} {x : Int} (hs : s.exm.source = .frozen)
    (hx : s.exm.frozenStrain = some x) :
    Carries (formedOn s c).point (x, { PointFlags.empty with frozen := true }) := by
  have stands : strainOf (judgeHeads s) (formedOn s c).point.travel =
      (x, { PointFlags.empty with frozen := true }) := by simp [strainOf, hs, hx]
  exact stands ▸ formedOn_carries s c

/-! ### The readings that the point leaves (R118, R122) -/

theorem formedOn_heads (s : State) (c : Conversion) (h : Head) :
    (formedOn s c).state.exm.heads.get h = (s.exm.heads.get h).judge := by
  rw [formedOn, formPoint_heads]
  simp

theorem windowEntry_window {s u : State} (htsq : u.tsq = s.tsq) (hwindow : u.exm.window = s.exm.window) (p : Point) :
    (windowEntry p u).exm.window =
      if p.source = .extensometer ∧ p.flags.substituted = false ∧ p.flags.carried = false ∧ p.flags.noStrain = false
      then pushWindow s.header.windowLength (p.travel, p.strain) s.exm.window else s.exm.window := by
  rw [← header_congr htsq, ← hwindow]
  unfold windowEntry
  by_cases joins : p.source = .extensometer ∧ p.flags.substituted = false ∧ p.flags.carried = false ∧
      p.flags.noStrain = false
  · rw [if_pos joins, if_pos (by simpa [and_assoc] using joins)]
    rfl
  · rw [if_neg joins, if_neg (by simpa [and_assoc] using joins)]

theorem formedOn_window (s : State) (c : Conversion) :
    let p := (formedOn s c).point
    (formedOn s c).state.exm.window =
      if s.exm.source = .extensometer ∧ p.flags.substituted = false ∧ p.flags.carried = false ∧
        p.flags.noStrain = false
      then pushWindow s.header.windowLength (p.travel, p.strain) s.exm.window else s.exm.window := by
  intro p
  obtain ⟨-, -, -, -, -, source, -⟩ := formedOn_fields s c
  have formed : (formedOn s c).state.exm = (signalledOn s c).exm := by simp [formedOn_state]
  rw [formed, signalledOn, onFcu_exm, windowEntry_window (s := s) (by simp) (by simp [judgeHeads]), source]

/-- With a window of at least one entry, what joins a full window takes the place of the oldest (R122). -/
theorem pushWindow_eq {w : Nat} (hw : 1 ≤ w) (x : Int × Int) (q : List (Int × Int)) :
    pushWindow w x q = (q ++ [x]).drop (q.length + 1 - w) := by
  rw [List.drop_append_of_le_length (by omega), pushWindow]
  split
  · rfl
  · next h => rw [show q.length + 1 - w = 0 by omega, List.drop_zero]

theorem afterPoint_reads (s : State) (c : Conversion) :
    (afterPoint s c).exm.window = (formedOn s c).state.exm.window ∧
    ∀ h, readingOf ((afterPoint s c).exm.heads.get h) = readingOf (s.exm.heads.get h).judge := by
  have kept := afterPoint_readings s c
  refine ⟨congrArg Readings.window kept, fun h => ?_⟩
  rw [← formedOn_heads s c h]
  exact congrFun (congrArg Readings.heads kept) h

/-- Settles O36: the strain by the strain source and the freshness of the values, and the window. -/
theorem strainIsFormedOnAPoint : Obligations.StrainIsFormedOnAPoint := by
  intro s c hrun
  refine ⟨afterPoint s c, (formedOn s c).point, exec_afterPoint hrun, afterPoint_latest s c, ?_⟩
  intro f r le limited one two flagged whole measures
  obtain ⟨window, reads⟩ := afterPoint_reads s c
  obtain ⟨ffresh, -, -⟩ := judge_reading f
  obtain ⟨rfresh, -, -⟩ := judge_reading r
  refine ⟨fun h => ?_, fun hs hf hr => ?_, fun h hs hm hother => ?_, fun hs => ?_, fun x hs hx => ?_, ?_⟩
  · obtain ⟨fresh, -, interval⟩ := judge_reading (s.exm.heads.get h)
    refine ⟨(congrArg Reading.freshness (reads h)).trans fresh, fun hyes => ?_⟩
    obtain ⟨ok, failed⟩ := interval hyes
    exact ⟨(congrArg Reading.readOk (reads h)).trans ok, (congrArg Reading.readFailed (reads h)).trans failed⟩
  · have carries := strain_twoHeads (c := c) hs hf hr
    rw [← ffresh, ← rfresh]
    refine ⟨fun hf hr => ?_, fun hf hr => ?_, fun hf hr => ?_, fun hf hr held => ?_, fun hf hr => ?_⟩
    · rwa [twoHeadStrain_fresh _ hf hr, strainTwo_judge] at carries
    · rwa [twoHeadStrain_front _ hf hr, strainOne_judge] at carries
    · rwa [twoHeadStrain_rear _ hf hr, strainOne_judge] at carries
    · rwa [twoHeadStrain_substituted _ hf hr held, strainTwo_judge] at carries
    · rwa [twoHeadStrain_carried _ hf hr, strainTwo_judge] at carries
  · have carries := strain_oneHead (c := c) hs hm hother
    rw [oneHeadStrain_eq, strainOne_judge, (judge_reading _).1] at carries
    exact carries
  · obtain ⟨strain, -, -, -, estimated, -, noStrain⟩ := strain_estimated (c := c) hs
    rw [estimatedStrain_eq] at strain
    exact ⟨strain, estimated, noStrain⟩
  · obtain ⟨strain, -, -, -, -, frozen, -⟩ := strain_frozen (c := c) hs hx
    exact ⟨strain, frozen⟩
  · intro w joins
    rw [window, formedOn_window]
    exact ⟨fun hjoins hw => (if_pos hjoins).trans (pushWindow_eq hw _ _), fun hno => if_neg hno⟩

end Sys2Proof.Proofs
end

section
/-! The evaluation once the extensometer is off (O49): what the end of the extensometer strain closes (R148), and that
the later steps of the point leave it closed (R135, R150). -/

namespace Sys2Proof.Proofs

open Sys2Proof.Machine Sys2Proof.Laws

/-! ### Fields that have left OPEN (R150) -/

/-- A field that is not OPEN keeps what it holds. -/
def FieldKept (x y : Field) : Prop := x ≠ .opened → y = x

@[simp] theorem fieldKept_refl (x : Field) : FieldKept x x := fun _ => rfl

@[simp] theorem fieldKept_fix (v : Int) (i : Nat) (x : Field) : FieldKept x (x.fix v i) := by
  cases x with
  | opened => exact fun h => absurd rfl h
  | fixed => exact fun _ => rfl
  | absent => exact fun _ => rfl

@[simp] theorem fieldKept_close (why : Absence) (x : Field) : FieldKept x (x.close why) := by
  cases x with
  | opened => exact fun h => absurd rfl h
  | fixed => exact fun _ => rfl
  | absent => exact fun _ => rfl

theorem FieldKept.trans {x y z : Field} (a : FieldKept x y) (b : FieldKept y z) : FieldKept x z := fun h => by
  obtain rfl := a h
  exact b h

/-- Fields that are only ever closed: none of the list opens again. -/
def FieldsKept (r r' : ResultRecord) : Prop := List.Forall₂ FieldKept r.fields r'.fields

theorem FieldsKept.refl (r : ResultRecord) : FieldsKept r r := by simp [FieldsKept, ResultRecord.fields]

theorem FieldsKept.trans {q r t : ResultRecord} (a : FieldsKept q r) (b : FieldsKept r t) : FieldsKept q t := by
  simp only [FieldsKept, ResultRecord.fields, List.forall₂_cons] at a b ⊢
  obtain ⟨a1, a2, a3, a4, a5, a6, a7, a8, a9, -⟩ := a
  obtain ⟨b1, b2, b3, b4, b5, b6, b7, b8, b9, -⟩ := b
  exact ⟨a1.trans b1, a2.trans b2, a3.trans b3, a4.trans b4, a5.trans b5, a6.trans b6, a7.trans b7, a8.trans b8,
    a9.trans b9, .nil⟩

/-- Where no field opens again, a field that closes lowers the number of those still OPEN. -/
theorem openFields_le {l l' : List Field} (h : List.Forall₂ FieldKept l l') :
    (l'.filter (· = .opened)).length ≤ (l.filter (· = .opened)).length := by
  induction h with
  | nil => exact Nat.le_refl _
  | @cons x y _ _ hxy _ ih =>
    by_cases hx : x = .opened
    · subst hx
      by_cases hy : y = .opened
      · simpa [hy] using ih
      · simp [hy]
        omega
    · obtain rfl := hxy hx
      simpa [hx] using ih

theorem openFields_lt {l l' : List Field} (h : List.Forall₂ FieldKept l l') {i : Nat} (hi : l[i]? = some .opened)
    (hi' : l'[i]? ≠ some .opened) : (l'.filter (· = .opened)).length < (l.filter (· = .opened)).length := by
  induction h generalizing i with
  | nil => simp at hi
  | @cons x y l l' hxy hrest ih =>
    cases i with
    | zero =>
      obtain rfl : x = .opened := by simpa using hi
      have hy : y ≠ .opened := by simpa using hi'
      have := openFields_le hrest
      simp [hy]
      omega
    | succ i =>
      have := ih (by simpa using hi) (by simpa using hi')
      by_cases hx : x = .opened
      · subst hx
        by_cases hy : y = .opened
        · simpa [hy] using this
        · simp [hy]
          omega
      · obtain rfl := hxy hx
        simpa [hx] using this

/-! ### What the steps of a point keep of a line that no fit makes any more -/

/-- The result record goes on: no field opens again, and the fit's count and source stand. -/
structure RecordKept (r r' : ResultRecord) : Prop where
  fields : FieldsKept r r'
  fitCount : r'.fitCount = r.fitCount
  fallbackUsed : r'.fallbackUsed = r.fallbackUsed

theorem RecordKept.refl (r : ResultRecord) : RecordKept r r := ⟨.refl r, rfl, rfl⟩

theorem RecordKept.trans {q r t : ResultRecord} (a : RecordKept q r) (b : RecordKept r t) : RecordKept q t :=
  ⟨a.fields.trans b.fields, b.fitCount.trans a.fitCount, b.fallbackUsed.trans a.fallbackUsed⟩

/-- The yield phase is over and nothing of it is tracked. -/
def YieldOver (e : Evu) : Prop :=
  (e.phase = .hardening ∨ e.phase = .necking ∨ e.phase = .fractured) ∧ e.tracker = none

/-- No fit and no offset search is in progress. -/
def LineSettled (e : Evu) : Prop := e.fit ≠ .collecting ∧ e.search ≠ .opened

/-- The record goes on with the fit and the search as they stand. -/
structure LineKept (e e' : Evu) : Prop where
  fit : e'.fit = e.fit
  search : e'.search = e.search
  yield : YieldOver e → YieldOver e'
  record : ∀ r, e.result = some r → ∃ r', e'.result = some r' ∧ RecordKept r r'

namespace LineKept

variable {e e' e'' : Evu}

theorem settled (h : LineKept e e') (hs : LineSettled e) : LineSettled e' := by
  rwa [LineSettled, h.fit, h.search]

theorem trans (a : LineKept e e') (b : LineKept e' e'') : LineKept e e'' where
  fit := b.fit.trans a.fit
  search := b.search.trans a.search
  yield h := b.yield (a.yield h)
  record r hr := by
    obtain ⟨r', hr', kept⟩ := a.record r hr
    obtain ⟨r'', hr'', kept'⟩ := b.record r' hr'
    exact ⟨r'', hr'', kept.trans kept'⟩

/-- A change of the record's other fields. -/
theorem of_same (hfit : e'.fit = e.fit) (hsearch : e'.search = e.search) (hyield : YieldOver e → YieldOver e')
    (hresult : e'.result = e.result) : LineKept e e' :=
  ⟨hfit, hsearch, hyield, fun r hr => ⟨r, hresult.trans hr, .refl r⟩⟩

theorem refl (e : Evu) : LineKept e e := of_same rfl rfl id rfl

/-- A change of the result record after others. -/
theorem onResult {f : ResultRecord → ResultRecord} (hf : ∀ r, RecordKept r (f r)) (h : LineKept e e') :
    LineKept e (e'.onResult f) where
  fit := h.fit
  search := h.search
  yield := h.yield
  record r hr := by
    obtain ⟨r', hr', kept⟩ := h.record r hr
    exact ⟨f r', by rw [Evu.onResult, hr', Option.map_some], kept.trans (hf r')⟩

end LineKept

/-- An evaluation goes on with the fit and the search as they stand and without the mark of either; with the yield
phase over, without the mark of ReL. -/
structure EvalKept (o o' : EvalOut) : Prop where
  line : LineKept o.evu o'.evu
  marks : ∃ ms, o'.marks = o.marks ++ ms ∧ ∀ m ∈ ms, m.1 ≠ .rp ∧ (YieldOver o.evu → m.1 ≠ .rel)

namespace EvalKept

variable {o o' o'' : EvalOut}

theorem refl (o : EvalOut) : EvalKept o o := ⟨.refl _, [], by simp, by simp⟩

theorem trans (a : EvalKept o o') (b : EvalKept o' o'') : EvalKept o o'' := by
  obtain ⟨ms, hms, hkinds⟩ := a.marks
  obtain ⟨ms', hms', hkinds'⟩ := b.marks
  refine ⟨a.line.trans b.line, ms ++ ms', by rw [hms', hms, List.append_assoc], fun m hm => ?_⟩
  rcases List.mem_append.1 hm with h | h
  · exact hkinds m h
  · exact ⟨(hkinds' m h).1, fun hy => (hkinds' m h).2 (a.line.yield hy)⟩

/-- A change of the record after others. -/
theorem on {f : Evu → Evu} (hf : LineKept o'.evu (f o'.evu)) (h : EvalKept o o') : EvalKept o (o'.on f) :=
  ⟨h.line.trans hf, h.marks⟩

/-- A mark other than RP and REL after others. -/
theorem mark {k : RecordKind} (hrp : k ≠ .rp) (hrel : k ≠ .rel) {p : Point} (h : EvalKept o o') :
    EvalKept o (o'.mark k p) := by
  obtain ⟨ms, hms, hkinds⟩ := h.marks
  refine ⟨h.line, ms ++ [(k, p)], by rw [EvalOut.mark, hms, List.append_assoc], fun m hm => ?_⟩
  rcases List.mem_append.1 hm with hm | hm
  · exact hkinds m hm
  · obtain rfl := List.mem_singleton.1 hm
    exact ⟨hrp, fun _ => hrel⟩

theorem flags {fractured slip : Bool} (h : EvalKept o o') : EvalKept o ⟨o'.evu, o'.marks, fractured, slip⟩ :=
  ⟨h.line, h.marks⟩

end EvalKept

/-! ### The steps after the strain-source check (R135) -/

theorem armFracture_kept (x : EvalInput) (e : Evu) : LineKept e (armFracture x e) := by
  unfold armFracture
  split
  · exact .of_same rfl rfl id rfl
  · exact .refl _

theorem stepFmax_kept (x : EvalInput) (o : EvalOut) : EvalKept o (stepFmax x o) := by
  unfold stepFmax
  repeat' split
  · exact .on (.of_same rfl rfl id rfl) (.refl o)
  · exact .on (.of_same rfl rfl id rfl) (.refl o)
  · exact .refl o
  · exact .refl o

theorem fixMaximum_kept (x : EvalInput) (o : EvalOut) : EvalKept o (fixMaximum x o) := by
  refine .on (.onResult (fun r => ⟨?_, rfl, rfl⟩) (.refl _)) (.mark (by decide) (by decide)
    (.on (.onResult (fun r => ⟨by simp [FieldsKept, ResultRecord.fields], rfl, rfl⟩) (.refl _)) (.refl o)))
  split <;> simp [FieldsKept, ResultRecord.fields]

theorem not_yieldOver {e : Evu} (h : e.phase = .elastic ∨ e.phase = .yielding) : ¬ YieldOver e := by
  rintro ⟨phases, -⟩
  rcases h with h | h <;> simp [h] at phases

theorem elasticYield_kept (x : EvalInput) {o : EvalOut} (hphase : o.evu.phase = .elastic) :
    EvalKept o (elasticYield x o) := by
  have tracked : EvalKept o (o.on (trackSmax x.point)) := by
    refine .on ?_ (.refl o)
    unfold trackSmax
    repeat' split
    · exact .of_same rfl rfl id rfl
    · exact .of_same rfl rfl id rfl
    · exact .refl _
  have phase : (o.on (trackSmax x.point)).evu.phase = .elastic := by
    rw [on_evu, trackSmax]
    repeat' split
    all_goals exact hphase
  have begins : ∀ e : Evu, YieldOver (o.on (trackSmax x.point)).evu → YieldOver e := fun _ h =>
    absurd h (not_yieldOver (.inl phase))
  unfold elasticYield upperYield
  dsimp only
  repeat' split
  · exact .mark (by decide) (by decide) (.on (.onResult (fun r =>
      ⟨by simp [FieldsKept, ResultRecord.fields], rfl, rfl⟩) (.of_same rfl rfl (begins _) rfl)) tracked)
  · exact .on (.onResult (fun r => ⟨by simp [FieldsKept, ResultRecord.fields], rfl, rfl⟩)
      (.of_same rfl rfl (begins _) rfl)) tracked
  · exact tracked

theorem endYield_kept (k : YieldTracker) {o : EvalOut} (hphase : o.evu.phase = .yielding) :
    EvalKept o (endYield k o) := by
  have notOver : ¬ YieldOver o.evu := not_yieldOver (.inr hphase)
  unfold endYield
  dsimp only
  split
  · exact ⟨.onResult (fun r => ⟨by simp [FieldsKept, ResultRecord.fields], rfl, rfl⟩)
      (.of_same rfl rfl (fun h => absurd h notOver) rfl), [_], rfl, by simp [notOver]⟩
  · exact .on (.onResult (fun r => ⟨by simp [FieldsKept, ResultRecord.fields], rfl, rfl⟩) (.refl _))
      (.on (.of_same rfl rfl (fun h => absurd h notOver) rfl) (.refl o))

theorem stepYield_kept (x : EvalInput) (o : EvalOut) : EvalKept o (stepYield x o) := by
  cases hphase : o.evu.phase with
  | elastic =>
    simp only [stepYield, hphase]
    repeat' split
    · exact elasticYield_kept x hphase
    · exact .on (.of_same rfl rfl (fun h => absurd h (not_yieldOver (.inl hphase))) rfl) (.refl o)
    · exact .refl o
  | yielding =>
    simp only [stepYield, hphase]
    repeat' split
    · exact endYield_kept _ hphase
    · exact .on (.of_same rfl rfl (fun h => absurd h (not_yieldOver (.inr hphase))) rfl) (.refl o)
    · exact .refl o
  | _ =>
    simp only [stepYield, hphase]
    exact .refl o

theorem stepMaxPassed_kept (x : EvalInput) (o : EvalOut) : EvalKept o (stepMaxPassed x o) := by
  have armed : EvalKept o (o.on (rearm x)) := by
    refine .on ?_ (.refl o)
    unfold rearm
    repeat' split
    · exact .of_same rfl rfl id rfl
    · exact .refl _
    · exact .refl _
  unfold stepMaxPassed
  dsimp only
  split
  · exact .on (.of_same rfl rfl (fun h => ⟨.inr (.inl rfl), h.2⟩) rfl) armed
  · exact armed

/-- With no fit in progress the fit window is closed. -/
theorem stepFit_settled (x : EvalInput) {o : EvalOut} (h : LineSettled o.evu) : stepFit x o = o := if_neg h.1

theorem stepSearch_settled (x : EvalInput) {o : EvalOut} (h : LineSettled o.evu) : stepSearch x o = o :=
  if_neg fun hsearch => h.2 hsearch.1

theorem stepMaxEffects_kept (x : EvalInput) (o : EvalOut) : EvalKept o (stepMaxEffects x o) := by
  unfold stepMaxEffects
  split
  · exact fixMaximum_kept x o
  · exact .refl o

theorem stepSlip_kept (x : EvalInput) (o : EvalOut) : EvalKept o (stepSlip x o) := by
  unfold stepSlip
  dsimp only
  split
  · exact .flags (.on (.onResult (fun r => ⟨.refl r, rfl, rfl⟩) (.refl _)) (.refl o))
  · exact .refl o

theorem unbrokenSteps_kept (x : EvalInput) {o : EvalOut} (h : LineSettled o.evu) :
    EvalKept o (unbrokenSteps x o) := by
  have yields := (stepYield_kept x o).trans (stepMaxPassed_kept x _)
  have settled := yields.line.settled h
  rw [unbrokenSteps, stepFit_settled x settled, stepSearch_settled x settled]
  exact .on (.of_same rfl rfl id rfl) ((yields.trans (stepMaxEffects_kept x _)).trans (stepSlip_kept x _))

/-- The fields that the fracture closes or fixes (R147). -/
theorem fractureEffects_kept (x : EvalInput) {o : EvalOut} (h : LineSettled o.evu) :
    EvalKept o (fractureEffects x o) := by
  have maximum : EvalKept o (if o.evu.rmOpen then fixMaximum x o else o) := by
    split
    · exact fixMaximum_kept x o
    · exact .refl o
  unfold fractureEffects
  rw [if_neg h.1]
  dsimp only
  generalize (if o.evu.rmOpen then fixMaximum x o else o) = m at maximum ⊢
  have settled := maximum.line.settled h
  refine .flags (.on (.of_same rfl rfl (fun _ => ⟨.inr (.inr rfl), rfl⟩) rfl) (.mark (by decide) (by decide)
    (.on (.onResult (fun r => ⟨?_, rfl, rfl⟩) (.refl _)) (.on (.onResult (fun r => ?_) (.refl _))
      (.on ?_ maximum)))))
  · split <;> simp [FieldsKept, ResultRecord.fields]
  · repeat' split
    · exact ⟨by simp [FieldsKept, ResultRecord.fields], rfl, rfl⟩
    · exact ⟨by simp [FieldsKept, ResultRecord.fields], rfl, rfl⟩
    · exact .refl r
  · rw [if_neg settled.2]
    exact .refl _

/-- After the strain-source check the point keeps what no fit and no search makes any more. -/
theorem evaluate_kept (x : EvalInput) {e : Evu} (hphase : e.phase ≠ .fractured) (hends : extensometerEnds x e = true)
    (h : LineSettled (closeExtensometer x e)) :
    EvalKept ⟨closeExtensometer x e, [], false, false⟩ (evaluate x e) := by
  have closed : stepSource x ⟨e, [], false, false⟩ = ⟨closeExtensometer x e, [], false, false⟩ := if_pos hends
  have armed : EvalKept ⟨closeExtensometer x e, [], false, false⟩
      ((stepFmax x ⟨closeExtensometer x e, [], false, false⟩).on (armFracture x)) :=
    .on (armFracture_kept x _) (stepFmax_kept x _)
  have settled := armed.line.settled h
  simp only [evaluate, if_neg hphase, closed]
  split
  · exact armed.trans (fractureEffects_kept x settled)
  · exact armed.trans (unbrokenSteps_kept x settled)

/-! ### What the end of the extensometer strain closes (R148) -/

/-- The fit that fails with the extensometer strain (R138). -/
def fitLost (x : EvalInput) (e : Evu) : Evu :=
  if e.fit = .collecting then
    (failFit x.header x.nominal .extensometerRemoved x.point.index e).onResult fun r =>
      { r with rp := if 0 < x.header.offsetStrain then r.rp.close .extensometerRemoved else r.rp }
  else e

/-- The offset search that closes with it. -/
def searchLost (e : Evu) : Evu :=
  if e.search = .opened then
    { e with search := .closed }.onResult fun r => { r with rp := r.rp.close .extensometerRemoved }
  else e

/-- The yield phase that ends with it. -/
def yieldLost (e : Evu) : Evu :=
  if e.phase = .yielding then
    { e with tracker := none, phase := .hardening }.onResult fun r =>
      { r with rel := r.rel.close .extensometerRemoved }
  else e

theorem closeExtensometer_eq (x : EvalInput) (e : Evu) :
    closeExtensometer x e = yieldLost (searchLost (fitLost x e)) := rfl

/-- What the loss of the fit makes of the result record. -/
structure FitLost (x : EvalInput) (e : Evu) (r r' : ResultRecord) : Prop where
  fields : FieldsKept r r'
  rel : r'.rel = r.rel
  rp : r'.rp = r.rp ∨ r'.rp = r.rp.close .extensometerRemoved
  asked : e.fit = .collecting → 0 < x.header.offsetStrain → r'.rp = r.rp.close .extensometerRemoved
  closed : e.fit = .collecting → fallbackModulus x.header x.nominal = none →
    r'.e = r.e.close .extensometerRemoved ∧ r'.x0 = r.x0.close .extensometerRemoved
  fallback : ∀ m, e.fit = .collecting → fallbackModulus x.header x.nominal = some m →
    r'.e = r.e.fix m x.point.index ∧ r'.x0 = r.x0.fix (fallbackIntercept e.sums m) x.point.index ∧
    r'.fallbackUsed = true ∧ r'.fitCount = e.sums.n

@[simp] theorem close_close (why : Absence) (x : Field) : (x.close why).close why = x.close why := by
  cases x <;> rfl

theorem fitLost_evu (x : EvalInput) (e : Evu) :
    (fitLost x e).fit = (if e.fit = .collecting then .failed .extensometerRemoved else e.fit) ∧
    (fitLost x e).search = e.search ∧ (fitLost x e).phase = e.phase ∧ (fitLost x e).tracker = e.tracker := by
  unfold fitLost failFit
  dsimp only
  repeat' split
  all_goals simp_all [fixLine, Evu.onResult]

theorem fitLost_record (x : EvalInput) {e : Evu} {r : ResultRecord} (hr : e.result = some r) :
    ∃ r', (fitLost x e).result = some r' ∧ FitLost x e r r' := by
  by_cases hfit : e.fit = .collecting
  · cases hm : fallbackModulus x.header x.nominal with
    | none =>
      refine ⟨_, by simp only [fitLost, failFit, if_pos hfit, hm, Evu.onResult, hr, Option.map_some]; rfl, ?_⟩
      by_cases hasked : 0 < x.header.offsetStrain
      · constructor <;> simp [hasked, hm, FieldsKept, ResultRecord.fields]
      · constructor <;> simp [hasked, hm, FieldsKept, ResultRecord.fields]
    | some m =>
      refine ⟨_, by simp only [fitLost, failFit, fixLine, if_pos hfit, hm, Evu.onResult, hr, Option.map_some]; rfl, ?_⟩
      by_cases hasked : 0 < x.header.offsetStrain
      · constructor <;> simp [hasked, hm, FieldsKept, ResultRecord.fields]
      · constructor <;> simp [hasked, hm, FieldsKept, ResultRecord.fields]
  · refine ⟨r, by rw [fitLost, if_neg hfit, hr], .refl r, rfl, .inl rfl, ?_, ?_, ?_⟩
    · exact fun h => absurd h hfit
    · exact fun h => absurd h hfit
    · exact fun _ h => absurd h hfit

/-- What the end of the extensometer strain makes of the result record. -/
structure RecordClosed (x : EvalInput) (e : Evu) (r r' : ResultRecord) : Prop where
  fields : FieldsKept r r'
  rp : e.fit = .collecting ∧ 0 < x.header.offsetStrain ∨ e.search = .opened →
    r'.rp = r.rp.close .extensometerRemoved
  rel : e.phase = .yielding → r'.rel = r.rel.close .extensometerRemoved
  closed : e.fit = .collecting → fallbackModulus x.header x.nominal = none →
    r'.e = r.e.close .extensometerRemoved ∧ r'.x0 = r.x0.close .extensometerRemoved
  fallback : ∀ m, e.fit = .collecting → fallbackModulus x.header x.nominal = some m →
    r'.e = r.e.fix m x.point.index ∧ r'.x0 = r.x0.fix (fallbackIntercept e.sums m) x.point.index ∧
    r'.fallbackUsed = true ∧ r'.fitCount = e.sums.n

theorem FitLost.closed_record {x : EvalInput} {e : Evu} {r r' : ResultRecord} (h : FitLost x e r r') :
    RecordClosed x e r { r' with
      rp := if e.search = .opened then r'.rp.close .extensometerRemoved else r'.rp
      rel := if e.phase = .yielding then r'.rel.close .extensometerRemoved else r'.rel } where
  fields := h.fields.trans (by
    simp only [FieldsKept, ResultRecord.fields, List.forall₂_cons, fieldKept_refl, true_and, List.Forall₂.nil, and_true]
    constructor <;> split <;> simp)
  rp hrp := by
    dsimp only
    split
    · rcases h.rp with hr | hr <;> simp [hr]
    · next hsearch =>
      obtain ⟨hfit, hasked⟩ := hrp.resolve_right hsearch
      exact h.asked hfit hasked
  rel hphase := by
    dsimp only
    rw [if_pos hphase, h.rel]
  closed := h.closed
  fallback := h.fallback

theorem closeExtensometer_record (x : EvalInput) {e : Evu} {r : ResultRecord} (hr : e.result = some r) :
    ∃ r', (closeExtensometer x e).result = some r' ∧ RecordClosed x e r r' := by
  obtain ⟨r', hr', lost⟩ := fitLost_record x hr
  obtain ⟨-, hsearch, hphase, -⟩ := fitLost_evu x e
  refine ⟨_, ?_, lost.closed_record⟩
  rw [closeExtensometer_eq, yieldLost, searchLost, hsearch]
  by_cases hopen : e.search = .opened
  · by_cases hyield : e.phase = .yielding
    · simp [hopen, hyield, hphase, Evu.onResult, hr']
    · simp [hopen, hyield, hphase, Evu.onResult, hr']
  · by_cases hyield : e.phase = .yielding
    · simp [hopen, hyield, hphase, Evu.onResult, hr']
    · simp [hopen, hyield, hphase, hr']

/-- The end of the extensometer strain leaves no fit and no search in progress, and no yield phase. -/
theorem closeExtensometer_evu (x : EvalInput) (e : Evu) :
    (closeExtensometer x e).fit = (if e.fit = .collecting then .failed .extensometerRemoved else e.fit) ∧
    (closeExtensometer x e).search = (if e.search = .opened then .closed else e.search) ∧
    (e.phase = .yielding → YieldOver (closeExtensometer x e)) := by
  obtain ⟨hfit, hsearch, hphase, -⟩ := fitLost_evu x e
  rw [closeExtensometer_eq, yieldLost, searchLost, hsearch, ← hfit, ← hsearch]
  refine ⟨?_, ?_, fun hyield => ?_⟩
  · repeat' split
    all_goals rfl
  · repeat' split
    all_goals simp_all [Evu.onResult]
  · rw [hsearch, if_pos (by split <;> simp [hphase, hyield])]
    exact ⟨.inl rfl, rfl⟩

theorem closeExtensometer_settled (x : EvalInput) (e : Evu) : LineSettled (closeExtensometer x e) := by
  obtain ⟨hfit, hsearch, -⟩ := closeExtensometer_evu x e
  rw [LineSettled, hfit, hsearch]
  constructor
  · split <;> simp_all
  · split <;> simp_all

/-- What stands after a point on which the extensometer strain has ended, to its last consumer. -/
structure ComesOff (x : EvalInput) (e e' : Evu) (r r' : ResultRecord) : Prop where
  fields : FieldsKept r r'
  fit : e.fit = .collecting → e'.fit = .failed .extensometerRemoved
  search : e'.search = if e.search = .opened then .closed else e.search
  yield : e.phase = .yielding → YieldOver e'
  rp : e.fit = .collecting ∧ 0 < x.header.offsetStrain ∨ e.search = .opened → r.rp = .opened →
    r'.rp = .absent .extensometerRemoved
  rel : e.phase = .yielding → r.rel = .opened → r'.rel = .absent .extensometerRemoved
  closed : e.fit = .collecting → fallbackModulus x.header x.nominal = none → r.e = .opened → r.x0 = .opened →
    r'.e = .absent .extensometerRemoved ∧ r'.x0 = .absent .extensometerRemoved
  fallback : ∀ m, e.fit = .collecting → fallbackModulus x.header x.nominal = some m → r.e = .opened →
    r.x0 = .opened → r'.e = .fixed m x.point.index ∧
    r'.x0 = .fixed (fallbackIntercept e.sums m) x.point.index ∧ r'.fallbackUsed = true ∧ r'.fitCount = e.sums.n

/-- A field that has left OPEN stands. -/
theorem FieldsKept.stands {r r' : ResultRecord} (h : FieldsKept r r') :
    FieldKept r.e r'.e ∧ FieldKept r.x0 r'.x0 ∧ FieldKept r.rp r'.rp ∧ FieldKept r.rel r'.rel := by
  simp only [FieldsKept, ResultRecord.fields, List.forall₂_cons] at h
  obtain ⟨he, hx0, hrp, -, hrel, -⟩ := h
  exact ⟨he, hx0, hrp, hrel⟩

theorem comesOff_of_kept {x : EvalInput} {e e' : Evu} {r : ResultRecord} (hr : e.result = some r)
    (kept : LineKept (closeExtensometer x e) e') : ∃ r', e'.result = some r' ∧ ComesOff x e e' r r' := by
  obtain ⟨r1, hr1, closed⟩ := closeExtensometer_record x hr
  obtain ⟨r', hr', later⟩ := kept.record r1 hr1
  obtain ⟨hfit, hsearch, hyield⟩ := closeExtensometer_evu x e
  obtain ⟨ke, kx0, krp, krel⟩ := later.fields.stands
  refine ⟨r', hr', closed.fields.trans later.fields, fun h => ?_, kept.search.trans hsearch,
    fun h => kept.yield (hyield h), fun h hopen => ?_, fun h hopen => ?_, fun h hm he hx => ?_,
    fun m h hm he hx => ?_⟩
  · rw [kept.fit, hfit, if_pos h]
  · have rp := closed.rp h
    rw [hopen] at rp
    rw [krp (by simp [rp, Field.close]), rp, Field.close]
  · have rel := closed.rel h
    rw [hopen] at rel
    rw [krel (by simp [rel, Field.close]), rel, Field.close]
  · obtain ⟨ce, cx0⟩ := closed.closed h hm
    rw [he] at ce
    rw [hx] at cx0
    rw [ke (by simp [ce, Field.close]), kx0 (by simp [cx0, Field.close]), ce, cx0]
    exact ⟨rfl, rfl⟩
  · obtain ⟨ce, cx0, used, count⟩ := closed.fallback m h hm
    rw [he] at ce
    rw [hx] at cx0
    rw [ke (by simp [ce, Field.fix]), kx0 (by simp [cx0, Field.fix]), ce, cx0, later.fallbackUsed, later.fitCount]
    exact ⟨rfl, rfl, used, count⟩

/-- An OPEN field that the end of the extensometer strain closes, so that RESULT is raised (R152). -/
theorem ComesOff.closes {x : EvalInput} {e e' : Evu} {r r' : ResultRecord} (h : ComesOff x e e' r r')
    (hopen : e.fit = .collecting ∧ r.e = .opened ∧ r.x0 = .opened ∨ e.search = .opened ∧ r.rp = .opened ∨
      e.phase = .yielding ∧ r.rel = .opened) : r'.openCount < r.openCount := by
  rcases hopen with ⟨hfit, he, hx⟩ | ⟨hsearch, hrp⟩ | ⟨hphase, hrel⟩
  · have left : r'.e ≠ .opened := by
      cases hm : fallbackModulus x.header x.nominal with
      | none => simp [(h.closed hfit hm he hx).1]
      | some m => simp [(h.fallback m hfit hm he hx).1]
    exact openFields_lt h.fields (i := 0) (by simp [ResultRecord.fields, he]) (by simpa [ResultRecord.fields] using left)
  · exact openFields_lt h.fields (i := 2) (by simp [ResultRecord.fields, hrp])
      (by simp [ResultRecord.fields, h.rp (.inr hsearch) hrp])
  · exact openFields_lt h.fields (i := 4) (by simp [ResultRecord.fields, hrel])
      (by simp [ResultRecord.fields, h.rel hphase hrel])

end Sys2Proof.Proofs
end

section
/-! What the consumers of an evaluated point leave (O49): in a test that goes on, what the evaluation and the manager
have made of it; at its end, what has left OPEN; and no mark of the evaluation (R39, R135, R151, R157). -/

namespace Sys2Proof.Proofs

open Sys2Proof.Machine Sys2Proof.Laws

/-! ### Records that join the ring (R157) -/

/-- The ring has grown by records of these kinds. -/
def Adds (P : RecordKind → Prop) (a s : State) : Prop :=
  ∃ new, s.sms.ring = a.sms.ring ++ new ∧ ∀ x ∈ new, P x.kind

namespace Adds

variable {P Q : RecordKind → Prop} {a s t : State}

theorem of_eq (h : s.sms.ring = a.sms.ring) : Adds P a s := ⟨[], by simpa using h, by simp⟩

theorem trans (h : Adds P a s) (h' : Adds P s t) : Adds P a t := by
  obtain ⟨new, hring, hkinds⟩ := h
  obtain ⟨new', hring', hkinds'⟩ := h'
  refine ⟨new ++ new', by rw [hring', hring, List.append_assoc], fun x hx => ?_⟩
  rcases List.mem_append.1 hx with hx | hx
  · exact hkinds x hx
  · exact hkinds' x hx

theorem mono (h : Adds P a s) (hPQ : ∀ k, P k → Q k) : Adds Q a s := by
  obtain ⟨new, hring, hkinds⟩ := h
  exact ⟨new, hring, fun x hx => hPQ _ (hkinds x hx)⟩

/-- The records beyond those of the start. -/
theorem drop (h : Adds P a s) : ∀ x ∈ s.sms.ring.drop a.sms.ring.length, P x.kind := by
  obtain ⟨new, hring, hkinds⟩ := h
  rw [hring, List.drop_left]
  exact hkinds

end Adds

theorem storeRecord_adds {P : RecordKind → Prop} {k : RecordKind} (hk : P k) (mark : Bool) (i : Option Nat) (p : Point)
    {a s : State} (h : a.sms.ring = s.sms.ring) : Adds P a (storeRecord mark k i p s) :=
  ⟨[_], by rw [storeRecord_ring, h]; rfl, by simpa using hk⟩

theorem storeMark_adds {P : RecordKind → Prop} {k : RecordKind} (hk : P k) (p : Point) (s : State) :
    Adds P s (storeMark k p s) := storeRecord_adds hk true none p rfl

theorem handMarks_adds {P : RecordKind → Prop} {ms : List (RecordKind × Point)} (hms : ∀ m ∈ ms, P m.1) (s : State) :
    Adds P s (handMarks ms s) := by
  induction ms generalizing s with
  | nil => exact .of_eq rfl
  | cons m rest ih =>
    exact (storeMark_adds (hms m (by simp)) m.2 s).trans (ih (fun m' hm => hms m' (by simp [hm])) _)

theorem offerSegmentStart_adds {P : RecordKind → Prop} (hP : P .segmentStart) (i : Nat) (p : Point) {a s : State}
    (h : a.sms.ring = s.sms.ring) : Adds P a (offerSegmentStart i p s) := by
  have decided : a.sms.ring = (decideThinning s).sms.ring := by simp [h]
  unfold offerSegmentStart
  dsimp only
  split
  · exact storeRecord_adds hP _ _ _ decided
  · exact .of_eq decided.symm

theorem offerPoint_adds {P : RecordKind → Prop} (hP : P .point) (p : Point) {a s : State}
    (h : a.sms.ring = s.sms.ring) : Adds P a (offerPoint p s) := by
  have decided : a.sms.ring = (decideThinning (countOffered s)).sms.ring := by simp [h]
  unfold offerPoint decidePoint
  dsimp only
  repeat' split
  · exact storeRecord_adds hP _ _ _ decided
  · exact .of_eq decided.symm
  · exact .of_eq decided.symm
  · exact .of_eq h.symm

theorem applyEval_adds {P : RecordKind → Prop} {o : EvalOut} (ho : ∀ m ∈ o.marks, P m.1) (s : State) :
    Adds P s (applyEval o s) := by
  have marks : Adds P s (handMarks o.marks (s.onEvu fun _ => o.evu)) :=
    handMarks_adds ho (s.onEvu fun _ => o.evu)
  unfold applyEval
  dsimp only
  repeat' split
  all_goals exact marks.trans (.of_eq (by simp))

/-! ### What the consumers leave of the test -/

/-- A kind of record other than the marks of Rp and of ReL. -/
def PlainKind (k : RecordKind) : Prop := k ≠ .rp ∧ k ≠ .rel

/-- `s` goes on from `a` as a consumer of the point leaves it: unless the test has ended, the evaluation, the manager
and the link stand; a line without a fit in progress stays so; the ring grows by no mark of the evaluation. -/
structure TestLeft (a s : State) : Prop where
  runs : s.tsq.state ≠ .ended → s.evu = a.evu ∧ s.exm = a.exm ∧ s.glc = a.glc
  line : LineSettled a.evu → LineKept a.evu s.evu
  ring : Adds PlainKind a s

namespace TestLeft

variable {a s t u : State}

theorem of_same (hevu : s.evu = a.evu) (hexm : s.exm = a.exm) (hglc : s.glc = a.glc) (hring : Adds PlainKind a s) :
    TestLeft a s := ⟨fun _ => ⟨hevu, hexm, hglc⟩, fun _ => hevu ▸ .refl _, hring⟩

theorem same (hevu : s.evu = a.evu) (hexm : s.exm = a.exm) (hglc : s.glc = a.glc) (hsms : s.sms = a.sms) :
    TestLeft a s := of_same hevu hexm hglc (.of_eq (by rw [hsms]))

theorem refl (a : State) : TestLeft a a := same rfl rfl rfl rfl

/-- A start that differs in other records. -/
theorem of_start (hevu : u.evu = a.evu) (hexm : u.exm = a.exm) (hglc : u.glc = a.glc) (hsms : u.sms = a.sms)
    (h : TestLeft u s) : TestLeft a s where
  runs hq := by rw [← hevu, ← hexm, ← hglc]; exact h.runs hq
  line hs := by rw [← hevu] at hs ⊢; exact h.line hs
  ring := (Adds.of_eq (by rw [hsms])).trans h.ring

end TestLeft

/-- The end of a test closes what is OPEN and reopens nothing (R151). -/
theorem evalTestEnd_line (why : EndReason) {s : State} (h : LineSettled s.evu) :
    LineKept s.evu (evalTestEnd why s).evu := by
  obtain ⟨hfit, hsearch⟩ := h
  simp only [evalTestEnd, onEvu_evu, if_neg hfit, if_neg hsearch]
  exact .onResult (fun r => ⟨by simp [FieldsKept, ResultRecord.fields, ResultRecord.closeAll], rfl, rfl⟩)
    (.of_same rfl rfl (fun h => ⟨h.1, rfl⟩) rfl)

theorem enterEnded_left (why : EndReason) (cause : Option StartCause) (s : State) :
    TestLeft s (enterEnded why cause s) where
  runs hq := absurd (by simp [enterEnded_tsq]) hq
  line hs := by
    simp only [enterEnded, raise_frame, storeMark_frame, extTestEnd_frame]
    exact evalTestEnd_line why (s := (s.onTsq _).onDrl Drl.testEnd) hs
  ring := by
    unfold enterEnded
    dsimp only
    refine Adds.trans ?_ (.of_eq (by simp; rfl))
    exact storeRecord_adds (by simp [PlainKind]) true none _ (by simp)

theorem enterEnding_left (why : EndReason) (s : State) : TestLeft s (enterEnding why s) := by
  unfold enterEnding
  dsimp only
  split
  · refine .of_start ?_ ?_ ?_ ?_ (enterEnded_left why none _) <;> rfl
  · exact .same rfl rfl rfl rfl

theorem slipAction_left (s : State) : TestLeft s (slipAction s) := by
  unfold slipAction
  split
  · exact .same (by simp) (by simp) (by simp) (by simp)
  · exact enterEnding_left _ s
  · exact enterEnding_left _ s
  · exact .refl s

theorem reportIfIdle_left (s : State) : TestLeft s (reportIfIdle s) := by
  unfold reportIfIdle reportIdle
  repeat' split
  · exact .same (by simp) (by simp) (by simp) (by simp)
  · exact enterEnded_left _ none s
  · exact .refl s
  · exact .refl s

theorem reachSegment_left (i : Nat) (p : Point) (s : State) : TestLeft s (reachSegment i p s) := by
  refine .of_same (by simp) (by simp) (by simp) ?_
  unfold reachSegment enterSegment
  dsimp only
  repeat' split
  · exact .of_eq (by simp)
  · exact offerSegmentStart_adds (by simp [PlainKind]) i p (by simp)
  · exact offerSegmentStart_adds (by simp [PlainKind]) i p (by simp)

theorem onEndAction_left (i : Nat) (x : OnEnd) (p : Point) (s : State) : TestLeft s (onEndAction i x p s) := by
  cases x with
  | next =>
    unfold onEndAction
    dsimp only
    split
    · exact enterEnding_left _ s
    · exact reachSegment_left _ p s
  | hold => exact .same (by simp [onEndAction]) (by simp [onEndAction]) (by simp [onEndAction]) (by simp [onEndAction])
  | endTest => exact enterEnding_left _ s

theorem runningTaken_left (fractured : Bool) (p : Point) (s : State) : TestLeft s (runningTaken fractured p s) := by
  refine .of_start (u := countSegmentTime s) (by simp) (by simp) (by simp) (by simp) ?_
  unfold runningTaken runningPoint
  dsimp only
  repeat' split
  · exact enterEnding_left _ _
  · exact .refl _
  · exact .refl _
  · exact onEndAction_left _ _ p _
  · exact .refl _

theorem heldPoint_left (p : Point) (s : State) : TestLeft s (heldPoint p s) := by
  unfold heldPoint
  split
  · refine .of_same (by simp) (by simp) (by simp) ?_
    unfold enterSegment
    dsimp only
    split
    · exact offerSegmentStart_adds (by simp [PlainKind]) _ p (by simp)
    · exact offerSegmentStart_adds (by simp [PlainKind]) _ p (by simp)
  · exact .refl s

theorem sequencerPoint_left (fractured : Bool) (p : Point) {s : State} (hq : s.tsq.state ≠ .starting) :
    TestLeft s (sequencerPoint fractured p s) := by
  unfold sequencerPoint
  repeat' split
  · next h => exact absurd h hq
  · exact runningTaken_left fractured p s
  · exact enterEnding_left _ s
  · exact heldPoint_left p s
  all_goals exact .refl s

theorem drivePointWork_left (ready first : Bool) (p : Point) (s : State) :
    TestLeft s (drivePointWork ready first p s) := by
  unfold drivePointWork
  split
  · exact .same (by simp) (by simp) (by simp) (by simp)
  · unfold runningDrive
    split
    · exact .refl s
    · dsimp only
      split
      · exact .of_start (by simp) (by simp) (by simp) (by simp) (reportIfIdle_left _)
      · exact .same (by simp) (by simp) (by simp) (by simp)
  · exact .of_start (u := s.onDrl Drl.decelerate) rfl rfl rfl rfl (reportIfIdle_left _)
  · unfold movingDrive
    dsimp only
    repeat' split
    · exact .refl s
    · exact .same (by simp) (by simp) (by simp) (by simp)
    · exact .of_start (by simp) (by simp) (by simp) (by simp) (reportIfIdle_left _)
    · exact .same (by simp) (by simp) (by simp) (by simp)
  all_goals exact .refl s

theorem removalCheck_adds (p : Point) (s : State) : Adds PlainKind s (removalCheck p s) := by
  have hands : ∀ k, Adds PlainKind s (handover k s) := fun k => by
    obtain ⟨r, hring, hkind, -⟩ := handover_newest k s
    exact ⟨[r], hring, by simp [hkind, PlainKind]⟩
  unfold removalCheck
  repeat' split
  · exact .of_eq rfl
  · exact hands _
  · exact .of_eq rfl
  · exact hands _
  all_goals exact .of_eq rfl

/-- The manager adds at most the HANDOVER mark. -/
theorem managerPoint_adds (fractured : Bool) (p : Point) (s : State) : Adds PlainKind s (managerPoint fractured p s) := by
  unfold managerPoint
  repeat' split
  · exact .of_eq (by simp)
  · exact removalCheck_adds p s
  · exact .of_eq rfl

end Sys2Proof.Proofs
end

section
/-! The removal of the extensometer on a point (the first half of O49): what the removal check makes of the trigger and
of what holds a removal back, and the states of the point in which it is made (R123, R125 to R127). -/

namespace Sys2Proof.Proofs

open Sys2Proof.Machine Sys2Proof.Laws

/-! ### The removal check (R125, R126) -/

/-- A removal is held back on the point (R126). -/
def HeldBack (p : Point) (u : State) : Prop := p.strain < u.header.protectStrain ∧ evaluationOpen u = true

theorem evaluationOpen_iff (u : State) :
    evaluationOpen u = true ↔
      u.evu.phase = .yielding ∨ 0 < u.header.offsetStrain ∧ ∃ r, u.evu.result = some r ∧ r.rp = .opened := by
  cases hr : u.evu.result <;> simp [evaluationOpen, proofUnresolved, hr, or_comm]

section
variable {p : Point} {u : State}

theorem removalTrigger_strain (h : 0 < u.header.removalStrain ∧ (u.header.removalStrain : Int) ≤ p.strain) :
    removalTrigger p u = some .strain := if_pos h

theorem removalTrigger_necking (h : ¬ (0 < u.header.removalStrain ∧ (u.header.removalStrain : Int) ≤ p.strain))
    (hphase : u.evu.phase = .necking) : removalTrigger p u = some .necking := (if_neg h).trans (if_pos hphase)

theorem removalTrigger_none (h : ¬ (0 < u.header.removalStrain ∧ (u.header.removalStrain : Int) ≤ p.strain))
    (hphase : u.evu.phase ≠ .necking) : removalTrigger p u = none := (if_neg h).trans (if_neg hphase)

theorem removalCheck_watches (hw : u.exm.removal = .watching) (ht : removalTrigger p u = none) :
    removalCheck p u = u := by simp only [removalCheck, hw, ht]

theorem removalCheck_defers {k : Trigger} (hw : u.exm.removal = .watching) (ht : removalTrigger p u = some k)
    (hb : HeldBack p u) :
    removalCheck p u = u.onExm fun m => { m with removal := .deferred, trigger := some k } := by
  simp only [removalCheck, hw, ht]
  exact if_pos hb

theorem removalCheck_hands {k : Trigger} (hw : u.exm.removal = .watching) (ht : removalTrigger p u = some k)
    (hb : ¬ HeldBack p u) : removalCheck p u = handover k u := by
  simp only [removalCheck, hw, ht]
  exact if_neg hb

theorem heldBack_iff : ¬ HeldBack p u ↔ (u.header.protectStrain : Int) ≤ p.strain ∨ ¬ evaluationOpen u = true := by
  rw [HeldBack, not_and_or, Int.not_lt]

theorem removalCheck_waits (hd : u.exm.removal = .deferred) (hb : HeldBack p u) : removalCheck p u = u := by
  simp only [removalCheck, hd]
  exact if_neg (mt heldBack_iff.2 (not_not_intro hb))

theorem removalCheck_handsLate {k : Trigger} (hd : u.exm.removal = .deferred) (hk : u.exm.trigger = some k)
    (hb : ¬ HeldBack p u) : removalCheck p u = handover k u := by
  simp only [removalCheck, hd, hk]
  exact if_pos (heldBack_iff.1 hb)

end

/-- A handover on a point, seen from the state before the point and from the one after it (R123, R127). -/
theorem handedOverOn_of {s u t : State} {k : Trigger} {p : Point} (hexm : t.exm = (handover k u).exm)
    (hglc : t.glc = (handover k u).glc) (hlatest : u.latest = p) (hbefore : s.sms.ring <+: u.sms.ring)
    (hafter : (handover k u).sms.ring <+: t.sms.ring) : s.handedOverOn t k p := by
  obtain ⟨source, removal, trigger, point, ratio, window⟩ := handover_record k u
  obtain ⟨watch, holds, record⟩ := handover_watchOnly k u
  have heads : t.exm.heads = u.exm.heads := by
    rw [hexm, record]
    rfl
  rw [← hexm] at source removal trigger point ratio window
  refine ⟨source, removal, trigger, by rw [point, hlatest], ?_, fun h hm => ?_, fun hempty => ?_,
    fun oldest newest hhead hlast => ?_⟩
  · obtain ⟨before, hbefore⟩ := hbefore
    obtain ⟨rest, hafter⟩ := hafter
    obtain ⟨r, joined, kind, segment, copied⟩ := storeMark_ring .handover u.latest (handedOver k u)
    have ring : u.sms.ring = (handedOver k u).sms.ring := rfl
    refine ⟨before, r, rest, ?_, kind, segment, hlatest ▸ copied⟩
    rw [← hafter, handover_sms, joined, ← ring, ← hbefore, List.append_assoc _ [r], List.singleton_append]
  · rw [heads] at hm
    have watched := handover_watched k hm
    exact ⟨hglc ▸ watched.1, hexm ▸ watched.2⟩
  · rw [ratio, ← window, hempty]
    rfl
  · rw [ratio, ← window, formRatio_window hhead hlast]

/-! ### The states of an evaluated point -/

theorem Adds.grows {P : RecordKind → Prop} {a s : State} (h : Adds P a s) : a.sms.ring <+: s.sms.ring := by
  obtain ⟨new, hring, -⟩ := h
  exact ⟨new, hring.symm⟩

/-- The state in which the Test Sequencer takes the point. -/
def managedOn (s : State) (c : Conversion) : State :=
  managerPoint (evaluatedOn s c).2 (formedOn s c).point (evaluatedOn s c).1

theorem passedOn_eq (s : State) (c : Conversion) :
    passedOn s c = sequencerPoint (evaluatedOn s c).2 (formedOn s c).point (managedOn s c) := rfl

theorem header_program {s t : State} (h : t.tsq.program = s.tsq.program) : t.header = s.header := by
  simp only [State.header, h]

/-- Forming the point leaves the manager's record of the removal. -/
theorem formedOn_removal (s : State) (c : Conversion) :
    (formedOn s c).state.exm.removal = s.exm.removal ∧ (formedOn s c).state.exm.trigger = s.exm.trigger ∧
    (formedOn s c).state.exm.source = s.exm.source := by
  have trigger : ∀ u : State, (windowEntry (formedOn s c).point u).exm.trigger = u.exm.trigger := fun u => by
    unfold windowEntry
    split <;> rfl
  simp [formedOn_state, signalledOn, trigger, judgeHeads]

/-- Up to the evaluation an evaluated point leaves the test's evaluation, its manager's record and the ring as forming
the point has left them. -/
theorem drivenOn_stands {s : State} {c : Conversion} (h : s.evaluates c) :
    (drivenOn s c).evu = s.evu ∧ (drivenOn s c).exm = (formedOn s c).state.exm ∧ Adds PlainKind s (drivenOn s c) ∧
    (drivenOn s c).header = s.header ∧ (drivenOn s c).tsq.specimen = s.tsq.specimen ∧
    (drivenOn s c).latestPoint = some (formedOn s c).point := by
  obtain ⟨evaluated, -⟩ := drivenOn_evaluated h
  have sampled := sampledOn_of_calm h.1
  obtain ⟨-, hready, hread, -⟩ := h.1
  have exm : (sampledOn s c).exm = (formedOn s c).state.exm := by simp [sampledOn_calm hready hread]
  have left : TestLeft (sampledOn s c) (drivenOn s c) := drivePointWork_left _ _ _ _
  obtain ⟨kevu, kexm, -⟩ := left.runs fun hq => by simp [hq, SeqState.evaluated] at evaluated
  have program : (drivenOn s c).tsq.program = s.tsq.program := by simp [drivenOn, sampled.tsq]
  refine ⟨kevu.trans sampled.evu, kexm.trans exm, (Adds.of_eq sampled.store.1).trans left.ring,
    header_program program, by simp [drivenOn, sampled.tsq], ?_⟩
  simp [drivenOn, sampledOn_calm hready hread, (formedOn_point s c).2.2]

theorem evaluatedOn_left {s : State} {c : Conversion} (h : s.evaluates c) :
    TestLeft (appliedOn s c) (evaluatedOn s c).1 := by
  rw [evaluatedOn_eq (drivenOn_evaluated h).1]
  dsimp only
  split
  · exact slipAction_left _
  · exact .refl _

/-- The sequencer finds no start on an evaluated point. -/
theorem managedOn_started {s : State} {c : Conversion} (h : s.evaluates c) : (managedOn s c).tsq.state ≠ .starting :=
  fun hq => by
    have start := (managedOn_placed s c).started hq
    rw [(formedOn_frame s c).1] at start
    rcases h.2 with h | h | ⟨h, -⟩ <;> simp [h] at start

theorem passedOn_left {s : State} {c : Conversion} (h : s.evaluates c) : TestLeft (managedOn s c) (passedOn s c) :=
  sequencerPoint_left _ _ (managedOn_started h)

/-- The last consumers of a calm point add its POINT record at most. -/
theorem afterPoint_rest {s : State} {c : Conversion} (h : s.calm c) :
    (afterPoint s c).tsq = (passedOn s c).tsq ∧ (afterPoint s c).evu = (passedOn s c).evu ∧
    (afterPoint s c).exm = (passedOn s c).exm ∧ (afterPoint s c).glc = (passedOn s c).glc ∧
    Adds PlainKind (passedOn s c) (afterPoint s c) := by
  obtain ⟨n, hn⟩ := limitPoint_quiet (p := (formedOn s c).point) (passedOn_unloaded h)
  obtain ⟨-, -, -, hfault, -⟩ := h
  have quiet : loadedOn s c = (passedOn s c).onLmu fun m => { m with driveFault := .inactive, overloadCount := n } := by
    rw [← hn, ← hfault]
    rfl
  rw [afterPoint, quiet]
  exact ⟨by simp, by simp, by simp, by simp, offerPoint_adds (by simp [PlainKind]) _ rfl⟩

/-- The test has not ended up to a consumer after which it has not. -/
theorem runs_of_after {s : State} {c : Conversion} (h : s.calm c) (hq : (afterPoint s c).tsq.state ≠ .ended) :
    (passedOn s c).tsq.state ≠ .ended ∧ (managedOn s c).tsq.state ≠ .ended ∧
    (evaluatedOn s c).1.tsq.state ≠ .ended := by
  rw [(afterPoint_rest h).1] at hq
  have managed : (managedOn s c).tsq.state ≠ .ended := fun hm => hq (by
    rw [passedOn_eq]
    simp [sequencerPoint, hm])
  exact ⟨hq, managed, by simpa [managedOn] using managed⟩

/-- What the point leaves of a test that it neither breaks nor ends: the removal check on the point, with the
evaluation as it is then. -/
theorem afterPoint_checked {s : State} {c : Conversion} (h : s.evaluates c) (hphase : s.evu.phase ≠ .fractured)
    (hunbroken : (afterPoint s c).evu.phase ≠ .fractured) (hq : (afterPoint s c).tsq.state ≠ .ended) :
    let u := (evaluatedOn s c).1
    let v := removalCheck (formedOn s c).point u
    u.evu = (afterPoint s c).evu ∧ u.header = s.header ∧ u.latest = (formedOn s c).point ∧
    u.exm = (formedOn s c).state.exm ∧ s.sms.ring <+: u.sms.ring ∧
    (afterPoint s c).exm = v.exm ∧ (afterPoint s c).glc = v.glc ∧ v.sms.ring <+: (afterPoint s c).sms.ring := by
  intro u v
  obtain ⟨passedRuns, managedRuns, evaluatedRuns⟩ := runs_of_after h.1 hq
  obtain ⟨devu, dexm, dring, dheader, -, dlatest⟩ := drivenOn_stands h
  obtain ⟨-, aevu, aexm, aglc, aring⟩ := afterPoint_rest h.1
  obtain ⟨pevu, pexm, pglc⟩ := (passedOn_left h).runs passedRuns
  obtain ⟨eevu, eexm, -⟩ := (evaluatedOn_left h).runs evaluatedRuns
  have after : (afterPoint s c).evu = u.evu := by
    rw [aevu, pevu, managedOn]
    simp [u]
  have whole : (evaluatedOn s c).2 = false := by
    rw [evaluatedOn_eq (drivenOn_evaluated h).1]
    refine Bool.eq_false_iff.2 fun hbroken => hunbroken ?_
    rw [after, show u.evu = _ from eevu, appliedOn, applyEval_evu]
    exact (evaluate_fractured_iff _ (by rwa [devu])).1 hbroken
  have evaluated : u.tsq.state.evaluated = true := by
    have started : u.tsq.state ≠ .starting := by simpa [managedOn, u] using managedOn_started h
    have goes : TestGoesOn u := evaluationPoint_goesOn (evaluated_inTest (drivenOn_evaluated h).1)
    have inTest := goes.resolve_right fun hended => evaluatedRuns hended.1
    rw [State.inTest] at inTest
    cases hstate : u.tsq.state <;> simp_all [SeqState.inTest, SeqState.evaluated]
  have managed : managedOn s c = v := by
    rw [managedOn, whole, managerPoint, if_neg (by decide), if_pos evaluated]
  have program : u.tsq.program = (drivenOn s c).tsq.program := by simp [u, evaluatedOn, drivenOn]
  have latest : u.latestPoint = (drivenOn s c).latestPoint := by simp [u, evaluatedOn, drivenOn]
  have applied : Adds (fun _ => True) (drivenOn s c) (appliedOn s c) := applyEval_adds (fun _ _ => trivial) _
  have appliedExm : (appliedOn s c).exm = (drivenOn s c).exm := by simp [appliedOn]
  have begun : Adds (fun _ => True) s u := ((dring.mono fun _ _ => trivial).trans applied).trans
    ((evaluatedOn_left h).ring.mono fun _ _ => trivial)
  rw [managed] at pexm pglc
  refine ⟨after.symm, (header_program program).trans dheader, by rw [State.latest, latest, dlatest]; rfl, ?_,
    begun.grows, aexm.trans pexm, aglc.trans pglc, ?_⟩
  · rw [show u.exm = _ from eexm, appliedExm, dexm]
  · rw [← managed]
    exact ((passedOn_left h).ring.trans aring).grows

/-! ### The outcomes of the removal check on the point -/

section
variable {s : State} {c : Conversion} (h : s.evaluates c) (hphase : s.evu.phase ≠ .fractured)
  (hunbroken : (afterPoint s c).evu.phase ≠ .fractured) (hruns : (afterPoint s c).tsq.state ≠ .ended)
include h hphase hunbroken hruns

theorem afterPoint_removalStands
    (hcheck : removalCheck (formedOn s c).point (evaluatedOn s c).1 = (evaluatedOn s c).1) :
    (afterPoint s c).exm.removal = s.exm.removal ∧ (afterPoint s c).exm.trigger = s.exm.trigger ∧
    (afterPoint s c).exm.source = s.exm.source := by
  obtain ⟨-, -, -, exm, -, texm, -⟩ := afterPoint_checked h hphase hunbroken hruns
  rw [texm, hcheck, exm]
  exact formedOn_removal s c

theorem afterPoint_defers {k : Trigger} (hw : s.exm.removal = .watching)
    (ht : removalTrigger (formedOn s c).point (evaluatedOn s c).1 = some k)
    (hb : HeldBack (formedOn s c).point (evaluatedOn s c).1) :
    (afterPoint s c).exm.removal = .deferred ∧ (afterPoint s c).exm.source = s.exm.source ∧
    (afterPoint s c).exm.trigger = some k := by
  obtain ⟨-, -, -, exm, -, texm, -⟩ := afterPoint_checked h hphase hunbroken hruns
  obtain ⟨removal, -, source⟩ := formedOn_removal s c
  rw [← exm] at removal source
  rw [texm, removalCheck_defers (removal.trans hw) ht hb]
  exact ⟨rfl, source, rfl⟩

theorem afterPoint_handsOver {k : Trigger}
    (hcheck : removalCheck (formedOn s c).point (evaluatedOn s c).1 = handover k (evaluatedOn s c).1) :
    s.handedOverOn (afterPoint s c) k (formedOn s c).point := by
  obtain ⟨-, -, latest, -, before, texm, tglc, after⟩ := afterPoint_checked h hphase hunbroken hruns
  rw [hcheck] at texm tglc after
  exact handedOverOn_of texm tglc latest before after

end

end Sys2Proof.Proofs
end

section
/-! The extensometer comes off (O49): the removal on a point, and what the first point without its strain closes (R123,
R125 to R127, R138, R141, R148). -/

namespace Sys2Proof.Proofs

open Sys2Proof.Machine Sys2Proof.Laws

/-! ### The first point without the extensometer's strain (R148) -/

/-- What the evaluation reads on the point. -/
def inputOn (s : State) (c : Conversion) : EvalInput :=
  (drivenOn s c).evalInput (formedOn s c).unrest (formedOn s c).point

theorem judgedOn_eq (s : State) (c : Conversion) : judgedOn s c = evaluate (inputOn s c) (drivenOn s c).evu := rfl

theorem inputOn_fields {s : State} {c : Conversion} (h : s.evaluates c) :
    (inputOn s c).header = s.header ∧ (inputOn s c).nominal = s.tsq.specimen.bind (·.nominalModulus) ∧
    (inputOn s c).handedOver = decide (s.exm.removal = .handedOver) ∧
    (inputOn s c).point = (formedOn s c).point := by
  obtain ⟨-, exm, -, header, specimen, -⟩ := drivenOn_stands h
  refine ⟨header, ?_, ?_, rfl⟩
  · simp only [inputOn, State.evalInput, specimen]
  · simp only [inputOn, State.evalInput, exm, (formedOn_removal s c).1]

theorem extensometerEnds_inputOn {s : State} {c : Conversion} (h : s.evaluates c)
    (hsource : s.exm.source ≠ .extensometer)
    (hfirst : (∃ q, s.evu.prev = some q ∧ q.source = .extensometer) ∨
      s.evu.prev = none ∧ s.exm.removal = .handedOver) :
    extensometerEnds (inputOn s c) s.evu = true := by
  obtain ⟨-, -, handed, point⟩ := inputOn_fields h
  obtain ⟨-, -, -, -, -, source, -⟩ := formedOn_fields s c
  rw [extensometerEnds, handed, point, source]
  rcases hfirst with ⟨q, hprev, hq⟩ | ⟨hprev, hremoval⟩
  · simp [hprev, hq, hsource]
  · simp [hprev, hremoval, hsource]

theorem applyEval_result {o : EvalOut} {s : State} (h : o.evu.openCount < s.evu.openCount) :
    (applyEval o s).cli.pending.has .result = true := by
  unfold applyEval
  dsimp only
  rw [if_pos h]
  split <;> rfl

section
variable {s : State} {c : Conversion} (h : s.evaluates c) (hphase : s.evu.phase ≠ .fractured)
  (hends : extensometerEnds (inputOn s c) s.evu = true)
include h hphase hends

/-- The evaluation keeps what the end of the extensometer strain has closed on the point. -/
theorem judgedOn_kept :
    EvalKept ⟨closeExtensometer (inputOn s c) s.evu, [], false, false⟩ (judgedOn s c) := by
  rw [judgedOn_eq, (drivenOn_stands h).1]
  exact evaluate_kept _ hphase hends (closeExtensometer_settled _ _)

/-- And so do the later consumers of the point. -/
theorem afterPoint_kept :
    LineKept (closeExtensometer (inputOn s c) s.evu) (afterPoint s c).evu := by
  have judged := (judgedOn_kept h hphase hends).line
  have applied : (appliedOn s c).evu = (judgedOn s c).evu := applyEval_evu _ _
  have managed : (managedOn s c).evu = (evaluatedOn s c).1.evu := by simp [managedOn]
  have settled := judged.settled (closeExtensometer_settled _ _)
  rw [← applied] at judged settled
  have evaluated := (evaluatedOn_left h).line settled
  have passed := (passedOn_left h).line (by rw [managed]; exact evaluated.settled settled)
  rw [managed] at passed
  rw [(afterPoint_rest h.1).2.1]
  exact (judged.trans evaluated).trans passed

/-- RESULT is raised where a field that was OPEN has closed (R152). -/
theorem afterPoint_result {r : ResultRecord} (hr : s.evu.result = some r)
    (hopen : s.evu.fit = .collecting ∧ r.e = .opened ∧ r.x0 = .opened ∨ s.evu.search = .opened ∧ r.rp = .opened ∨
      s.evu.phase = .yielding ∧ r.rel = .opened) : (afterPoint s c).cli.pending.result = true := by
  obtain ⟨r', hr', off⟩ := comesOff_of_kept hr (judgedOn_kept h hphase hends).line
  have fewer : (judgedOn s c).evu.openCount < (drivenOn s c).evu.openCount := by
    rw [(drivenOn_stands h).1]
    simp only [Evu.openCount, hr, show (judgedOn s c).evu.result = some r' from hr']
    exact off.closes hopen
  have evaluated : Carried (appliedOn s c) (evaluatedOn s c).1 := by
    rw [evaluatedOn_eq (drivenOn_evaluated h).1]
    dsimp only
    split
    · exact (Carried.refl _).slipAction
    · exact Carried.refl _
  have passed : Carried (appliedOn s c) (passedOn s c) := evaluated.managerPoint.sequencerPoint
  exact (calmPoint_of h.1).ends.carried.cli.pending .result (passed.cli.pending .result (applyEval_result fewer))

/-- The records that the point adds to the ring. -/
theorem afterPoint_marks :
    Adds (· ≠ .rp) s (afterPoint s c) ∧ (s.evu.phase = .yielding → Adds (· ≠ .rel) s (afterPoint s c)) := by
  obtain ⟨ms, hms, kinds⟩ := (judgedOn_kept h hphase hends).marks
  rw [List.nil_append] at hms
  have managed : Adds PlainKind (evaluatedOn s c).1 (managedOn s c) := managerPoint_adds _ _ _
  have later : Adds PlainKind (appliedOn s c) (afterPoint s c) :=
    (((evaluatedOn_left h).ring.trans managed).trans (passedOn_left h).ring).trans (afterPoint_rest h.1).2.2.2.2
  have before := (drivenOn_stands h).2.2.1
  refine ⟨?_, fun hyield => ?_⟩
  · have applied : Adds (· ≠ .rp) (drivenOn s c) (appliedOn s c) :=
      applyEval_adds (fun m hm => (kinds m (hms ▸ hm)).1) _
    exact ((before.mono fun _ hk => hk.1).trans applied).trans (later.mono fun _ hk => hk.1)
  · have ended := (closeExtensometer_evu (inputOn s c) s.evu).2.2 hyield
    have applied : Adds (· ≠ .rel) (drivenOn s c) (appliedOn s c) :=
      applyEval_adds (fun m hm => (kinds m (hms ▸ hm)).2 ended) _
    exact ((before.mono fun _ hk => hk.2).trans applied).trans (later.mono fun _ hk => hk.2)

end

/-- Settles O49: the removal check on the point as the evaluation has left it, and what the end of the extensometer
strain has closed, which every later step of the point keeps. -/
theorem extensometerComesOff : Obligations.ExtensometerComesOff := by
  refine ⟨fun s c h hphase hremoval => ?_, fun s c r h hphase hr hsource hfirst => ?_⟩
  · refine ⟨afterPoint s c, (formedOn s c).point, exec_afterPoint h.1.1, afterPoint_latest s c, ?_⟩
    intro byStrain byNecking holdsBack hunbroken hruns
    obtain ⟨evu, header, -, exm, -⟩ := afterPoint_checked h hphase hunbroken hruns
    obtain ⟨removal, trigger, -⟩ := formedOn_removal s c
    rw [← exm] at removal trigger
    have back : HeldBack (formedOn s c).point (evaluatedOn s c).1 ↔ holdsBack := by
      rw [HeldBack, evaluationOpen_iff, header, evu]
    have strain : byStrain → removalTrigger (formedOn s c).point (evaluatedOn s c).1 = some .strain := fun hs =>
      removalTrigger_strain (by rwa [header])
    have necking : byNecking → removalTrigger (formedOn s c).point (evaluatedOn s c).1 = some .necking :=
      fun ⟨hno, hn⟩ => removalTrigger_necking (by rwa [header]) (by rwa [evu])
    have untriggered : ¬ byStrain → ¬ byNecking → removalTrigger (formedOn s c).point (evaluatedOn s c).1 = none :=
      fun hs hn => removalTrigger_none (by rwa [header]) (by rw [evu]; exact fun hnecking => hn ⟨hs, hnecking⟩)
    have stands := afterPoint_removalStands h hphase hunbroken hruns
    have defers : ∀ k, _ := fun k => afterPoint_defers (k := k) h hphase hunbroken hruns
    have hands : ∀ k, _ := fun k => afterPoint_handsOver (k := k) h hphase hunbroken hruns
    refine ⟨fun hw hs hn => ?_, fun hw hb hcause => ?_, fun hw hb => ⟨fun hs => ?_, fun hn => ?_⟩, fun hd hb => ?_,
      fun k hd hk hb => ?_⟩
    · exact hw ▸ stands (removalCheck_watches (removal.trans hw) (untriggered hs hn))
    · rcases hcause with hs | hn
      · obtain ⟨deferred, source, cause⟩ := defers _ hw (strain hs) (back.2 hb)
        exact ⟨deferred, source, fun _ => cause, fun hn => absurd hs hn.1⟩
      · obtain ⟨deferred, source, cause⟩ := defers _ hw (necking hn) (back.2 hb)
        exact ⟨deferred, source, fun hs => absurd hs hn.1, fun _ => cause⟩
    · exact hands _ (removalCheck_hands (removal.trans hw) (strain hs) (mt back.1 hb))
    · exact hands _ (removalCheck_hands (removal.trans hw) (necking hn) (mt back.1 hb))
    · exact hd ▸ stands (removalCheck_waits (removal.trans hd) (back.2 hb))
    · exact hands k (removalCheck_handsLate (removal.trans hd) (trigger.trans hk) (mt back.1 hb))
  · have hends := extensometerEnds_inputOn h hsource hfirst
    obtain ⟨header, nominal, -, point⟩ := inputOn_fields h
    obtain ⟨r', hr', off⟩ := comesOff_of_kept hr (afterPoint_kept h hphase hends)
    have raised := afterPoint_result h hphase hends hr
    obtain ⟨noRp, noRel⟩ := afterPoint_marks h hphase hends
    obtain ⟨-, offFit, offSearch, offYield, offRp, offRel, offClosed, offFallback⟩ := off
    rw [header] at offRp
    rw [header, nominal] at offClosed offFallback
    rw [point] at offFallback
    refine ⟨afterPoint s c, (formedOn s c).point, r', exec_afterPoint h.1.1, afterPoint_latest s c, hr', ?_⟩
    intro asked sums
    refine ⟨fun hfit he hx => ⟨offFit hfit, raised (.inl ⟨hfit, he, hx⟩),
        fun hasked hrp => offRp (.inl ⟨hfit, hasked⟩) hrp, fun hnot => by rw [offSearch, hnot]; rfl, fun hno => offClosed hfit ?_ he hx, fun m hm hn => ?_⟩,
      fun hsearch => ⟨by rw [offSearch, if_pos hsearch], fun hrp =>
        ⟨offRp (.inr hsearch) hrp, raised (.inr (.inl ⟨hsearch, hrp⟩))⟩⟩,
      fun hyield => ⟨(offYield hyield).2, (offYield hyield).1, fun hrel =>
        ⟨offRel hyield hrel, raised (.inr (.inr ⟨hyield, hrel⟩))⟩⟩,
      fun _ => noRp.drop, fun hyield => (noRel hyield).drop⟩
    · rcases hno with hno | hno <;> simp [fallbackModulus, hno]
    · obtain ⟨fe, fx0, fused, fcount⟩ := offFallback m hfit (by simp [fallbackModulus, hm, hn]) he hx
      exact ⟨fe, fused, fcount, fx0⟩

end Sys2Proof.Proofs
end

section
/-! The walk of a test (R25, R31, R38, R39, R151): what one command does to the state of the test and to its
evaluation record. `exec_effect` says once what a command can be: a turn of the link, a reset, the answer to a request,
an event, or a measured point. A predicate on states that `EventWalk` describes is kept by every event. -/

namespace Sys2Proof.Proofs

open Sys2Proof.Machine Sys2Proof.Laws

/-! ### What a command can do -/

/-- The link has counted, received or sent, and nothing else has happened. -/
def LinkTurn (s u : State) : Prop := ∃ f : Cli → Cli, u = s.onCli f ∧ (f s.cli).pending = s.cli.pending

namespace LinkTurn

variable {s u v : State}

theorem refl (s : State) : LinkTurn s s := ⟨id, rfl, rfl⟩

theorem on {f : Cli → Cli} (h : LinkTurn s u) (hf : (f u.cli).pending = u.cli.pending) : LinkTurn s (u.onCli f) := by
  obtain ⟨g, rfl, hg⟩ := h
  exact ⟨fun c => f (g c), rfl, hf.trans hg⟩

theorem count (h : LinkTurn s u) (f : LinkCounters → LinkCounters) : LinkTurn s (countLink f u) := h.on rfl

theorem drop (h : LinkTurn s u) : LinkTurn s (dropFrame u) := h.on rfl

theorem receive (h : LinkTurn s u) (r : Receiver) (bs : List Byte) : LinkTurn s (receive r bs u) := h.on rfl

theorem pop (h : LinkTurn s u) : LinkTurn s (popReply u) := (h.on rfl).count _

theorem pending (h : LinkTurn s u) : u.cli.pending = s.cli.pending := by
  obtain ⟨f, rfl, hf⟩ := h
  exact hf

theorem blocks (h : LinkTurn s u) :
    u.tsq = s.tsq ∧ u.evu = s.evu ∧ u.drl = s.drl ∧ u.exm = s.exm ∧ u.glc = s.glc ∧ u.sms = s.sms ∧
    u.latestPoint = s.latestPoint := by
  obtain ⟨f, rfl, -⟩ := h
  simp

end LinkTurn

/-- The events apart from the measured point: a timer, a count, a line or a transaction. -/
inductive EventEffect : (State → State) → Prop
  | level : EventEffect levelExpiry
  | unrest : EventEffect unrestExpiry
  | downRange : EventEffect downRangeReached
  | enableWait (b : Bool) : EventEffect (enableWaitReached b)
  | tareWait : EventEffect tareWaitReached
  | startTare : EventEffect startTareReached
  | readback : EventEffect reportReadback
  | paceDelay : EventEffect paceDelayReached
  | asserted (i : SafetyInput) : EventEffect (inputGoesAsserted i)
  | released (i : SafetyInput) : EventEffect (inputGoesInactive i)
  | sample (raw : SafetyLevels) : EventEffect (sampleInputs raw)
  | poll : EventEffect pollRound
  | arbiter : EventEffect arbiter
  | timeout (b : Bool) : EventEffect (replyTimeout b)
  | replyEnd (bs : List Byte) : EventEffect (replyEnd bs)
  | headFails (h : Head) : EventEffect (headFails h)
  | failedPolls (h : Head) : EventEffect (failedPolls h)
  | pollDue : EventEffect confirmationDue
  | confirmationOut : EventEffect confirmationOut
  | encoder (up : Bool) : EventEffect (encoderStep up)

/-- What a command that brings no measured point makes of a state. -/
inductive Effect (s : State) : State → Prop
  | link {u : State} (hu : LinkTurn s u) : Effect s u
  | reset (raw : SafetyLevels) (u : State) : Effect s (resetPart raw u)
  | held : Effect s (holdInReset s)
  | answer {d : Decision} {u : State} (hd : d ∈ decisions) (k tag : Byte) (p : List Byte) (hu : LinkTurn s u) :
    Effect s (queueReply k tag (d p u))
  | event {f : State → State} (hf : EventEffect f) : Effect s (f s)

theorem request_effect {s u : State} (hu : LinkTurn s u) {d : Decision} (hd : d ∈ decisions) (k tag : Byte)
    (p : List Byte) : Effect s (takeRequest k tag (d p) u) := by
  rcases takeRequest_cases k tag (d p) u with h | h | ⟨-, h⟩ <;> rw [h]
  · exact .link hu
  · exact .link (hu.count _)
  · exact .answer hd k tag p (hu.count _)

theorem decisionOf_decisions (k : Byte) : decisionOf k ∈ decisions := by
  rcases decisionOf_mem k with h | ⟨x, hx, h⟩ <;> rw [h]
  · exact List.mem_cons_self
  · exact List.mem_cons_of_mem _ (List.mem_map_of_mem hx)

theorem completeFrame_effect {s u : State} (hu : LinkTurn s u) (bs : List Byte) : Effect s (completeFrame bs u) := by
  unfold completeFrame
  split
  · exact .link hu
  · split
    · exact request_effect hu (decisionOf_decisions _) _ _ _
    · exact .link (hu.count _)

theorem receiveGood_effect (b : Byte) (s : State) : Effect s (receiveGood b s) := by
  have turn := LinkTurn.refl s
  unfold receiveGood
  dsimp only
  split
  · split
    · exact .link (turn.receive _ _)
    · exact .link turn
  · split
    · exact .link (turn.receive _ _)
    · split
      · exact .link (turn.receive _ _)
      · exact .link (turn.drop.count _)
  · split <;> exact .link (turn.receive _ _)
  · split
    · exact .link (turn.receive _ _)
    · exact completeFrame_effect turn.drop _

theorem receiveByte_effect (b : Byte) (stop : Bool) (s : State) : Effect s (receiveByte b stop s) := by
  have turn := LinkTurn.refl s
  unfold receiveByte
  split
  · exact receiveGood_effect b s
  · split
    · exact .link turn
    · exact .link (turn.drop.count _)

theorem interbyteGap_effect (s : State) : Effect s (interbyteGap s) := by
  have turn := LinkTurn.refl s
  unfold interbyteGap
  split
  · exact .link turn
  · exact .link (turn.drop.count _)

theorem replyOut_effect (raw : SafetyLevels) (s : State) : Effect s (replyOut raw s) := by
  have turn := LinkTurn.refl s
  unfold replyOut
  split
  · exact .link turn
  · split
    · exact .reset raw _
    · exact .link turn.pop

theorem restartEffect_effect (raw : SafetyLevels) (s : State) : Effect s (restartEffect raw s) := by
  rcases restartEffect_cases raw s with h | ⟨-, h⟩ <;> rw [h]
  · exact .link (.refl s)
  · exact .reset raw s

theorem live_effect {f : State → State} {s t : State} (hf : Effect s (f s)) (h : live f s = .next t) : Effect s t := by
  unfold live at h
  split at h <;> cases h
  · exact .link (.refl s)
  · exact hf

/-- What a command can be. -/
theorem exec_effect {k : Instr} {s t : State} (h : exec k s = .next t) :
    (∃ c, k = .conversionComplete c ∧ s.inReset = false ∧ t = conversion c s) ∨ Effect s t := by
  cases k with
  | conversionComplete c =>
    cases hr : s.inReset with
    | false =>
      have h := (live_running (conversion c) s hr).symm.trans h
      cases h
      exact .inl ⟨c, rfl, rfl, rfl⟩
    | true =>
      have h := (live_held (conversion c) s hr).symm.trans h
      cases h
      exact .inr (.link (.refl s))
  | powerOnReset raw => cases h; exact .inr (.reset raw s)
  | resetHeld => cases h; exact .inr .held
  | restartTakesEffect raw => exact .inr (live_effect (restartEffect_effect raw s) h)
  | controlLinkByte b stop => exact .inr (live_effect (receiveByte_effect b stop s) h)
  | interbyteTimeout => exact .inr (live_effect (interbyteGap_effect s) h)
  | replySent raw => exact .inr (live_effect (replyOut_effect raw s) h)
  | unknownKind k tag p => exact .inr (live_effect (request_effect (.refl s) (decisionOf_decisions k) k tag p) h)
  | levelTimerExpiry => exact .inr (live_effect (.event .level) h)
  | unrestTimerExpiry => exact .inr (live_effect (.event .unrest) h)
  | downRangeCountReached => exact .inr (live_effect (.event .downRange) h)
  | enableWaitExpiry b => exact .inr (live_effect (.event (.enableWait b)) h)
  | tareWaitTimeout => exact .inr (live_effect (.event .tareWait) h)
  | startTareTimeout => exact .inr (live_effect (.event .startTare) h)
  | readbackMismatchLimit => exact .inr (live_effect (.event .readback) h)
  | paceDelayExpiry => exact .inr (live_effect (.event .paceDelay) h)
  | safetyInputAsserted i => exact .inr (live_effect (.event (.asserted i)) h)
  | safetyInputReleased i => exact .inr (live_effect (.event (.released i)) h)
  | safetyInputSample raw => exact .inr (live_effect (.event (.sample raw)) h)
  | pollRoundDue => exact .inr (live_effect (.event .poll) h)
  | gaugeTransactionStart => exact .inr (live_effect (.event .arbiter) h)
  | gaugeReplyTimeout b => exact .inr (live_effect (.event (.timeout b)) h)
  | gaugeTransactionEnd bs => exact .inr (live_effect (.event (.replyEnd bs)) h)
  | headFailureCondition x => exact .inr (live_effect (.event (.headFails x)) h)
  | failedPollLimit x => exact .inr (live_effect (.event (.failedPolls x)) h)
  | confirmationPollDue => exact .inr (live_effect (.event .pollDue) h)
  | confirmationTimeout => exact .inr (live_effect (.event .confirmationOut) h)
  | encoderEdge b => exact .inr (live_effect (.event (.encoder b)) h)
  | _ => exact .inr (live_effect (request_effect (.refl s) (by simp [decisions, requestTable]) _ _ _) h)

end Sys2Proof.Proofs
end

section
/-! The events of a test (R25, R31, R35, R38, R39, R129): a predicate on states that a quiet change, a counted slip and
the end of a test keep is kept by every event that brings no measured point. -/

namespace Sys2Proof.Proofs

open Sys2Proof.Machine Sys2Proof.Laws

/-! ### The source RESULT (R152, R186) -/

@[simp] theorem raise_result (k : Source) (s : State) :
    (raise k s).cli.pending.result = (decide (k = .result) || s.cli.pending.result) := by
  cases k <;> rfl

@[simp] theorem addNotice_result (n : Notice) (s : State) :
    (addNotice n s).cli.pending.result = s.cli.pending.result := rfl

@[simp] theorem pacingRaise_result (s : State) : (pacingRaise s).cli.pending.result = s.cli.pending.result := by
  simp [pacingRaise]

@[simp] theorem storeMark_result (k : RecordKind) (p : Point) (s : State) :
    (storeMark k p s).cli.pending.result = s.cli.pending.result := by
  simp only [storeMark, storeRecord, pacingStored, pacingCount]
  repeat' split
  all_goals simp

@[simp] theorem handover_result (k : Trigger) (s : State) :
    (handover k s).cli.pending.result = s.cli.pending.result := by
  simp [handover]

@[simp] theorem setHeadState_result (x : Head) (st : HeadState) (s : State) :
    (setHeadState x st s).cli.pending.result = s.cli.pending.result := by
  unfold setHeadState
  split <;> simp

@[simp] theorem headTestEnd_result (x : Head) (s : State) :
    (headTestEnd x s).cli.pending.result = s.cli.pending.result := by
  unfold headTestEnd
  split <;> simp

@[simp] theorem extTestEnd_result (s : State) : (extTestEnd s).cli.pending.result = s.cli.pending.result := by
  unfold extTestEnd
  dsimp only
  split <;> simp

@[simp] theorem enterEnded_result (why : EndReason) (cause : Option StartCause) (s : State) :
    (enterEnded why cause s).cli.pending.result = s.cli.pending.result := by
  simp [enterEnded]

@[simp] theorem enterHeld_result (why : HeldReason) (heldAt : Option Nat) (s : State) :
    (enterHeld why heldAt s).cli.pending.result = s.cli.pending.result := by
  unfold enterHeld
  dsimp only
  split <;> simp

@[simp] theorem levelExpiry_result (s : State) : (levelExpiry s).cli.pending.result = s.cli.pending.result := by
  unfold levelExpiry
  dsimp only
  repeat' split
  all_goals simp [closeTareWait]

@[simp] theorem downRangeReached_result (s : State) :
    (downRangeReached s).cli.pending.result = s.cli.pending.result := by
  unfold downRangeReached
  split <;> simp [rangeChange]

@[simp] theorem enableWaitReached_result (ready : Bool) (s : State) :
    (enableWaitReached ready s).cli.pending.result = s.cli.pending.result := by
  unfold enableWaitReached
  dsimp only
  repeat' split
  all_goals simp [enableWaitOut]

@[simp] theorem tareWaitReached_result (s : State) :
    (tareWaitReached s).cli.pending.result = s.cli.pending.result := by
  unfold tareWaitReached
  repeat' split
  all_goals simp [closeTareWait, tareWaitOut]

@[simp] theorem paceDelayReached_result (s : State) :
    (paceDelayReached s).cli.pending.result = s.cli.pending.result ∧ (paceDelayReached s).sms.ring = s.sms.ring := by
  unfold paceDelayReached
  split <;> simp

@[simp] theorem pacingPoint_result (s : State) :
    (pacingPoint s).cli.pending.result = s.cli.pending.result ∧ (pacingPoint s).sms.ring = s.sms.ring := by
  unfold pacingPoint
  repeat' split
  all_goals simp

@[simp] theorem enablingPoint_result (ready : Bool) (s : State) :
    (enablingPoint ready s).cli.pending.result = s.cli.pending.result := by
  unfold enablingPoint
  dsimp only
  repeat' split
  all_goals simp [enableWaitOut]

@[simp] theorem softStop_result (s : State) : (softStop s).cli.pending.result = s.cli.pending.result := by
  simp [softStop]

@[simp] theorem moveReached_result (s : State) : (moveReached s).cli.pending.result = s.cli.pending.result := by
  simp [moveReached]

@[simp] theorem freezePoint_result (m : ControlMode) (p : Point) (s : State) :
    (freezePoint m p s).cli.pending.result = s.cli.pending.result := by
  unfold freezePoint
  dsimp only
  split <;> simp

@[simp] theorem setpointPoint_result (first : Bool) (m : ControlMode) (p : Point) (s : State) :
    (setpointPoint first m p s).cli.pending.result = s.cli.pending.result := by
  unfold setpointPoint
  split <;> simp

/-! ### Quiet changes -/

/-- The evaluation record, what an end of the test reads for it, and RESULT stand; the test stays in its state or goes
on; no mark but HANDOVER is made. -/
structure Quiet (s t : State) : Prop where
  evu : t.evu = s.evu
  state : t.tsq.state = s.tsq.state ∨ s.tsq.state.evaluated = true ∧ t.tsq.state.evaluated = true
  latest : t.latestPoint = s.latestPoint
  reason : t.tsq.endReason = s.tsq.endReason
  program : t.tsq.program = s.tsq.program
  specimen : t.tsq.specimen = s.tsq.specimen
  result : t.cli.pending.result = s.cli.pending.result
  ring : Adds (· = .handover) s t
  recording : t.sms.recording = s.sms.recording

namespace Quiet

variable {s t : State}

/-- The sequencer, the evaluation and the store stand as they were. -/
theorem of_same (h : t.evu = s.evu ∧ t.tsq = s.tsq ∧ t.latestPoint = s.latestPoint ∧
    t.cli.pending.result = s.cli.pending.result ∧ t.sms.ring = s.sms.ring ∧ t.sms.recording = s.sms.recording) :
    Quiet s t := by
  obtain ⟨hevu, htsq, hlatest, hresult, hring, hrecording⟩ := h
  exact ⟨hevu, .inl (by rw [htsq]), hlatest, by rw [htsq], by rw [htsq], by rw [htsq], hresult, .of_eq hring,
    hrecording⟩

end Quiet

/-- The record with its slip count changed (R149). -/
def withSlips (n : Nat → Nat) (e : Evu) : Evu := e.onResult fun r => { r with slipCount := n r.slipCount }

/-- What a predicate on states must be kept by, so that every event keeps it. -/
structure EventWalk (I : State → Prop) : Prop where
  quiet : ∀ {s t}, I s → Quiet s t → I t
  slipped : ∀ {s} (n : Nat → Nat), I s → s.tsq.state.evaluated = true → I (s.onEvu (withSlips n))
  ended : ∀ {s} (why : EndReason) (cause : Option StartCause), I s → s.inTest = true → I (enterEnded why cause s)

namespace EventWalk

variable {I : State → Prop} (W : EventWalk I) {s : State}

include W

theorem same {t : State} (h : I s) (hsame : t.evu = s.evu ∧ t.tsq = s.tsq ∧ t.latestPoint = s.latestPoint ∧
    t.cli.pending.result = s.cli.pending.result ∧ t.sms.ring = s.sms.ring ∧ t.sms.recording = s.sms.recording) :
    I t := W.quiet h (.of_same hsame)

/-- The sequencer changes without a change of its state, its end reason, its program or its specimen. -/
theorem onTsq (h : I s) {f : Tsq → Tsq} (hf : (f s.tsq).state = s.tsq.state ∧
    (f s.tsq).endReason = s.tsq.endReason ∧ (f s.tsq).program = s.tsq.program ∧
    (f s.tsq).specimen = s.tsq.specimen) : I (s.onTsq f) := by
  obtain ⟨hstate, hreason, hprogram, hspecimen⟩ := hf
  exact W.quiet h ⟨rfl, .inl hstate, rfl, hreason, hprogram, hspecimen, rfl, .of_eq rfl, rfl⟩

theorem enterHeld (h : I s) (hq : s.tsq.state.evaluated = true) (why : HeldReason) (heldAt : Option Nat) :
    I (enterHeld why heldAt s) :=
  W.quiet h ⟨by simp, .inr ⟨hq, by rw [enterHeld_tsq]; rfl⟩, by simp, by rw [enterHeld_tsq], by simp, by simp,
    by simp, .of_eq (by simp), by simp⟩

theorem holdCause (h : I s) (why : HeldReason) : I (holdCause why s) := by
  unfold Machine.holdCause
  split
  · exact W.enterHeld h (by simp_all [SeqState.evaluated]) why none
  · exact h

theorem enterEnding (h : I s) (hq : s.tsq.state = .running ∨ s.tsq.state = .held) (why : EndReason) :
    I (enterEnding why s) := by
  have ending : I ((s.onTsq fun t =>
      { t with state := .ending, pendingEnd := some why, heldReason := none, heldAt := none
               resumeEntry := none }).onDrl Drl.stop) :=
    W.quiet h ⟨rfl, .inr ⟨by rcases hq with hq | hq <;> rw [hq] <;> rfl, rfl⟩, rfl, rfl, rfl, rfl, rfl, .of_eq rfl, rfl⟩
  unfold Machine.enterEnding
  dsimp only
  split
  · exact W.ended why none ending rfl
  · exact ending

theorem slipAction (h : I s) : I (slipAction s) := by
  unfold Machine.slipAction
  split
  · exact W.enterHeld h (by simp_all [SeqState.evaluated]) _ _
  · exact W.enterEnding h (.inl ‹_›) _
  · exact W.enterEnding h (.inr ‹_›) _
  · exact h

theorem reportIdle (h : I s) : I (reportIdle s) := by
  unfold Machine.reportIdle
  split
  · exact W.same h (by simp)
  · split
    · rename_i hstate _
      exact W.ended _ none h (by rw [State.inTest, hstate]; rfl)
    · exact h

theorem reportIfIdle (h : I s) : I (reportIfIdle s) := by
  unfold Machine.reportIfIdle
  split
  · exact W.reportIdle h
  · exact h

/-! ### A trip (R173, R174) -/

theorem handTrip (h : I s) : I (handTrip s) := by
  have driven : I (driveTrip s) := W.same h (by unfold driveTrip; dsimp only; split <;> simp)
  have ended : I (if (driveTrip s).inTest then enterEnded .tripped none (driveTrip s) else driveTrip s) := by
    split
    · exact W.ended _ _ driven ‹_›
    · exact driven
  unfold Machine.handTrip
  exact W.same ended (by simp)

theorem takeCause (h : I s) (c : TripCause) : I (takeCause c s) := by
  unfold Machine.takeCause
  split
  · exact W.handTrip (W.same h (by simp))
  · exact W.same h (by simp)

theorem inputAsserted (h : I s) (i : SafetyInput) : I (inputAsserted i s) :=
  W.takeCause (W.same (t := onInput i _ s) h (by simp)) _

theorem sampleInput (h : I s) (i : SafetyInput) (raw : Level) : I (sampleInput i raw s) := by
  unfold Machine.sampleInput
  dsimp only
  split
  · exact W.same h (by simp)
  · split
    · exact W.same h (by simp)
    · split
      · exact W.inputAsserted h i
      · exact W.same h (by simp)

theorem inputGoesAsserted (h : I s) (i : SafetyInput) : I (inputGoesAsserted i s) := by
  unfold Machine.inputGoesAsserted
  split
  · exact W.inputAsserted h i
  · exact h

theorem reportReadback (h : I s) : I (reportReadback s) :=
  W.takeCause (W.same (t := s.onDrl _) h (by simp)) _

/-! ### The starting steps (R22 to R25) -/

theorem failStart (h : I s) (hq : s.tsq.state = .starting) (cause : StartCause) : I (failStart cause s) :=
  W.ended _ _ h (by rw [State.inTest, hq]; rfl)

theorem setStartStep (h : I s) (x : StartStep) : I (setStartStep x s) := W.onTsq h ⟨rfl, rfl, rfl, rfl⟩

theorem askZero (h : I s) (x : Head) : I (askZero x s) := W.same h (by simp [Machine.askZero])

theorem beginZero (h : I s) : I (beginZero s) := by
  unfold Machine.beginZero
  split
  · exact W.askZero (W.setStartStep h _) _
  · split
    · exact W.askZero (W.setStartStep h _) _
    · exact W.setStartStep h _

theorem takeTare (h : I s) : I (takeTare s) := W.same h (by simp)

theorem startTareReached (h : I s) : I (startTareReached s) := by
  unfold Machine.startTareReached
  split
  · rename_i hstep
    split
    · exact W.beginZero (W.takeTare h)
    · exact W.failStart (s := s.onFcu _) (W.same h (by simp)) hstep.1 _
  · exact h

theorem zeroOutcome (h : I s) (x : Head) (o : SlotOutcome) : I (zeroOutcome x o s) := by
  unfold Machine.zeroOutcome
  split
  · rename_i hasked
    cases o with
    | confirmed =>
      have zeroed : I (onHead x (fun e => { e with zeroed := true }) s) := W.same h (by simp)
      dsimp only
      unfold zeroConfirmed
      dsimp only
      split
      · exact W.askZero zeroed _
      · exact W.setStartStep (W.same (t := State.onExm _ _) zeroed (by simp)) _
    | unconfirmed => exact W.failStart h hasked.2 _
    | failed => exact W.failStart h hasked.2 _
  · exact h

/-! ### The Drive Loop, the Limit Monitor and the starting steps on a point -/

theorem onDrl (h : I s) (f : Drl → Drl) : I (s.onDrl f) := W.same h (by simp)

theorem pacingPoint (h : I s) : I (pacingPoint s) := W.same h (by simp)

theorem readyPoint (h : I s) (ready : Bool) : I (readyPoint ready s) := by
  unfold Machine.readyPoint
  dsimp only
  split
  · exact W.takeCause (W.onDrl h _) _
  · exact W.onDrl h _

theorem readbackPoint (h : I s) (code held : Int) : I (readbackPoint code held s) := by
  unfold Machine.readbackPoint
  split
  · split
    · exact W.reportReadback h
    · exact W.onDrl h _
  · exact W.onDrl h _

theorem runningDrive (h : I s) (first : Bool) (p : Point) : I (runningDrive first p s) := by
  unfold Machine.runningDrive
  split
  · exact h
  · rename_i m _
    have set : I (setpointPoint first m p s) := W.same h (by simp)
    dsimp only
    split
    · exact W.reportIfIdle (W.holdCause (W.same (t := softStop _) set (by simp)) _)
    · exact W.onDrl set _

theorem movingDrive (h : I s) (p : Point) : I (movingDrive p s) := by
  unfold Machine.movingDrive
  split
  · exact h
  · split
    · exact W.same (t := moveReached s) h (by simp)
    · dsimp only
      split
      · exact W.reportIfIdle (W.same (t := softStop (s.onDrl _)) h (by simp))
      · exact W.onDrl h _

theorem drivePointWork (h : I s) (ready first : Bool) (p : Point) : I (drivePointWork ready first p s) := by
  unfold Machine.drivePointWork
  split
  · exact W.same (t := enablingPoint ready s) h (by simp)
  · exact W.runningDrive h first p
  · exact W.reportIfIdle (W.onDrl h _)
  · exact W.movingDrive h p
  all_goals exact h

theorem drivePoint (h : I s) (held : Int) (c : Conversion) (first : Bool) (p : Point) :
    I (drivePoint held c first p s) :=
  W.drivePointWork (W.readbackPoint (W.readyPoint h _) _ _) _ first p

theorem driveFaultPoint (h : I s) (fault : Bool) : I (driveFaultPoint fault s) := by
  unfold Machine.driveFaultPoint
  dsimp only
  split
  · exact W.takeCause (W.same (t := s.onLmu _) h (by simp)) _
  · exact W.same (t := s.onLmu _) h (by simp)

theorem overloadPoint (h : I s) (p : Point) : I (overloadPoint p s) := by
  unfold Machine.overloadPoint
  split
  · split
    · exact W.same (t := s.onLmu _) h (by simp)
    · exact W.takeCause h _
  · exact W.same (t := s.onLmu _) h (by simp)

theorem limitPoint (h : I s) (fault : Bool) (p : Point) : I (limitPoint fault p s) :=
  W.overloadPoint (W.driveFaultPoint h fault) p

theorem waitTare (h : I s) (hq : s.tsq.state = .starting) : I (waitTare s) := by
  unfold Machine.waitTare
  split
  · exact W.beginZero (W.takeTare h)
  · split
    · exact W.failStart (s := s.onFcu _) (W.same h (by simp)) hq _
    · exact W.onTsq h ⟨rfl, rfl, rfl, rfl⟩

theorem beginTare (h : I s) : I (beginTare s) := by
  have begun : I (s.onTsq fun t => { t with startStep := some .tare, startTareCount := 0 }) :=
    W.onTsq h ⟨rfl, rfl, rfl, rfl⟩
  unfold Machine.beginTare
  dsimp only
  split
  · split
    · exact W.beginZero (W.takeTare begun)
    · exact begun
  · exact W.beginZero begun

/-! ### The completion of a transaction (R109 to R117, R129) -/

theorem handover (h : I s) (k : Trigger) : I (handover k s) :=
  W.quiet h ⟨by simp, .inl (by simp), by simp, by simp, by simp, by simp, by simp, by
    unfold Machine.handover
    dsimp only
    have marked : Adds (· = .handover) s (storeMark .handover s.latest (s.onExm fun m =>
        { m with ratio := some (formRatio m.window), source := .estimated, removal := .handedOver
                 trigger := some k, handoverPoint := some s.latest.index })) :=
      storeRecord_adds (P := (· = .handover)) rfl true none _ rfl
    exact marked.trans (.of_eq (by simp)), by simp [Machine.handover, storeMark_recording, recordingAfter]⟩

theorem headLeftCheck (h : I s) (x : Head) (before : HeadState) : I (headLeftCheck x before s) := by
  unfold Machine.headLeftCheck
  split
  · exact W.failStart h (by simp_all) _
  · exact h

theorem headGoes (h : I s) (x : Head) (st : HeadState) : I (headGoes x st s) := by
  have left := W.headLeftCheck (W.same (t := setHeadState x st s) h (by simp)) x (s.exm.heads.get x).state
  unfold Machine.headGoes forcedHandoverCheck
  dsimp only
  split
  · exact W.handover left _
  · exact left

theorem onHead (h : I s) (x : Head) (f : HeadEntry → HeadEntry) : I (onHead x f s) := W.same h (by simp)

theorem onGlc (h : I s) (f : Glc → Glc) : I (s.onGlc f) := W.same h (by simp)

theorem raise (h : I s) {k : Source} (hk : k ≠ .result) : I (raise k s) := W.same h (by simp [hk])

theorem recoveryLift (h : I s) (x : Head) : I (recoveryLift x s) := W.same h (by simp)

theorem takeStatus (h : I s) (x : Head) (st : HeadStatus) : I (takeStatus x st s) := by
  unfold Machine.takeStatus
  dsimp only
  refine W.recoveryLift ?_ x
  split
  · exact W.headGoes (W.onHead h _ _) _ _
  · exact W.onHead h _ _

theorem takeAck (h : I s) (x : Head) (k : HeadCmd) : I (takeAck x k s) := by
  unfold Machine.takeAck
  dsimp only
  split
  · exact W.headGoes (W.onHead h _ _) _ _
  · exact W.onHead h _ _

theorem takeIdentity (h : I s) (x : Head) (i : Identity) : I (takeIdentity x i s) := by
  unfold Machine.takeIdentity
  dsimp only
  split
  · exact W.recoveryLift (W.headGoes (W.onHead h _ _) _ _) x
  · exact W.onHead h _ _

theorem pollsLost (h : I s) (x : Head) : I (pollsLost x s) := W.headGoes (W.onHead h _ _) _ _

theorem pollFailed (h : I s) (x : Head) : I (pollFailed x s) := by
  unfold Machine.pollFailed
  split
  · split
    · exact W.pollsLost h x
    · exact W.onHead h _ _
  · exact h

theorem takeResult (h : I s) (t : Transaction) (r : TxResult) : I (takeResult t r s) := by
  unfold Machine.takeResult
  split
  · split
    · exact W.takeStatus (W.same (t := askIdentify _ s) h (by simp)) _ _
    · exact W.takeStatus (W.onHead h _ _) _ _
    · exact W.takeAck h _ _
    · exact W.takeIdentity h _ _
    · split
      · exact W.pollFailed h _
      · exact W.onHead h _ _
      · exact h
      · exact h
  · exact h

theorem failureCondition (h : I s) (x : Head) : I (failureCondition x s) := by
  unfold Machine.failureCondition
  dsimp only
  split
  · exact W.headGoes (W.same (t := addNotice _ _) h (by simp)) _ _
  · exact h

theorem liftMissed (h : I s) (holds : Bool) : I (liftMissed holds s) := by
  have noticed : I (addNotice .liftUnconfirmed s) := W.same h (by simp)
  unfold Machine.liftMissed
  dsimp only
  split
  · exact W.holdCause noticed _
  · exact noticed

theorem liftOutcome (h : I s) (x : Head) (o : SlotOutcome) : I (liftOutcome x o s) := by
  have unwatched : I (setWatch x false s) := W.same h (by simp)
  unfold Machine.liftOutcome
  split
  · cases o with
    | confirmed => exact unwatched
    | unconfirmed => exact W.liftMissed unwatched _
    | failed => exact W.liftMissed unwatched _
  · exact h

theorem takeOutcome (h : I s) (x : Head) (k : HeadCmd) (o : SlotOutcome) : I (takeOutcome x k o s) := by
  cases k with
  | clamp =>
    unfold Machine.takeOutcome clampOutcome
    dsimp only
    split
    · exact W.recoveryLift (W.headGoes h _ _) x
    · exact h
  | lift => exact W.liftOutcome h x o
  | zero => exact W.zeroOutcome h x o
  | identify => exact h

theorem freeCommand (h : I s) (c : SlotCommand) (o : SlotOutcome) : I (freeCommand c o s) := by
  have taken := fun f => W.takeOutcome (W.onGlc h f) c.head c.kind o
  unfold Machine.freeCommand
  dsimp only
  refine W.onGlc ?_ _
  split
  · exact W.raise (taken _) (by simp)
  · exact taken _

theorem slotTransactionEnd (h : I s) (c : SlotCommand) (r : TxResult) : I (slotTransactionEnd c r s) := by
  unfold Machine.slotTransactionEnd
  split
  · exact W.freeCommand h c _
  · split
    · exact W.freeCommand h c _
    · exact W.onGlc h _

theorem slotCompletion (h : I s) (t : Transaction) (r : TxResult) (signalled : Bool) :
    I (slotCompletion t r signalled s) := by
  unfold Machine.slotCompletion
  split
  · exact h
  · split
    · exact h
    · split
      · exact W.slotTransactionEnd h _ _
      · exact h
    · split
      · split
        · exact W.freeCommand h _ _
        · split
          · split
            · exact W.freeCommand h _ _
            · exact h
          · exact h
      · exact h

theorem completeTransaction (h : I s) (t : Transaction) (r : TxResult) : I (completeTransaction t r s) := by
  have taken := fun f => W.takeResult (W.onGlc h f) t r
  unfold Machine.completeTransaction
  dsimp only
  refine W.onGlc (W.slotCompletion ?_ _ _ _) _
  split
  · exact W.failureCondition (taken _) _
  · exact taken _

/-! ### The events -/

theorem countSlip (h : I s) : I (countSlip s) := by
  unfold Machine.countSlip
  split
  · rename_i hcounts
    have slipped := W.slipped (satSucc max16) h (Bool.and_eq_true_iff.mp hcounts).1
    exact W.slipAction (W.same (t := addNotice .slip _) slipped (by simp [withSlips]))
  · exact h

theorem unrestExpiry (h : I s) : I (unrestExpiry s) := by
  unfold Machine.unrestExpiry
  split
  · exact W.countSlip (s := s.onFcu _) (W.same h (by simp))
  · exact h

theorem headFails (h : I s) (x : Head) : I (headFails x s) := by
  have failed := fun f => W.failureCondition (W.onGlc h f) x
  unfold Machine.headFails
  dsimp only
  split
  · exact W.freeCommand (failed _) _ _
  · exact failed _

theorem failedPolls (h : I s) (x : Head) : I (failedPolls x s) := by
  unfold Machine.failedPolls
  dsimp only
  split
  · exact W.pollsLost h x
  · exact h

theorem replyTimeout (h : I s) (began : Bool) : I (replyTimeout began s) := by
  unfold Machine.replyTimeout
  split
  · exact W.completeTransaction h _ _
  · exact h

theorem replyEnd (h : I s) (reply : List Byte) : I (replyEnd reply s) := by
  unfold Machine.replyEnd
  split
  · split
    · exact W.completeTransaction h _ _
    · exact h
  · exact h

theorem confirmationOut (h : I s) : I (confirmationOut s) := by
  unfold Machine.confirmationOut
  split
  · exact W.freeCommand h _ _
  · exact h

/-- Every event keeps what the walk keeps. -/
theorem event (h : I s) {f : State → State} (hf : EventEffect f) : I (f s) := by
  cases hf with
  | unrest => exact W.unrestExpiry h
  | startTare => exact W.startTareReached h
  | readback => exact W.reportReadback h
  | asserted i => exact W.inputGoesAsserted h i
  | sample raw => exact W.sampleInput (W.sampleInput (W.sampleInput (W.sampleInput h _ _) _ _) _ _) _ _
  | timeout b => exact W.replyTimeout h b
  | replyEnd bs => exact W.replyEnd h bs
  | headFails x => exact W.headFails h x
  | failedPolls x => exact W.failedPolls h x
  | confirmationOut => exact W.confirmationOut h
  | level => exact W.same h (by simp)
  | downRange => exact W.same h (by simp)
  | enableWait b => exact W.same h (by simp)
  | tareWait => exact W.same h (by simp)
  | paceDelay => exact W.same h (by simp)
  | released i => exact W.same h (by simp)
  | poll => exact W.same h (by simp)
  | arbiter => exact W.same h (by simp)
  | pollDue => exact W.same h (by simp)
  | encoder up => exact W.same h (by simp)

end EventWalk

end Sys2Proof.Proofs
end

section
/-! What each step of the evaluation leaves of the record (R135): the parts of the evaluation record, and the fields of
the result record, that a step does not touch. -/

namespace Sys2Proof.Proofs

open Sys2Proof.Machine Sys2Proof.Laws

/-! ### The parts of the record that stand -/

@[simp] theorem onResult_frame (f : ResultRecord → ResultRecord) (e : Evu) :
    (e.onResult f).fit = e.fit ∧ (e.onResult f).sums = e.sums ∧ (e.onResult f).line = e.line ∧
    (e.onResult f).search = e.search ∧ (e.onResult f).searchPrev = e.searchPrev ∧ (e.onResult f).smax = e.smax ∧
    (e.onResult f).tracker = e.tracker ∧ (e.onResult f).fmax = e.fmax ∧
    (e.onResult f).maxPassedArmed = e.maxPassedArmed ∧ (e.onResult f).fractureArmed = e.fractureArmed ∧
    (e.onResult f).prev = e.prev ∧
    (e.onResult f).result = e.result.map f := by
  simp [Evu.onResult]

@[simp] theorem openSearch_frame (hd : PlanHeader) (e : Evu) :
    (openSearch hd e).fit = e.fit ∧ (openSearch hd e).sums = e.sums ∧ (openSearch hd e).line = e.line ∧
    (openSearch hd e).smax = e.smax ∧ (openSearch hd e).tracker = e.tracker ∧ (openSearch hd e).fmax = e.fmax ∧
    (openSearch hd e).maxPassedArmed = e.maxPassedArmed ∧ (openSearch hd e).fractureArmed = e.fractureArmed ∧
    (openSearch hd e).prev = e.prev ∧
    (openSearch hd e).result = e.result := by
  unfold openSearch
  split <;> simp

@[simp] theorem fixLine_frame (l : ElasticLine) (i : Nat) (e : Evu) :
    (fixLine l i e).fit = e.fit ∧ (fixLine l i e).sums = e.sums ∧ (fixLine l i e).search = e.search ∧
    (fixLine l i e).searchPrev = e.searchPrev ∧ (fixLine l i e).smax = e.smax ∧ (fixLine l i e).tracker = e.tracker ∧
    (fixLine l i e).fmax = e.fmax ∧ (fixLine l i e).maxPassedArmed = e.maxPassedArmed ∧
    (fixLine l i e).fractureArmed = e.fractureArmed ∧ (fixLine l i e).prev = e.prev := by
  simp [fixLine]

@[simp] theorem fixLine_fields (l : ElasticLine) (i : Nat) (e : Evu) :
    (fixLine l i e).result.map (·.rp) = e.result.map (·.rp) ∧
    (fixLine l i e).result.map (·.reh) = e.result.map (·.reh) ∧
    (fixLine l i e).result.map (·.rel) = e.result.map (·.rel) ∧
    (fixLine l i e).result.map (·.rm) = e.result.map (·.rm) ∧
    (fixLine l i e).result.map (·.ag) = e.result.map (·.ag) ∧
    (fixLine l i e).result.map (·.fractureForce) = e.result.map (·.fractureForce) ∧
    (fixLine l i e).result.map (·.a) = e.result.map (·.a) ∧
    (fixLine l i e).result.map (·.fmax) = e.result.map (·.fmax) ∧
    (fixLine l i e).result.map (·.sourceOfA) = e.result.map (·.sourceOfA) ∧
    (fixLine l i e).result.map (·.slipCount) = e.result.map (·.slipCount) ∧
    (fixLine l i e).result.map (·.endReason) = e.result.map (·.endReason) := by
  simp [fixLine, Function.comp_def]

@[simp] theorem failFit_frame (hd : PlanHeader) (nominal : Option Nat) (why : Absence) (i : Nat) (e : Evu) :
    (failFit hd nominal why i e).sums = e.sums ∧ (failFit hd nominal why i e).smax = e.smax ∧
    (failFit hd nominal why i e).tracker = e.tracker ∧ (failFit hd nominal why i e).fmax = e.fmax ∧
    (failFit hd nominal why i e).maxPassedArmed = e.maxPassedArmed ∧
    (failFit hd nominal why i e).fractureArmed = e.fractureArmed ∧ (failFit hd nominal why i e).prev = e.prev := by
  unfold failFit
  dsimp only
  repeat' split
  all_goals simp

@[simp] theorem failFit_fields (hd : PlanHeader) (nominal : Option Nat) (why : Absence) (i : Nat) (e : Evu) :
    (failFit hd nominal why i e).result.map (·.reh) = e.result.map (·.reh) ∧
    (failFit hd nominal why i e).result.map (·.rel) = e.result.map (·.rel) ∧
    (failFit hd nominal why i e).result.map (·.rm) = e.result.map (·.rm) ∧
    (failFit hd nominal why i e).result.map (·.ag) = e.result.map (·.ag) ∧
    (failFit hd nominal why i e).result.map (·.fractureForce) = e.result.map (·.fractureForce) ∧
    (failFit hd nominal why i e).result.map (·.a) = e.result.map (·.a) ∧
    (failFit hd nominal why i e).result.map (·.fmax) = e.result.map (·.fmax) ∧
    (failFit hd nominal why i e).result.map (·.sourceOfA) = e.result.map (·.sourceOfA) ∧
    (failFit hd nominal why i e).result.map (·.slipCount) = e.result.map (·.slipCount) ∧
    (failFit hd nominal why i e).result.map (·.endReason) = e.result.map (·.endReason) := by
  unfold failFit
  dsimp only
  repeat' split
  all_goals simp [Function.comp_def]

@[simp] theorem closeFit_frame (hd : PlanHeader) (nominal : Option Nat) (i : Nat) (e : Evu) :
    (closeFit hd nominal i e).sums = e.sums ∧ (closeFit hd nominal i e).smax = e.smax ∧
    (closeFit hd nominal i e).tracker = e.tracker ∧ (closeFit hd nominal i e).fmax = e.fmax ∧
    (closeFit hd nominal i e).maxPassedArmed = e.maxPassedArmed ∧
    (closeFit hd nominal i e).fractureArmed = e.fractureArmed ∧ (closeFit hd nominal i e).prev = e.prev := by
  unfold closeFit
  dsimp only
  repeat' split
  all_goals simp

@[simp] theorem closeFit_fields (hd : PlanHeader) (nominal : Option Nat) (i : Nat) (e : Evu) :
    (closeFit hd nominal i e).result.map (·.reh) = e.result.map (·.reh) ∧
    (closeFit hd nominal i e).result.map (·.rel) = e.result.map (·.rel) ∧
    (closeFit hd nominal i e).result.map (·.rm) = e.result.map (·.rm) ∧
    (closeFit hd nominal i e).result.map (·.ag) = e.result.map (·.ag) ∧
    (closeFit hd nominal i e).result.map (·.fractureForce) = e.result.map (·.fractureForce) ∧
    (closeFit hd nominal i e).result.map (·.a) = e.result.map (·.a) ∧
    (closeFit hd nominal i e).result.map (·.fmax) = e.result.map (·.fmax) ∧
    (closeFit hd nominal i e).result.map (·.sourceOfA) = e.result.map (·.sourceOfA) ∧
    (closeFit hd nominal i e).result.map (·.slipCount) = e.result.map (·.slipCount) ∧
    (closeFit hd nominal i e).result.map (·.endReason) = e.result.map (·.endReason) := by
  unfold closeFit
  dsimp only
  repeat' split
  all_goals simp

@[simp] theorem stepFit_frame (x : EvalInput) (o : EvalOut) :
    (stepFit x o).evu.smax = o.evu.smax ∧ (stepFit x o).evu.tracker = o.evu.tracker ∧
    (stepFit x o).evu.fmax = o.evu.fmax ∧ (stepFit x o).evu.maxPassedArmed = o.evu.maxPassedArmed ∧
    (stepFit x o).evu.fractureArmed = o.evu.fractureArmed ∧ (stepFit x o).evu.prev = o.evu.prev := by
  unfold stepFit
  repeat' split
  all_goals simp

@[simp] theorem stepFit_fields (x : EvalInput) (o : EvalOut) :
    (stepFit x o).evu.result.map (·.reh) = o.evu.result.map (·.reh) ∧
    (stepFit x o).evu.result.map (·.rel) = o.evu.result.map (·.rel) ∧
    (stepFit x o).evu.result.map (·.rm) = o.evu.result.map (·.rm) ∧
    (stepFit x o).evu.result.map (·.ag) = o.evu.result.map (·.ag) ∧
    (stepFit x o).evu.result.map (·.fractureForce) = o.evu.result.map (·.fractureForce) ∧
    (stepFit x o).evu.result.map (·.a) = o.evu.result.map (·.a) ∧
    (stepFit x o).evu.result.map (·.fmax) = o.evu.result.map (·.fmax) ∧
    (stepFit x o).evu.result.map (·.sourceOfA) = o.evu.result.map (·.sourceOfA) ∧
    (stepFit x o).evu.result.map (·.slipCount) = o.evu.result.map (·.slipCount) ∧
    (stepFit x o).evu.result.map (·.endReason) = o.evu.result.map (·.endReason) := by
  unfold stepFit
  repeat' split
  all_goals simp

@[simp] theorem closeExtensometer_frame (x : EvalInput) (e : Evu) :
    (closeExtensometer x e).sums = e.sums ∧ (closeExtensometer x e).smax = e.smax ∧
    (closeExtensometer x e).fmax = e.fmax ∧ (closeExtensometer x e).maxPassedArmed = e.maxPassedArmed ∧
    (closeExtensometer x e).fractureArmed = e.fractureArmed ∧ (closeExtensometer x e).prev = e.prev := by
  unfold closeExtensometer
  dsimp only
  repeat' split
  all_goals simp

@[simp] theorem closeExtensometer_fields (x : EvalInput) (e : Evu) :
    (closeExtensometer x e).result.map (·.reh) = e.result.map (·.reh) ∧
    (closeExtensometer x e).result.map (·.rm) = e.result.map (·.rm) ∧
    (closeExtensometer x e).result.map (·.ag) = e.result.map (·.ag) ∧
    (closeExtensometer x e).result.map (·.fractureForce) = e.result.map (·.fractureForce) ∧
    (closeExtensometer x e).result.map (·.a) = e.result.map (·.a) ∧
    (closeExtensometer x e).result.map (·.fmax) = e.result.map (·.fmax) ∧
    (closeExtensometer x e).result.map (·.sourceOfA) = e.result.map (·.sourceOfA) ∧
    (closeExtensometer x e).result.map (·.slipCount) = e.result.map (·.slipCount) ∧
    (closeExtensometer x e).result.map (·.endReason) = e.result.map (·.endReason) := by
  unfold closeExtensometer
  dsimp only
  repeat' split
  all_goals simp [Function.comp_def]

@[simp] theorem stepSource_frame (x : EvalInput) (o : EvalOut) :
    (stepSource x o).evu.sums = o.evu.sums ∧ (stepSource x o).evu.smax = o.evu.smax ∧
    (stepSource x o).evu.fmax = o.evu.fmax ∧ (stepSource x o).evu.maxPassedArmed = o.evu.maxPassedArmed ∧
    (stepSource x o).evu.fractureArmed = o.evu.fractureArmed ∧ (stepSource x o).evu.prev = o.evu.prev := by
  unfold stepSource
  split <;> simp

@[simp] theorem stepSource_fields (x : EvalInput) (o : EvalOut) :
    (stepSource x o).evu.result.map (·.reh) = o.evu.result.map (·.reh) ∧
    (stepSource x o).evu.result.map (·.rm) = o.evu.result.map (·.rm) ∧
    (stepSource x o).evu.result.map (·.ag) = o.evu.result.map (·.ag) ∧
    (stepSource x o).evu.result.map (·.fractureForce) = o.evu.result.map (·.fractureForce) ∧
    (stepSource x o).evu.result.map (·.a) = o.evu.result.map (·.a) ∧
    (stepSource x o).evu.result.map (·.fmax) = o.evu.result.map (·.fmax) ∧
    (stepSource x o).evu.result.map (·.sourceOfA) = o.evu.result.map (·.sourceOfA) ∧
    (stepSource x o).evu.result.map (·.slipCount) = o.evu.result.map (·.slipCount) ∧
    (stepSource x o).evu.result.map (·.endReason) = o.evu.result.map (·.endReason) := by
  unfold stepSource
  split <;> simp

@[simp] theorem stepFmax_frame (x : EvalInput) (o : EvalOut) :
    (stepFmax x o).evu.fit = o.evu.fit ∧ (stepFmax x o).evu.sums = o.evu.sums ∧
    (stepFmax x o).evu.line = o.evu.line ∧ (stepFmax x o).evu.search = o.evu.search ∧
    (stepFmax x o).evu.searchPrev = o.evu.searchPrev ∧ (stepFmax x o).evu.smax = o.evu.smax ∧
    (stepFmax x o).evu.tracker = o.evu.tracker ∧ (stepFmax x o).evu.maxPassedArmed = o.evu.maxPassedArmed ∧
    (stepFmax x o).evu.fractureArmed = o.evu.fractureArmed ∧ (stepFmax x o).evu.prev = o.evu.prev ∧
    (stepFmax x o).evu.result = o.evu.result := by
  unfold stepFmax
  repeat' split
  all_goals simp

@[simp] theorem armFracture_frame (x : EvalInput) (e : Evu) :
    (armFracture x e).fit = e.fit ∧ (armFracture x e).sums = e.sums ∧ (armFracture x e).line = e.line ∧
    (armFracture x e).search = e.search ∧ (armFracture x e).searchPrev = e.searchPrev ∧
    (armFracture x e).smax = e.smax ∧ (armFracture x e).tracker = e.tracker ∧ (armFracture x e).fmax = e.fmax ∧
    (armFracture x e).maxPassedArmed = e.maxPassedArmed ∧ (armFracture x e).prev = e.prev ∧
    (armFracture x e).result = e.result := by
  unfold armFracture
  split <;> simp

@[simp] theorem trackSmax_frame (p : Point) (e : Evu) :
    (trackSmax p e).fit = e.fit ∧ (trackSmax p e).sums = e.sums ∧ (trackSmax p e).line = e.line ∧
    (trackSmax p e).search = e.search ∧ (trackSmax p e).searchPrev = e.searchPrev ∧
    (trackSmax p e).tracker = e.tracker ∧ (trackSmax p e).fmax = e.fmax ∧
    (trackSmax p e).maxPassedArmed = e.maxPassedArmed ∧ (trackSmax p e).fractureArmed = e.fractureArmed ∧
    (trackSmax p e).prev = e.prev ∧
    (trackSmax p e).result = e.result := by
  unfold trackSmax
  repeat' split
  all_goals simp

@[simp] theorem rearm_frame (x : EvalInput) (e : Evu) :
    (rearm x e).fit = e.fit ∧ (rearm x e).sums = e.sums ∧ (rearm x e).line = e.line ∧ (rearm x e).search = e.search ∧
    (rearm x e).searchPrev = e.searchPrev ∧ (rearm x e).smax = e.smax ∧ (rearm x e).tracker = e.tracker ∧
    (rearm x e).fmax = e.fmax ∧ (rearm x e).fractureArmed = e.fractureArmed ∧ (rearm x e).prev = e.prev ∧
    (rearm x e).result = e.result := by
  unfold rearm
  repeat' split
  all_goals simp

@[simp] theorem stepYield_frame (x : EvalInput) (o : EvalOut) :
    (stepYield x o).evu.fit = o.evu.fit ∧ (stepYield x o).evu.sums = o.evu.sums ∧
    (stepYield x o).evu.line = o.evu.line ∧ (stepYield x o).evu.search = o.evu.search ∧
    (stepYield x o).evu.searchPrev = o.evu.searchPrev ∧ (stepYield x o).evu.fmax = o.evu.fmax ∧
    (stepYield x o).evu.fractureArmed = o.evu.fractureArmed ∧ (stepYield x o).evu.prev = o.evu.prev := by
  unfold stepYield elasticYield upperYield endYield
  dsimp only
  repeat' split
  all_goals simp

@[simp] theorem stepYield_fields (x : EvalInput) (o : EvalOut) :
    (stepYield x o).evu.result.map (·.e) = o.evu.result.map (·.e) ∧
    (stepYield x o).evu.result.map (·.x0) = o.evu.result.map (·.x0) ∧
    (stepYield x o).evu.result.map (·.rp) = o.evu.result.map (·.rp) ∧
    (stepYield x o).evu.result.map (·.rm) = o.evu.result.map (·.rm) ∧
    (stepYield x o).evu.result.map (·.ag) = o.evu.result.map (·.ag) ∧
    (stepYield x o).evu.result.map (·.fractureForce) = o.evu.result.map (·.fractureForce) ∧
    (stepYield x o).evu.result.map (·.a) = o.evu.result.map (·.a) ∧
    (stepYield x o).evu.result.map (·.fitCount) = o.evu.result.map (·.fitCount) ∧
    (stepYield x o).evu.result.map (·.fallbackUsed) = o.evu.result.map (·.fallbackUsed) ∧
    (stepYield x o).evu.result.map (·.fmax) = o.evu.result.map (·.fmax) ∧
    (stepYield x o).evu.result.map (·.sourceOfA) = o.evu.result.map (·.sourceOfA) ∧
    (stepYield x o).evu.result.map (·.slipCount) = o.evu.result.map (·.slipCount) ∧
    (stepYield x o).evu.result.map (·.endReason) = o.evu.result.map (·.endReason) := by
  unfold stepYield elasticYield upperYield endYield
  dsimp only
  repeat' split
  all_goals simp [Function.comp_def]

@[simp] theorem stepMaxPassed_frame (x : EvalInput) (o : EvalOut) :
    (stepMaxPassed x o).evu.fit = o.evu.fit ∧ (stepMaxPassed x o).evu.sums = o.evu.sums ∧
    (stepMaxPassed x o).evu.line = o.evu.line ∧ (stepMaxPassed x o).evu.search = o.evu.search ∧
    (stepMaxPassed x o).evu.searchPrev = o.evu.searchPrev ∧ (stepMaxPassed x o).evu.smax = o.evu.smax ∧
    (stepMaxPassed x o).evu.tracker = o.evu.tracker ∧ (stepMaxPassed x o).evu.fmax = o.evu.fmax ∧
    (stepMaxPassed x o).evu.fractureArmed = o.evu.fractureArmed ∧ (stepMaxPassed x o).evu.prev = o.evu.prev ∧
    (stepMaxPassed x o).evu.result = o.evu.result := by
  unfold stepMaxPassed
  dsimp only
  split <;> simp

@[simp] theorem stepSearch_frame (x : EvalInput) (o : EvalOut) :
    (stepSearch x o).evu.fit = o.evu.fit ∧ (stepSearch x o).evu.sums = o.evu.sums ∧
    (stepSearch x o).evu.line = o.evu.line ∧ (stepSearch x o).evu.smax = o.evu.smax ∧
    (stepSearch x o).evu.tracker = o.evu.tracker ∧ (stepSearch x o).evu.fmax = o.evu.fmax ∧
    (stepSearch x o).evu.maxPassedArmed = o.evu.maxPassedArmed ∧
    (stepSearch x o).evu.fractureArmed = o.evu.fractureArmed ∧ (stepSearch x o).evu.prev = o.evu.prev := by
  unfold stepSearch crossing
  dsimp only
  repeat' split
  all_goals simp

@[simp] theorem stepSearch_fields (x : EvalInput) (o : EvalOut) :
    (stepSearch x o).evu.result.map (·.e) = o.evu.result.map (·.e) ∧
    (stepSearch x o).evu.result.map (·.x0) = o.evu.result.map (·.x0) ∧
    (stepSearch x o).evu.result.map (·.reh) = o.evu.result.map (·.reh) ∧
    (stepSearch x o).evu.result.map (·.rel) = o.evu.result.map (·.rel) ∧
    (stepSearch x o).evu.result.map (·.rm) = o.evu.result.map (·.rm) ∧
    (stepSearch x o).evu.result.map (·.ag) = o.evu.result.map (·.ag) ∧
    (stepSearch x o).evu.result.map (·.fractureForce) = o.evu.result.map (·.fractureForce) ∧
    (stepSearch x o).evu.result.map (·.a) = o.evu.result.map (·.a) ∧
    (stepSearch x o).evu.result.map (·.fitCount) = o.evu.result.map (·.fitCount) ∧
    (stepSearch x o).evu.result.map (·.fallbackUsed) = o.evu.result.map (·.fallbackUsed) ∧
    (stepSearch x o).evu.result.map (·.fmax) = o.evu.result.map (·.fmax) ∧
    (stepSearch x o).evu.result.map (·.sourceOfA) = o.evu.result.map (·.sourceOfA) ∧
    (stepSearch x o).evu.result.map (·.slipCount) = o.evu.result.map (·.slipCount) ∧
    (stepSearch x o).evu.result.map (·.endReason) = o.evu.result.map (·.endReason) := by
  unfold stepSearch crossing
  dsimp only
  repeat' split
  all_goals simp [Function.comp_def]

@[simp] theorem fixMaximum_frame (x : EvalInput) (o : EvalOut) :
    (fixMaximum x o).evu.fit = o.evu.fit ∧ (fixMaximum x o).evu.sums = o.evu.sums ∧
    (fixMaximum x o).evu.line = o.evu.line ∧ (fixMaximum x o).evu.search = o.evu.search ∧
    (fixMaximum x o).evu.searchPrev = o.evu.searchPrev ∧ (fixMaximum x o).evu.smax = o.evu.smax ∧
    (fixMaximum x o).evu.tracker = o.evu.tracker ∧ (fixMaximum x o).evu.fmax = o.evu.fmax ∧
    (fixMaximum x o).evu.maxPassedArmed = o.evu.maxPassedArmed ∧
    (fixMaximum x o).evu.fractureArmed = o.evu.fractureArmed ∧ (fixMaximum x o).evu.prev = o.evu.prev := by
  simp [fixMaximum]

@[simp] theorem fixMaximum_fields (x : EvalInput) (o : EvalOut) :
    (fixMaximum x o).evu.result.map (·.e) = o.evu.result.map (·.e) ∧
    (fixMaximum x o).evu.result.map (·.x0) = o.evu.result.map (·.x0) ∧
    (fixMaximum x o).evu.result.map (·.rp) = o.evu.result.map (·.rp) ∧
    (fixMaximum x o).evu.result.map (·.reh) = o.evu.result.map (·.reh) ∧
    (fixMaximum x o).evu.result.map (·.rel) = o.evu.result.map (·.rel) ∧
    (fixMaximum x o).evu.result.map (·.fractureForce) = o.evu.result.map (·.fractureForce) ∧
    (fixMaximum x o).evu.result.map (·.a) = o.evu.result.map (·.a) ∧
    (fixMaximum x o).evu.result.map (·.fitCount) = o.evu.result.map (·.fitCount) ∧
    (fixMaximum x o).evu.result.map (·.fallbackUsed) = o.evu.result.map (·.fallbackUsed) ∧
    (fixMaximum x o).evu.result.map (·.sourceOfA) = o.evu.result.map (·.sourceOfA) ∧
    (fixMaximum x o).evu.result.map (·.slipCount) = o.evu.result.map (·.slipCount) ∧
    (fixMaximum x o).evu.result.map (·.endReason) = o.evu.result.map (·.endReason) := by
  simp [fixMaximum, Function.comp_def]

@[simp] theorem stepMaxEffects_frame (x : EvalInput) (o : EvalOut) :
    (stepMaxEffects x o).evu.fit = o.evu.fit ∧ (stepMaxEffects x o).evu.sums = o.evu.sums ∧
    (stepMaxEffects x o).evu.line = o.evu.line ∧ (stepMaxEffects x o).evu.search = o.evu.search ∧
    (stepMaxEffects x o).evu.searchPrev = o.evu.searchPrev ∧ (stepMaxEffects x o).evu.smax = o.evu.smax ∧
    (stepMaxEffects x o).evu.tracker = o.evu.tracker ∧ (stepMaxEffects x o).evu.fmax = o.evu.fmax ∧
    (stepMaxEffects x o).evu.maxPassedArmed = o.evu.maxPassedArmed ∧
    (stepMaxEffects x o).evu.fractureArmed = o.evu.fractureArmed ∧ (stepMaxEffects x o).evu.prev = o.evu.prev := by
  unfold stepMaxEffects
  split <;> simp

@[simp] theorem stepMaxEffects_fields (x : EvalInput) (o : EvalOut) :
    (stepMaxEffects x o).evu.result.map (·.e) = o.evu.result.map (·.e) ∧
    (stepMaxEffects x o).evu.result.map (·.x0) = o.evu.result.map (·.x0) ∧
    (stepMaxEffects x o).evu.result.map (·.rp) = o.evu.result.map (·.rp) ∧
    (stepMaxEffects x o).evu.result.map (·.reh) = o.evu.result.map (·.reh) ∧
    (stepMaxEffects x o).evu.result.map (·.rel) = o.evu.result.map (·.rel) ∧
    (stepMaxEffects x o).evu.result.map (·.fractureForce) = o.evu.result.map (·.fractureForce) ∧
    (stepMaxEffects x o).evu.result.map (·.a) = o.evu.result.map (·.a) ∧
    (stepMaxEffects x o).evu.result.map (·.fitCount) = o.evu.result.map (·.fitCount) ∧
    (stepMaxEffects x o).evu.result.map (·.fallbackUsed) = o.evu.result.map (·.fallbackUsed) ∧
    (stepMaxEffects x o).evu.result.map (·.sourceOfA) = o.evu.result.map (·.sourceOfA) ∧
    (stepMaxEffects x o).evu.result.map (·.slipCount) = o.evu.result.map (·.slipCount) ∧
    (stepMaxEffects x o).evu.result.map (·.endReason) = o.evu.result.map (·.endReason) := by
  unfold stepMaxEffects
  split <;> simp

@[simp] theorem stepSlip_frame (x : EvalInput) (o : EvalOut) :
    (stepSlip x o).evu.fit = o.evu.fit ∧ (stepSlip x o).evu.sums = o.evu.sums ∧
    (stepSlip x o).evu.line = o.evu.line ∧ (stepSlip x o).evu.search = o.evu.search ∧
    (stepSlip x o).evu.searchPrev = o.evu.searchPrev ∧ (stepSlip x o).evu.smax = o.evu.smax ∧
    (stepSlip x o).evu.tracker = o.evu.tracker ∧ (stepSlip x o).evu.fmax = o.evu.fmax ∧
    (stepSlip x o).evu.maxPassedArmed = o.evu.maxPassedArmed ∧
    (stepSlip x o).evu.fractureArmed = o.evu.fractureArmed ∧ (stepSlip x o).evu.prev = o.evu.prev := by
  unfold stepSlip
  split <;> simp

@[simp] theorem stepSlip_fields (x : EvalInput) (o : EvalOut) :
    (stepSlip x o).evu.result.map (·.e) = o.evu.result.map (·.e) ∧
    (stepSlip x o).evu.result.map (·.x0) = o.evu.result.map (·.x0) ∧
    (stepSlip x o).evu.result.map (·.rp) = o.evu.result.map (·.rp) ∧
    (stepSlip x o).evu.result.map (·.reh) = o.evu.result.map (·.reh) ∧
    (stepSlip x o).evu.result.map (·.rel) = o.evu.result.map (·.rel) ∧
    (stepSlip x o).evu.result.map (·.rm) = o.evu.result.map (·.rm) ∧
    (stepSlip x o).evu.result.map (·.ag) = o.evu.result.map (·.ag) ∧
    (stepSlip x o).evu.result.map (·.fractureForce) = o.evu.result.map (·.fractureForce) ∧
    (stepSlip x o).evu.result.map (·.a) = o.evu.result.map (·.a) ∧
    (stepSlip x o).evu.result.map (·.fitCount) = o.evu.result.map (·.fitCount) ∧
    (stepSlip x o).evu.result.map (·.fallbackUsed) = o.evu.result.map (·.fallbackUsed) ∧
    (stepSlip x o).evu.result.map (·.fmax) = o.evu.result.map (·.fmax) ∧
    (stepSlip x o).evu.result.map (·.sourceOfA) = o.evu.result.map (·.sourceOfA) ∧
    (stepSlip x o).evu.result.map (·.endReason) = o.evu.result.map (·.endReason) := by
  unfold stepSlip
  split <;> simp [Function.comp_def]

@[simp] theorem stepPrev_frame (x : EvalInput) (o : EvalOut) :
    (stepPrev x o).evu.fit = o.evu.fit ∧ (stepPrev x o).evu.sums = o.evu.sums ∧
    (stepPrev x o).evu.line = o.evu.line ∧ (stepPrev x o).evu.search = o.evu.search ∧
    (stepPrev x o).evu.searchPrev = o.evu.searchPrev ∧ (stepPrev x o).evu.smax = o.evu.smax ∧
    (stepPrev x o).evu.tracker = o.evu.tracker ∧ (stepPrev x o).evu.fmax = o.evu.fmax ∧
    (stepPrev x o).evu.maxPassedArmed = o.evu.maxPassedArmed ∧ (stepPrev x o).evu.fractureArmed = o.evu.fractureArmed ∧
    (stepPrev x o).evu.result = o.evu.result := by
  simp [stepPrev]

end Sys2Proof.Proofs
end

section
/-! No step of the evaluation opens a field again (R150), in the order of R135; and the effects of fracture cut into
their parts (R147). -/

namespace Sys2Proof.Proofs

open Sys2Proof.Machine Sys2Proof.Laws

/-- The result record goes on: it stays present, and a field that has left OPEN stays as it left. -/
def GoesOn (e e' : Evu) : Prop := ∀ r, e.result = some r → ∃ r', e'.result = some r' ∧ FieldsKept r r'

namespace GoesOn

variable {e e' e'' : Evu}

theorem of_result (h : e'.result = e.result) : GoesOn e e' := fun r hr => ⟨r, h.trans hr, .refl r⟩

theorem refl (e : Evu) : GoesOn e e := of_result rfl

theorem trans (a : GoesOn e e') (b : GoesOn e' e'') : GoesOn e e'' := fun r hr => by
  obtain ⟨r', hr', kept⟩ := a r hr
  obtain ⟨r'', hr'', kept'⟩ := b r' hr'
  exact ⟨r'', hr'', kept.trans kept'⟩

/-- A change of the result record after others. -/
theorem onResult {f : ResultRecord → ResultRecord} (hf : ∀ r, FieldsKept r (f r)) (h : GoesOn e e') :
    GoesOn e (e'.onResult f) := h.trans fun r hr => ⟨f r, by simp [hr], hf r⟩

theorem isSome (h : GoesOn e e') (hsome : e.result.isSome = true) : e'.result.isSome = true := by
  obtain ⟨r, hr⟩ := Option.isSome_iff_exists.1 hsome
  obtain ⟨r', hr', -⟩ := h r hr
  simp [hr']

end GoesOn

/-! ### The modulus fit (R137, R138) -/

theorem fixLine_goesOn (l : ElasticLine) (i : Nat) (e : Evu) : GoesOn e (fixLine l i e) :=
  .onResult (fun r => by simp [FieldsKept, ResultRecord.fields]) (.of_result rfl)

theorem openSearch_goesOn (hd : PlanHeader) (e : Evu) : GoesOn e (openSearch hd e) := .of_result (by simp)

theorem failFit_goesOn (hd : PlanHeader) (nominal : Option Nat) (why : Absence) (i : Nat) (e : Evu) :
    GoesOn e (failFit hd nominal why i e) := by
  have failed : GoesOn e { e with fit := .failed why } := .of_result rfl
  unfold failFit
  dsimp only
  split
  · split
    · exact failed.trans (fixLine_goesOn _ _ _)
    · exact (failed.trans (fixLine_goesOn _ _ _)).trans (openSearch_goesOn _ _)
  · refine .onResult (fun r => ?_) failed
    by_cases hasked : 0 < hd.offsetStrain
    · simp [FieldsKept, ResultRecord.fields, hasked]
    · simp [FieldsKept, ResultRecord.fields, hasked]

theorem closeFit_goesOn (hd : PlanHeader) (nominal : Option Nat) (i : Nat) (e : Evu) :
    GoesOn e (closeFit hd nominal i e) := by
  unfold closeFit
  dsimp only
  repeat' split
  · exact failFit_goesOn _ _ _ _ _
  · exact failFit_goesOn _ _ _ _ _
  · exact failFit_goesOn _ _ _ _ _
  · exact (GoesOn.of_result (e' := { e with fit := .done }) rfl).trans
      ((fixLine_goesOn _ _ _).trans (openSearch_goesOn _ _))

theorem stepFit_goesOn (x : EvalInput) (o : EvalOut) : GoesOn o.evu (stepFit x o).evu := by
  unfold stepFit
  repeat' split
  · exact closeFit_goesOn _ _ _ _
  · exact .of_result rfl
  · exact .refl _
  · exact .refl _

theorem closeExtensometer_goesOn (x : EvalInput) (e : Evu) : GoesOn e (closeExtensometer x e) := fun r hr => by
  obtain ⟨r', hr', closed⟩ := closeExtensometer_record x hr
  exact ⟨r', hr', closed.fields⟩

theorem stepSource_goesOn (x : EvalInput) (o : EvalOut) : GoesOn o.evu (stepSource x o).evu := by
  unfold stepSource
  split
  · exact closeExtensometer_goesOn x _
  · exact .refl _

/-! ### Maximum, yield, proof stress and slip (R140 to R145, R149) -/

theorem fixMaximum_goesOn (x : EvalInput) (o : EvalOut) : GoesOn o.evu (fixMaximum x o).evu := by
  refine .onResult (fun r => ?_) (.onResult (fun r => by simp [FieldsKept, ResultRecord.fields]) (.refl _))
  split <;> simp [FieldsKept, ResultRecord.fields]

theorem stepMaxEffects_goesOn (x : EvalInput) (o : EvalOut) : GoesOn o.evu (stepMaxEffects x o).evu := by
  unfold stepMaxEffects
  split
  · exact fixMaximum_goesOn x o
  · exact .refl _

theorem elasticYield_goesOn (x : EvalInput) (o : EvalOut) : GoesOn o.evu (elasticYield x o).evu := by
  have tracked : GoesOn o.evu (trackSmax x.point o.evu) := .of_result (by simp)
  unfold elasticYield upperYield
  dsimp only
  repeat' split
  · exact .onResult (fun r => by simp [FieldsKept, ResultRecord.fields]) (tracked.trans (.of_result rfl))
  · exact .onResult (fun r => by simp [FieldsKept, ResultRecord.fields]) (tracked.trans (.of_result rfl))
  · exact tracked

theorem endYield_goesOn (k : YieldTracker) (o : EvalOut) : GoesOn o.evu (endYield k o).evu := by
  unfold endYield
  dsimp only
  split
  · exact .onResult (fun r => by simp [FieldsKept, ResultRecord.fields]) (.of_result rfl)
  · exact .onResult (fun r => by simp [FieldsKept, ResultRecord.fields]) (.of_result rfl)

theorem stepYield_goesOn (x : EvalInput) (o : EvalOut) : GoesOn o.evu (stepYield x o).evu := by
  unfold stepYield
  repeat' split
  · exact elasticYield_goesOn x o
  · exact .of_result rfl
  · exact .refl _
  · exact endYield_goesOn _ o
  · exact .of_result rfl
  all_goals exact .refl _

theorem stepSearch_goesOn (x : EvalInput) (o : EvalOut) : GoesOn o.evu (stepSearch x o).evu := by
  unfold stepSearch crossing
  dsimp only
  repeat' split
  · exact .of_result rfl
  · exact .onResult (fun r => by simp [FieldsKept, ResultRecord.fields]) (.of_result rfl)
  · exact .refl _
  · exact .refl _

theorem stepSlip_goesOn (x : EvalInput) (o : EvalOut) : GoesOn o.evu (stepSlip x o).evu := by
  unfold stepSlip
  split
  · exact .onResult (fun r => .refl r) (.refl _)
  · exact .refl _

/-! ### The effects of fracture, part by part (R147) -/

/-- The fit that still collects is closed by the fracture. -/
def fractureFit (x : EvalInput) (o : EvalOut) : EvalOut :=
  if o.evu.fit = .collecting then o.on (closeFit x.header x.nominal x.point.index) else o

/-- Rm and Ag are made by the fracture if they are open. -/
def fractureMaximum (x : EvalInput) (o : EvalOut) : EvalOut := if o.evu.rmOpen then fixMaximum x o else o

/-- The open search is closed by the fracture. -/
def fractureSearch (e : Evu) : Evu :=
  if e.search = .opened then
    { e with search := .closed }.onResult fun r => { r with rp := r.rp.close .fracturedFirst }
  else e

/-- The open yield fields are closed by the fracture, in a record whose phase is known. -/
def yieldBroken (phase : EvalPhase) (r : ResultRecord) : ResultRecord :=
  if r.reh = .opened then { r with reh := r.reh.close .fracturedFirst, rel := r.rel.close .fracturedFirst }
  else if phase = .yielding then { r with rel := r.rel.close .fracturedFirst }
  else r

/-- A of a test that breaks, from the point before. -/
def fractureStrain (line : Option ElasticLine) (q : Point) (a : Field) : Field :=
  match line with
  | some l => a.fix (q.strain - elasticStrain q.stress l.e) q.index
  | none => a.close .fitFailed

/-- The fracture force and A, from the point before. -/
def fractureRecord (line : Option ElasticLine) (q : Point) (r : ResultRecord) : ResultRecord :=
  { r with fractureForce := r.fractureForce.fix q.force q.index, a := fractureStrain line q r.a, sourceOfA := q.source }

/-- The fit and the maximum made, the record as the fracture leaves it. -/
def fractureEnd (x : EvalInput) (e : Evu) : Evu :=
  { ((fractureSearch e).onResult (yieldBroken e.phase)).onResult (fractureRecord e.line (e.prev.getD x.point)) with
    phase := .fractured, tracker := none }

theorem fractureSearch_frame (e : Evu) :
    (fractureSearch e).phase = e.phase ∧ (fractureSearch e).line = e.line ∧ (fractureSearch e).prev = e.prev := by
  unfold fractureSearch
  split <;> simp

/-- The fit and the maximum as the fracture makes them. -/
def fractureMade (x : EvalInput) (o : EvalOut) : EvalOut := fractureMaximum x (fractureFit x o)

theorem fractureEffects_eq (x : EvalInput) (o : EvalOut) :
    fractureEffects x o =
      { evu := fractureEnd x (fractureMade x o).evu
        marks := (fractureMade x o).marks ++ [(.fracture, (fractureMade x o).evu.prev.getD x.point)]
        fractured := true
        slip := (fractureMade x o).slip } := by
  obtain ⟨hphase, hline, hprev⟩ := fractureSearch_frame (fractureMade x o).evu
  unfold fractureEnd
  rw [← hphase, ← hline, ← hprev]
  rfl

theorem fractureEnd_goesOn (x : EvalInput) (e : Evu) : GoesOn e (fractureEnd x e) := by
  refine GoesOn.trans (.onResult (fun r => ?_) (.onResult (fun r => ?_) ?_)) (.of_result rfl)
  · unfold fractureRecord fractureStrain
    split <;> simp [FieldsKept, ResultRecord.fields]
  · unfold yieldBroken
    repeat' split
    · simp [FieldsKept, ResultRecord.fields]
    · simp [FieldsKept, ResultRecord.fields]
    · exact .refl r
  · unfold fractureSearch
    split
    · exact .onResult (fun r => by simp [FieldsKept, ResultRecord.fields]) (.of_result rfl)
    · exact .refl _

theorem fractureFit_goesOn (x : EvalInput) (o : EvalOut) : GoesOn o.evu (fractureFit x o).evu := by
  unfold fractureFit
  split
  · exact closeFit_goesOn _ _ _ _
  · exact .refl _

theorem fractureMaximum_goesOn (x : EvalInput) (o : EvalOut) : GoesOn o.evu (fractureMaximum x o).evu := by
  unfold fractureMaximum
  split
  · exact fixMaximum_goesOn x o
  · exact .refl _

theorem fractureEffects_goesOn (x : EvalInput) (o : EvalOut) : GoesOn o.evu (fractureEffects x o).evu := by
  rw [fractureEffects_eq]
  exact ((fractureFit_goesOn x o).trans (fractureMaximum_goesOn x _)).trans (fractureEnd_goesOn x _)

/-! ### The whole point (R135), the entry and the end of a test (R134, R151) -/

/-- The record before the fracture test of a point. -/
def armed (x : EvalInput) (e : Evu) : EvalOut := (stepFmax x (stepSource x ⟨e, [], false, false⟩)).on (armFracture x)

/-- The evaluation of a point in a phase other than FRACTURED. -/
theorem evaluate_eq (x : EvalInput) {e : Evu} (h : e.phase ≠ .fractured) :
    evaluate x e =
      if isFracture x (armed x e).evu then fractureEffects x (armed x e) else unbrokenSteps x (armed x e) := by
  rw [evaluate, if_neg h]
  rfl

/-- In FRACTURED nothing more is evaluated (R133). -/
theorem evaluate_fractured (x : EvalInput) {e : Evu} (h : e.phase = .fractured) :
    evaluate x e = ⟨e, [], false, false⟩ := if_pos h

theorem armed_goesOn (x : EvalInput) (e : Evu) : GoesOn e (armed x e).evu :=
  GoesOn.trans (e' := (stepSource x ⟨e, [], false, false⟩).evu) (stepSource_goesOn x ⟨e, [], false, false⟩)
    (.of_result (by simp [armed]))

theorem unbrokenSteps_goesOn (x : EvalInput) (o : EvalOut) : GoesOn o.evu (unbrokenSteps x o).evu := by
  have moved : GoesOn (stepYield x o).evu (stepMaxPassed x (stepYield x o)).evu := .of_result (by simp)
  have stage := (stepYield_goesOn x o).trans moved
  have searched := (stage.trans (stepFit_goesOn x _)).trans (stepSearch_goesOn x _)
  have counted := (searched.trans (stepMaxEffects_goesOn x _)).trans (stepSlip_goesOn x _)
  exact counted.trans (.of_result rfl)

theorem evaluate_goesOn (x : EvalInput) (e : Evu) : GoesOn e (evaluate x e).evu := by
  by_cases h : e.phase = .fractured
  · rw [evaluate_fractured x h]
    exact .refl e
  · rw [evaluate_eq x h]
    split
    · exact (armed_goesOn x e).trans (fractureEffects_goesOn x _)
    · exact (armed_goesOn x e).trans (unbrokenSteps_goesOn x _)

/-- Rp is closed where no offset is asked for (R134). -/
def offsetNotAsked (hd : PlanHeader) (r : ResultRecord) : ResultRecord :=
  if hd.offsetStrain = 0 then { r with rp := r.rp.close .notRequested } else r

/-- ReH and ReL are closed where no yield evaluation is asked for (R134). -/
def yieldNotAsked (hd : PlanHeader) (r : ResultRecord) : ResultRecord :=
  if hd.yieldDrop = 0 then { r with reh := r.reh.close .notRequested, rel := r.rel.close .notRequested } else r

/-- The record at the entry point, before the fit of a test that nothing measures is closed (R134). -/
def enteredEvu (measuring : Bool) (hd : PlanHeader) (e : Evu) : Evu :=
  (({ e with phase := .elastic, maxPassedArmed := true
             fit := if measuring then .collecting else .notRequested }).onResult (offsetNotAsked hd)).onResult
    (yieldNotAsked hd)

/-- The fit of a test that nothing measures (R134, R138). -/
def fitNotAsked (hd : PlanHeader) (nominal : Option Nat) (i : Nat) (e : Evu) : Evu :=
  match fallbackModulus hd nominal with
  | some m => fixLine ⟨m, fallbackIntercept e.sums m, true⟩ i e
  | none => e.onResult fun r => { r with e := r.e.close .notRequested, x0 := r.x0.close .notRequested }

theorem evalEntry_evu (measuring : Bool) (p : Point) (s : State) :
    (evalEntry measuring p s).evu =
      if measuring then enteredEvu measuring s.header s.evu
      else fitNotAsked s.header (s.tsq.specimen.bind (·.nominalModulus)) p.index
        (enteredEvu measuring s.header s.evu) := rfl

theorem enteredEvu_goesOn (measuring : Bool) (hd : PlanHeader) (e : Evu) : GoesOn e (enteredEvu measuring hd e) := by
  refine .onResult (fun r => ?_) (.onResult (fun r => ?_) (.of_result rfl))
  · unfold yieldNotAsked
    split <;> simp [FieldsKept, ResultRecord.fields]
  · unfold offsetNotAsked
    split <;> simp [FieldsKept, ResultRecord.fields]

theorem fitNotAsked_goesOn (hd : PlanHeader) (nominal : Option Nat) (i : Nat) (e : Evu) :
    GoesOn e (fitNotAsked hd nominal i e) := by
  unfold fitNotAsked
  split
  · exact fixLine_goesOn _ _ _
  · exact .onResult (fun r => by simp [FieldsKept, ResultRecord.fields]) (.refl e)

theorem evalEntry_goesOn (measuring : Bool) (p : Point) (s : State) : GoesOn s.evu (evalEntry measuring p s).evu := by
  have entered := enteredEvu_goesOn measuring s.header s.evu
  rw [evalEntry_evu]
  split
  · exact entered
  · exact entered.trans (fitNotAsked_goesOn _ _ _ _)

theorem evalTestEnd_goesOn (why : EndReason) (s : State) : GoesOn s.evu (evalTestEnd why s).evu := by
  simp only [evalTestEnd, onEvu_evu]
  refine .onResult (fun r => by simp [FieldsKept, ResultRecord.fields, ResultRecord.closeAll])
    (GoesOn.trans (e' := if s.evu.fit = .collecting then _ else s.evu) ?_ (.of_result rfl))
  split
  · exact failFit_goesOn _ _ _ _ _
  · exact .refl _

end Sys2Proof.Proofs
end

section
/-! The evaluation record stays in agreement with its phase through a point, at the entry point and at the end of a
test (R132, R134, R151): the tracker belongs to YIELDING, an OPEN search has its line, a fit that collects has its
search NOT_OPEN. -/

namespace Sys2Proof.Proofs

open Sys2Proof.Machine Sys2Proof.Laws

/-- The yield tracker stands in YIELDING alone. -/
def YieldSound (e : Evu) : Prop := e.tracker.isSome = true → e.phase = .yielding

/-- An OPEN search has its elastic line, and a fit that still collects has its search NOT_OPEN. -/
def LineSound (e : Evu) : Prop :=
  (e.search = .opened → e.line.isSome = true) ∧ (e.fit = .collecting → e.search = .notOpen)

theorem YieldSound.congr {e e' : Evu} (h : YieldSound e) (hsame : e'.tracker = e.tracker ∧ e'.phase = e.phase) :
    YieldSound e' := by
  obtain ⟨htracker, hphase⟩ := hsame
  rwa [YieldSound, htracker, hphase]

theorem LineSound.congr {e e' : Evu} (h : LineSound e)
    (hsame : e'.search = e.search ∧ e'.line = e.line ∧ e'.fit = e.fit) : LineSound e' := by
  obtain ⟨hsearch, hline, hfit⟩ := hsame
  rwa [LineSound, hsearch, hline, hfit]

/-! ### The fit and the search -/

/-- The fit has failed for a reason; the search is as it was, or has opened with the fallback's line. -/
theorem failFit_line (hd : PlanHeader) (nominal : Option Nat) (why : Absence) (i : Nat) (e : Evu) :
    (failFit hd nominal why i e).fit = .failed why ∧
    ((failFit hd nominal why i e).line = e.line ∧ (failFit hd nominal why i e).search = e.search ∨
      (failFit hd nominal why i e).line.isSome = true) := by
  unfold failFit
  dsimp only
  split
  · split
    · exact ⟨rfl, .inr rfl⟩
    · exact ⟨by simp, .inr (by simp [fixLine])⟩
  · exact ⟨rfl, .inl ⟨rfl, rfl⟩⟩

/-- Closing the fit window leaves no fit that collects, with the same two outcomes for the search. -/
theorem closeFit_line (hd : PlanHeader) (nominal : Option Nat) (i : Nat) (e : Evu) :
    (closeFit hd nominal i e).fit ≠ .collecting ∧
    ((closeFit hd nominal i e).line = e.line ∧ (closeFit hd nominal i e).search = e.search ∨
      (closeFit hd nominal i e).line.isSome = true) := by
  have fails : ∀ why, (failFit hd nominal why i e).fit ≠ .collecting ∧ _ := fun why => by
    obtain ⟨hfit, hline⟩ := failFit_line hd nominal why i e
    exact ⟨by simp [hfit], hline⟩
  unfold closeFit
  dsimp only
  repeat' split
  · exact fails _
  · exact fails _
  · exact fails _
  · exact ⟨by simp, .inr (by simp [fixLine])⟩

/-- A search that is OPEN has a line where the line is new or both stand. -/
theorem lineSound_of_closed {e e' : Evu} (h : LineSound e) (hfit : e'.fit ≠ .collecting)
    (hline : e'.line = e.line ∧ e'.search = e.search ∨ e'.line.isSome = true) : LineSound e' := by
  refine ⟨fun hopen => ?_, fun hcollects => absurd hcollects hfit⟩
  rcases hline with ⟨hl, hs⟩ | hsome
  · rw [hl]
    exact h.1 (hs ▸ hopen)
  · exact hsome

theorem failFit_sound {e : Evu} (h : LineSound e) (hd : PlanHeader) (nominal : Option Nat) (why : Absence) (i : Nat) :
    LineSound (failFit hd nominal why i e) := by
  obtain ⟨hfit, hline⟩ := failFit_line hd nominal why i e
  exact lineSound_of_closed h (by simp [hfit]) hline

theorem closeFit_sound {e : Evu} (h : LineSound e) (hd : PlanHeader) (nominal : Option Nat) (i : Nat) :
    LineSound (closeFit hd nominal i e) := by
  obtain ⟨hfit, hline⟩ := closeFit_line hd nominal i e
  exact lineSound_of_closed h hfit hline

theorem stepFit_sound {o : EvalOut} (h : LineSound o.evu) (x : EvalInput) : LineSound (stepFit x o).evu := by
  unfold stepFit
  repeat' split
  · exact closeFit_sound h _ _ _
  · exact h
  · exact h
  · exact h

theorem stepSearch_sound {o : EvalOut} (h : LineSound o.evu) (x : EvalInput) : LineSound (stepSearch x o).evu := by
  unfold stepSearch crossing
  dsimp only
  repeat' split
  · exact h
  · rename_i hopen _ _ _ _
    refine ⟨nofun, fun hfit => ?_⟩
    have := h.2 hfit
    simp [hopen.1] at this
  · exact h
  · exact h

theorem stepSource_sound {o : EvalOut} (h : LineSound o.evu) (x : EvalInput) : LineSound (stepSource x o).evu := by
  unfold stepSource
  split
  · obtain ⟨hfit, hsearch⟩ := closeExtensometer_settled x o.evu
    exact ⟨fun hopen => absurd hopen hsearch, fun hcollects => absurd hcollects hfit⟩
  · exact h

/-! ### The yield tracker -/

theorem closeExtensometer_yieldSound {e : Evu} (h : YieldSound e) (x : EvalInput) :
    YieldSound (closeExtensometer x e) := by
  obtain ⟨-, -, hphase, htracker⟩ := fitLost_evu x e
  have searched : (searchLost (fitLost x e)).phase = e.phase ∧ (searchLost (fitLost x e)).tracker = e.tracker := by
    unfold searchLost
    split <;> simp [hphase, htracker]
  rw [closeExtensometer_eq, yieldLost]
  split
  · exact fun hsome => absurd hsome (by simp)
  · exact h.congr ⟨searched.2, searched.1⟩

theorem stepSource_yieldSound {o : EvalOut} (h : YieldSound o.evu) (x : EvalInput) :
    YieldSound (stepSource x o).evu := by
  unfold stepSource
  split
  · exact closeExtensometer_yieldSound h x
  · exact h

@[simp] theorem trackSmax_phase (p : Point) (e : Evu) : (trackSmax p e).phase = e.phase := by
  unfold trackSmax
  repeat' split
  all_goals rfl

theorem stepYield_yieldSound {o : EvalOut} (h : YieldSound o.evu) (x : EvalInput) : YieldSound (stepYield x o).evu := by
  cases hphase : o.evu.phase with
  | elastic =>
    have untracked : o.evu.tracker.isSome ≠ true := fun hsome => by
      have := h hsome
      simp [hphase] at this
    simp only [stepYield, hphase, elasticYield, upperYield]
    repeat' split
    · exact fun _ => rfl
    · exact fun hsome => absurd (by simpa using hsome) untracked
    · exact fun hsome => absurd (by simpa using hsome) untracked
    · exact fun hsome => absurd hsome untracked
    · exact h
  | yielding =>
    simp only [stepYield, hphase, endYield]
    repeat' split
    · exact fun hsome => absurd hsome (by simp)
    · exact fun hsome => absurd hsome (by simp)
    · exact fun _ => hphase
    · exact h
  | _ => simpa only [stepYield, hphase] using h

theorem stepMaxPassed_yieldSound {o : EvalOut} (h : YieldSound o.evu) (x : EvalInput) :
    YieldSound (stepMaxPassed x o).evu := by
  have armed : YieldSound (rearm x o.evu) := h.congr (by simp)
  unfold stepMaxPassed
  dsimp only
  split
  · rename_i hpasses
    refine fun hsome => ?_
    have hyield : o.evu.phase = .yielding := by simpa using armed hsome
    simp [passesMaximum, hyield] at hpasses
  · exact armed

/-! ### The whole point -/

theorem armed_sound {e : Evu} (hline : LineSound e) (hyield : YieldSound e) (x : EvalInput) :
    LineSound (armed x e).evu ∧ YieldSound (armed x e).evu :=
  ⟨(stepSource_sound (o := ⟨e, [], false, false⟩) hline x).congr (by simp [armed]),
    (stepSource_yieldSound (o := ⟨e, [], false, false⟩) hyield x).congr (by simp [armed])⟩

theorem unbrokenSteps_sound {o : EvalOut} (hline : LineSound o.evu) (hyield : YieldSound o.evu) (x : EvalInput) :
    LineSound (unbrokenSteps x o).evu ∧ YieldSound (unbrokenSteps x o).evu := by
  have moved : LineSound (stepMaxPassed x (stepYield x o)).evu := hline.congr (by simp)
  have tracked := stepMaxPassed_yieldSound (stepYield_yieldSound hyield x) x
  exact ⟨(stepSearch_sound (stepFit_sound moved x) x).congr (by simp [unbrokenSteps]),
    tracked.congr (by simp [unbrokenSteps])⟩

theorem fractureEnd_sound {e : Evu} (hline : LineSound e) (x : EvalInput) :
    LineSound (fractureEnd x e) ∧ YieldSound (fractureEnd x e) := by
  refine ⟨?_, fun hsome => absurd hsome (by simp [fractureEnd])⟩
  have searched : LineSound (fractureSearch e) := by
    unfold fractureSearch
    split
    · rename_i hopen
      refine ⟨nofun, fun hfit => ?_⟩
      have := hline.2 hfit
      simp [hopen] at this
    · exact hline
  exact searched.congr ⟨rfl, rfl, rfl⟩

theorem fractureEffects_sound {o : EvalOut} (hline : LineSound o.evu) (x : EvalInput) :
    LineSound (fractureEffects x o).evu ∧ YieldSound (fractureEffects x o).evu := by
  have fitted : LineSound (fractureFit x o).evu := by
    unfold fractureFit
    split
    · exact closeFit_sound hline _ _ _
    · exact hline
  have maximum : LineSound (fractureMade x o).evu := by
    unfold fractureMade fractureMaximum
    split
    · exact fitted.congr (by simp)
    · exact fitted
  rw [fractureEffects_eq]
  exact fractureEnd_sound maximum x

theorem evaluate_sound {e : Evu} (hline : LineSound e) (hyield : YieldSound e) (x : EvalInput) :
    LineSound (evaluate x e).evu ∧ YieldSound (evaluate x e).evu := by
  by_cases h : e.phase = .fractured
  · rw [evaluate_fractured x h]
    exact ⟨hline, hyield⟩
  · obtain ⟨aline, ayield⟩ := armed_sound hline hyield x
    rw [evaluate_eq x h]
    split
    · exact fractureEffects_sound aline x
    · exact unbrokenSteps_sound aline ayield x

/-! ### The entry and the end of a test (R134, R151) -/

/-- At the entry point the search is NOT_OPEN, and the tracker is absent since the phase was WAITING. -/
theorem evalEntry_sound {s : State} (hyield : YieldSound s.evu) (hphase : s.evu.phase = .waiting)
    (hsearch : s.evu.search = .notOpen) (measuring : Bool) (p : Point) :
    LineSound (evalEntry measuring p s).evu ∧ YieldSound (evalEntry measuring p s).evu := by
  have untracked : s.evu.tracker = none := by
    cases ht : s.evu.tracker with
    | none => rfl
    | some k => simp [YieldSound, ht, hphase] at hyield
  have parts : (evalEntry measuring p s).evu.search = .notOpen ∧ (evalEntry measuring p s).evu.tracker = none := by
    rw [evalEntry_evu]
    unfold fitNotAsked
    repeat' split
    all_goals simp [enteredEvu, hsearch, untracked]
  exact ⟨⟨fun hopen => by simp [parts.1] at hopen, fun _ => parts.1⟩, fun hsome => by simp [parts.2] at hsome⟩

theorem evalTestEnd_sound (why : EndReason) {s : State} (hline : LineSound s.evu) :
    LineSound (evalTestEnd why s).evu ∧ YieldSound (evalTestEnd why s).evu := by
  simp only [evalTestEnd, onEvu_evu]
  refine ⟨?_, fun hsome => absurd hsome (by simp)⟩
  have failed : LineSound (if s.evu.fit = .collecting then
      failFit s.header (s.tsq.specimen.bind (·.nominalModulus)) why.absence s.latest.index s.evu else s.evu) ∧
      (if s.evu.fit = .collecting then
        failFit s.header (s.tsq.specimen.bind (·.nominalModulus)) why.absence s.latest.index s.evu
        else s.evu).fit ≠ .collecting := by
    split
    · exact ⟨failFit_sound hline _ _ _ _, by simp [failFit_line]⟩
    · exact ⟨hline, ‹_›⟩
  generalize (if s.evu.fit = .collecting then _ else s.evu) = e at failed ⊢
  obtain ⟨⟨hopen, -⟩, hfit⟩ := failed
  refine ⟨fun h => ?_, fun h => absurd h hfit⟩
  dsimp only [Evu.onResult] at h ⊢
  split at h
  · cases h
  · exact hopen h

end Sys2Proof.Proofs
end

section
/-! The evaluation record from step to step (O58, O60): a predicate on the state of the test and the evaluation record
that the evaluation of a point, the entry and the end of a test keep is kept by every command but the acceptance of a
Start Test (R134, R150, R151). -/

namespace Sys2Proof.Proofs

open Sys2Proof.Machine Sys2Proof.Laws

/-- What a predicate on the test's state and the evaluation record must be kept by, so that a test that goes on or
ends keeps it. -/
structure MoveWalk (I : SeqState → Evu → Prop) : Prop where
  within : ∀ {q q' e}, I q e → q.evaluated = true → q'.evaluated = true → I q' e
  slipped : ∀ {q e} (n : Nat → Nat), I q e → q.evaluated = true → I q (withSlips n e)
  ended : ∀ {s : State} {q} (why : EndReason), I q s.evu → q.inTest = true → I .ended (evalTestEnd why s).evu

/-- What such a predicate must be kept by besides, so that every command but a Start Test keeps it. -/
structure RecordWalk (I : SeqState → Evu → Prop) : Prop extends MoveWalk I where
  outside : ∀ {q q' e}, I q e → q.inTest = false → q'.inTest = false → I q' e
  point : ∀ {q e} (x : EvalInput), I q e → q.evaluated = true → I q (evaluate x e).evu
  entered : ∀ {s : State} (measuring : Bool) (p : Point), I .starting s.evu → I .running (evalEntry measuring p s).evu
  reset : I .empty Evu.reset

/-- The predicate holds of the records of a state. -/
def Holds (I : SeqState → Evu → Prop) (s : State) : Prop := I s.tsq.state s.evu

/-- The same state of the test and the same evaluation record. -/
theorem Holds.congr {I : SeqState → Evu → Prop} {s t : State} (h : Holds I s)
    (hsame : t.tsq.state = s.tsq.state ∧ t.evu = s.evu) : Holds I t := by
  obtain ⟨hstate, hevu⟩ := hsame
  rwa [Holds, hstate, hevu]

theorem Holds.managerPoint {I : SeqState → Evu → Prop} {s : State} (h : Holds I s) (fractured : Bool) (p : Point) :
    Holds I (managerPoint fractured p s) := h.congr (by simp)

theorem Holds.offerPoint {I : SeqState → Evu → Prop} {s : State} (h : Holds I s) (p : Point) :
    Holds I (offerPoint p s) := h.congr (by simp)

/-! ### A test goes on or ends on a point (R27 to R30, R34, R37) -/

namespace MoveWalk

variable {I : SeqState → Evu → Prop} (W : MoveWalk I) {s t : State}

include W

/-- The walk over the events. -/
theorem events : EventWalk (Holds I) where
  quiet h hq := by
    rw [Holds, hq.evu]
    rcases hq.state with hstate | ⟨hs, ht⟩
    · rwa [hstate]
    · exact W.within h hs ht
  slipped n h hq := W.slipped n h hq
  ended why cause h hin := by
    rw [Holds, enterEnded_tsq]
    simp only [enterEnded, raise_frame, storeMark_frame, extTestEnd_frame]
    exact W.ended why h hin

theorem evaluates (h : Holds I s) (hs : s.tsq.state.evaluated = true) (ht : t.tsq.state.evaluated = true)
    (hevu : t.evu = s.evu) : Holds I t := by
  rw [Holds, hevu]
  exact W.within h hs ht

theorem reachSegment (h : Holds I s) (hq : s.tsq.state.evaluated = true) (i : Nat) (p : Point) :
    Holds I (reachSegment i p s) := W.evaluates h hq (reachSegment_evaluated i p s) (by simp)

theorem onEndAction (h : Holds I s) (hq : s.tsq.state = .running) (i : Nat) (a : OnEnd) (p : Point) :
    Holds I (onEndAction i a p s) := by
  have heval : s.tsq.state.evaluated = true := by rw [hq]; rfl
  cases a with
  | next =>
    unfold Machine.onEndAction
    dsimp only
    split
    · exact W.events.enterEnding h (.inl hq) _
    · exact W.reachSegment h heval _ p
  | hold => exact W.events.enterHeld h heval _ _
  | endTest => exact W.events.enterEnding h (.inl hq) _

theorem runningTaken (h : Holds I s) (hq : s.tsq.state = .running) (fractured : Bool) (p : Point) :
    Holds I (runningTaken fractured p s) := by
  have counted : Holds I (countSegmentTime s) := h
  unfold Machine.runningTaken runningPoint
  dsimp only
  repeat' split
  · exact W.events.enterEnding counted (.inl hq) _
  · exact counted
  · exact counted
  · exact W.onEndAction counted hq _ _ p
  · exact counted

theorem heldPoint (h : Holds I s) (hq : s.tsq.state = .held) (p : Point) : Holds I (heldPoint p s) := by
  unfold Machine.heldPoint
  split
  · exact W.evaluates h (by rw [hq]; rfl) (by rw [enterSegment_tsq]; rfl) (by simp)
  · exact h

/-- The Test Sequencer takes a point of a test that has started. -/
theorem sequencerPoint (h : Holds I s) (hq : s.tsq.state ≠ .starting) (fractured : Bool) (p : Point) :
    Holds I (sequencerPoint fractured p s) := by
  unfold Machine.sequencerPoint
  split
  · exact absurd ‹_› hq
  · exact W.runningTaken h ‹_› fractured p
  · split
    · exact W.events.enterEnding h (.inr ‹_›) _
    · exact W.heldPoint h ‹_› p
  all_goals exact h

end MoveWalk

namespace RecordWalk

variable {I : SeqState → Evu → Prop} (W : RecordWalk I) {s t : State}

include W

/-! ### A measured point (R133 to R135) -/

theorem testEntry (h : Holds I s) (hq : s.tsq.state = .starting) (p : Point) : Holds I (testEntry p s) := by
  have waiting : I .starting (extTestEntry s).evu := by
    have : I s.tsq.state s.evu := h
    rw [hq] at this
    simpa using this
  unfold Machine.testEntry
  dsimp only
  generalize decide (0 < (extTestEntry s).exm.heads.count fun e => e.state = .measuring) = measuring
  have entered := W.within (W.entered measuring p waiting) rfl (reachSegment_evaluated 0 p
    ((storeMark .testStart p (evalEntry measuring p (extTestEntry s))).onTsq fun t => { t with startStep := none }))
  simpa [Holds] using entered

theorem startingPoint (h : Holds I s) (hq : s.tsq.state = .starting) (p : Point) : Holds I (startingPoint p s) := by
  unfold Machine.startingPoint
  split
  · exact W.toMoveWalk.events.beginTare h
  · exact W.toMoveWalk.events.waitTare h hq
  · exact h
  · exact W.testEntry h hq p

theorem sequencerPoint (h : Holds I s) (fractured : Bool) (p : Point) : Holds I (sequencerPoint fractured p s) := by
  by_cases hq : s.tsq.state = .starting
  · unfold Machine.sequencerPoint
    rw [hq]
    exact W.startingPoint h hq p
  · exact W.toMoveWalk.sequencerPoint h hq fractured p

theorem evaluationPoint (h : Holds I s) (unrest : Bool) (p : Point) : Holds I (evaluationPoint unrest p s).1 := by
  unfold Machine.evaluationPoint
  split
  · have applied : Holds I (applyEval (evaluate (s.evalInput unrest p) s.evu) s) := by
      simpa [Holds] using W.point (s.evalInput unrest p) h ‹_›
    dsimp only
    split
    · exact W.toMoveWalk.events.slipAction applied
    · exact applied
  · exact h

theorem consumePoint {f : Formed} (h : Holds I f.state) (held : Int) (c : Conversion) (first : Bool) :
    Holds I (consumePoint held c first f) := by
  have driven := W.toMoveWalk.events.drivePoint (W.toMoveWalk.events.pacingPoint h) held c first f.point
  have managed := (W.evaluationPoint driven f.unrest f.point).managerPoint
    (Machine.evaluationPoint f.unrest f.point (drivePoint held c first f.point (pacingPoint f.state))).2 f.point
  exact (W.toMoveWalk.events.limitPoint (W.sequencerPoint managed _ f.point) c.driveFault f.point).offerPoint f.point

theorem conversion (h : Holds I s) (c : Conversion) : Holds I (conversion c s) :=
  W.consumePoint (h.congr (by simp)) _ c _

/-! ### Requests (R9, R32, R34, R36) -/

theorem outsideTest (h : Holds I s) (hs : s.tsq.state.inTest = false) (ht : t.tsq.state.inTest = false)
    (hevu : t.evu = s.evu) : Holds I t := by
  rw [Holds, hevu]
  exact W.outside h hs ht

omit W in
theorem withEmpty (h : Holds I s) (p : List Byte) {a : Answer} (ha : Holds I a.state) :
    Holds I (withEmpty p s a).state := by
  cases p with
  | nil => exact ha
  | cons => exact h

theorem beginProgram (h : Holds I s) (p : List Byte) : Holds I (decideBeginProgram p s).state := by
  unfold decideBeginProgram
  split
  · exact h
  · split
    · exact h
    · split
      · exact h
      · rename_i hin _ _ _
        dsimp only
        split
        · exact W.outsideTest h (by simpa [State.inTest] using hin) rfl rfl
        · exact h

theorem programSegments (h : Holds I s) (p : List Byte) : Holds I (decideProgramSegments p s).state := by
  unfold decideProgramSegments
  split
  · exact h
  · split
    · exact h
    · split
      · rename_i hq _
        have outside : s.tsq.state.inTest = false := by rw [hq]; rfl
        unfold loadSegments storeSegments validateLoad
        dsimp only
        repeat' split
        · exact h
        · exact h
        · exact h
        · exact W.outsideTest h outside rfl rfl
        · exact W.outsideTest h outside rfl rfl
        · exact h
      · exact h

theorem pause (h : Holds I s) (p : List Byte) : Holds I (decidePause p s).state := by
  refine withEmpty h p ?_
  split
  · rename_i hq
    exact W.toMoveWalk.events.enterHeld h (by rw [hq]; rfl) _ _
  all_goals exact h

theorem resume (h : Holds I s) (p : List Byte) : Holds I (decideResume p s).state := by
  refine withEmpty h p ?_
  split
  · rename_i hq _
    have heval : s.tsq.state.evaluated = true := by rw [hq]; rfl
    have same : Holds I (resumeSegment s) := W.toMoveWalk.evaluates h heval rfl rfl
    split
    · exact h
    · unfold resumeHeld resumeOnEnd
      dsimp only
      repeat' split
      · exact h
      · exact h
      · exact W.toMoveWalk.events.enterEnding h (.inr hq) _
      · exact W.toMoveWalk.events.enterHeld h heval _ _
      · exact h
      all_goals exact same
  · exact h

theorem abort (h : Holds I s) (p : List Byte) : Holds I (decideAbort p s).state := by
  refine withEmpty h p ?_
  split
  · rename_i hq
    exact W.toMoveWalk.events.ended _ _ h (by rw [State.inTest, hq]; rfl)
  · exact W.toMoveWalk.events.enterEnding h (.inl ‹_›) _
  · exact W.toMoveWalk.events.enterEnding h (.inr ‹_›) _
  all_goals exact h

theorem stopMove (h : Holds I s) (p : List Byte) : Holds I (decideStopMove p s).state := by
  refine withEmpty h p ?_
  split
  · exact W.toMoveWalk.events.reportIfIdle (s := s.onDrl _) (W.toMoveWalk.events.onDrl h _)
  · split
    · exact h
    · exact h
  all_goals exact h

omit W in
theorem removeExtensometer (h : Holds I s) (p : List Byte) : Holds I (decideRemoveExtensometer p s).state := by
  refine withEmpty h p ?_
  split
  · exact h.congr (t := handover _ s) (by simp)
  · split
    · exact h.congr (t := askWatchedLifts _ s) (by simp)
    · exact h

omit W in
theorem storeSettings (h : Holds I s) (p : List Byte) :
    Holds I (decideSetSpecimen p s).state ∧ Holds I (decideSetHoldPoints p s).state := by
  unfold decideSetSpecimen decideSetHoldPoints
  constructor
  · repeat' split
    all_goals exact h
  · repeat' split
    all_goals exact h

omit W in
theorem clearVisited (h : Holds I s) (p : List Byte) : Holds I (decideClearVisited p s).state := by
  refine withEmpty h p ?_
  split <;> exact h

/-- Every decision keeps what the walk keeps, as long as the one on Start Test does. -/
theorem decide : ∀ d ∈ decisions, ∀ p s, Holds I s → Holds I (decideStartTest p s).state → Holds I (d p s).state := by
  rw [forall_decisions]
  refine ⟨?_, ?_, ?_, ?_, ?_, ?_, ?_, ?_, fun p s h _ => (storeSettings h p).1,
    fun p s h _ => W.beginProgram h p, fun p s h _ => W.programSegments h p, ?_,
    fun p s h _ => clearVisited h p, fun p s h _ => (storeSettings h p).2,
    fun p s _ hstart => hstart, fun p s h _ => W.pause h p,
    fun p s h _ => W.resume h p, fun p s h _ => W.abort h p, ?_, ?_, ?_, ?_,
    fun p s h _ => W.stopMove h p, ?_, ?_, ?_, fun p s h _ => removeExtensometer h p,
    ?_, ?_, ?_, ?_, ?_, ?_, ?_, ?_⟩
  all_goals exact fun p s h _ => h.congr (by simp [decideUnknown, refuse])

theorem resetInput (h : Holds I s) (i : SafetyInput) : Holds I (resetInput i s) := by
  unfold Machine.resetInput
  split
  · exact W.toMoveWalk.events.takeCause (W.toMoveWalk.events.same (t := onInput i _ s) h (by simp)) _
  · exact h

theorem resetPart (raw : SafetyLevels) (s : State) : Holds I (resetPart raw s) := by
  have values : Holds I (State.resetValues raw s.pending) := W.reset
  exact W.resetInput (W.resetInput (W.resetInput (W.resetInput values _) _) _) _

/-- Every command keeps what the walk keeps, as long as a Start Test on the same records does. -/
theorem exec (h : Holds I s) (hstart : ∀ p u, u.tsq = s.tsq → u.evu = s.evu → Holds I (decideStartTest p u).state)
    {k : Instr} (hx : exec k s = .next t) : Holds I t := by
  rcases exec_effect hx with ⟨c, -, -, rfl⟩ | effect
  · exact W.conversion h c
  · cases effect with
    | link hu =>
      obtain ⟨htsq, hevu, -⟩ := hu.blocks
      exact h.congr ⟨by rw [htsq], hevu⟩
    | reset raw u => exact W.resetPart raw u
    | held => exact h.congr (by simp)
    | answer hd kind tag p hu =>
      obtain ⟨htsq, hevu, -⟩ := hu.blocks
      exact W.decide _ hd p _ (h.congr ⟨by rw [htsq], hevu⟩) (hstart p _ htsq hevu)
    | event hf => exact W.toMoveWalk.events.event h hf

end RecordWalk

/-! ### The record in agreement with the phase and the test (O58) -/

/-- What O58 says of the state of the test and the evaluation record. -/
def EvaluationSound (q : SeqState) (e : Evu) : Prop :=
  YieldSound e ∧ LineSound e ∧ (q.inTest = true → e.result.isSome = true) ∧
  (q.inTest = false → e.openCount = 0) ∧ (q = .starting → e.phase = .waiting ∧ e.search = .notOpen)

theorem evaluationConsistent_iff (s : State) : EvaluationConsistent s ↔ Holds EvaluationSound s := by
  unfold EvaluationConsistent Holds EvaluationSound YieldSound LineSound Evu.openCount
  cases s.evu.result <;> simp [and_assoc]

theorem evaluated_ne_starting {q : SeqState} (h : q.evaluated = true) : q ≠ .starting ∧ q.inTest ≠ false := by
  cases q <;> simp_all [SeqState.evaluated, SeqState.inTest]

theorem evaluationSound_walk : RecordWalk EvaluationSound where
  within h hq hq' := by
    obtain ⟨hyield, hline, hsome, -, -⟩ := h
    obtain ⟨hne, hin⟩ := evaluated_ne_starting hq'
    exact ⟨hyield, hline, fun _ => hsome (evaluated_inTest hq), fun hout => absurd hout hin, fun h => absurd h hne⟩
  outside h hq hq' := by
    obtain ⟨hyield, hline, -, hcount, -⟩ := h
    exact ⟨hyield, hline, fun hin => by simp [hq'] at hin, fun _ => hcount hq,
      fun h => by simp [h, SeqState.inTest] at hq'⟩
  slipped n h hq := by
    obtain ⟨hyield, hline, hsome, -, -⟩ := h
    obtain ⟨hne, hin⟩ := evaluated_ne_starting hq
    exact ⟨hyield, hline, fun hq => by simpa [withSlips] using hsome hq, fun hout => absurd hout hin,
      fun h => absurd h hne⟩
  point x h hq := by
    obtain ⟨hyield, hline, hsome, -, -⟩ := h
    obtain ⟨hne, hin⟩ := evaluated_ne_starting hq
    obtain ⟨hline', hyield'⟩ := evaluate_sound hline hyield x
    exact ⟨hyield', hline', fun hq => (evaluate_goesOn x _).isSome (hsome hq), fun hout => absurd hout hin,
      fun h => absurd h hne⟩
  entered measuring p h := by
    obtain ⟨hyield, -, hsome, -, hstart⟩ := h
    obtain ⟨hphase, hsearch⟩ := hstart rfl
    obtain ⟨hline', hyield'⟩ := evalEntry_sound hyield hphase hsearch measuring p
    exact ⟨hyield', hline', fun _ => (evalEntry_goesOn measuring p _).isSome (hsome rfl), nofun, nofun⟩
  ended why h _ := by
    obtain ⟨-, hline, -, -, -⟩ := h
    obtain ⟨hline', hyield'⟩ := evalTestEnd_sound why hline
    exact ⟨hyield', hline', nofun, fun _ => evalTestEnd_openCount why _, nofun⟩
  reset := by simp [EvaluationSound, YieldSound, LineSound, Evu.reset, Evu.openCount, SeqState.inTest]

/-- A Start Test that is taken opens a new record (R134); another changes nothing. -/
theorem startChecksLate_record (s : State) :
    (startChecksLate s).state = s ∨ (startChecksLate s).state.tsq.state = .starting ∧
      (startChecksLate s).state.evu = { Evu.reset with result := some .fresh } := by
  unfold startChecksLate
  split
  · exact .inl rfl
  · split
    · exact .inl rfl
    · split
      · exact .inl rfl
      · split
        · exact .inl rfl
        · exact .inr ⟨by simp [answerAccepted, acceptTest], by simp [answerAccepted, acceptTest, evalTestAccepted]⟩

theorem decideStartTest_record (p : List Byte) (s : State) :
    (decideStartTest p s).state = s ∨ s.inTest = false ∧ (decideStartTest p s).state.tsq.state = .starting ∧
      (decideStartTest p s).state.evu = { Evu.reset with result := some .fresh } := by
  unfold decideStartTest
  split
  · exact .inl rfl
  · split
    · exact .inl rfl
    · rename_i hq
      have outside : s.inTest = false := by
        rw [State.inTest]
        cases hs : s.tsq.state <;> simp_all [SeqState.inTest]
      split
      · exact .inl rfl
      · split
        · exact .inl rfl
        · split
          · exact .inl rfl
          · split
            · exact .inl rfl
            · exact (startChecksLate_record s).imp_right fun h => ⟨outside, h⟩

theorem decideStartTest_sound {s : State} (h : Holds EvaluationSound s) (p : List Byte) :
    Holds EvaluationSound (decideStartTest p s).state := by
  rcases decideStartTest_record p s with hs | ⟨-, hstate, hevu⟩
  · rwa [hs]
  · rw [Holds, hstate, hevu]
    simp [EvaluationSound, YieldSound, LineSound, Evu.reset, SeqState.inTest]

theorem exec_evaluationSound {s t : State} (h : Holds EvaluationSound s) {k : Instr} (hx : exec k s = .next t) :
    Holds EvaluationSound t :=
  evaluationSound_walk.exec h (fun p _ htsq hevu =>
    decideStartTest_sound (h.congr ⟨by rw [htsq], hevu⟩) p) hx

/-- A step runs the command at the front of the queue, or none. -/
theorem step_cases {s t : State} (h : step s = .next t) :
    t = s ∨ ∃ k rest, exec k { s with pending := rest } = .next t := by
  unfold Machine.step at h
  split at h
  · cases h; exact .inl rfl
  · exact .inr ⟨_, _, h⟩

/-- Settles O58: the evaluation record agrees with its phase and with the test by itself from step to step, so that no
other part of `TestConsistent` is needed. -/
theorem evaluationStaysConsistent : Obligations.EvaluationStaysConsistent := by
  intro s t ⟨_, _, heval, _⟩ hstep
  have sound := (evaluationConsistent_iff s).1 heval
  refine (evaluationConsistent_iff t).2 ?_
  rcases step_cases hstep with rfl | ⟨k, rest, hx⟩
  · exact sound
  · exact exec_evaluationSound (s := { s with pending := rest }) sound hx

/-! ### A field leaves OPEN once (O60) -/

/-- The record goes on from the one of a test, or the part has been reset. -/
def RecordFrom (e : Evu) (q : SeqState) (e' : Evu) : Prop := GoesOn e e' ∨ q.inTest = false ∧ e'.result = none

theorem recordFrom_walk (e : Evu) : RecordWalk (RecordFrom e) where
  within h hq _ := h.imp_right fun ⟨hout, _⟩ => absurd hout (evaluated_ne_starting hq).2
  outside h _ hq' := h.imp_right fun ⟨_, hnone⟩ => ⟨hq', hnone⟩
  slipped n h hq := by
    rcases h with h | ⟨hout, -⟩
    · exact .inl (h.onResult fun r => .refl r)
    · exact absurd hout (evaluated_ne_starting hq).2
  point x h hq := by
    rcases h with h | ⟨hout, -⟩
    · exact .inl (h.trans (evaluate_goesOn x _))
    · exact absurd hout (evaluated_ne_starting hq).2
  entered measuring p h := by
    rcases h with h | ⟨hout, -⟩
    · exact .inl (h.trans (evalEntry_goesOn measuring p _))
    · exact absurd hout nofun
  ended why h hin := by
    rcases h with h | ⟨hout, -⟩
    · exact .inl (h.trans (evalTestEnd_goesOn why _))
    · exact absurd hin (by simp [hout])
  reset := .inr ⟨rfl, rfl⟩

/-- Within a test a Start Test is refused. -/
theorem decideStartTest_inTest {s : State} (h : s.inTest = true) (p : List Byte) : (decideStartTest p s).state = s := by
  rcases decideStartTest_record p s with hs | ⟨hout, -⟩
  · exact hs
  · simp [h] at hout

theorem exec_recordFrom {s t : State} (hin : s.inTest = true) {k : Instr} (hx : exec k s = .next t) :
    RecordFrom s.evu t.tsq.state t.evu := by
  have start : Holds (RecordFrom s.evu) s := .inl (.refl _)
  refine (recordFrom_walk s.evu).exec start (fun p u htsq hevu => ?_) hx
  rw [decideStartTest_inTest (by rwa [State.inTest, htsq])]
  exact start.congr ⟨by rw [htsq], hevu⟩

theorem FieldsKept.keeps {r r' : ResultRecord} (h : FieldsKept r r') : r.keeps r' := by
  simp only [FieldsKept, ResultRecord.fields, List.forall₂_cons] at h
  obtain ⟨he, hx0, hrp, hreh, hrel, hrm, hag, hforce, ha, -⟩ := h
  exact ⟨he, hx0, hrp, hreh, hrel, hrm, hag, hforce, ha⟩

theorem GoesOn.record {e e' : Evu} (h : GoesOn e e') {r r' : ResultRecord} (hr : e.result = some r)
    (hr' : e'.result = some r') : FieldsKept r r' := by
  obtain ⟨r'', hr'', kept⟩ := h r hr
  obtain rfl : r' = r'' := by simpa [hr'] using hr''
  exact kept

/-- Settles O60: one record goes on through the test to its end; only a reset leaves none, and only a Start Test, which
is refused within a test, opens another. -/
theorem resultFieldsLeaveOpenOnce : Obligations.ResultFieldsLeaveOpenOnce := by
  intro s t r r' hin hstep _ hr hr'
  rcases step_cases hstep with rfl | ⟨k, rest, hx⟩
  · exact ((GoesOn.refl _).record hr hr').keeps
  · rcases exec_recordFrom (s := { s with pending := rest }) hin hx with goes | ⟨-, hnone⟩
    · exact (goes.record hr hr').keeps
    · simp [hnone] at hr'

end Sys2Proof.Proofs
end

section
/-! The modulus fit at the close of its window (R137, R138), as one equation; and what the later consumers of an
evaluated point leave of the evaluation (R39, R135, R151): a test that goes on has the record of its evaluation, a
test that ends the record that the end makes of it. -/

namespace Sys2Proof.Proofs

open Sys2Proof.Machine Sys2Proof.Laws

/-! ### The close of the fit window (R137, R138) -/

/-- Why the sums of a window give no modulus, if they do not. -/
def fitFailure (hd : PlanHeader) (q : FitSums) : Option Absence :=
  if q.n < hd.nMin then some .tooFewPoints
  else if q.den ≤ 0 ∨ q.num ≤ 0 then some .fitFailed
  else if q.modulus < hd.eMin ∨ (hd.eMax : Int) < q.modulus then some .modulusOutOfRange
  else none

/-- The line that the close of the window makes: the fitted one, or that of the fallback modulus. -/
def madeLine (hd : PlanHeader) (nominal : Option Nat) (q : FitSums) : Option ElasticLine :=
  match fitFailure hd q with
  | some _ => (fallbackModulus hd nominal).map fun m => ⟨m, fallbackIntercept q m, true⟩
  | none => some ⟨q.modulus, q.intercept, false⟩

/-- The record with E and x0 fixed from a line. -/
def lineRecord (l : ElasticLine) (n i : Nat) (r : ResultRecord) : ResultRecord :=
  { r with e := r.e.fix l.e i, x0 := r.x0.fix l.x0 i, fitCount := n, fallbackUsed := l.fallback }

/-- The record of a fit that fails without a fallback. -/
def unfitRecord (hd : PlanHeader) (why : Absence) (r : ResultRecord) : ResultRecord :=
  { r with e := r.e.close why, x0 := r.x0.close why
           rp := if 0 < hd.offsetStrain then r.rp.close why else r.rp }

/-- The fit as it stands after the close of its window. -/
def fitStatus (hd : PlanHeader) (q : FitSums) : FitStatus :=
  match fitFailure hd q with
  | some why => .failed why
  | none => .done

/-- The result record after the close of the window. -/
def fitRecord (hd : PlanHeader) (nominal : Option Nat) (i : Nat) (q : FitSums) (r : ResultRecord) : ResultRecord :=
  match madeLine hd nominal q with
  | some l => lineRecord l q.n i r
  | none => unfitRecord hd ((fitFailure hd q).getD .fitFailed) r

/-- The record with a line made, its search opened where an offset is asked for. -/
theorem openSearch_fixLine (hd : PlanHeader) (l : ElasticLine) (i : Nat) (e : Evu) :
    openSearch hd (fixLine l i e) =
      { e with
        line := some l
        search := if 0 < hd.offsetStrain then .opened else e.search
        searchPrev := if 0 < hd.offsetStrain then none else e.searchPrev
        result := e.result.map (lineRecord l e.sums.n i) } := by
  unfold openSearch
  split <;> rfl

/-- A fit that fails, for a reason other than the loss of the extensometer. -/
theorem failFit_eq {why : Absence} (hwhy : why ≠ .extensometerRemoved) (hd : PlanHeader) (nominal : Option Nat)
    (i : Nat) (e : Evu) :
    failFit hd nominal why i e =
      match fallbackModulus hd nominal with
      | some m => openSearch hd (fixLine ⟨m, fallbackIntercept e.sums m, true⟩ i { e with fit := .failed why })
      | none => { e with fit := .failed why, result := e.result.map (unfitRecord hd why) } := by
  unfold failFit
  cases fallbackModulus hd nominal with
  | some m => exact if_neg hwhy
  | none => rfl

theorem closeFit_of_failure {hd : PlanHeader} {e : Evu} {why : Absence} (h : fitFailure hd e.sums = some why)
    (nominal : Option Nat) (i : Nat) :
    closeFit hd nominal i e = failFit hd nominal why i e ∧ why ≠ .extensometerRemoved := by
  unfold closeFit
  dsimp only
  unfold fitFailure at h
  split at h
  · obtain rfl := Option.some.inj h
    exact ⟨if_pos ‹_›, nofun⟩
  · rw [if_neg ‹_›]
    split at h
    · obtain rfl := Option.some.inj h
      exact ⟨if_pos ‹_›, nofun⟩
    · rw [if_neg ‹_›]
      split at h
      · obtain rfl := Option.some.inj h
        exact ⟨if_pos ‹_›, nofun⟩
      · cases h

theorem closeFit_of_fit {hd : PlanHeader} {e : Evu} (h : fitFailure hd e.sums = none) (nominal : Option Nat) (i : Nat) :
    closeFit hd nominal i e =
      openSearch hd (fixLine ⟨e.sums.modulus, e.sums.intercept, false⟩ i { e with fit := .done }) := by
  unfold closeFit
  dsimp only
  unfold fitFailure at h
  split at h
  · cases h
  · rw [if_neg ‹_›]
    split at h
    · cases h
    · rw [if_neg ‹_›]
      split at h
      · cases h
      · rw [if_neg ‹_›]

/-- The close of the fit window, as one equation over the sums. -/
theorem closeFit_eq (hd : PlanHeader) (nominal : Option Nat) (i : Nat) (e : Evu) :
    closeFit hd nominal i e =
      { e with
        fit := fitStatus hd e.sums
        line := (madeLine hd nominal e.sums).or e.line
        search := if (madeLine hd nominal e.sums).isSome ∧ 0 < hd.offsetStrain then .opened else e.search
        searchPrev := if (madeLine hd nominal e.sums).isSome ∧ 0 < hd.offsetStrain then none else e.searchPrev
        result := e.result.map (fitRecord hd nominal i e.sums) } := by
  unfold fitRecord
  cases hwhy : fitFailure hd e.sums with
  | none =>
    have made : madeLine hd nominal e.sums = some ⟨e.sums.modulus, e.sums.intercept, false⟩ := by simp [madeLine, hwhy]
    simp [closeFit_of_fit hwhy, openSearch_fixLine, made, fitStatus, hwhy]
  | some why =>
    obtain ⟨closed, hne⟩ := closeFit_of_failure hwhy nominal i
    cases hm : fallbackModulus hd nominal with
    | some m =>
      have made : madeLine hd nominal e.sums = some ⟨m, fallbackIntercept e.sums m, true⟩ := by
        simp [madeLine, hwhy, hm]
      simp [closed, failFit_eq hne, hm, openSearch_fixLine, made, fitStatus, hwhy]
    | none =>
      have made : madeLine hd nominal e.sums = none := by simp [madeLine, hwhy, hm]
      simp [closed, failFit_eq hne, hm, made, fitStatus, hwhy]

/-- The close of the window leaves no fit that collects. -/
theorem fitStatus_closed (hd : PlanHeader) (q : FitSums) : fitStatus hd q ≠ .collecting := by
  unfold fitStatus
  split <;> nofun

/-! ### The end of a test in the evaluation (R151) -/

/-- The evaluation record at the end of a test. -/
def endedEvu (hd : PlanHeader) (nominal : Option Nat) (why : EndReason) (i : Nat) (e : Evu) : Evu :=
  let e := if e.fit = .collecting then failFit hd nominal why.absence i e else e
  { e with tracker := none, search := if e.search = SearchState.opened then .closed else e.search }.onResult fun r =>
    { r.closeAll why.absence with endReason := some why }

theorem evalTestEnd_evu (why : EndReason) (s : State) :
    (evalTestEnd why s).evu =
      endedEvu s.header (s.tsq.specimen.bind (·.nominalModulus)) why s.latest.index s.evu := rfl

/-- The parts of the record that the end of a test leaves. -/
theorem endedEvu_frame (hd : PlanHeader) (nominal : Option Nat) (why : EndReason) (i : Nat) (e : Evu) :
    (endedEvu hd nominal why i e).phase = e.phase ∧ (endedEvu hd nominal why i e).sums = e.sums ∧
    (endedEvu hd nominal why i e).smax = e.smax ∧ (endedEvu hd nominal why i e).fmax = e.fmax ∧
    (endedEvu hd nominal why i e).maxPassedArmed = e.maxPassedArmed ∧
    (endedEvu hd nominal why i e).fractureArmed = e.fractureArmed ∧ (endedEvu hd nominal why i e).prev = e.prev ∧
    (endedEvu hd nominal why i e).tracker = none ∧
    (endedEvu hd nominal why i e).result.map (·.fmax) = e.result.map (·.fmax) ∧
    (endedEvu hd nominal why i e).result.map (·.sourceOfA) = e.result.map (·.sourceOfA) := by
  unfold endedEvu
  dsimp only
  split <;> simp [Function.comp_def, ResultRecord.closeAll]

/-- The end of a test whose fit no longer collects. -/
theorem endedEvu_fitted (hd : PlanHeader) (nominal : Option Nat) (why : EndReason) (i : Nat) {e : Evu}
    (h : e.fit ≠ .collecting) :
    (endedEvu hd nominal why i e).fit = e.fit ∧ (endedEvu hd nominal why i e).line = e.line ∧
    (endedEvu hd nominal why i e).searchPrev = e.searchPrev ∧
    (endedEvu hd nominal why i e).search = (if e.search = .opened then .closed else e.search) ∧
    (endedEvu hd nominal why i e).result.map (·.fitCount) = e.result.map (·.fitCount) ∧
    (endedEvu hd nominal why i e).result.map (·.fallbackUsed) = e.result.map (·.fallbackUsed) := by
  unfold endedEvu
  simp [h, Function.comp_def, ResultRecord.closeAll]

theorem endedEvu_goesOn (hd : PlanHeader) (nominal : Option Nat) (why : EndReason) (i : Nat) (e : Evu) :
    GoesOn e (endedEvu hd nominal why i e) := by
  unfold endedEvu
  refine .onResult (fun r => by simp [FieldsKept, ResultRecord.fields, ResultRecord.closeAll])
    (GoesOn.trans (e' := if e.fit = .collecting then _ else e) ?_ (.of_result rfl))
  split
  · exact failFit_goesOn _ _ _ _ _
  · exact .refl _

/-! ### What the later consumers leave of the evaluation -/

/-- The record `e0` of an evaluation, up to the slip count, in a test that goes on, or as an end has left it. -/
def LeavesOf (e0 : Evu) (q : SeqState) (e : Evu) : Prop :=
  ∃ n, q.inTest = true ∧ e = withSlips n e0 ∨
    q = .ended ∧ ∃ hd nominal why i, e = endedEvu hd nominal why i (withSlips n e0)

theorem withSlips_withSlips (n m : Nat → Nat) (e : Evu) : withSlips n (withSlips m e) = withSlips (n ∘ m) e := by
  simp only [withSlips, Evu.onResult, Option.map_map]
  rfl

theorem withSlips_id (e : Evu) : withSlips id e = e := by
  cases hr : e.result <;> simp [withSlips, Evu.onResult, hr] <;> rw [← hr]

theorem leavesOf_walk (e0 : Evu) : MoveWalk (LeavesOf e0) where
  within h hq hq' := by
    obtain ⟨n, ⟨-, he⟩ | ⟨hended, -⟩⟩ := h
    · exact ⟨n, .inl ⟨evaluated_inTest hq', he⟩⟩
    · exact absurd hq (by simp [hended, SeqState.evaluated])
  slipped m h hq := by
    obtain ⟨n, ⟨-, rfl⟩ | ⟨hended, -⟩⟩ := h
    · exact ⟨m ∘ n, .inl ⟨evaluated_inTest hq, withSlips_withSlips m n e0⟩⟩
    · exact absurd hq (by simp [hended, SeqState.evaluated])
  ended why h hin := by
    obtain ⟨n, ⟨-, he⟩ | ⟨hended, -⟩⟩ := h
    · exact ⟨n, .inr ⟨rfl, _, _, why, _, by rw [evalTestEnd_evu, he]⟩⟩
    · exact absurd hin (by simp [hended, SeqState.inTest])

/-- What stands of the record of an evaluation when its point is over. -/
structure EvalLeft (e0 : Evu) (q : SeqState) (e : Evu) : Prop where
  stands : e.phase = e0.phase ∧ e.sums = e0.sums ∧ e.smax = e0.smax ∧ e.fmax = e0.fmax ∧
    e.maxPassedArmed = e0.maxPassedArmed ∧ e.fractureArmed = e0.fractureArmed ∧ e.prev = e0.prev
  goesOn : GoesOn e0 e
  forces : e.result.map (·.fmax) = e0.result.map (·.fmax) ∧ e.result.map (·.sourceOfA) = e0.result.map (·.sourceOfA)
  tracker : e0.tracker = none → e.tracker = none
  fitted : e0.fit ≠ .collecting → e.fit = e0.fit ∧ e.line = e0.line ∧ e.searchPrev = e0.searchPrev ∧
    e.result.map (·.fitCount) = e0.result.map (·.fitCount) ∧
    e.result.map (·.fallbackUsed) = e0.result.map (·.fallbackUsed)
  search : e0.fit ≠ .collecting → e0.search ≠ .opened → e.search = e0.search
  runs : q.inTest = true → ∃ n, e = withSlips n e0

theorem withSlips_frame (n : Nat → Nat) (e : Evu) :
    (withSlips n e).phase = e.phase ∧ (withSlips n e).sums = e.sums ∧ (withSlips n e).smax = e.smax ∧
    (withSlips n e).fmax = e.fmax ∧ (withSlips n e).maxPassedArmed = e.maxPassedArmed ∧
    (withSlips n e).fractureArmed = e.fractureArmed ∧ (withSlips n e).prev = e.prev ∧
    (withSlips n e).tracker = e.tracker ∧ (withSlips n e).fit = e.fit ∧ (withSlips n e).line = e.line ∧
    (withSlips n e).search = e.search ∧ (withSlips n e).searchPrev = e.searchPrev := by
  simp [withSlips]

theorem withSlips_fields (n : Nat → Nat) (e : Evu) :
    (withSlips n e).result.map (·.fmax) = e.result.map (·.fmax) ∧
    (withSlips n e).result.map (·.sourceOfA) = e.result.map (·.sourceOfA) ∧
    (withSlips n e).result.map (·.fitCount) = e.result.map (·.fitCount) ∧
    (withSlips n e).result.map (·.fallbackUsed) = e.result.map (·.fallbackUsed) ∧
    (withSlips n e).result.map (·.fields) = e.result.map (·.fields) := by
  simp [withSlips, Function.comp_def, ResultRecord.fields]

theorem withSlips_goesOn (n : Nat → Nat) (e : Evu) : GoesOn e (withSlips n e) := .onResult (fun r => .refl r) (.refl e)

theorem LeavesOf.left {e0 e : Evu} {q : SeqState} (h : LeavesOf e0 q e) : EvalLeft e0 q e := by
  obtain ⟨n, ⟨-, rfl⟩ | ⟨rfl, hd, nominal, why, i, rfl⟩⟩ := h
  · obtain ⟨phase, sums, smax, fmax, maxPassed, fracture, prev, tracker, fit, line, search, searchPrev⟩ :=
      withSlips_frame n e0
    obtain ⟨rfmax, source, count, used, -⟩ := withSlips_fields n e0
    exact ⟨⟨phase, sums, smax, fmax, maxPassed, fracture, prev⟩, withSlips_goesOn n e0, ⟨rfmax, source⟩,
      fun h => tracker.trans h, fun _ => ⟨fit, line, searchPrev, count, used⟩, fun _ _ => search, fun _ => ⟨n, rfl⟩⟩
  · obtain ⟨phase, sums, smax, fmax, maxPassed, fracture, prev, tracker, fit, line, search, searchPrev⟩ :=
      withSlips_frame n e0
    obtain ⟨rfmax, source, count, used, -⟩ := withSlips_fields n e0
    obtain ⟨ephase, esums, esmax, efmax, emaxPassed, efracture, eprev, etracker, erfmax, esource⟩ :=
      endedEvu_frame hd nominal why i (withSlips n e0)
    have fitted := fun h : e0.fit ≠ .collecting =>
      endedEvu_fitted hd nominal why i (e := withSlips n e0) (by rwa [fit])
    refine ⟨⟨ephase.trans phase, esums.trans sums, esmax.trans smax, efmax.trans fmax, emaxPassed.trans maxPassed,
        efracture.trans fracture, eprev.trans prev⟩, (withSlips_goesOn n e0).trans (endedEvu_goesOn _ _ _ _ _),
      ⟨erfmax.trans rfmax, esource.trans source⟩, fun _ => etracker, fun h => ?_, fun h hs => ?_, nofun⟩
    · obtain ⟨efit, eline, eprev, -, ecount, eused⟩ := fitted h
      exact ⟨efit.trans fit, eline.trans line, eprev.trans searchPrev, ecount.trans count, eused.trans used⟩
    · obtain ⟨-, -, -, esearch, -⟩ := fitted h
      rw [esearch, search, if_neg hs]

/-- The evaluation as the later consumers of the point leave it. -/
theorem afterPoint_leaves {s : State} {c : Conversion} (h : s.evaluates c) :
    LeavesOf (judgedOn s c).evu (afterPoint s c).tsq.state (afterPoint s c).evu := by
  have W := leavesOf_walk (judgedOn s c).evu
  obtain ⟨evaluated, -⟩ := drivenOn_evaluated h
  have applied : Holds (LeavesOf (judgedOn s c).evu) (appliedOn s c) :=
    ⟨id, .inl ⟨by simpa [appliedOn] using evaluated_inTest evaluated, by rw [withSlips_id, appliedOn, applyEval_evu]⟩⟩
  have judged : Holds (LeavesOf (judgedOn s c).evu) (evaluatedOn s c).1 := by
    rw [evaluatedOn_eq evaluated]
    dsimp only
    split
    · exact W.events.slipAction applied
    · exact applied
  have managed : Holds (LeavesOf (judgedOn s c).evu) (managedOn s c) := judged.managerPoint _ _
  have passed : Holds (LeavesOf (judgedOn s c).evu) (passedOn s c) :=
    W.sequencerPoint managed (managedOn_started h) _ _
  exact passed.congr ⟨by rw [(afterPoint_rest h.1).1], (afterPoint_rest h.1).2.1⟩

theorem afterPoint_left {s : State} {c : Conversion} (h : s.evaluates c) :
    EvalLeft (judgedOn s c).evu (afterPoint s c).tsq.state (afterPoint s c).evu := (afterPoint_leaves h).left

/-- RESULT is raised on a point whose evaluation closes a field (R152). -/
theorem afterPoint_raises {s : State} {c : Conversion} (h : s.evaluates c)
    (hless : (judgedOn s c).evu.openCount < s.evu.openCount) : (afterPoint s c).cli.pending.result = true := by
  have evaluated : Carried (appliedOn s c) (evaluatedOn s c).1 := by
    rw [evaluatedOn_eq (drivenOn_evaluated h).1]
    dsimp only
    split
    · exact (Carried.refl _).slipAction
    · exact Carried.refl _
  have passed : Carried (appliedOn s c) (passedOn s c) := evaluated.managerPoint.sequencerPoint
  have raised := applyEval_result (o := judgedOn s c) (s := drivenOn s c) (by rwa [(drivenOn_stands h).1])
  exact (calmPoint_of h.1).ends.carried.cli.pending .result (passed.cli.pending .result raised)

/-! ### Marks (R135, R156) -/

theorem handMarks_append (a b : List (RecordKind × Point)) (s : State) :
    handMarks (a ++ b) s = handMarks b (handMarks a s) := by
  induction a generalizing s with
  | nil => rfl
  | cons m a ih => exact ih _

/-- A mark that is handed to the Sample Store joins the ring. -/
theorem handMarks_marked {ms : List (RecordKind × Point)} {k : RecordKind} {q : Point} (h : (k, q) ∈ ms) (s : State) :
    s.marked (handMarks ms s) k q := by
  obtain ⟨a, b, rfl⟩ := List.append_of_mem h
  obtain ⟨before, hbefore, -⟩ := handMarks_adds (P := fun _ => True) (ms := a) (fun _ _ => trivial) s
  obtain ⟨r, joined, kind, segment, copied⟩ := storeMark_ring k q (handMarks a s)
  obtain ⟨rest, hrest, -⟩ := handMarks_adds (P := fun _ => True) (ms := b) (fun _ _ => trivial)
    (storeMark k q (handMarks a s))
  refine ⟨before, r, rest, ?_, kind, segment, copied⟩
  rw [handMarks_append]
  refine hrest.trans ?_
  rw [joined, hbefore, List.append_assoc, List.singleton_append]

/-- A mark stays where the ring only grows. -/
theorem marked_of_grows {s a b t : State} {k : RecordKind} {q : Point} (h : a.marked b k q)
    (hbefore : s.sms.ring <+: a.sms.ring) (hafter : b.sms.ring <+: t.sms.ring) : s.marked t k q := by
  obtain ⟨before, r, rest, joined, kind, segment, copied⟩ := h
  obtain ⟨earlier, hearlier⟩ := hbefore
  obtain ⟨later, hlater⟩ := hafter
  exact ⟨earlier ++ before, r, rest ++ later, by rw [← hlater, joined, ← hearlier]; simp, kind, segment, copied⟩

theorem applyEval_ring (o : EvalOut) (s : State) :
    (applyEval o s).sms.ring = (handMarks o.marks (s.onEvu fun _ => o.evu)).sms.ring := by
  unfold applyEval
  dsimp only
  repeat' split
  all_goals simp

/-- A mark that the evaluation of the point makes joins the ring. -/
theorem afterPoint_marked {s : State} {c : Conversion} (h : s.evaluates c) {k : RecordKind} {q : Point}
    (hmark : (k, q) ∈ (judgedOn s c).marks) : s.marked (afterPoint s c) k q := by
  have marked := handMarks_marked hmark ((drivenOn s c).onEvu fun _ => (judgedOn s c).evu)
  have managed : Adds PlainKind (evaluatedOn s c).1 (managedOn s c) := managerPoint_adds _ _ _
  have later : Adds PlainKind (appliedOn s c) (afterPoint s c) :=
    (((evaluatedOn_left h).ring.trans managed).trans (passedOn_left h).ring).trans (afterPoint_rest h.1).2.2.2.2
  have ring : (appliedOn s c).sms.ring =
      (handMarks (judgedOn s c).marks ((drivenOn s c).onEvu fun _ => (judgedOn s c).evu)).sms.ring := applyEval_ring _ _
  exact marked_of_grows marked (by simpa using (drivenOn_stands h).2.2.1.grows) (ring ▸ later.grows)

end Sys2Proof.Proofs
end

section
/-! The modulus fit (O45): what the close of its window makes of the sums (R137, R138), and a point in the window, which
joins the sums or closes it (R136, R152). -/

namespace Sys2Proof.Proofs

open Sys2Proof.Machine Sys2Proof.Laws

/-! ### The close of the window over the sums (R137, R138) -/

/-- What a fit that fails for a reason makes of a record whose E and x0 are OPEN. -/
def FitFails (hd : PlanHeader) (nominal : Option Nat) (i : Nat) (e : Evu) (r : ResultRecord) (why : Absence) : Prop :=
  (closeFit hd nominal i e).fit = .failed why ∧
  (hd.fallback = false ∨ nominal = none →
    closeFit hd nominal i e = { e with
      fit := .failed why
      result := some { r with
        e := .absent why, x0 := .absent why
        rp := if 0 < hd.offsetStrain ∧ r.rp = .opened then .absent why else r.rp } }) ∧
  (∀ m : Nat, hd.fallback = true → nominal = some m →
    closeFit hd nominal i e = { e with
      fit := .failed why
      line := some ⟨m, fallbackIntercept e.sums m, true⟩
      search := if 0 < hd.offsetStrain then .opened else e.search
      searchPrev := if 0 < hd.offsetStrain then none else e.searchPrev
      result := some { r with
        e := .fixed m i, x0 := .fixed (fallbackIntercept e.sums m) i, fitCount := e.sums.n, fallbackUsed := true } })

theorem unfitRecord_opened {hd : PlanHeader} {why : Absence} {r : ResultRecord} (he : r.e = .opened)
    (hx : r.x0 = .opened) :
    unfitRecord hd why r = { r with
      e := .absent why, x0 := .absent why
      rp := if 0 < hd.offsetStrain ∧ r.rp = .opened then .absent why else r.rp } := by
  have closed : (if 0 < hd.offsetStrain then r.rp.close why else r.rp) =
      if 0 < hd.offsetStrain ∧ r.rp = .opened then .absent why else r.rp := by
    by_cases hasked : 0 < hd.offsetStrain
    · cases hrp : r.rp <;> simp [hasked, Field.close]
    · simp [hasked]
  simp only [unfitRecord, he, hx, closed]
  rfl

theorem lineRecord_opened {l : ElasticLine} {n i : Nat} {r : ResultRecord} (he : r.e = .opened)
    (hx : r.x0 = .opened) :
    lineRecord l n i r = { r with
      e := .fixed l.e i, x0 := .fixed l.x0 i, fitCount := n, fallbackUsed := l.fallback } := by
  simp only [lineRecord, he, hx]
  rfl

section
variable {hd : PlanHeader} {nominal : Option Nat} {i : Nat} {e : Evu} {r : ResultRecord}
  (hr : e.result = some r) (he : r.e = .opened) (hx : r.x0 = .opened)
include hr he hx

theorem fitFails_of_failure {why : Absence} (h : fitFailure hd e.sums = some why) : FitFails hd nominal i e r why := by
  refine ⟨by simp [closeFit_eq, fitStatus, h], fun hno => ?_, fun m hyes hm => ?_⟩
  · have none : fallbackModulus hd nominal = none := by rcases hno with hno | hno <;> simp [fallbackModulus, hno]
    have made : madeLine hd nominal e.sums = .none := by simp [madeLine, h, none]
    simp [closeFit_eq, fitStatus, fitRecord, h, made, hr, unfitRecord_opened he hx]
  · have made : madeLine hd nominal e.sums = some ⟨m, fallbackIntercept e.sums m, true⟩ := by
      simp [madeLine, h, fallbackModulus, hyes, hm]
    simp [closeFit_eq, fitStatus, fitRecord, h, made, hr, lineRecord_opened he hx]

theorem closeFit_done (h : fitFailure hd e.sums = none) :
    closeFit hd nominal i e = { e with
      fit := .done
      line := some ⟨e.sums.modulus, e.sums.intercept, false⟩
      search := if 0 < hd.offsetStrain then .opened else e.search
      searchPrev := if 0 < hd.offsetStrain then none else e.searchPrev
      result := some { r with
        e := .fixed e.sums.modulus i, x0 := .fixed e.sums.intercept i, fitCount := e.sums.n
        fallbackUsed := false } } := by
  have made : madeLine hd nominal e.sums = some ⟨e.sums.modulus, e.sums.intercept, false⟩ := by simp [madeLine, h]
  simp [closeFit_eq, fitStatus, fitRecord, h, made, hr, lineRecord_opened he hx]

end

theorem fitFailure_few {hd : PlanHeader} {q : FitSums} (h : q.n < hd.nMin) : fitFailure hd q = some .tooFewPoints :=
  if_pos h

theorem fitFailure_slopeless {hd : PlanHeader} {q : FitSums} (hn : hd.nMin ≤ q.n) (h : q.den ≤ 0 ∨ q.num ≤ 0) :
    fitFailure hd q = some .fitFailed := (if_neg (Nat.not_lt.2 hn)).trans (if_pos h)

theorem fitFailure_bounds {hd : PlanHeader} {q : FitSums} (hn : hd.nMin ≤ q.n) (hden : 0 < q.den) (hnum : 0 < q.num)
    (h : q.modulus < hd.eMin ∨ (hd.eMax : Int) < q.modulus) : fitFailure hd q = some .modulusOutOfRange :=
  ((if_neg (Nat.not_lt.2 hn)).trans (if_neg (by omega))).trans (if_pos h)

theorem fitFailure_none {hd : PlanHeader} {q : FitSums} (hn : hd.nMin ≤ q.n) (hden : 0 < q.den) (hnum : 0 < q.num)
    (hlo : (hd.eMin : Int) ≤ q.modulus) (hhi : q.modulus ≤ hd.eMax) : fitFailure hd q = none :=
  ((if_neg (Nat.not_lt.2 hn)).trans (if_neg (by omega))).trans (if_neg (by omega))

/-! ### A point in the window (R136) -/

theorem stepSource_extensometer {x : EvalInput} (h : x.point.source = .extensometer) (o : EvalOut) :
    stepSource x o = o := if_neg (by simp [extensometerEnds, h])

/-- The fit window closes on the point, in the phase that the point leaves. -/
def Closes (x : EvalInput) (phase : EvalPhase) : Prop := (x.header.sigmaHi : Int) < x.point.stress ∨ phase ≠ .elastic

/-- The point joins the sums of an open window. -/
def Joins (x : EvalInput) (q : FitSums) : Prop :=
  freshExtensometer x.point = true ∧ (x.header.sigmaLo : Int) ≤ x.point.stress ∧ q.n < 65535

section
variable {x : EvalInput} {o : EvalOut} (hfit : o.evu.fit = .collecting)
include hfit

theorem stepFit_closes (h : Closes x o.evu.phase) :
    stepFit x o = o.on (closeFit x.header x.nominal x.point.index) := (if_pos hfit).trans (if_pos h)

theorem stepFit_joins (h : ¬ Closes x o.evu.phase) (hj : Joins x o.evu.sums) :
    (stepFit x o).evu = { o.evu with sums :=
      ⟨o.evu.sums.n + 1, o.evu.sums.x + x.point.strain, o.evu.sums.y + x.point.stress,
        o.evu.sums.xx + x.point.strain * x.point.strain, o.evu.sums.xy + x.point.strain * x.point.stress⟩ } := by
  obtain ⟨hfresh, hlo, hn⟩ := hj
  unfold Closes at h
  rw [stepFit, if_pos hfit, if_neg h, if_pos ⟨hfresh, hlo⟩, on_evu, FitSums.join, if_pos (show _ < max16 from hn)]

theorem stepFit_passes (h : ¬ Closes x o.evu.phase) (hj : ¬ Joins x o.evu.sums) : (stepFit x o).evu = o.evu := by
  unfold Closes at h
  rw [stepFit, if_pos hfit, if_neg h]
  split
  · rename_i hfresh
    have full : ¬ o.evu.sums.n < max16 := fun hn => hj ⟨hfresh.1, hfresh.2, hn⟩
    rw [on_evu, FitSums.join, if_neg full]
  · rfl

end

/-! ### What the fit reads and makes, through the other steps of a point -/

/-- The fit, its sums and its line, and what they have made of the result, are those of another record. -/
structure FitAs (e' e : Evu) : Prop where
  fit : e'.fit = e.fit
  sums : e'.sums = e.sums
  line : e'.line = e.line
  modulus : e'.result.map (·.e) = e.result.map (·.e)
  intercept : e'.result.map (·.x0) = e.result.map (·.x0)
  count : e'.result.map (·.fitCount) = e.result.map (·.fitCount)
  used : e'.result.map (·.fallbackUsed) = e.result.map (·.fallbackUsed)

namespace FitAs

variable {e e' e'' : Evu}

theorem refl (e : Evu) : FitAs e e := ⟨rfl, rfl, rfl, rfl, rfl, rfl, rfl⟩

theorem trans (a : FitAs e'' e') (b : FitAs e' e) : FitAs e'' e :=
  ⟨a.fit.trans b.fit, a.sums.trans b.sums, a.line.trans b.line, a.modulus.trans b.modulus,
    a.intercept.trans b.intercept, a.count.trans b.count, a.used.trans b.used⟩

theorem of_same (h : e'.fit = e.fit ∧ e'.sums = e.sums ∧ e'.line = e.line)
    (hr : e'.result.map (·.e) = e.result.map (·.e) ∧ e'.result.map (·.x0) = e.result.map (·.x0) ∧
      e'.result.map (·.fitCount) = e.result.map (·.fitCount) ∧
      e'.result.map (·.fallbackUsed) = e.result.map (·.fallbackUsed)) : FitAs e' e := by
  obtain ⟨fit, sums, line⟩ := h
  obtain ⟨modulus, intercept, count, used⟩ := hr
  exact ⟨fit, sums, line, modulus, intercept, count, used⟩

/-- The close of the window reads nothing else. -/
theorem closeFit (h : FitAs e' e) (hd : PlanHeader) (nominal : Option Nat) (i : Nat) :
    FitAs (closeFit hd nominal i e') (closeFit hd nominal i e) := by
  obtain ⟨fit, sums, line, modulus, intercept, count, used⟩ := h
  rw [closeFit_eq, closeFit_eq]
  unfold fitRecord
  refine of_same ⟨by simp [sums], sums, by simp [sums, line]⟩ ?_
  rw [sums]
  cases hr : e.result <;> cases hr' : e'.result <;> simp_all
  split <;> simp_all [lineRecord, unfitRecord]

end FitAs

theorem armed_fitAs {x : EvalInput} (h : x.point.source = .extensometer) (e : Evu) : FitAs (armed x e).evu e := by
  unfold armed
  rw [stepSource_extensometer h]
  exact .of_same (by simp) (by simp)

/-- The steps before the fit leave what it reads (R142, R145). -/
theorem stepMaxPassed_fitAs (x : EvalInput) (o : EvalOut) : FitAs (stepMaxPassed x (stepYield x o)).evu o.evu :=
  .of_same (by simp) (by simp)

/-- The steps after the fit leave what it has made (R139, R145, R149). -/
theorem unbrokenSteps_fitAs (x : EvalInput) (o : EvalOut) :
    FitAs (unbrokenSteps x o).evu (stepFit x (stepMaxPassed x (stepYield x o))).evu :=
  .of_same (by simp [unbrokenSteps]) (by simp [unbrokenSteps])

theorem fractureEnd_fitAs (x : EvalInput) (e : Evu) : FitAs (fractureEnd x e) e := by
  unfold fractureEnd fractureSearch
  refine .of_same ?_ ?_
  · split <;> simp
  · have broken : ∀ phase r, (yieldBroken phase r).e = r.e ∧ (yieldBroken phase r).x0 = r.x0 ∧
        (yieldBroken phase r).fitCount = r.fitCount ∧ (yieldBroken phase r).fallbackUsed = r.fallbackUsed :=
      fun phase r => by
        unfold yieldBroken
        repeat' split
        all_goals simp
    split <;> simp [Function.comp_def, fractureRecord, broken]

theorem fractureMaximum_fitAs (x : EvalInput) (o : EvalOut) : FitAs (fractureMaximum x o).evu o.evu := by
  unfold fractureMaximum
  split
  · exact .of_same (by simp) (by simp)
  · exact .refl _

theorem evaluate_unbroken_phase (x : EvalInput) (o : EvalOut) :
    (unbrokenSteps x o).evu.phase = (stepMaxPassed x (stepYield x o)).evu.phase := by simp [unbrokenSteps]

section
variable {x : EvalInput} {e : Evu} (hphase : e.phase ≠ .fractured) (hsource : x.point.source = .extensometer)
  (hfit : e.fit = .collecting)
include hphase hsource hfit

/-- A point that closes the window leaves what the close makes of the record before it. -/
theorem evaluate_closes (h : Closes x (evaluate x e).evu.phase) :
    FitAs (evaluate x e).evu (closeFit x.header x.nominal x.point.index e) := by
  have before := armed_fitAs hsource e
  rw [evaluate_eq x hphase] at h ⊢
  split at h
  · rw [if_pos ‹_›, fractureEffects_eq]
    have closed : fractureFit x (armed x e) =
        (armed x e).on (closeFit x.header x.nominal x.point.index) := if_pos (before.fit.trans hfit)
    refine (fractureEnd_fitAs x _).trans ((fractureMaximum_fitAs x _).trans ?_)
    rw [closed]
    exact before.closeFit _ _ _
  · rw [if_neg ‹_›]
    have moved := (stepMaxPassed_fitAs x (armed x e)).trans before
    rw [evaluate_unbroken_phase] at h
    refine (unbrokenSteps_fitAs x _).trans ?_
    rw [stepFit_closes (moved.fit.trans hfit) h]
    exact moved.closeFit _ _ _

/-- A point in the window leaves the fit collecting, with the point in its sums if it joins them. -/
theorem evaluate_collects (h : ¬ Closes x (evaluate x e).evu.phase) :
    FitAs { (evaluate x e).evu with sums := e.sums } e ∧
    (Joins x e.sums → (evaluate x e).evu.sums =
      ⟨e.sums.n + 1, e.sums.x + x.point.strain, e.sums.y + x.point.stress, e.sums.xx + x.point.strain * x.point.strain,
        e.sums.xy + x.point.strain * x.point.stress⟩) ∧
    (¬ Joins x e.sums → (evaluate x e).evu.sums = e.sums) := by
  have before := armed_fitAs hsource e
  rw [evaluate_eq x hphase] at h ⊢
  split at h
  · exact absurd (.inr (by simp [fractureEffects_breaks])) h
  · rw [if_neg ‹_›]
    have moved := (stepMaxPassed_fitAs x (armed x e)).trans before
    have after := unbrokenSteps_fitAs x (armed x e)
    rw [evaluate_unbroken_phase] at h
    generalize stepMaxPassed x (stepYield x (armed x e)) = m at moved after h
    by_cases hj : Joins x e.sums
    · rw [stepFit_joins (moved.fit.trans hfit) h (moved.sums ▸ hj)] at after
      refine ⟨⟨after.fit.trans moved.fit, rfl, after.line.trans moved.line, after.modulus.trans moved.modulus,
        after.intercept.trans moved.intercept, after.count.trans moved.count, after.used.trans moved.used⟩,
        fun _ => after.sums.trans (by rw [moved.sums]), fun hno => absurd hj hno⟩
    · rw [stepFit_passes (moved.fit.trans hfit) h (moved.sums ▸ hj)] at after
      obtain ⟨fit, sums, line, modulus, intercept, count, used⟩ := after.trans moved
      exact ⟨⟨fit, rfl, line, modulus, intercept, count, used⟩, fun hyes => absurd hyes hj, fun _ => sums⟩

end

/-! ### The point of a test (R136, R137, R152) -/

theorem freshExtensometer_iff (p : Point) :
    freshExtensometer p = true ↔
      p.source = .extensometer ∧ p.flags.rangeChange = false ∧ p.flags.substituted = false ∧
        p.flags.carried = false := by
  simp [freshExtensometer, and_assoc]

theorem judgedOn_evaluate {s : State} {c : Conversion} (h : s.evaluates c) :
    judgedOn s c = evaluate (inputOn s c) s.evu := by rw [judgedOn_eq, (drivenOn_stands h).1]

theorem inputOn_source {s : State} {c : Conversion} (h : s.evaluates c) :
    (inputOn s c).point.source = s.exm.source := by
  obtain ⟨-, -, -, point⟩ := inputOn_fields h
  obtain ⟨-, -, -, -, -, source, -⟩ := formedOn_fields s c
  rw [point, source]

/-- The result record goes on through the evaluation of the point, and through the point. -/
theorem judgedOn_goesOn {s : State} {c : Conversion} (h : s.evaluates c) : GoesOn s.evu (judgedOn s c).evu := by
  rw [judgedOn_evaluate h]
  exact evaluate_goesOn _ _

theorem afterPoint_goesOn {s : State} {c : Conversion} (h : s.evaluates c) : GoesOn s.evu (afterPoint s c).evu :=
  (judgedOn_goesOn h).trans (afterPoint_left h).goesOn

/-- A projection of a record that two evaluations agree on. -/
theorem record_eq {α : Type} {f : ResultRecord → α} {e e' : Evu} (h : e'.result.map f = e.result.map f)
    {r r' : ResultRecord} (hr : e.result = some r) (hr' : e'.result = some r') : f r' = f r := by
  simpa [hr, hr'] using h

/-- An OPEN field that is OPEN no longer lowers the count of those still OPEN. -/
theorem openCount_lt {e e' : Evu} (h : GoesOn e e') {r r' : ResultRecord} (hr : e.result = some r)
    (hr' : e'.result = some r') (i : Nat) (hopen : r.fields[i]? = some .opened)
    (hclosed : r'.fields[i]? ≠ some .opened) : e'.openCount < e.openCount := by
  simp only [Evu.openCount, hr, hr']
  exact openFields_lt (h.record hr hr') hopen hclosed

/-- E and x0 leave OPEN together at the close of the window. -/
theorem fitRecord_closes (hd : PlanHeader) (nominal : Option Nat) (i : Nat) (q : FitSums) (r : ResultRecord) :
    (fitRecord hd nominal i q r).e ≠ .opened ∧ (fitRecord hd nominal i q r).x0 ≠ .opened := by
  have fixes : ∀ v j (x : Field), x.fix v j ≠ .opened := fun v j x => by cases x <;> nofun
  unfold fitRecord
  split
  · exact ⟨fixes _ _ _, fixes _ _ _⟩
  · exact ⟨close_ne_opened _ _, close_ne_opened _ _⟩

theorem closeFit_result {e : Evu} {r : ResultRecord} (hr : e.result = some r) (hd : PlanHeader) (nominal : Option Nat)
    (i : Nat) : (closeFit hd nominal i e).result = some (fitRecord hd nominal i e.sums r) := by simp [closeFit_eq, hr]

theorem FieldsKept.modulus {r r' : ResultRecord} (h : FieldsKept r r') (he : r.e ≠ .opened) (hx : r.x0 ≠ .opened) :
    r'.e = r.e ∧ r'.x0 = r.x0 := by
  obtain ⟨ke, kx, -⟩ := h.stands
  exact ⟨ke he, kx hx⟩

section
variable {s : State} {c : Conversion} {r : ResultRecord} (h : s.evaluates c) (hphase : s.evu.phase ≠ .fractured)
  (hsource : s.exm.source = .extensometer) (hfit : s.evu.fit = .collecting) (hr : s.evu.result = some r)
  (he : r.e = .opened)
include h hphase hsource hfit hr he

/-- The point of a test that closes the window. -/
theorem afterPoint_closes (hc : Closes (inputOn s c) (afterPoint s c).evu.phase) {r' : ResultRecord}
    (hr' : (afterPoint s c).evu.result = some r') :
    let f := closeFit s.header (s.tsq.specimen.bind (·.nominalModulus)) (inputOn s c).point.index s.evu
    (afterPoint s c).evu.sums = s.evu.sums ∧ (afterPoint s c).cli.pending.result = true ∧
    (afterPoint s c).evu.fit = f.fit ∧ (afterPoint s c).evu.line = f.line ∧
    ∃ rf, f.result = some rf ∧ r'.e = rf.e ∧ r'.x0 = rf.x0 ∧ r'.fitCount = rf.fitCount ∧
      r'.fallbackUsed = rf.fallbackUsed := by
  intro f
  obtain ⟨header, nominal, -⟩ := inputOn_fields h
  have left := afterPoint_left h
  obtain ⟨phase, sums, -⟩ := left.stands
  rw [phase, judgedOn_evaluate h] at hc
  have made := evaluate_closes hphase ((inputOn_source h).trans hsource) hfit hc
  rw [← judgedOn_evaluate h, header, nominal] at made
  have goes := judgedOn_goesOn h
  obtain ⟨ro, hro, -⟩ := goes r hr
  have hrf := closeFit_result hr s.header (s.tsq.specimen.bind (·.nominalModulus)) (inputOn s c).point.index
  obtain ⟨ne, nx⟩ := fitRecord_closes s.header (s.tsq.specimen.bind (·.nominalModulus)) (inputOn s c).point.index
    s.evu.sums r
  have modulus := record_eq made.modulus hrf hro
  have intercept := record_eq made.intercept hrf hro
  have closed : (judgedOn s c).evu.fit ≠ .collecting := by
    rw [made.fit, closeFit_eq]
    exact fitStatus_closed _ _
  obtain ⟨fit, line, -, count, used⟩ := left.fitted closed
  obtain ⟨ke, kx⟩ := (left.goesOn.record hro hr').modulus (modulus ▸ ne) (intercept ▸ nx)
  have less : (judgedOn s c).evu.openCount < s.evu.openCount :=
    openCount_lt goes hr hro 0 (by simp [ResultRecord.fields, he]) (by simp [ResultRecord.fields, modulus, ne])
  exact ⟨sums.trans (made.sums.trans (by rw [closeFit_eq])), afterPoint_raises h less, fit.trans made.fit,
    line.trans made.line, _, hrf, ke.trans modulus, kx.trans intercept,
    (record_eq count hro hr').trans (record_eq made.count hrf hro),
    (record_eq used hro hr').trans (record_eq made.used hrf hro)⟩

/-- The point of a test that leaves the window open. -/
theorem afterPoint_collects (hx : r.x0 = .opened) (hc : ¬ Closes (inputOn s c) (afterPoint s c).evu.phase)
    {r' : ResultRecord} (hr' : (afterPoint s c).evu.result = some r') :
    ((afterPoint s c).inTest = true →
      (afterPoint s c).evu.fit = .collecting ∧ r'.e = .opened ∧ r'.x0 = .opened) ∧
    (Joins (inputOn s c) s.evu.sums → (afterPoint s c).evu.sums =
      ⟨s.evu.sums.n + 1, s.evu.sums.x + (inputOn s c).point.strain, s.evu.sums.y + (inputOn s c).point.stress,
        s.evu.sums.xx + (inputOn s c).point.strain * (inputOn s c).point.strain,
        s.evu.sums.xy + (inputOn s c).point.strain * (inputOn s c).point.stress⟩) ∧
    (¬ Joins (inputOn s c) s.evu.sums → (afterPoint s c).evu.sums = s.evu.sums) := by
  have left := afterPoint_left h
  obtain ⟨phase, sums, -⟩ := left.stands
  rw [phase, judgedOn_evaluate h] at hc
  obtain ⟨made, joins, passes⟩ := evaluate_collects hphase ((inputOn_source h).trans hsource) hfit hc
  rw [← judgedOn_evaluate h] at made joins passes
  refine ⟨fun hin => ?_, fun hj => sums.trans (joins hj), fun hj => sums.trans (passes hj)⟩
  obtain ⟨n, hn⟩ := left.runs hin
  rw [hn] at hr' ⊢
  obtain ⟨-, -, -, -, -, -, -, -, fit, -⟩ := withSlips_frame n (judgedOn s c).evu
  cases hro : (judgedOn s c).evu.result with
  | none => simp [withSlips, hro] at hr'
  | some ro =>
    obtain rfl : _ = r' := by simpa [withSlips, hro] using hr'
    have modulus := record_eq made.modulus hr hro
    have intercept := record_eq made.intercept hr hro
    exact ⟨fit.trans (made.fit.trans hfit), modulus.trans he, intercept.trans hx⟩

end

/-- Settles O45: the close of the window as one equation over the sums, and the point in the window, whose other steps
leave what the fit reads and makes. -/
theorem elasticFitIsComputed : Obligations.ElasticFitIsComputed := by
  refine ⟨fun hd nominal i e r hr he hx => ?_, fun s c r h hphase hsource hfit hr he hx => ?_⟩
  · intro n num den modulus x0 fails
    have failing : ∀ why, fitFailure hd e.sums = some why → fails why := fun why hwhy =>
      fitFails_of_failure hr he hx hwhy
    exact ⟨fun hn => failing _ (fitFailure_few hn), fun hn hs => failing _ (fitFailure_slopeless hn hs),
      fun hn hden hnum hb => failing _ (fitFailure_bounds hn hden hnum hb),
      fun hn hden hnum hlo hhi => closeFit_done hr he hx (fitFailure_none hn hden hnum hlo hhi)⟩
  · obtain ⟨r', hr', -⟩ := afterPoint_goesOn h r hr
    obtain ⟨header, -, -, point⟩ := inputOn_fields h
    refine ⟨afterPoint s c, (formedOn s c).point, r', exec_afterPoint h.1.1, afterPoint_latest s c, hr', ?_⟩
    intro q closes joins
    have closing : closes ↔ Closes (inputOn s c) (afterPoint s c).evu.phase := by rw [Closes, header, point]
    have joining : joins ↔ ¬ closes ∧ Joins (inputOn s c) q := by
      simp only [joins, Joins, freshExtensometer_iff, header, inputOn_source h, hsource, true_and, and_assoc]
      rw [point]
    by_cases hc : closes
    · obtain ⟨sums, raised, made⟩ := afterPoint_closes h hphase hsource hfit hr he (closing.1 hc) hr'
      rw [point] at made
      exact ⟨fun hj => absurd hc (joining.1 hj).1, fun _ => sums, fun hno => absurd hc hno, fun _ => ⟨raised, made⟩⟩
    · obtain ⟨collects, joined, passed⟩ := afterPoint_collects h hphase hsource hfit hr he hx (mt closing.2 hc) hr'
      rw [point] at joined
      exact ⟨fun hj => joined (joining.1 hj).2, fun hno => passed fun hj => hno (joining.2 ⟨hc, hj⟩), fun _ => collects,
        fun hyes => absurd hyes hc⟩

end Sys2Proof.Proofs
end

section
/-! The offset search (O46): the search that a point finds OPEN or opens, what the point makes of it (R139, R140), and
that the other steps of the point leave it (R135, R152). -/

namespace Sys2Proof.Proofs

open Sys2Proof.Machine Sys2Proof.Laws

/-! ### Marks that stand (R135) -/

@[simp] theorem on_marks (f : Evu → Evu) (o : EvalOut) : (o.on f).marks = o.marks := rfl

@[simp] theorem mark_marks (k : RecordKind) (p : Point) (o : EvalOut) : (o.mark k p).marks = o.marks ++ [(k, p)] := rfl

@[simp] theorem stepSource_marks (x : EvalInput) (o : EvalOut) : (stepSource x o).marks = o.marks := by
  unfold stepSource
  split <;> simp

@[simp] theorem stepFmax_marks (x : EvalInput) (o : EvalOut) : (stepFmax x o).marks = o.marks := by
  unfold stepFmax
  repeat' split
  all_goals simp

@[simp] theorem stepMaxPassed_marks (x : EvalInput) (o : EvalOut) : (stepMaxPassed x o).marks = o.marks := by
  unfold stepMaxPassed
  dsimp only
  split <;> simp

@[simp] theorem stepFit_marks (x : EvalInput) (o : EvalOut) : (stepFit x o).marks = o.marks := by
  unfold stepFit
  repeat' split
  all_goals simp

@[simp] theorem stepSlip_marks (x : EvalInput) (o : EvalOut) : (stepSlip x o).marks = o.marks := by
  unfold stepSlip
  split <;> simp

@[simp] theorem stepPrev_marks (x : EvalInput) (o : EvalOut) : (stepPrev x o).marks = o.marks := rfl

@[simp] theorem fixMaximum_marks (x : EvalInput) (o : EvalOut) :
    (fixMaximum x o).marks = o.marks ++ [(.fmax, o.evu.fmaxPoint)] := rfl

theorem stepMaxEffects_marks (x : EvalInput) (o : EvalOut) : o.marks ⊆ (stepMaxEffects x o).marks := by
  unfold stepMaxEffects
  split <;> simp

theorem stepSearch_marks (x : EvalInput) (o : EvalOut) : o.marks ⊆ (stepSearch x o).marks := by
  unfold stepSearch crossing
  dsimp only
  repeat' split
  all_goals simp

/-! ### The search on a point -/

/-- The search, its line and its previous pair, and Rp, are those of another record. -/
structure SearchAs (e' e : Evu) : Prop where
  fit : e'.fit = e.fit
  line : e'.line = e.line
  search : e'.search = e.search
  previous : e'.searchPrev = e.searchPrev
  proof : e'.result.map (·.rp) = e.result.map (·.rp)

namespace SearchAs

variable {e e' e'' : Evu}

theorem refl (e : Evu) : SearchAs e e := ⟨rfl, rfl, rfl, rfl, rfl⟩

theorem trans (a : SearchAs e'' e') (b : SearchAs e' e) : SearchAs e'' e :=
  ⟨a.fit.trans b.fit, a.line.trans b.line, a.search.trans b.search, a.previous.trans b.previous,
    a.proof.trans b.proof⟩

theorem of_same (h : e'.fit = e.fit ∧ e'.line = e.line ∧ e'.search = e.search ∧ e'.searchPrev = e.searchPrev)
    (hr : e'.result.map (·.rp) = e.result.map (·.rp)) : SearchAs e' e := by
  obtain ⟨fit, line, search, previous⟩ := h
  exact ⟨fit, line, search, previous, hr⟩

end SearchAs

/-- The record that the offset search finds on an unbroken point. -/
def foundSearch (x : EvalInput) (e : Evu) : EvalOut := stepFit x (stepMaxPassed x (stepYield x (armed x e)))

theorem unbrokenSteps_search (x : EvalInput) (e : Evu) :
    SearchAs (unbrokenSteps x (armed x e)).evu (stepSearch x (foundSearch x e)).evu :=
  .of_same (by simp [unbrokenSteps, foundSearch]) (by simp [unbrokenSteps, foundSearch])

theorem unbrokenSteps_marks (x : EvalInput) (e : Evu) :
    (stepSearch x (foundSearch x e)).marks ⊆ (unbrokenSteps x (armed x e)).marks := by
  simpa [unbrokenSteps, foundSearch] using stepMaxEffects_marks x (stepSearch x (foundSearch x e))

section
variable {x : EvalInput} (hsource : x.point.source = .extensometer) (e : Evu)
include hsource

theorem armed_search : SearchAs (armed x e).evu e := by
  unfold armed
  rw [stepSource_extensometer hsource]
  exact .of_same (by simp) (by simp)

/-- Before the fit of the point the search stands, and so does Rm until after the search. -/
theorem beforeFit_search : SearchAs (stepMaxPassed x (stepYield x (armed x e))).evu e :=
  .trans (.of_same (by simp) (by simp)) (armed_search hsource e)

theorem foundSearch_maximum : (foundSearch x e).evu.result.map (·.rm) = e.result.map (·.rm) := by
  have before : (armed x e).evu.result.map (·.rm) = e.result.map (·.rm) := by
    unfold armed
    rw [stepSource_extensometer hsource]
    simp
  simpa [foundSearch] using before

/-- What a search that may take the point is found with: it is OPEN with a line and a previous pair, and Rp stands. -/
structure SearchFound (x : EvalInput) (e : Evu) (l : ElasticLine) (prev : Option SearchPrev) : Prop where
  search : (foundSearch x e).evu.search = .opened
  line : (foundSearch x e).evu.line = some l
  previous : (foundSearch x e).evu.searchPrev = prev
  proof : (foundSearch x e).evu.result.map (·.rp) = e.result.map (·.rp)
  fit : (foundSearch x e).evu.fit ≠ .collecting

/-- The search that stands OPEN before the point. -/
theorem searchFound_standing (hfit : e.fit ≠ .collecting) (hopen : e.search = .opened) {l : ElasticLine}
    (hline : e.line = some l) : SearchFound x e l e.searchPrev := by
  have before := beforeFit_search hsource e
  have idle : foundSearch x e = stepMaxPassed x (stepYield x (armed x e)) := if_neg (before.fit ▸ hfit)
  rw [← idle] at before
  exact ⟨before.search.trans hopen, before.line.trans hline, before.previous, before.proof, before.fit ▸ hfit⟩

/-- The point closes the window before the search. -/
theorem foundSearch_closed (hfit : e.fit = .collecting)
    (hc : Closes x (stepMaxPassed x (stepYield x (armed x e))).evu.phase) :
    (foundSearch x e).evu =
      closeFit x.header x.nominal x.point.index (stepMaxPassed x (stepYield x (armed x e))).evu :=
  congrArg EvalOut.evu (stepFit_closes ((beforeFit_search hsource e).fit.trans hfit) hc)

theorem foundSearch_fitted (hfit : e.fit = .collecting)
    (hc : Closes x (stepMaxPassed x (stepYield x (armed x e))).evu.phase) :
    (foundSearch x e).evu.fit ≠ .collecting := by
  rw [foundSearch_closed hsource e hfit hc, closeFit_eq]
  exact fitStatus_closed _ _

/-- The search that the point opens by closing the window with a line. -/
theorem searchFound_opening (hfit : e.fit = .collecting)
    (hc : Closes x (stepMaxPassed x (stepYield x (armed x e))).evu.phase) (hasked : 0 < x.header.offsetStrain)
    (hnone : e.line = none) {l : ElasticLine} (hline : (foundSearch x e).evu.line = some l) :
    SearchFound x e l none := by
  have before := beforeFit_search hsource e
  have closed := foundSearch_closed hsource e hfit hc
  have made : madeLine x.header x.nominal (stepMaxPassed x (stepYield x (armed x e))).evu.sums = some l := by
    have closedLine := hline
    rw [closed, closeFit_eq] at closedLine
    dsimp only at closedLine
    rwa [before.line, hnone, Option.or_none] at closedLine
  have record : ∀ r, (fitRecord x.header x.nominal x.point.index
      (stepMaxPassed x (stepYield x (armed x e))).evu.sums r).rp = r.rp := fun r => by
    rw [fitRecord, made]
    rfl
  refine ⟨?_, hline, ?_, ?_, foundSearch_fitted hsource e hfit hc⟩
  · simp only [closed, closeFit_eq, made]
    exact if_pos ⟨rfl, hasked⟩
  · simp only [closed, closeFit_eq, made]
    exact if_pos ⟨rfl, hasked⟩
  · rw [closed, closeFit_eq, ← before.proof]
    simp only [Option.map_map, Function.comp_def, record]

end

/-! ### What the search makes of the point (R139, R140) -/

/-- The search takes the point: it is fresh, and not above Rm once that is fixed. -/
def Takes (p : Point) (rm : Field) : Prop :=
  p.flags.rangeChange = false ∧ p.flags.substituted = false ∧ p.flags.carried = false ∧
  ∀ v i, rm = .fixed v i → p.stress ≤ v

theorem isSearchPoint_iff {x : EvalInput} (hsource : x.point.source = .extensometer) {e : Evu} {r : ResultRecord}
    (hr : e.result = some r) : isSearchPoint x e = true ↔ Takes x.point r.rm := by
  have fresh := freshExtensometer_iff x.point
  simp only [hsource, true_and] at fresh
  cases hrm : r.rm with
  | opened => simp [isSearchPoint, hr, hrm, fresh, Takes]
  | absent => simp [isSearchPoint, hr, hrm, fresh, Takes]
  | fixed v i => simp [isSearchPoint, hr, hrm, fresh, Takes, and_assoc]

section
variable {x : EvalInput} {o : EvalOut} {l : ElasticLine} (hopen : o.evu.search = .opened) (hline : o.evu.line = some l)
include hopen hline

theorem stepSearch_below (ht : isSearchPoint x o.evu = true) (hd : plasticStrain l x.point < x.header.offsetStrain) :
    (stepSearch x o).evu = { o.evu with searchPrev := some ⟨plasticStrain l x.point, x.point.stress⟩ } := by
  rw [stepSearch, if_pos ⟨hopen, ht⟩, hline]
  exact congrArg EvalOut.evu (if_pos hd)

theorem stepSearch_crosses (ht : isSearchPoint x o.evu = true) (hd : x.header.offsetStrain ≤ plasticStrain l x.point) :
    stepSearch x o = crossing x (plasticStrain l x.point) o := by
  rw [stepSearch, if_pos ⟨hopen, ht⟩, hline]
  exact if_neg (Int.not_lt.2 hd)

end

theorem stepSearch_passes {x : EvalInput} {o : EvalOut} (ht : ¬ isSearchPoint x o.evu = true) : stepSearch x o = o :=
  if_neg fun h => ht h.2

/-- The search of a point, from the pair that it finds: what becomes of the pair, of the search and of Rp. -/
structure SearchMade (x : EvalInput) (rm : Field) (l : ElasticLine) (prev : Option SearchPrev) (o : EvalOut) :
    Prop where
  passes : ¬ Takes x.point rm → o.evu.searchPrev = prev ∧ o.evu.search = .opened ∧
    ∀ r', o.evu.result = some r' → r'.rp = .opened
  below : Takes x.point rm → plasticStrain l x.point < x.header.offsetStrain →
    o.evu.searchPrev = some ⟨plasticStrain l x.point, x.point.stress⟩ ∧ o.evu.search = .opened ∧
    ∀ r', o.evu.result = some r' → r'.rp = .opened
  crosses : Takes x.point rm → (x.header.offsetStrain : Int) ≤ plasticStrain l x.point →
    o.evu.search = .closed ∧ (.rp, x.point) ∈ o.marks ∧
    ∀ r', o.evu.result = some r' →
      r'.rp = .fixed (proofStress x.header.offsetStrain prev (plasticStrain l x.point) x.point.stress) x.point.index

/-- The later steps of the point leave what the search has made. -/
theorem SearchMade.later {x : EvalInput} {rm : Field} {l : ElasticLine} {prev : Option SearchPrev} {o o' : EvalOut}
    (h : SearchMade x rm l prev o) (same : SearchAs o'.evu o.evu) (marks : o.marks ⊆ o'.marks)
    (hsome : ∃ r, o.evu.result = some r) : SearchMade x rm l prev o' := by
  obtain ⟨r, hr⟩ := hsome
  have proof : ∀ r', o'.evu.result = some r' → r'.rp = r.rp := fun r' hr' => record_eq same.proof hr hr'
  refine ⟨fun ht => ?_, fun ht hd => ?_, fun ht hd => ?_⟩
  · obtain ⟨previous, search, rp⟩ := h.passes ht
    exact ⟨same.previous.trans previous, same.search.trans search, fun r' hr' => (proof r' hr').trans (rp r hr)⟩
  · obtain ⟨previous, search, rp⟩ := h.below ht hd
    exact ⟨same.previous.trans previous, same.search.trans search, fun r' hr' => (proof r' hr').trans (rp r hr)⟩
  · obtain ⟨search, mark, rp⟩ := h.crosses ht hd
    exact ⟨same.search.trans search, marks mark, fun r' hr' => (proof r' hr').trans (rp r hr)⟩

/-- The step of the search itself. -/
theorem stepSearch_made {x : EvalInput} (hsource : x.point.source = .extensometer) {o : EvalOut} {l : ElasticLine}
    (hopen : o.evu.search = .opened) (hline : o.evu.line = some l) {r : ResultRecord} (hr : o.evu.result = some r)
    (hrp : r.rp = .opened) : SearchMade x r.rm l o.evu.searchPrev (stepSearch x o) := by
  have takes := isSearchPoint_iff hsource hr
  refine ⟨fun ht => ?_, fun ht hd => ?_, fun ht hd => ?_⟩
  · rw [stepSearch_passes (mt takes.1 ht)]
    refine ⟨rfl, hopen, fun r' hr' => ?_⟩
    obtain rfl : r = r' := by simpa [hr] using hr'
    exact hrp
  · rw [stepSearch_below hopen hline (takes.2 ht) hd]
    refine ⟨rfl, hopen, fun r' hr' => ?_⟩
    obtain rfl : r = r' := by simpa [hr] using hr'
    exact hrp
  · rw [stepSearch_crosses hopen hline (takes.2 ht) hd]
    refine ⟨rfl, by simp [crossing], fun r' hr' => ?_⟩
    simp only [crossing, mark_evu, on_evu, onResult_frame, hr, Option.map_some, Option.some.injEq] at hr'
    subst hr'
    simp [hrp, Field.fix]

/-! ### The point of a test -/

section
variable {s : State} {c : Conversion} {l : ElasticLine} {prev : Option SearchPrev} {r : ResultRecord}
  (h : s.evaluates c) (hphase : s.evu.phase ≠ .fractured) (hsource : s.exm.source = .extensometer)
  (hr : s.evu.result = some r) (hrp : r.rp = .opened)

include h hphase

/-- A point that does not break the test goes through all the steps. -/
theorem judgedOn_unbroken (hunbroken : (afterPoint s c).evu.phase ≠ .fractured) :
    judgedOn s c = unbrokenSteps (inputOn s c) (armed (inputOn s c) s.evu) := by
  obtain ⟨phase, -⟩ := (afterPoint_left h).stands
  rw [phase, judgedOn_evaluate h, evaluate_eq _ hphase] at hunbroken
  rw [judgedOn_evaluate h, evaluate_eq _ hphase]
  split at hunbroken
  · simp [fractureEffects_breaks] at hunbroken
  · exact if_neg ‹_›

/-- The fit and the line that the point leaves are those that the search has found. -/
theorem judgedOn_found (hunbroken : (afterPoint s c).evu.phase ≠ .fractured) :
    (judgedOn s c).evu.fit = (foundSearch (inputOn s c) s.evu).evu.fit ∧
    (judgedOn s c).evu.line = (foundSearch (inputOn s c) s.evu).evu.line ∧
    (stepMaxPassed (inputOn s c) (stepYield (inputOn s c) (armed (inputOn s c) s.evu))).evu.phase =
      (afterPoint s c).evu.phase := by
  obtain ⟨phase, -⟩ := (afterPoint_left h).stands
  rw [phase, judgedOn_unbroken h hphase hunbroken]
  exact ⟨by simp [unbrokenSteps, foundSearch], by simp [unbrokenSteps, foundSearch], by simp [unbrokenSteps]⟩

include hsource hr hrp

/-- What the search has made of the point, from the search that it finds. -/
theorem judgedOn_search (hunbroken : (afterPoint s c).evu.phase ≠ .fractured)
    (found : SearchFound (inputOn s c) s.evu l prev) :
    SearchMade (inputOn s c) r.rm l prev (judgedOn s c) := by
  have hs := (inputOn_source h).trans hsource
  obtain ⟨hopen, hline, hprev, hproof, -⟩ := found
  obtain ⟨rf, hrf⟩ : ∃ rf, (foundSearch (inputOn s c) s.evu).evu.result = some rf := by
    rw [hr] at hproof
    cases hrf : (foundSearch (inputOn s c) s.evu).evu.result with
    | none => simp [hrf] at hproof
    | some rf => exact ⟨rf, rfl⟩
  have made := stepSearch_made hs hopen hline hrf ((record_eq hproof hr hrf).trans hrp)
  rw [hprev, record_eq (foundSearch_maximum hs s.evu) hr hrf] at made
  obtain ⟨rg, hrg, -⟩ := stepSearch_goesOn (inputOn s c) (foundSearch (inputOn s c) s.evu) rf hrf
  rw [judgedOn_unbroken h hphase hunbroken]
  exact made.later (unbrokenSteps_search _ _) (unbrokenSteps_marks _ _) ⟨rg, hrg⟩

omit hsource hr hrp hphase in
/-- A test that goes on after the point has the record of its evaluation. -/
theorem afterPoint_runs (hin : (afterPoint s c).inTest = true) {r' : ResultRecord}
    (hr' : (afterPoint s c).evu.result = some r') :
    (afterPoint s c).evu.search = (judgedOn s c).evu.search ∧
    (afterPoint s c).evu.tracker = (judgedOn s c).evu.tracker ∧
    ∃ ro, (judgedOn s c).evu.result = some ro ∧ r'.fields = ro.fields := by
  obtain ⟨n, hn⟩ := (afterPoint_left h).runs hin
  obtain ⟨-, -, -, -, -, -, -, tracker, -, -, search, -⟩ := withSlips_frame n (judgedOn s c).evu
  obtain ⟨-, -, -, -, fields⟩ := withSlips_fields n (judgedOn s c).evu
  rw [← hn] at tracker search fields
  cases hro : (judgedOn s c).evu.result with
  | none => simp [hr', hro] at fields
  | some ro => exact ⟨search, tracker, ro, rfl, by simpa [hr', hro] using fields⟩

end

theorem fields_eq {r r' : ResultRecord} (h : r'.fields = r.fields) :
    r'.e = r.e ∧ r'.x0 = r.x0 ∧ r'.rp = r.rp ∧ r'.reh = r.reh ∧ r'.rel = r.rel ∧ r'.rm = r.rm ∧ r'.ag = r.ag ∧
    r'.fractureForce = r.fractureForce ∧ r'.a = r.a := by
  simpa [ResultRecord.fields] using h

/-- Settles O46: the search that the point finds or opens takes it or not, and every other step leaves what it has
made. -/
theorem proofStressIsFixed : Obligations.ProofStressIsFixed := by
  intro s c l prev r h hphase hsource hr hrp
  obtain ⟨r', hr', -⟩ := afterPoint_goesOn h r hr
  obtain ⟨header, -, -, point⟩ := inputOn_fields h
  have hs := (inputOn_source h).trans hsource
  have left := afterPoint_left h
  refine ⟨afterPoint s c, (formedOn s c).point, r', exec_afterPoint h.1.1, afterPoint_latest s c, hr', ?_⟩
  intro closes standing opening takes offset d hunbroken hsearch
  obtain ⟨fit, line, phase⟩ := judgedOn_found h hphase hunbroken
  have found : SearchFound (inputOn s c) s.evu l prev := by
    rcases hsearch with ⟨hfit, hopen, hline, rfl⟩ | ⟨hfit, hcloses, hasked, hnone, hline, rfl⟩
    · exact searchFound_standing hs _ hfit hopen hline
    · have hc : Closes (inputOn s c)
          (stepMaxPassed (inputOn s c) (stepYield (inputOn s c) (armed (inputOn s c) s.evu))).evu.phase := by
        rw [phase, Closes, header, point]
        exact hcloses
      obtain ⟨-, after, -⟩ := left.fitted (fit ▸ foundSearch_fitted hs _ hfit hc)
      exact searchFound_opening hs _ hfit hc (header ▸ hasked) hnone (line ▸ after ▸ hline)
  obtain ⟨-, -, previous, -⟩ := left.fitted (fit ▸ found.fit)
  obtain ⟨passes, below, crosses⟩ := judgedOn_search h hphase hsource hr hrp hunbroken found
  rw [header, point] at below crosses
  rw [point] at passes
  have runs : ∀ hin : (afterPoint s c).inTest = true, (judgedOn s c).evu.search = .opened →
      (∀ ro, (judgedOn s c).evu.result = some ro → ro.rp = .opened) →
      (afterPoint s c).evu.search = .opened ∧ r'.rp = .opened := fun hin hopen hro => by
    obtain ⟨search, -, ro, hrec, fields⟩ := afterPoint_runs h hin hr'
    obtain ⟨-, -, rp, -⟩ := fields_eq fields
    exact ⟨search.trans hopen, rp.trans (hro ro hrec)⟩
  refine ⟨fun ht => ?_, fun ht hd => ?_, fun ht hd => ?_⟩
  · obtain ⟨hprev, hopen, hro⟩ := passes ht
    exact ⟨previous.trans hprev, fun hin => runs hin hopen hro⟩
  · obtain ⟨hprev, hopen, hro⟩ := below ht hd
    exact ⟨previous.trans hprev, fun hin => runs hin hopen hro⟩
  · obtain ⟨hclosed, hmark, hro⟩ := crosses ht hd
    obtain ⟨ro, hrec, -⟩ := judgedOn_goesOn h r hr
    have fixed := hro ro hrec
    obtain ⟨-, -, krp, -⟩ := (left.goesOn.record hrec hr').stands
    have stands : r'.rp = ro.rp := krp (by simp [fixed])
    have less : (judgedOn s c).evu.openCount < s.evu.openCount :=
      openCount_lt (judgedOn_goesOn h) hr hrec 2 (by simp [ResultRecord.fields, hrp])
        (by simp [ResultRecord.fields, fixed])
    refine ⟨(left.search (fit ▸ found.fit) (by simp [hclosed])).trans hclosed, afterPoint_marked h hmark,
      afterPoint_raises h less, fun hnone => ?_, fun q hq => ?_⟩
    · rw [stands, fixed, hnone]
      rfl
    · rw [stands, fixed, hq]
      rfl

end Sys2Proof.Proofs
end

section
/-! The yield (O47): what the elastic-stage and yield-phase work makes of a point (R142, R143), and that the other steps
of an unbroken point leave it but for a maximum that the point passes (R135, R145, R152). -/

namespace Sys2Proof.Proofs

open Sys2Proof.Machine Sys2Proof.Laws

/-! ### Before the work: the strain-source check in ELASTIC (R148) -/

/-- Outside YIELDING the end of the extensometer strain leaves the phase, the tracker and ReL. -/
theorem closeExtensometer_elastic (x : EvalInput) {e : Evu} (h : e.phase ≠ .yielding) :
    (closeExtensometer x e).phase = e.phase ∧ (closeExtensometer x e).tracker = e.tracker ∧
    (closeExtensometer x e).result.map (·.rel) = e.result.map (·.rel) := by
  obtain ⟨-, -, hphase, htracker⟩ := fitLost_evu x e
  have searched : (searchLost (fitLost x e)).phase = e.phase ∧ (searchLost (fitLost x e)).tracker = e.tracker ∧
      (searchLost (fitLost x e)).result.map (·.rel) = (fitLost x e).result.map (·.rel) := by
    unfold searchLost
    split <;> simp [hphase, htracker, Function.comp_def]
  have lost : (fitLost x e).result.map (·.rel) = e.result.map (·.rel) := by
    unfold fitLost
    split <;> simp [Function.comp_def]
  obtain ⟨phase, tracker, rel⟩ := searched
  rw [closeExtensometer_eq, yieldLost, if_neg (by rwa [phase])]
  exact ⟨phase, tracker, rel.trans lost⟩

theorem stepSource_elastic (x : EvalInput) {o : EvalOut} (h : o.evu.phase ≠ .yielding) :
    (stepSource x o).evu.phase = o.evu.phase ∧ (stepSource x o).evu.tracker = o.evu.tracker ∧
    (stepSource x o).evu.result.map (·.rel) = o.evu.result.map (·.rel) := by
  unfold stepSource
  split
  · exact closeExtensometer_elastic x h
  · exact ⟨rfl, rfl, rfl⟩

theorem armed_elastic (x : EvalInput) {e : Evu} (h : e.phase ≠ .yielding) :
    (armed x e).evu.phase = e.phase ∧ (armed x e).evu.tracker = e.tracker ∧
    (armed x e).evu.result.map (·.rel) = e.result.map (·.rel) := by
  obtain ⟨phase, tracker, rel⟩ := stepSource_elastic x (o := ⟨e, [], false, false⟩) h
  simpa [armed] using ⟨phase, tracker, rel⟩

theorem armed_yield (x : EvalInput) (e : Evu) :
    (armed x e).evu.smax = e.smax ∧ (armed x e).evu.maxPassedArmed = e.maxPassedArmed ∧
    (armed x e).evu.result.map (·.reh) = e.result.map (·.reh) := by
  simp [armed]

/-! ### The elastic stage (R142) -/

/-- Smax with the point. -/
def topOf (smax : Option Point) (p : Point) : Point :=
  match smax with
  | none => p
  | some q => if q.stress < p.stress then p else q

theorem trackSmax_smax (p : Point) (e : Evu) : (trackSmax p e).smax = some (topOf e.smax p) := by
  cases hs : e.smax with
  | none => simp [trackSmax, hs, topOf]
  | some q =>
    simp only [trackSmax, hs, topOf]
    split
    · rfl
    · exact hs

/-- The upper yield is detected on the point. -/
def Detects (x : EvalInput) (top : Point) : Prop :=
  x.point.stress ≤ top.stress - x.header.yieldDrop ∧ (x.classifier = .falling ∨ x.classifier = .erratic)

theorem detectsYield_iff (x : EvalInput) (top : Point) : detectsYield x top = true ↔ Detects x top := by
  simp [detectsYield, Detects]

section
variable {x : EvalInput} {o : EvalOut} (hphase : o.evu.phase = .elastic)
include hphase

section
variable (hdrop : 0 < x.header.yieldDrop)
include hdrop

theorem stepYield_elastic : stepYield x o = elasticYield x o := by
  rw [stepYield, hphase]
  exact if_pos hdrop

theorem stepYield_detects (h : Detects x (topOf o.evu.smax x.point)) :
    stepYield x o = upperYield x (topOf o.evu.smax x.point) (o.on (trackSmax x.point)) := by
  rw [stepYield_elastic hphase hdrop, elasticYield]
  simp only [on_evu, trackSmax_smax, Option.getD_some]
  exact if_pos ((detectsYield_iff x _).2 h)

theorem stepYield_beyond (h : ¬ Detects x (topOf o.evu.smax x.point))
    (hlimit : (x.header.yieldSearchLimit : Int) < x.point.strain) :
    stepYield x o = (o.on (trackSmax x.point)).on fun e => { e with phase := .hardening }.onResult fun r =>
      { r with reh := r.reh.close .continuousYielding, rel := r.rel.close .continuousYielding } := by
  rw [stepYield_elastic hphase hdrop, elasticYield]
  simp only [on_evu, trackSmax_smax, Option.getD_some]
  exact (if_neg (mt (detectsYield_iff x _).1 h)).trans (if_pos hlimit)

theorem stepYield_waits (h : ¬ Detects x (topOf o.evu.smax x.point))
    (hlimit : x.point.strain ≤ x.header.yieldSearchLimit) : stepYield x o = o.on (trackSmax x.point) := by
  rw [stepYield_elastic hphase hdrop, elasticYield]
  simp only [on_evu, trackSmax_smax, Option.getD_some]
  exact (if_neg (mt (detectsYield_iff x _).1 h)).trans (if_neg (Int.not_lt.2 hlimit))

end

/-- With yield evaluation off a stress above sigma hi ends the elastic stage (R142). -/
theorem stepYield_off (hdrop : x.header.yieldDrop = 0) :
    (stepYield x o).evu.phase = if (x.header.sigmaHi : Int) < x.point.stress then .hardening else .elastic := by
  rw [stepYield, hphase]
  simp only [hdrop, Nat.lt_irrefl, if_false]
  split
  · rfl
  · exact hphase

end

/-! ### The yield phase (R143) -/

/-- The point ends the yield phase. -/
def EndsYield (x : EvalInput) (smax : Option Point) (k : YieldTracker) : Prop :=
  (∃ q, smax = some q ∧ q.stress ≤ x.point.stress) ∨ k.rehStrain + x.header.yieldSpanLimit ≤ x.point.strain

theorem endsYield_iff (x : EvalInput) (e : Evu) (k : YieldTracker) :
    endsYield x e k = true ↔ EndsYield x e.smax k := by
  cases hs : e.smax <;> simp [endsYield, EndsYield, hs]

/-- The point is a candidate for ReL. -/
def BetterYield (x : EvalInput) (k : YieldTracker) : Prop :=
  x.header.transientSkip < k.count + 1 ∧ x.point.flags.rangeChange = false ∧
  ∀ q, k.candidate = some q → x.point.stress < q.stress

theorem yieldPoint_better {x : EvalInput} {k : YieldTracker} (h : BetterYield x k) :
    yieldPoint x k = ⟨k.rehStrain, k.count + 1, some x.point⟩ := by
  obtain ⟨hskip, hrange, hless⟩ := h
  cases hc : k.candidate with
  | none => simp [yieldPoint, hskip, hrange, hc]
  | some q => simp [yieldPoint, hskip, hrange, hc, hless q hc]

theorem yieldPoint_counts {x : EvalInput} {k : YieldTracker} (h : ¬ BetterYield x k) :
    yieldPoint x k = ⟨k.rehStrain, k.count + 1, k.candidate⟩ := by
  cases hc : k.candidate with
  | none =>
    have late : ¬ (x.header.transientSkip < k.count + 1 ∧ x.point.flags.rangeChange = false) := fun ⟨hskip, hrange⟩ =>
      h ⟨hskip, hrange, by simp [hc]⟩
    simp only [yieldPoint, hc, and_true]
    rw [if_neg late]
  | some q =>
    have worse : ¬ (x.header.transientSkip < k.count + 1 ∧ x.point.flags.rangeChange = false ∧
        decide (x.point.stress < q.stress) = true) := fun ⟨hskip, hrange, hless⟩ =>
      h ⟨hskip, hrange, by simpa [hc] using hless⟩
    simp only [yieldPoint, hc]
    rw [if_neg worse]

/-- The detection point as the first point of the yield phase. -/
theorem yieldPoint_first (x : EvalInput) (strain : Int) :
    yieldPoint x ⟨strain, 0, none⟩ = ⟨strain, 1,
      if x.header.transientSkip < 1 ∧ x.point.flags.rangeChange = false then some x.point else none⟩ := by
  simp [yieldPoint]

section
variable {x : EvalInput} {o : EvalOut} (hphase : o.evu.phase = .yielding) {k : YieldTracker}
  (hk : o.evu.tracker = some k)
include hphase hk

theorem stepYield_ends (h : EndsYield x o.evu.smax k) : stepYield x o = endYield k o := by
  rw [stepYield, hphase]
  dsimp only
  rw [hk]
  exact if_pos ((endsYield_iff x o.evu k).2 h)

theorem stepYield_counts (h : ¬ EndsYield x o.evu.smax k) :
    stepYield x o = o.on fun e => { e with tracker := some (yieldPoint x k) } := by
  rw [stepYield, hphase]
  dsimp only
  rw [hk]
  exact if_neg (mt (endsYield_iff x o.evu k).1 h)

end

/-! ### After the work: a maximum that the point passes (R145) -/

theorem stepMaxPassed_phase (x : EvalInput) (o : EvalOut) :
    (stepMaxPassed x o).evu.phase = if passesMaximum x (rearm x o.evu) then .necking else o.evu.phase := by
  unfold stepMaxPassed
  dsimp only
  split
  · rename_i hp
    rw [on_evu] at hp
    simp [hp]
  · rename_i hp
    rw [on_evu] at hp
    simp [hp]

theorem stepMaxPassed_armed (x : EvalInput) (o : EvalOut) :
    (stepMaxPassed x o).evu.maxPassedArmed = (rearm x o.evu).maxPassedArmed := by
  unfold stepMaxPassed
  dsimp only
  split <;> simp

/-- Arming again keeps what is armed, and acts in HARDENING alone. -/
theorem rearm_armed (x : EvalInput) (e : Evu) :
    (e.maxPassedArmed = true → (rearm x e).maxPassedArmed = true) ∧
    (e.phase ≠ .hardening → (rearm x e).maxPassedArmed = e.maxPassedArmed) := by
  unfold rearm
  constructor
  · intro h
    repeat' split
    all_goals simp_all
  · intro h
    repeat' split
    all_goals simp_all

/-- A maximum is passed in HARDENING, or in ELASTIC with yield evaluation off. -/
theorem passesMaximum_phase {x : EvalInput} {e : Evu} (h : passesMaximum x e = true) :
    e.phase = .hardening ∨ e.phase = .elastic ∧ x.header.yieldDrop = 0 := by
  simp only [passesMaximum, Bool.and_eq_true, Bool.or_eq_true, decide_eq_true_eq] at h
  obtain ⟨⟨-, hphase⟩, -⟩ := h
  exact hphase

theorem stepMaxPassed_stays (x : EvalInput) {o : EvalOut}
    (h : o.evu.phase = .yielding ∨ o.evu.phase = .elastic ∧ 0 < x.header.yieldDrop) :
    (stepMaxPassed x o).evu.phase = o.evu.phase ∧
    (stepMaxPassed x o).evu.maxPassedArmed = o.evu.maxPassedArmed := by
  have stands : o.evu.phase ≠ .hardening := by rcases h with h | ⟨h, -⟩ <;> simp [h]
  refine ⟨?_, (stepMaxPassed_armed x o).trans ((rearm_armed x o.evu).2 stands)⟩
  rw [stepMaxPassed_phase, if_neg fun hp => ?_]
  rcases passesMaximum_phase hp with hp | ⟨hp, hoff⟩
  · exact stands (by simpa using hp)
  · rcases h with h | ⟨-, h⟩
    · simp [h] at hp
    · omega

theorem stepMaxPassed_hardens (x : EvalInput) {o : EvalOut} (h : o.evu.phase = .hardening) :
    (stepMaxPassed x o).evu.phase = .hardening ∨ (stepMaxPassed x o).evu.phase = .necking := by
  rw [stepMaxPassed_phase]
  split
  · exact .inr rfl
  · exact .inl h

/-! ### What the work has made, through the later steps -/

/-- What the yield work has made of Smax, the tracker, ReH and ReL stands at the end of an unbroken point. -/
theorem unbrokenSteps_yield (x : EvalInput) (o : EvalOut) :
    (unbrokenSteps x o).evu.smax = (stepYield x o).evu.smax ∧
    (unbrokenSteps x o).evu.tracker = (stepYield x o).evu.tracker ∧
    (unbrokenSteps x o).evu.result.map (·.reh) = (stepYield x o).evu.result.map (·.reh) ∧
    (unbrokenSteps x o).evu.result.map (·.rel) = (stepYield x o).evu.result.map (·.rel) ∧
    (unbrokenSteps x o).evu.phase = (stepMaxPassed x (stepYield x o)).evu.phase ∧
    (unbrokenSteps x o).evu.maxPassedArmed = (stepMaxPassed x (stepYield x o)).evu.maxPassedArmed := by
  simp [unbrokenSteps]

theorem unbrokenSteps_yieldMarks (x : EvalInput) (o : EvalOut) : (stepYield x o).marks ⊆ (unbrokenSteps x o).marks := by
  have searched := stepSearch_marks x (stepFit x (stepMaxPassed x (stepYield x o)))
  have maximum := stepMaxEffects_marks x (stepSearch x (stepFit x (stepMaxPassed x (stepYield x o))))
  simpa [unbrokenSteps] using List.Subset.trans searched maximum

end Sys2Proof.Proofs
end

section
/-! The yield of a test (O47): the point after its last consumer, from what the yield work has made of it (R142, R143,
R152). -/

namespace Sys2Proof.Proofs

open Sys2Proof.Machine Sys2Proof.Laws

/-- The record that the yield work leaves on the point. -/
def yieldedOn (s : State) (c : Conversion) : EvalOut := stepYield (inputOn s c) (armed (inputOn s c) s.evu)

/-- The classifier that the evaluation reads is the one after the point. -/
theorem inputOn_classifier {s : State} {c : Conversion} (h : s.evaluates c) :
    (inputOn s c).classifier = (afterPoint s c).fcu.classifier := by
  have started : s.tsq.state ≠ .starting := by rcases h.2 with h | h | ⟨h, -⟩ <;> simp [h]
  rw [(afterPoint_fcu s c).2 started]
  simp [inputOn, State.evalInput, drivenOn, sampledOn]

section
variable {s : State} {c : Conversion} (h : s.evaluates c) (hphase : s.evu.phase ≠ .fractured)
  (hunbroken : (afterPoint s c).evu.phase ≠ .fractured)
include h hphase hunbroken

/-- Smax, the phase, the arming and the tracker as the yield work and the test for a maximum leave them. -/
theorem afterPoint_yield :
    (afterPoint s c).evu.smax = (yieldedOn s c).evu.smax ∧
    (afterPoint s c).evu.phase = (stepMaxPassed (inputOn s c) (yieldedOn s c)).evu.phase ∧
    (afterPoint s c).evu.maxPassedArmed = (stepMaxPassed (inputOn s c) (yieldedOn s c)).evu.maxPassedArmed ∧
    ((yieldedOn s c).evu.tracker = none → (afterPoint s c).evu.tracker = none) := by
  have left := afterPoint_left h
  obtain ⟨phase, -, smax, -, armed, -⟩ := left.stands
  obtain ⟨ysmax, ytracker, -, -, yphase, yarmed⟩ :=
    unbrokenSteps_yield (inputOn s c) (Proofs.armed (inputOn s c) s.evu)
  have judged := judgedOn_unbroken h hphase hunbroken
  rw [← judged] at ysmax ytracker yphase yarmed
  exact ⟨smax.trans ysmax, phase.trans yphase, armed.trans yarmed, fun hn => left.tracker (ytracker.trans hn)⟩

theorem afterPoint_yieldMarked {k : RecordKind} {q : Point} (hmark : (k, q) ∈ (yieldedOn s c).marks) :
    s.marked (afterPoint s c) k q := by
  refine afterPoint_marked h ?_
  rw [judgedOn_unbroken h hphase hunbroken]
  exact unbrokenSteps_yieldMarks _ _ hmark

/-- ReH and ReL as the yield work leaves them: they stand once they have left OPEN, and in a test that goes on; and
RESULT is raised where one of them has left OPEN. -/
theorem afterPoint_yieldFields {r r' ry : ResultRecord} (hr : s.evu.result = some r)
    (hr' : (afterPoint s c).evu.result = some r') (hry : (yieldedOn s c).evu.result = some ry) :
    (ry.reh ≠ .opened → r'.reh = ry.reh) ∧ (ry.rel ≠ .opened → r'.rel = ry.rel) ∧
    ((afterPoint s c).inTest = true → r'.reh = ry.reh ∧ r'.rel = ry.rel ∧
      (afterPoint s c).evu.tracker = (yieldedOn s c).evu.tracker) ∧
    (r.reh = .opened ∧ ry.reh ≠ .opened ∨ r.rel = .opened ∧ ry.rel ≠ .opened →
      (afterPoint s c).cli.pending.result = true) := by
  obtain ⟨ro, hro, -⟩ := judgedOn_goesOn h r hr
  obtain ⟨-, ytracker, yreh, yrel, -⟩ := unbrokenSteps_yield (inputOn s c) (armed (inputOn s c) s.evu)
  rw [← judgedOn_unbroken h hphase hunbroken] at ytracker yreh yrel
  have reh := record_eq yreh hry hro
  have rel := record_eq yrel hry hro
  obtain ⟨-, -, -, kreh, krel, -⟩ := ((afterPoint_left h).goesOn.record hro hr').keeps
  refine ⟨fun hn => (kreh (reh ▸ hn)).trans reh, fun hn => (krel (rel ▸ hn)).trans rel, fun hin => ?_, fun hleft => ?_⟩
  · obtain ⟨-, tracker, ro', hro', fields⟩ := afterPoint_runs h hin hr'
    obtain rfl : ro = ro' := by simpa [hro] using hro'
    obtain ⟨-, -, -, freh, frel, -⟩ := fields_eq fields
    exact ⟨freh.trans reh, frel.trans rel, tracker.trans ytracker⟩
  · refine afterPoint_raises h ?_
    rcases hleft with ⟨hopen, hclosed⟩ | ⟨hopen, hclosed⟩
    · exact openCount_lt (judgedOn_goesOn h) hr hro 3 (by simp [ResultRecord.fields, hopen])
        (by simp [ResultRecord.fields, reh, hclosed])
    · exact openCount_lt (judgedOn_goesOn h) hr hro 4 (by simp [ResultRecord.fields, hopen])
        (by simp [ResultRecord.fields, rel, hclosed])

end

/-- The record that the yield work finds. -/
theorem armed_record {x : EvalInput} {e : Evu} {r : ResultRecord} (hr : e.result = some r) (h : e.phase ≠ .yielding) :
    ∃ ra, (armed x e).evu.result = some ra ∧ ra.reh = r.reh ∧ ra.rel = r.rel := by
  obtain ⟨ra, hra, -⟩ := armed_goesOn x e r hr
  obtain ⟨-, -, reh⟩ := armed_yield x e
  obtain ⟨-, -, rel⟩ := armed_elastic x h
  exact ⟨ra, hra, record_eq reh hr hra, record_eq rel hr hra⟩

/-! ### The upper yield (R142) -/

section
variable {s : State} {c : Conversion} {r r' : ResultRecord} (h : s.evaluates c) (hphase : s.evu.phase = .elastic)
  (hdrop : 0 < s.header.yieldDrop) (hr : s.evu.result = some r) (hreh : r.reh = .opened) (hrel : r.rel = .opened)
  (hr' : (afterPoint s c).evu.result = some r') (hunbroken : (afterPoint s c).evu.phase ≠ .fractured)
include h hphase hdrop hr hreh hrel hr' hunbroken

theorem afterPoint_detects (hd : Detects (inputOn s c) (topOf s.evu.smax (inputOn s c).point)) :
    let top := topOf s.evu.smax (inputOn s c).point
    (afterPoint s c).evu.smax = some top ∧ (afterPoint s c).evu.phase = .yielding ∧
    (afterPoint s c).evu.maxPassedArmed = false ∧ r'.reh = .fixed top.stress top.index ∧
    s.marked (afterPoint s c) .reh top ∧ (afterPoint s c).cli.pending.result = true ∧
    ((afterPoint s c).inTest = true → r'.rel = .opened ∧
      (afterPoint s c).evu.tracker = some (yieldPoint (inputOn s c) ⟨top.strain, 0, none⟩)) := by
  intro top
  have unbroken : s.evu.phase ≠ .fractured := by simp [hphase]
  obtain ⟨header, -⟩ := inputOn_fields h
  obtain ⟨aphase, -⟩ := armed_elastic (inputOn s c) (e := s.evu) (by simp [hphase])
  obtain ⟨asmax, -⟩ := armed_yield (inputOn s c) s.evu
  obtain ⟨ra, hra, areh, arel⟩ := armed_record (x := inputOn s c) hr (by simp [hphase])
  have work : yieldedOn s c = upperYield (inputOn s c) top
      ((armed (inputOn s c) s.evu).on (trackSmax (inputOn s c).point)) := by
    have := stepYield_detects (aphase.trans hphase) (header ▸ hdrop) (asmax ▸ hd)
    rwa [asmax] at this
  have hry : (yieldedOn s c).evu.result = some { ra with reh := ra.reh.fix top.stress top.index } := by
    simp [work, upperYield, hra]
  obtain ⟨ysmax, yphase, yarmed, -⟩ := afterPoint_yield h unbroken hunbroken
  obtain ⟨freh, -, fruns, fraises⟩ := afterPoint_yieldFields h unbroken hunbroken hr hr' hry
  have fixed : ra.reh.fix top.stress top.index = .fixed top.stress top.index := by rw [areh, hreh]; rfl
  rw [fixed] at freh fraises
  have yielding : (yieldedOn s c).evu.phase = .yielding := by rw [work]; rfl
  obtain ⟨sphase, sarmed⟩ := stepMaxPassed_stays (inputOn s c) (.inl yielding)
  refine ⟨ysmax.trans ?_, yphase.trans (sphase.trans yielding), yarmed.trans (sarmed.trans (by rw [work]; rfl)),
    freh (by simp), afterPoint_yieldMarked h unbroken hunbroken (by simp [work, upperYield]),
    fraises (.inl ⟨hreh, by simp⟩), fun hin => ?_⟩
  · rw [work]
    simp [upperYield, trackSmax_smax, asmax, top]
  · obtain ⟨-, rel, tracker⟩ := fruns hin
    exact ⟨rel.trans (arel.trans hrel), tracker.trans (by rw [work]; rfl)⟩

theorem afterPoint_beyond (hd : ¬ Detects (inputOn s c) (topOf s.evu.smax (inputOn s c).point))
    (hlimit : (s.header.yieldSearchLimit : Int) < (inputOn s c).point.strain) :
    (afterPoint s c).evu.smax = some (topOf s.evu.smax (inputOn s c).point) ∧
    ((afterPoint s c).evu.phase = .hardening ∨ (afterPoint s c).evu.phase = .necking) ∧
    r'.reh = .absent .continuousYielding ∧ r'.rel = .absent .continuousYielding ∧
    (afterPoint s c).cli.pending.result = true ∧
    (s.evu.maxPassedArmed = true → (afterPoint s c).evu.maxPassedArmed = true) := by
  have unbroken : s.evu.phase ≠ .fractured := by simp [hphase]
  obtain ⟨header, -⟩ := inputOn_fields h
  obtain ⟨aphase, -⟩ := armed_elastic (inputOn s c) (e := s.evu) (by simp [hphase])
  obtain ⟨asmax, aarmed, -⟩ := armed_yield (inputOn s c) s.evu
  obtain ⟨ra, hra, areh, arel⟩ := armed_record (x := inputOn s c) hr (by simp [hphase])
  have work := stepYield_beyond (aphase.trans hphase) (header ▸ hdrop) (asmax ▸ hd) (header ▸ hlimit)
  rw [← yieldedOn] at work
  have hry : (yieldedOn s c).evu.result = some { ra with
      reh := ra.reh.close .continuousYielding, rel := ra.rel.close .continuousYielding } := by
    simp [work, hra]
  obtain ⟨ysmax, yphase, yarmed, -⟩ := afterPoint_yield h unbroken hunbroken
  obtain ⟨freh, frel, -, fraises⟩ := afterPoint_yieldFields h unbroken hunbroken hr hr' hry
  have creh : ra.reh.close .continuousYielding = .absent .continuousYielding := by rw [areh, hreh]; rfl
  have crel : ra.rel.close .continuousYielding = .absent .continuousYielding := by rw [arel, hrel]; rfl
  rw [creh] at freh fraises
  rw [crel] at frel
  have hardened : (yieldedOn s c).evu.phase = .hardening := by rw [work]; rfl
  refine ⟨ysmax.trans ?_, yphase ▸ stepMaxPassed_hardens _ hardened, freh (by simp), frel (by simp),
    fraises (.inl ⟨hreh, by simp⟩), fun harmed => ?_⟩
  · rw [work]
    simp [trackSmax_smax, asmax]
  · rw [yarmed, stepMaxPassed_armed]
    exact (rearm_armed _ _).1 (by rw [work]; simpa [aarmed] using harmed)

theorem afterPoint_waits (hd : ¬ Detects (inputOn s c) (topOf s.evu.smax (inputOn s c).point))
    (hlimit : (inputOn s c).point.strain ≤ s.header.yieldSearchLimit) :
    (afterPoint s c).evu.smax = some (topOf s.evu.smax (inputOn s c).point) ∧
    (afterPoint s c).evu.phase = .elastic ∧
    ((afterPoint s c).inTest = true → r'.reh = .opened ∧ r'.rel = .opened) := by
  have unbroken : s.evu.phase ≠ .fractured := by simp [hphase]
  obtain ⟨header, -⟩ := inputOn_fields h
  obtain ⟨aphase, -⟩ := armed_elastic (inputOn s c) (e := s.evu) (by simp [hphase])
  obtain ⟨asmax, -⟩ := armed_yield (inputOn s c) s.evu
  obtain ⟨ra, hra, areh, arel⟩ := armed_record (x := inputOn s c) hr (by simp [hphase])
  have work := stepYield_waits (aphase.trans hphase) (header ▸ hdrop) (asmax ▸ hd) (header ▸ hlimit)
  rw [← yieldedOn] at work
  have hry : (yieldedOn s c).evu.result = some ra := by simp [work, hra]
  obtain ⟨ysmax, yphase, -⟩ := afterPoint_yield h unbroken hunbroken
  obtain ⟨-, -, fruns, -⟩ := afterPoint_yieldFields h unbroken hunbroken hr hr' hry
  have elastic : (yieldedOn s c).evu.phase = .elastic := by
    rw [work]
    simpa [aphase] using hphase
  obtain ⟨sphase, -⟩ := stepMaxPassed_stays (inputOn s c) (.inr ⟨elastic, header ▸ hdrop⟩)
  refine ⟨ysmax.trans ?_, yphase.trans (sphase.trans elastic), fun hin => ?_⟩
  · rw [work]
    simp [trackSmax_smax, asmax]
  · obtain ⟨reh, rel, -⟩ := fruns hin
    exact ⟨reh.trans (areh.trans hreh), rel.trans (arel.trans hrel)⟩

end

end Sys2Proof.Proofs
end

section
/-! The end of the yield phase and the settled statement on yield (O47): the points in YIELDING (R143), and the elastic
stage without yield evaluation (R142). -/

namespace Sys2Proof.Proofs

open Sys2Proof.Machine Sys2Proof.Laws

/-- While the extensometer measures, the steps before the yield work leave its records. -/
theorem armed_measured {x : EvalInput} (hsource : x.point.source = .extensometer) (e : Evu) :
    (armed x e).evu.phase = e.phase ∧ (armed x e).evu.tracker = e.tracker ∧ (armed x e).evu.smax = e.smax ∧
    (armed x e).evu.result = e.result := by
  unfold armed
  rw [stepSource_extensometer hsource]
  simp

/-! ### The yield phase (R143) -/

section
variable {s : State} {c : Conversion} {r r' : ResultRecord} {k : YieldTracker} (h : s.evaluates c)
  (hphase : s.evu.phase = .yielding) (hsource : s.exm.source = .extensometer) (hk : s.evu.tracker = some k)
  (hr : s.evu.result = some r) (hrel : r.rel = .opened) (hr' : (afterPoint s c).evu.result = some r')
  (hunbroken : (afterPoint s c).evu.phase ≠ .fractured)
include h hphase hsource hk hr hrel hr' hunbroken

theorem afterPoint_yields (hends : ¬ EndsYield (inputOn s c) s.evu.smax k) :
    (afterPoint s c).evu.phase = .yielding ∧
    ((afterPoint s c).inTest = true →
      r'.rel = .opened ∧ (afterPoint s c).evu.tracker = some (yieldPoint (inputOn s c) k)) := by
  have unbroken : s.evu.phase ≠ .fractured := by simp [hphase]
  obtain ⟨aphase, atracker, asmax, aresult⟩ := armed_measured ((inputOn_source h).trans hsource) s.evu
  have work := stepYield_counts (aphase.trans hphase) (atracker.trans hk) (asmax ▸ hends)
  rw [← yieldedOn] at work
  have hry : (yieldedOn s c).evu.result = some r := by rw [work, on_evu, aresult, hr]
  obtain ⟨-, yphase, -⟩ := afterPoint_yield h unbroken hunbroken
  obtain ⟨-, -, fruns, -⟩ := afterPoint_yieldFields h unbroken hunbroken hr hr' hry
  have yielding : (yieldedOn s c).evu.phase = .yielding := by
    rw [work]
    exact aphase.trans hphase
  obtain ⟨sphase, -⟩ := stepMaxPassed_stays (inputOn s c) (.inl yielding)
  refine ⟨yphase.trans (sphase.trans yielding), fun hin => ?_⟩
  obtain ⟨-, rel, tracker⟩ := fruns hin
  exact ⟨rel.trans hrel, tracker.trans (by rw [work]; rfl)⟩

theorem afterPoint_yieldEnds (hends : EndsYield (inputOn s c) s.evu.smax k) :
    ((afterPoint s c).evu.phase = .hardening ∨ (afterPoint s c).evu.phase = .necking) ∧
    (afterPoint s c).evu.tracker = none ∧ (afterPoint s c).cli.pending.result = true ∧
    (∀ q, k.candidate = some q → r'.rel = .fixed q.stress q.index ∧ s.marked (afterPoint s c) .rel q) ∧
    (k.candidate = none → r'.rel = .absent .transientOnly) := by
  have unbroken : s.evu.phase ≠ .fractured := by simp [hphase]
  obtain ⟨aphase, atracker, asmax, aresult⟩ := armed_measured ((inputOn_source h).trans hsource) s.evu
  have work := stepYield_ends (aphase.trans hphase) (atracker.trans hk) (asmax ▸ hends)
  rw [← yieldedOn] at work
  have yields := afterPoint_yield h unbroken hunbroken
  obtain ⟨-, yphase, -, ytracker⟩ := yields
  have fields := fun ry => afterPoint_yieldFields (ry := ry) h unbroken hunbroken hr hr'
  have ended : (yieldedOn s c).evu.phase = .hardening ∧ (yieldedOn s c).evu.tracker = none := by
    rw [work, endYield]
    split <;> exact ⟨rfl, rfl⟩
  refine ⟨yphase ▸ stepMaxPassed_hardens _ ended.1, ytracker ended.2, ?_⟩
  cases hc : k.candidate with
  | some q =>
    have hry : (yieldedOn s c).evu.result = some { r with rel := r.rel.fix q.stress q.index } := by
      simp [work, endYield, hc, aresult, hr]
    have fixed : r.rel.fix q.stress q.index = .fixed q.stress q.index := by rw [hrel]; rfl
    obtain ⟨-, frel, -, raises⟩ := fields _ hry
    rw [fixed] at frel raises
    refine ⟨raises (.inr ⟨hrel, by simp⟩), fun q' hq => ?_, nofun⟩
    obtain rfl := Option.some.inj hq
    exact ⟨frel (by simp), afterPoint_yieldMarked h unbroken hunbroken (by simp [work, endYield, hc])⟩
  | none =>
    have hry : (yieldedOn s c).evu.result = some { r with rel := r.rel.close .transientOnly } := by
      simp [work, endYield, hc, aresult, hr]
    have closed : r.rel.close .transientOnly = .absent .transientOnly := by rw [hrel]; rfl
    obtain ⟨-, frel, -, raises⟩ := fields _ hry
    rw [closed] at frel raises
    have raised := raises (.inr ⟨hrel, nofun⟩)
    exact ⟨raised, fun q hq => absurd hq.symm (Option.some_ne_none q), fun _ => frel nofun⟩

end

/-! ### The elastic stage without yield evaluation (R142) -/

theorem afterPoint_unyielding {s : State} {c : Conversion} (h : s.evaluates c) (hphase : s.evu.phase = .elastic)
    (hdrop : s.header.yieldDrop = 0) :
    ((s.header.sigmaHi : Int) < (inputOn s c).point.stress →
      (afterPoint s c).evu.phase ≠ .elastic ∧ (afterPoint s c).evu.phase ≠ .yielding) ∧
    ((inputOn s c).point.stress ≤ s.header.sigmaHi →
      (afterPoint s c).evu.phase ≠ .hardening ∧ (afterPoint s c).evu.phase ≠ .yielding) := by
  obtain ⟨header, -⟩ := inputOn_fields h
  by_cases hbroken : (afterPoint s c).evu.phase = .fractured
  · simp [hbroken]
  · obtain ⟨aphase, -⟩ := armed_elastic (inputOn s c) (e := s.evu) (by simp [hphase])
    have work := stepYield_off (aphase.trans hphase) (header ▸ hdrop)
    rw [← yieldedOn, header] at work
    obtain ⟨-, yphase, -⟩ := afterPoint_yield h (by simp [hphase]) hbroken
    refine ⟨fun hhi => ?_, fun hlo => ?_⟩
    · rw [if_pos hhi] at work
      rcases stepMaxPassed_hardens (inputOn s c) work with hp | hp <;> simp [yphase, hp]
    · rw [if_neg (Int.not_lt.2 hlo)] at work
      rw [yphase, stepMaxPassed_phase, work]
      split <;> simp

/-- Settles O47: the yield work on the point, the only later step that moves the phase being the test for a maximum. -/
theorem yieldIsFound : Obligations.YieldIsFound := by
  refine ⟨fun s c r h hphase hdrop hr hreh hrel => ?_, fun s c r k h hphase hsource hk hr hrel => ?_,
    fun s c h hphase hdrop => ?_⟩
  · obtain ⟨r', hr', -⟩ := afterPoint_goesOn h r hr
    obtain ⟨header, -, -, point⟩ := inputOn_fields h
    have classifier := inputOn_classifier h
    refine ⟨afterPoint s c, (formedOn s c).point, r', topOf s.evu.smax (formedOn s c).point, exec_afterPoint h.1.1,
      afterPoint_latest s c, hr', by cases s.evu.smax <;> rfl, ?_⟩
    intro detected hunbroken
    have detects : detected ↔ Detects (inputOn s c) (topOf s.evu.smax (inputOn s c).point) := by
      rw [Detects, header, classifier, point]
    have found := afterPoint_detects h hphase hdrop hr hreh hrel hr' hunbroken
    have beyond := afterPoint_beyond h hphase hdrop hr hreh hrel hr' hunbroken
    have waits := afterPoint_waits h hphase hdrop hr hreh hrel hr' hunbroken
    simp only [yieldPoint_first, header] at found
    rw [← detects] at found beyond waits
    rw [point] at found beyond waits
    refine ⟨?_, fun hd => (found hd).2, fun hd hlimit => (beyond hd hlimit).2, fun hd hlimit => (waits hd hlimit).2⟩
    by_cases hd : detected
    · exact (found hd).1
    · by_cases hlimit : (s.header.yieldSearchLimit : Int) < (formedOn s c).point.strain
      · exact (beyond hd hlimit).1
      · exact (waits hd (Int.not_lt.1 hlimit)).1
  · obtain ⟨r', hr', -⟩ := afterPoint_goesOn h r hr
    obtain ⟨header, -, -, point⟩ := inputOn_fields h
    refine ⟨afterPoint s c, (formedOn s c).point, r', exec_afterPoint h.1.1, afterPoint_latest s c, hr', ?_⟩
    intro ends better hunbroken
    have ending : ends ↔ EndsYield (inputOn s c) s.evu.smax k := by rw [EndsYield, header, point]
    have betters : better ↔ BetterYield (inputOn s c) k := by rw [BetterYield, header, point]
    refine ⟨fun hno => ?_, fun hyes =>
      afterPoint_yieldEnds h hphase hsource hk hr hrel hr' hunbroken (ending.1 hyes)⟩
    obtain ⟨phase, runs⟩ := afterPoint_yields h hphase hsource hk hr hrel hr' hunbroken (mt ending.2 hno)
    refine ⟨phase, fun hin => ?_⟩
    obtain ⟨rel, tracker⟩ := runs hin
    refine ⟨rel, fun hb => ?_, fun hb => ?_⟩
    · rw [tracker, yieldPoint_better (betters.1 hb), point]
    · rw [tracker, yieldPoint_counts (mt betters.2 hb)]
  · have unyielding := afterPoint_unyielding h hphase hdrop
    obtain ⟨-, -, -, point⟩ := inputOn_fields h
    rw [point] at unyielding
    exact ⟨afterPoint s c, (formedOn s c).point, exec_afterPoint h.1.1, afterPoint_latest s c, unyielding⟩

end Sys2Proof.Proofs
end

section
/-! The maximum of a test (O48): the Fmax point (R144), the test for a passed maximum, and what it makes of Rm and Ag
(R145). -/

namespace Sys2Proof.Proofs

open Sys2Proof.Machine Sys2Proof.Laws

/-! ### The Fmax point (R144) -/

/-- The Fmax point with the point. -/
def peakOf (fmax : Option Point) (p : Point) : Point :=
  match fmax with
  | none => p
  | some q => if q.force < p.force then p else q

theorem rmOpen_iff (e : Evu) : e.rmOpen = true ↔ e.result.map (·.rm) = some .opened := by
  cases hr : e.result <;> simp [Evu.rmOpen, hr]

theorem rmOpen_congr {e e' : Evu} (h : e'.result.map (·.rm) = e.result.map (·.rm)) : e'.rmOpen = e.rmOpen := by
  rw [Bool.eq_iff_iff, rmOpen_iff, rmOpen_iff, h]

theorem stepFmax_fmax (x : EvalInput) (o : EvalOut) :
    (stepFmax x o).evu.fmax = if o.evu.rmOpen then some (peakOf o.evu.fmax x.point) else o.evu.fmax := by
  unfold stepFmax
  split
  · cases hf : o.evu.fmax with
    | none => rfl
    | some q =>
      simp only [peakOf]
      split
      · rfl
      · exact hf
  · rfl

theorem armed_fmax (x : EvalInput) (e : Evu) :
    (armed x e).evu.fmax = if e.rmOpen then some (peakOf e.fmax x.point) else e.fmax := by
  have opens : (stepSource x ⟨e, [], false, false⟩).evu.rmOpen = e.rmOpen := rmOpen_congr (by simp)
  simp [armed, stepFmax_fmax, opens]

theorem armed_maximum (x : EvalInput) (e : Evu) :
    (armed x e).evu.result.map (·.rm) = e.result.map (·.rm) ∧ (armed x e).evu.result.map (·.ag) = e.result.map (·.ag) ∧
    (armed x e).evu.prev = e.prev ∧ (armed x e).marks = [] := by
  simp [armed]

theorem fractureEnd_frame (x : EvalInput) (e : Evu) :
    (fractureEnd x e).fmax = e.fmax ∧ (fractureEnd x e).fractureArmed = e.fractureArmed ∧
    (fractureEnd x e).fit = e.fit ∧ (fractureEnd x e).line = e.line := by
  unfold fractureEnd fractureSearch
  split <;> simp

theorem fractureMade_frame (x : EvalInput) (o : EvalOut) :
    (fractureMade x o).evu.fmax = o.evu.fmax ∧ (fractureMade x o).evu.fractureArmed = o.evu.fractureArmed ∧
    (fractureMade x o).evu.prev = o.evu.prev := by
  unfold fractureMade fractureMaximum fractureFit
  repeat' split
  all_goals simp

/-- The Fmax point and the arming of a point, which the steps after the fracture test leave. -/
theorem evaluate_fmax (x : EvalInput) {e : Evu} (h : e.phase ≠ .fractured) :
    (evaluate x e).evu.fmax = (armed x e).evu.fmax ∧
    (evaluate x e).evu.fractureArmed = (armed x e).evu.fractureArmed := by
  rw [evaluate_eq x h]
  split
  · obtain ⟨fmax, fracture, -⟩ := fractureMade_frame x (armed x e)
    obtain ⟨efmax, efracture, -⟩ := fractureEnd_frame x (fractureMade x (armed x e)).evu
    rw [fractureEffects_eq]
    exact ⟨efmax.trans fmax, efracture.trans fracture⟩
  · simp [unbrokenSteps]

/-! ### Rm and Ag (R145) -/

/-- Rm, the Fmax force and Ag, made from the Fmax point and the elastic line. -/
structure MaximumFixed (area : Nat) (top : Point) (line : Option ElasticLine) (r : ResultRecord) : Prop where
  rm : r.rm = .fixed (divRound (top.force * 1000) area) top.index
  force : r.fmax = top.force
  fitted : ∀ l, line = some l →
    r.ag = .fixed (top.strain - divRound (divRound (top.force * 1000) area * 10000) l.e) top.index
  unfitted : line = none → r.ag = .absent .fitFailed

namespace MaximumFixed

variable {area : Nat} {top : Point} {line : Option ElasticLine} {r r' : ResultRecord}

theorem closed (h : MaximumFixed area top line r) : r.rm ≠ .opened ∧ r.ag ≠ .opened := by
  refine ⟨by simp [h.rm], ?_⟩
  cases hl : line with
  | none => simp [h.unfitted hl]
  | some l => simp [h.fitted l hl]

/-- What has been made stands while the record goes on. -/
theorem later (h : MaximumFixed area top line r) (goes : FieldsKept r r') (force : r'.fmax = r.fmax) :
    MaximumFixed area top line r' := by
  obtain ⟨-, -, -, -, -, krm, kag, -⟩ := goes.keeps
  obtain ⟨nrm, nag⟩ := h.closed
  exact ⟨(krm nrm).trans h.rm, force.trans h.force, fun l hl => (kag nag).trans (h.fitted l hl),
    fun hl => (kag nag).trans (h.unfitted hl)⟩

end MaximumFixed

theorem fixMaximum_fixed {x : EvalInput} {o : EvalOut} {r r' : ResultRecord} {top : Point}
    (hr : o.evu.result = some r) (hrm : r.rm = .opened) (hag : r.ag = .opened) (htop : o.evu.fmax = some top)
    (hr' : (fixMaximum x o).evu.result = some r') : MaximumFixed x.area top o.evu.line r' := by
  simp only [fixMaximum, on_evu, mark_evu, onResult_frame, hr, Option.map_some, Option.some.injEq, Evu.fmaxPoint, htop,
    Option.getD_some] at hr'
  subst hr'
  refine ⟨by simp [hrm, Field.fix], rfl, fun l hl => ?_, fun hl => ?_⟩
  · simp [hl, hag, Field.fix, elasticStrain]
  · simp [hl, hag, Field.close]

/-! ### A passed maximum (R145) -/

/-- The yield work disarms the test for a maximum with a yield alone, and makes no NECKING. -/
theorem stepYield_stage (x : EvalInput) (o : EvalOut) :
    ((stepYield x o).evu.phase = .yielding ∨ (stepYield x o).evu.maxPassedArmed = o.evu.maxPassedArmed) ∧
    ((stepYield x o).evu.maxPassedArmed = true → o.evu.maxPassedArmed = true) ∧
    (o.evu.phase ≠ .necking → (stepYield x o).evu.phase ≠ .necking) ∧
    (o.evu.phase = .hardening → (stepYield x o).evu.phase = .hardening) := by
  cases hphase : o.evu.phase with
  | elastic =>
    simp only [stepYield, hphase, elasticYield, upperYield]
    repeat' split
    all_goals simp [hphase]
  | yielding =>
    simp only [stepYield, hphase, endYield]
    repeat' split
    all_goals simp [hphase]
  | _ => simp [stepYield, hphase]

theorem rearm_iff (x : EvalInput) (e : Evu) :
    (rearm x e).maxPassedArmed = true ↔
      e.maxPassedArmed = true ∨ e.phase = .hardening ∧ ∃ q, e.smax = some q ∧ q.force ≤ x.point.force := by
  cases hs : e.smax with
  | none => simp [rearm, hs]
  | some q =>
    simp only [rearm, hs, Option.some.injEq, exists_eq_left']
    split
    · rename_i h
      obtain ⟨-, hphase, hforce⟩ := h
      simp [hphase, hforce]
    · rename_i h
      cases hm : e.maxPassedArmed <;> simp_all

/-- The force has fallen from that of the Fmax point by the drop. -/
def Drops (x : EvalInput) (top : Point) : Prop :=
  x.point.force ≤ top.force - divRound (top.force * x.header.maxPassedDrop) 1000

theorem passesMaximum_iff {x : EvalInput} {e : Evu} {top : Point} (htop : e.fmax = some top) :
    passesMaximum x e = true ↔
      e.maxPassedArmed = true ∧ (e.phase = .hardening ∨ e.phase = .elastic ∧ x.header.yieldDrop = 0) ∧ Drops x top := by
  simp [passesMaximum, Evu.fmaxPoint, shareOfFmax, htop, Drops, and_assoc]

/-- The source check moves the phase out of YIELDING alone (R148). -/
theorem closeExtensometer_phase (x : EvalInput) (e : Evu) :
    (closeExtensometer x e).phase = if e.phase = .yielding then .hardening else e.phase := by
  by_cases hy : e.phase = .yielding
  · have searched : (searchLost (fitLost x e)).phase = .yielding := by
      obtain ⟨-, -, hphase, -⟩ := fitLost_evu x e
      unfold searchLost
      split <;> simp [hphase, hy]
    rw [closeExtensometer_eq, yieldLost, if_pos searched, if_pos hy]
    rfl
  · rw [(closeExtensometer_elastic x hy).1, if_neg hy]

theorem armed_unnecked (x : EvalInput) {e : Evu} (h : e.phase ≠ .necking) : (armed x e).evu.phase ≠ .necking := by
  have source : (stepSource x ⟨e, [], false, false⟩).evu.phase ≠ .necking := by
    unfold stepSource
    split
    · rw [on_evu, closeExtensometer_phase]
      split
      · simp
      · exact h
    · exact h
  simpa [armed] using source

/-- The point passes the maximum, from the arming before it and Smax after it. -/
def Passes (x : EvalInput) (before : Bool) (smax : Option Point) (top : Point) : Prop :=
  (before = true ∨ ∃ q, smax = some q ∧ q.force ≤ x.point.force) ∧ Drops x top

/-- The test for a maximum on a point that does not find NECKING. -/
theorem stepMaxPassed_stage {x : EvalInput} {o : EvalOut} {top : Point} (hphase : o.evu.phase ≠ .necking)
    (htop : o.evu.fmax = some top) :
    let y := stepYield x o
    let m := stepMaxPassed x y
    (m.evu.phase = .necking → Passes x o.evu.maxPassedArmed y.evu.smax top) ∧
    (m.evu.phase = .hardening → ¬ Passes x o.evu.maxPassedArmed y.evu.smax top) ∧
    (o.evu.phase = .hardening → m.evu.phase = .hardening ∨ m.evu.phase = .necking) ∧
    (o.evu.phase = .elastic → x.header.yieldDrop = 0 → o.evu.maxPassedArmed = true → Drops x top →
      m.evu.phase = .necking) := by
  intro y m
  obtain ⟨yarmed, ykeeps, ynecks, yhardens⟩ := stepYield_stage x o
  have ytop : (rearm x y.evu).fmax = some top := by simp [y, htop]
  have passes := passesMaximum_iff (x := x) ytop
  have rearmed := rearm_iff x y.evu
  have phase : m.evu.phase = if passesMaximum x (rearm x y.evu) then .necking else y.evu.phase :=
    stepMaxPassed_phase x y
  have yphase : (rearm x y.evu).phase = y.evu.phase := by simp
  rw [yphase, rearmed] at passes
  refine ⟨fun hm => ?_, fun hm ⟨harmed, hdrops⟩ => ?_, fun ho => ?_, fun ho hoff harmed hdrops => ?_⟩
  · by_cases hp : passesMaximum x (rearm x y.evu) = true
    · obtain ⟨harmed, -, hdrops⟩ := passes.1 hp
      exact ⟨harmed.imp ykeeps fun hq => hq.2, hdrops⟩
    · rw [phase, if_neg hp] at hm
      exact absurd hm (ynecks hphase)
  · have unpassed : ¬ passesMaximum x (rearm x y.evu) = true := fun hp => by
      rw [phase, if_pos hp] at hm
      cases hm
    rw [phase, if_neg unpassed] at hm
    have stands := yarmed.resolve_left fun hy => by simp [y, hy] at hm
    exact unpassed (passes.2 ⟨harmed.imp stands.trans fun hq => ⟨hm, hq⟩, .inl hm, hdrops⟩)
  · exact stepMaxPassed_hardens x (yhardens ho)
  · have work := stepYield_off ho hoff
    have stage : y.evu.phase = .hardening ∨ y.evu.phase = .elastic := by
      simp only [y, work]
      split <;> simp
    have stands := yarmed.resolve_left fun hy => by
      rcases stage with hs | hs <;> exact absurd (hy.symm.trans hs) nofun
    rw [phase, if_pos (passes.2 ⟨.inl (stands.trans harmed), stage.imp_right fun hs => ⟨hs, hoff⟩, hdrops⟩)]

/-- The line and the fit at the end of an unbroken point are those that the maximum finds. -/
theorem unbrokenSteps_fit (x : EvalInput) (o : EvalOut) :
    (unbrokenSteps x o).evu.fit = (stepFit x (stepMaxPassed x (stepYield x o))).evu.fit ∧
    (unbrokenSteps x o).evu.line = (stepFit x (stepMaxPassed x (stepYield x o))).evu.line := by
  simp [unbrokenSteps]

/-- Outside the elastic stage the fit no longer collects. -/
theorem stepFit_over {x : EvalInput} {o : EvalOut} (h : Closes x o.evu.phase) :
    (stepFit x o).evu.fit ≠ .collecting := by
  by_cases hfit : o.evu.fit = .collecting
  · rw [stepFit_closes hfit h, on_evu, closeFit_eq]
    exact fitStatus_closed _ _
  · rwa [stepFit, if_neg hfit]

/-- The record in which the effects of a passed maximum are taken. -/
def searched (x : EvalInput) (o : EvalOut) : EvalOut := stepSearch x (stepFit x (stepMaxPassed x (stepYield x o)))

theorem unbrokenSteps_eq (x : EvalInput) (o : EvalOut) :
    unbrokenSteps x o = stepPrev x (stepSlip x (stepMaxEffects x (searched x o))) := rfl

theorem searched_fields (x : EvalInput) (o : EvalOut) :
    (searched x o).evu.phase = (unbrokenSteps x o).evu.phase ∧ (searched x o).evu.fmax = o.evu.fmax ∧
    (searched x o).evu.result.map (·.rm) = o.evu.result.map (·.rm) ∧
    (searched x o).evu.result.map (·.ag) = o.evu.result.map (·.ag) := by
  simp [unbrokenSteps, searched]

/-- What a point that passes the maximum leaves: Rm and Ag made, with their mark. -/
theorem unbrokenSteps_necks {x : EvalInput} {o : EvalOut} {r' : ResultRecord} {top : Point}
    (hphase : (unbrokenSteps x o).evu.phase = .necking) (hr : o.evu.result.map (·.rm) = some .opened)
    (hag : o.evu.result.map (·.ag) = some .opened) (htop : o.evu.fmax = some top)
    (hr' : (unbrokenSteps x o).evu.result = some r') :
    MaximumFixed x.area top (unbrokenSteps x o).evu.line r' ∧ (.fmax, top) ∈ (unbrokenSteps x o).marks := by
  have whole := unbrokenSteps_eq x o
  obtain ⟨phase, fmax, rm, ag⟩ := searched_fields x o
  generalize searched x o = m at whole phase fmax rm ag
  rw [stepMaxEffects, if_pos ⟨phase.trans hphase, (rmOpen_iff m.evu).2 (rm.trans hr)⟩] at whole
  cases hm : m.evu.result with
  | none => simp [hm, hr] at rm
  | some r =>
    obtain ⟨rf, hrf, -⟩ := fixMaximum_goesOn x m r hm
    have made := fixMaximum_fixed hm (by simpa [hm, hr] using rm) (by simpa [hm, hag] using ag) (fmax.trans htop) hrf
    have line : (unbrokenSteps x o).evu.line = m.evu.line := by simp [whole]
    have slipped : (stepSlip x (fixMaximum x m)).evu.result = some r' := by simpa [whole] using hr'
    have force : r'.fmax = rf.fmax := record_eq (f := (·.fmax)) (by simp) hrf slipped
    rw [line]
    exact ⟨made.later ((stepSlip_goesOn x (fixMaximum x m)).record hrf slipped) force,
      by simp [whole, Evu.fmaxPoint, fmax, htop]⟩

/-- A point that leaves the phase outside NECKING makes nothing of Rm and Ag. -/
theorem unbrokenSteps_waits {x : EvalInput} {o : EvalOut} (hphase : (unbrokenSteps x o).evu.phase ≠ .necking) :
    (unbrokenSteps x o).evu.result.map (·.rm) = o.evu.result.map (·.rm) ∧
    (unbrokenSteps x o).evu.result.map (·.ag) = o.evu.result.map (·.ag) := by
  obtain ⟨phase, -, rm, ag⟩ := searched_fields x o
  have idle : stepMaxEffects x (searched x o) = searched x o := if_neg fun h => hphase (phase.symm.trans h.1)
  rw [unbrokenSteps_eq, idle]
  simp [rm, ag]

/-! ### The point of a test -/

section
variable {s : State} {c : Conversion} (h : s.evaluates c) (hphase : s.evu.phase ≠ .fractured)
include h hphase

/-- The Fmax point and the arming after the point. -/
theorem afterPoint_fmax :
    (afterPoint s c).evu.fmax =
      (if s.evu.rmOpen then some (peakOf s.evu.fmax (inputOn s c).point) else s.evu.fmax) ∧
    (afterPoint s c).evu.fractureArmed = (armed (inputOn s c) s.evu).evu.fractureArmed := by
  obtain ⟨-, -, -, fmax, -, fracture, -⟩ := (afterPoint_left h).stands
  obtain ⟨efmax, efracture⟩ := evaluate_fmax (inputOn s c) hphase
  rw [← judgedOn_evaluate h] at efmax efracture
  exact ⟨(fmax.trans efmax).trans (armed_fmax _ _), fracture.trans efracture⟩

omit hphase in
/-- What is made of Rm and Ag on the point stands after it, and has raised RESULT. -/
theorem afterPoint_maximum {r r' ro : ResultRecord} {top : Point} {line : Option ElasticLine}
    (hro : (judgedOn s c).evu.result = some ro)
    (hr : s.evu.result = some r) (hrm : r.rm = .opened) (hr' : (afterPoint s c).evu.result = some r')
    (made : MaximumFixed (inputOn s c).area top line ro) :
    MaximumFixed (inputOn s c).area top line r' ∧ (afterPoint s c).cli.pending.result = true := by
  have left := afterPoint_left h
  refine ⟨made.later (left.goesOn.record hro hr') (record_eq left.forces.1 hro hr'), afterPoint_raises h ?_⟩
  exact openCount_lt (judgedOn_goesOn h) hr hro 5 (by simp [ResultRecord.fields, hrm])
    (by simp [ResultRecord.fields, made.rm])

end

/-! ### The maximum on an unbroken point -/

theorem inputOn_area {s : State} {c : Conversion} (h : s.evaluates c) : (inputOn s c).area = s.area := by
  obtain ⟨-, -, -, -, specimen, -⟩ := drivenOn_stands h
  simp only [inputOn, State.evalInput, State.area, specimen]

section
variable {s : State} {c : Conversion} (h : s.evaluates c) (hphase : s.evu.phase ≠ .fractured)
  (hunbroken : (afterPoint s c).evu.phase ≠ .fractured) (hneck : s.evu.phase ≠ .necking) {top : Point}
  (htop : (armed (inputOn s c) s.evu).evu.fmax = some top)
include h hphase hunbroken hneck htop

theorem afterPoint_stage :
    ((afterPoint s c).evu.phase = .necking →
      Passes (inputOn s c) s.evu.maxPassedArmed (afterPoint s c).evu.smax top) ∧
    ((afterPoint s c).evu.phase = .hardening →
      ¬ Passes (inputOn s c) s.evu.maxPassedArmed (afterPoint s c).evu.smax top) ∧
    (s.evu.phase = .hardening → (afterPoint s c).evu.phase = .hardening ∨ (afterPoint s c).evu.phase = .necking) ∧
    (s.evu.phase = .elastic → s.header.yieldDrop = 0 → s.evu.maxPassedArmed = true → Drops (inputOn s c) top →
      (afterPoint s c).evu.phase = .necking) := by
  obtain ⟨smax, phase, -⟩ := afterPoint_yield h hphase hunbroken
  obtain ⟨header, -⟩ := inputOn_fields h
  obtain ⟨-, before, -⟩ := armed_yield (inputOn s c) s.evu
  have unyielding := fun hy => (armed_elastic (inputOn s c) (e := s.evu) hy).1
  obtain ⟨necks, hardened, hardens, elastic⟩ := stepMaxPassed_stage (armed_unnecked (inputOn s c) hneck) htop
  rw [before] at necks hardened elastic
  rw [smax, phase]
  exact ⟨necks, hardened, fun hs => hardens ((unyielding (by simp [hs])).trans hs),
    fun hs hoff => elastic ((unyielding (by simp [hs])).trans hs) (header ▸ hoff)⟩

omit hneck htop in
theorem afterPoint_maximumWaits {r r' : ResultRecord} (hr : s.evu.result = some r)
    (hr' : (afterPoint s c).evu.result = some r') (hnecking : (afterPoint s c).evu.phase ≠ .necking)
    (hin : (afterPoint s c).inTest = true) : r'.rm = r.rm ∧ r'.ag = r.ag := by
  obtain ⟨phase, -⟩ := (afterPoint_left h).stands
  obtain ⟨-, -, ro, hro, fields⟩ := afterPoint_runs h hin hr'
  obtain ⟨-, -, -, -, -, rm, ag, -⟩ := fields_eq fields
  obtain ⟨arm, aag, -⟩ := armed_maximum (inputOn s c) s.evu
  rw [phase] at hnecking
  rw [judgedOn_unbroken h hphase hunbroken] at hro hnecking
  obtain ⟨urm, uag⟩ := unbrokenSteps_waits hnecking
  exact ⟨rm.trans (record_eq (urm.trans arm) hr hro), ag.trans (record_eq (uag.trans aag) hr hro)⟩

omit hneck in
theorem afterPoint_necks {r r' : ResultRecord} (hr : s.evu.result = some r) (hrm : r.rm = .opened)
    (hag : r.ag = .opened) (hr' : (afterPoint s c).evu.result = some r')
    (hnecking : (afterPoint s c).evu.phase = .necking) :
    MaximumFixed s.area top (afterPoint s c).evu.line r' ∧ s.marked (afterPoint s c) .fmax top ∧
    (afterPoint s c).cli.pending.result = true := by
  have left := afterPoint_left h
  obtain ⟨phase, -⟩ := left.stands
  obtain ⟨ro, hro, -⟩ := judgedOn_goesOn h r hr
  have judged := judgedOn_unbroken h hphase hunbroken
  obtain ⟨arm, aag, -⟩ := armed_maximum (inputOn s c) s.evu
  obtain ⟨fit, -⟩ := unbrokenSteps_fit (inputOn s c) (armed (inputOn s c) s.evu)
  obtain ⟨-, -, -, -, stage, -⟩ := unbrokenSteps_yield (inputOn s c) (armed (inputOn s c) s.evu)
  have necking := phase.symm.trans hnecking
  rw [← judged] at fit stage
  have collected : (judgedOn s c).evu.fit ≠ .collecting := by
    rw [fit]
    exact stepFit_over (.inr (by simp [← stage, necking]))
  obtain ⟨made, mark⟩ := unbrokenSteps_necks (judged ▸ necking) (by simp [arm, hr, hrm]) (by simp [aag, hr, hag]) htop
    (judged ▸ hro)
  rw [← judged] at made mark
  obtain ⟨-, line, -⟩ := left.fitted collected
  obtain ⟨fixed, raised⟩ := afterPoint_maximum h hro hr hrm hr' made
  rw [inputOn_area h, ← line] at fixed
  exact ⟨fixed, afterPoint_marked h mark, raised⟩

end

end Sys2Proof.Proofs
end

section
/-! The fracture of a test (O48): when a point breaks the test (R146), and the record that it leaves (R147). -/

namespace Sys2Proof.Proofs

open Sys2Proof.Machine Sys2Proof.Laws

/-! ### The fracture test (R146) -/

theorem armed_fracture (x : EvalInput) (e : Evu) :
    (armed x e).evu.fractureArmed = true ↔
      e.fractureArmed = true ∨ (x.header.fractureArmForce : Int) ≤ x.point.force := by
  simp only [armed, on_evu, armFracture]
  split <;> simp_all

/-- The force of the point is below the fraction of Fmax, or it has fallen abruptly from the point before. -/
def Falls (x : EvalInput) (top q : Point) : Prop :=
  x.point.force < divRound (top.force * x.header.fractureFraction) 1000 ∨
    divRound (top.force * x.header.abruptFraction) 1000 ≤ q.force - x.point.force

theorem isFracture_iff {x : EvalInput} {e : Evu} {top q : Point} (htest : x.fractureTested = true)
    (hphase : e.phase ≠ .fractured) (htop : e.fmax = some top) (hq : e.prev = some q) :
    isFracture x e = true ↔ e.fractureArmed = true ∧ Falls x top q := by
  simp [isFracture, htest, hphase, htop, hq, shareOfFmax, Evu.fmaxPoint, Falls]

/-! ### The fit and the maximum that the fracture makes (R147) -/

theorem fractureFit_over (x : EvalInput) (o : EvalOut) : (fractureFit x o).evu.fit ≠ .collecting := by
  unfold fractureFit
  split
  · rw [on_evu, closeFit_eq]
    exact fitStatus_closed _ _
  · assumption

theorem fractureFit_fields (x : EvalInput) (o : EvalOut) :
    (fractureFit x o).evu.phase = o.evu.phase ∧ (fractureFit x o).evu.prev = o.evu.prev ∧
    (fractureFit x o).evu.fmax = o.evu.fmax ∧
    (fractureFit x o).evu.result.map (·.reh) = o.evu.result.map (·.reh) ∧
    (fractureFit x o).evu.result.map (·.rel) = o.evu.result.map (·.rel) ∧
    (fractureFit x o).evu.result.map (·.rm) = o.evu.result.map (·.rm) ∧
    (fractureFit x o).evu.result.map (·.ag) = o.evu.result.map (·.ag) ∧
    (fractureFit x o).evu.result.map (·.fractureForce) = o.evu.result.map (·.fractureForce) ∧
    (fractureFit x o).evu.result.map (·.a) = o.evu.result.map (·.a) := by
  unfold fractureFit
  split <;> simp

/-- The fracture's fit opens the search with a line that it makes, and leaves Rp then (R137, R139). -/
theorem fractureFit_opens {x : EvalInput} {o : EvalOut} (hfit : o.evu.fit = .collecting)
    (hasked : 0 < x.header.offsetStrain) (hnone : o.evu.line = none) (hline : (fractureFit x o).evu.line ≠ none) :
    (fractureFit x o).evu.search = .opened ∧ (fractureFit x o).evu.result.map (·.rp) = o.evu.result.map (·.rp) := by
  have closed : fractureFit x o = o.on (closeFit x.header x.nominal x.point.index) := if_pos hfit
  rw [closed, on_evu, closeFit_eq] at hline ⊢
  cases hl : madeLine x.header x.nominal o.evu.sums with
  | none => simp [hl, hnone] at hline
  | some l => simp [hasked, hl, fitRecord, lineRecord, Function.comp_def]

theorem fractureMade_fields (x : EvalInput) (o : EvalOut) :
    (fractureMade x o).evu.phase = o.evu.phase ∧ (fractureMade x o).evu.fit = (fractureFit x o).evu.fit ∧
    (fractureMade x o).evu.line = (fractureFit x o).evu.line ∧
    (fractureMade x o).evu.search = (fractureFit x o).evu.search ∧
    (fractureMade x o).evu.result.map (·.rp) = (fractureFit x o).evu.result.map (·.rp) ∧
    (fractureMade x o).evu.result.map (·.reh) = o.evu.result.map (·.reh) ∧
    (fractureMade x o).evu.result.map (·.rel) = o.evu.result.map (·.rel) ∧
    (fractureMade x o).evu.result.map (·.fractureForce) = o.evu.result.map (·.fractureForce) ∧
    (fractureMade x o).evu.result.map (·.a) = o.evu.result.map (·.a) := by
  obtain ⟨phase, -, -, reh, rel, -, -, force, a⟩ := fractureFit_fields x o
  unfold fractureMade fractureMaximum
  split <;> simp [phase, reh, rel, force, a]

/-- Rm and Ag, made by the fracture where they are open. -/
theorem fractureMade_maximum {x : EvalInput} {o : EvalOut} {r r' : ResultRecord} {top : Point}
    (hr : o.evu.result = some r) (hrm : r.rm = .opened) (hag : r.ag = .opened) (htop : o.evu.fmax = some top)
    (hr' : (fractureMade x o).evu.result = some r') :
    MaximumFixed x.area top (fractureMade x o).evu.line r' ∧ (.fmax, top) ∈ (fractureMade x o).marks := by
  obtain ⟨-, -, fmax, -, -, rm, ag, -⟩ := fractureFit_fields x o
  obtain ⟨rf, hrf, -⟩ := fractureFit_goesOn x o r hr
  have frm := (record_eq rm hr hrf).trans hrm
  have fag := (record_eq ag hr hrf).trans hag
  have made : fractureMade x o = fixMaximum x (fractureFit x o) := if_pos (by simp [Evu.rmOpen, hrf, frm])
  rw [made] at hr' ⊢
  refine ⟨?_, by simp [Evu.fmaxPoint, fmax, htop]⟩
  rw [fixMaximum_frame x _ |>.2.2.1]
  exact fixMaximum_fixed hrf frm fag (fmax.trans htop) hr'

/-! ### The record that the fracture leaves (R147) -/

/-- Rp of a record whose open search the fracture closes. -/
def searchBroken (search : SearchState) (r : ResultRecord) : ResultRecord :=
  if search = .opened then { r with rp := r.rp.close .fracturedFirst } else r

theorem fractureSearch_eq (e : Evu) :
    (fractureSearch e).search = (if e.search = .opened then .closed else e.search) ∧
    (fractureSearch e).result = e.result.map (searchBroken e.search) := by
  unfold fractureSearch searchBroken
  split
  · simp
  · cases e.result <;> simp

theorem fractureEnd_result (x : EvalInput) (e : Evu) :
    (fractureEnd x e).result = e.result.map fun r =>
      fractureRecord e.line (e.prev.getD x.point) (yieldBroken e.phase (searchBroken e.search r)) := by
  simp [fractureEnd, fractureSearch_eq, Function.comp_def]

theorem fractureEnd_tracker (x : EvalInput) (e : Evu) :
    (fractureEnd x e).tracker = none ∧ (fractureEnd x e).search ≠ .opened := by
  refine ⟨rfl, ?_⟩
  have search : (fractureEnd x e).search = (fractureSearch e).search := by simp [fractureEnd]
  rw [search, (fractureSearch_eq e).1]
  split
  · simp
  · assumption

theorem yieldBroken_fields (phase : EvalPhase) (r : ResultRecord) :
    (yieldBroken phase r).rp = r.rp ∧ (yieldBroken phase r).fmax = r.fmax ∧
    (yieldBroken phase r).fractureForce = r.fractureForce ∧ (yieldBroken phase r).a = r.a := by
  unfold yieldBroken
  repeat' split
  all_goals simp

theorem searchBroken_fields (search : SearchState) (r : ResultRecord) :
    (searchBroken search r).reh = r.reh ∧ (searchBroken search r).rel = r.rel ∧ (searchBroken search r).fmax = r.fmax ∧
    (searchBroken search r).fractureForce = r.fractureForce ∧ (searchBroken search r).a = r.a := by
  unfold searchBroken
  split <;> simp

/-- The fields of a result that the fracture closes or fixes, from the record before: the fracture force and A, and
what was open of Rp, ReH and ReL. -/
structure Broken (line : Option ElasticLine) (q : Point) (search : SearchState) (phase : EvalPhase)
    (r r' : ResultRecord) : Prop where
  force : r.fractureForce = .opened → r'.fractureForce = .fixed q.force q.index
  fitted : r.a = .opened → ∀ l, line = some l → r'.a = .fixed (q.strain - divRound (q.stress * 10000) l.e) q.index
  unfitted : r.a = .opened → line = none → r'.a = .absent .fitFailed
  proof : r.rp = .opened → search = .opened → r'.rp = .absent .fracturedFirst
  upper : r.reh = .opened → r'.reh = .absent .fracturedFirst ∧ (r.rel = .opened → r'.rel = .absent .fracturedFirst)
  lower : r.rel = .opened → phase = .yielding → r'.rel = .absent .fracturedFirst

theorem fractureRecord_broken (line : Option ElasticLine) (q : Point) (search : SearchState) (phase : EvalPhase)
    (r : ResultRecord) :
    Broken line q search phase r (fractureRecord line q (yieldBroken phase (searchBroken search r))) := by
  obtain ⟨reh, rel, -, force, a⟩ := searchBroken_fields search r
  obtain ⟨yrp, -, yforce, ya⟩ := yieldBroken_fields phase (searchBroken search r)
  refine ⟨fun hf => ?_, fun ha l hl => ?_, fun ha hl => ?_, fun hrp hs => ?_, fun hreh => ?_, fun hrel hp => ?_⟩
  · simp [fractureRecord, yforce, force, hf, Field.fix]
  · simp [fractureRecord, fractureStrain, hl, ya, a, ha, Field.fix, elasticStrain]
  · simp [fractureRecord, fractureStrain, hl, ya, a, ha, Field.close]
  · exact yrp.trans (by simp [searchBroken, hs, hrp, Field.close])
  · simp +contextual [fractureRecord, yieldBroken, reh, rel, hreh, Field.close]
  · by_cases hreh : r.reh = .opened
    · simp [fractureRecord, yieldBroken, reh, rel, hreh, hrel, Field.close]
    · simp [fractureRecord, yieldBroken, reh, rel, hreh, hp, hrel, Field.close]

/-- What is closed or fixed stands while the record goes on. -/
theorem Broken.later {line : Option ElasticLine} {q : Point} {search : SearchState} {phase : EvalPhase}
    {r r' r'' : ResultRecord} (h : Broken line q search phase r r') (goes : FieldsKept r' r'') :
    Broken line q search phase r r'' := by
  obtain ⟨-, -, krp, kreh, krel, -, -, kforce, ka⟩ := goes.keeps
  have stays : ∀ {x y f : Field}, (x ≠ .opened → y = x) → f ≠ .opened → x = f → y = f := fun k hf hx => by
    subst hx
    exact k hf
  refine ⟨fun hf => stays kforce nofun (h.force hf), fun ha l hl => stays ka nofun (h.fitted ha l hl),
    fun ha hl => stays ka nofun (h.unfitted ha hl), fun hrp hs => stays krp nofun (h.proof hrp hs),
    fun hreh => ?_, fun hrel hp => stays krel nofun (h.lower hrel hp)⟩
  obtain ⟨upper, lower⟩ := h.upper hreh
  exact ⟨stays kreh nofun upper, fun hrel => stays krel nofun (lower hrel)⟩

end Sys2Proof.Proofs
end

section
/-! The lifts at a fracture (O48): they are asked for and watched at the freeze, and the end of the test that the
fracture brings with it keeps them (R104, R117, R124, R129). -/

namespace Sys2Proof.Proofs

open Sys2Proof.Machine Sys2Proof.Laws

/-! ### The freeze at fracture (R124) -/

/-- The freeze asks for a watched LIFT of every head CLAMPED or MEASURING. -/
theorem fractureFreeze_watched {h : Head} {s : State} (p : Point)
    (hs : (s.exm.heads.get h).state = .clamped ∨ (s.exm.heads.get h).state = .measuring) :
    LiftWatched h (fractureFreeze p s) := by
  have lifts : ∀ u : State, u.exm.heads = s.exm.heads →
      (decide ((u.exm.heads.get h).state = .clamped) || decide ((u.exm.heads.get h).state = .measuring)) = true :=
    fun u hu => by simpa [hu] using hs
  have asked : ∀ u : State, u.exm.heads = s.exm.heads →
      LiftWatched h (askLiftIf (fun st => st = .clamped || st = .measuring) .rear
        (askLiftIf (fun st => st = .clamped || st = .measuring) .front u)) := fun u hu => by
    cases h with
    | front => exact LiftWatched.askLiftIf _ .rear (askLiftIf_watched (lifts _ hu))
    | rear => exact askLiftIf_watched (lifts _ (by simp [hu]))
  unfold fractureFreeze
  dsimp only
  split
  · exact LiftWatched.recoveryLift .rear (LiftWatched.recoveryLift .front (asked _ rfl))
  · exact asked _ rfl

/-! ### The end of the test (R104, R117) -/

theorem LiftWatched.of_link {h : Head} {s u : State} (a : LiftWatched h s) (hlink : LinkFollows s.glc u.glc)
    (hwatch : u.exm.liftWatch = s.exm.liftWatch) : LiftWatched h u := by
  obtain ⟨stands, watched⟩ := a
  exact ⟨hlink.stands h .lift (by decide) stands, by rw [hwatch]; exact watched⟩

theorem LiftWatched.same {h : Head} {s u : State} (a : LiftWatched h s) (hglc : u.glc = s.glc) (hexm : u.exm = s.exm) :
    LiftWatched h u := a.of_link (.of_eq hglc) (by rw [hexm])

theorem headTestEnd_watch (h : Head) (s : State) : (headTestEnd h s).exm.liftWatch = s.exm.liftWatch := by
  unfold headTestEnd setHeadState
  repeat' split
  all_goals rfl

/-- The ZEROs that are withdrawn take no head out of the lift watch. -/
theorem testForgotten_watch (s : State) : (testForgotten s).exm.liftWatch = s.exm.liftWatch := by
  have kept : ∀ h, (s.glc.waiting.any fun w => decide (w.kind = .zero) && w.head = h && w.kind = .lift) = false :=
    fun h => by
      rw [List.any_eq_false]
      intro w _
      cases w.kind <;> simp
  simp [testForgotten, withdrawWaiting, kept]

namespace LiftWatched

variable {h : Head} {s : State}

theorem extTestEnd (a : LiftWatched h s) : LiftWatched h (extTestEnd s) := by
  have unmeasured : LiftWatched h (headTestEnd .rear (headTestEnd .front s)) :=
    a.of_link ((headTestEnd_follows .front s).trans (headTestEnd_follows .rear _)).link
      ((headTestEnd_watch _ _).trans (headTestEnd_watch _ _))
  have forgotten := unmeasured.of_link (testForgotten_follows _).link (testForgotten_watch _)
  rw [extTestEnd_eq]
  split
  · exact LiftWatched.recoveryLift .rear (LiftWatched.recoveryLift .front forgotten)
  · exact forgotten

theorem enterEnded (why : EndReason) (cause : Option StartCause) (a : LiftWatched h s) :
    LiftWatched h (enterEnded why cause s) := by
  have ended : ∀ u : State, u.glc = s.glc → u.exm = s.exm →
      LiftWatched h (raise .testEnd (storeMark .testEnd s.latest (Machine.extTestEnd u))) := fun u hglc hexm =>
    (LiftWatched.extTestEnd (a.same hglc hexm)).same (by simp) (by simp)
  unfold Machine.enterEnded
  exact ended _ (by simp) (by simp)

theorem enterEnding (why : EndReason) (a : LiftWatched h s) : LiftWatched h (enterEnding why s) := by
  unfold Machine.enterEnding
  dsimp only
  split
  · exact LiftWatched.enterEnded _ _ (a.same rfl rfl)
  · exact a.same rfl rfl

/-- The fracture that the sequencer takes keeps the lifts. -/
theorem sequencerPoint (a : LiftWatched h s) (hq : s.tsq.state ≠ .starting) (p : Point) :
    LiftWatched h (sequencerPoint true p s) := by
  unfold Machine.sequencerPoint
  split
  · exact absurd ‹_› hq
  · exact LiftWatched.enterEnding _ (a.same (by simp) (by simp))
  · exact a.enterEnding _
  all_goals exact a

end LiftWatched

/-! ### The point of a test -/

section
variable {s : State} {c : Conversion} (h : s.evaluates c) (hphase : s.evu.phase ≠ .fractured)
  (hbroken : (afterPoint s c).evu.phase = .fractured)
include h hphase hbroken

/-- On a point that breaks the test the manager freezes the strain. -/
theorem managedOn_broken :
    (evaluatedOn s c).2 = true ∧ managedOn s c = fractureFreeze (formedOn s c).point (appliedOn s c) := by
  obtain ⟨phase, -⟩ := (afterPoint_left h).stands
  rw [phase, judgedOn_evaluate h] at hbroken
  have fractured : (judgedOn s c).fractured = true := by
    rw [judgedOn_evaluate h]
    exact (evaluate_fractured_iff _ hphase).2 hbroken
  have still : (judgedOn s c).slip = false := evaluate_slip_of_fractured _ _ fractured
  rw [managedOn, evaluatedOn_eq (drivenOn_evaluated h).1, fractured, still]
  exact ⟨rfl, rfl⟩

theorem afterPoint_lifts (k : Head)
    (hk : (s.exm.heads.get k).state = .clamped ∨ (s.exm.heads.get k).state = .measuring) :
    LiftWatched k (afterPoint s c) := by
  obtain ⟨-, exm, -⟩ := drivenOn_stands h
  have applied : (appliedOn s c).exm = (drivenOn s c).exm := by simp [appliedOn]
  have head : ((appliedOn s c).exm.heads.get k).state = (s.exm.heads.get k).state := by
    rw [applied, exm, formedOn_heads]
    unfold HeadEntry.judge
    split <;> rfl
  obtain ⟨broken, managed⟩ := managedOn_broken h hphase hbroken
  have frozen : LiftWatched k (managedOn s c) := by
    rw [managed]
    exact fractureFreeze_watched _ (by rwa [head])
  have passed : LiftWatched k (passedOn s c) := by
    rw [passedOn_eq, broken]
    exact frozen.sequencerPoint (managedOn_started h) _
  obtain ⟨-, -, aexm, aglc, -⟩ := afterPoint_rest h.1
  exact passed.same aglc aexm

/-- The strain is frozen while the test goes on. -/
theorem afterPoint_freezes (hq : (afterPoint s c).tsq.state ≠ .ended) :
    (afterPoint s c).exm.source = .frozen ∧ (afterPoint s c).exm.frozenStrain = some (formedOn s c).point.strain ∧
    (afterPoint s c).exm.removal ≠ .watching ∧ (afterPoint s c).exm.removal ≠ .deferred := by
  obtain ⟨passedRuns, -⟩ := runs_of_after h.1 hq
  obtain ⟨-, -, aexm, -⟩ := afterPoint_rest h.1
  obtain ⟨-, pexm, -⟩ := (passedOn_left h).runs passedRuns
  obtain ⟨source, strain, removal⟩ := fractureFreeze_strain (formedOn s c).point (appliedOn s c)
  rw [aexm, pexm, (managedOn_broken h hphase hbroken).2]
  refine ⟨source, strain, ?_⟩
  rw [removal]
  split
  · simp
  · rename_i hopen
    exact ⟨fun hw => hopen (.inl hw), fun hd => hopen (.inr hd)⟩

end

end Sys2Proof.Proofs
end

section
/-! The fracture on its point (O48): when the point breaks the test (R146), and that what the fracture makes stands
after the point (R147, R152). -/

namespace Sys2Proof.Proofs

open Sys2Proof.Machine Sys2Proof.Laws

/-- A calm point of a test RUNNING or HELD is tested for fracture (R146). -/
theorem inputOn_tested {s : State} {c : Conversion} (h : s.evaluates c)
    (hq : s.tsq.state = .running ∨ s.tsq.state = .held) : (inputOn s c).fractureTested = true := by
  have tested : (drivenOn s c).tsq.state = .running ∨ (drivenOn s c).tsq.state = .held := by
    obtain ⟨-, stands⟩ := drivenOn_evaluated h
    have sampled := sampledOn_of_calm h.1
    rcases hq with hq | hq
    · rcases drivePointWork_test (ready := c.driveReady) (first := firstEstimated (formedOn s c).point s)
        (p := (formedOn s c).point) (s := sampledOn s c) (by simp [sampled.tsq, hq]) with ⟨htsq, -⟩ | ⟨-, hheld, -⟩
      · exact .inl (by rw [drivenOn, htsq, sampled.tsq, hq])
      · exact .inr hheld
    · exact .inr (by rw [stands (.inl hq), hq])
  simpa [inputOn, State.evalInput] using tested

/-- The Fmax point with the point while Rm is open, and as it stands after. -/
def crestOf (rm : Field) (fmax : Option Point) (p : Point) : Point :=
  match fmax with
  | none => p
  | some m => if rm = .opened ∧ m.force < p.force then p else m

theorem armed_crest (x : EvalInput) {e : Evu} {r : ResultRecord} (hr : e.result = some r)
    (h : r.rm = .opened ∨ e.fmax.isSome = true) :
    (armed x e).evu.fmax = some (crestOf r.rm e.fmax x.point) := by
  rw [armed_fmax]
  by_cases hrm : r.rm = .opened
  · rw [if_pos (by simp [Evu.rmOpen, hr, hrm])]
    cases e.fmax <;> simp [peakOf, crestOf, hrm]
  · rw [if_neg (by simp [Evu.rmOpen, hr, hrm])]
    cases hf : e.fmax with
    | none => simp [hrm, hf] at h
    | some m => simp [crestOf, hrm]

theorem evaluate_breaks_iff (x : EvalInput) {e : Evu} (h : e.phase ≠ .fractured) :
    (evaluate x e).evu.phase = .fractured ↔ isFracture x (armed x e).evu = true := by
  have unbroken : (armed x e).evu.phase ≠ .fractured := by simpa [armed] using stepSource_unbroken x h
  rw [evaluate_eq x h]
  split
  · simp_all [fractureEffects_breaks]
  · simp_all [unbrokenSteps_unbroken]

/-- The fit and the maximum that a fracture on the point makes. -/
def brokenOn (s : State) (c : Conversion) : EvalOut := fractureMade (inputOn s c) (armed (inputOn s c) s.evu)

theorem brokenOn_frame (s : State) (c : Conversion) :
    (brokenOn s c).evu.phase = (armed (inputOn s c) s.evu).evu.phase ∧ (brokenOn s c).evu.prev = s.evu.prev ∧
    (brokenOn s c).evu.fit ≠ .collecting := by
  obtain ⟨phase, fit, -⟩ := fractureMade_fields (inputOn s c) (armed (inputOn s c) s.evu)
  obtain ⟨-, -, prev⟩ := fractureMade_frame (inputOn s c) (armed (inputOn s c) s.evu)
  obtain ⟨-, -, before, -⟩ := armed_maximum (inputOn s c) s.evu
  exact ⟨phase, prev.trans before, fit ▸ fractureFit_over _ _⟩

theorem brokenOn_goesOn (s : State) (c : Conversion) : GoesOn s.evu (brokenOn s c).evu :=
  ((armed_goesOn _ _).trans (fractureFit_goesOn _ _)).trans (fractureMaximum_goesOn _ _)

theorem brokenOn_maximum {s : State} {c : Conversion} {r r' : ResultRecord} {top : Point} (hr : s.evu.result = some r)
    (hrm : r.rm = .opened) (hag : r.ag = .opened) (htop : (armed (inputOn s c) s.evu).evu.fmax = some top)
    (hr' : (brokenOn s c).evu.result = some r') :
    MaximumFixed (inputOn s c).area top (brokenOn s c).evu.line r' ∧ (.fmax, top) ∈ (brokenOn s c).marks := by
  obtain ⟨arm, aag, -⟩ := armed_maximum (inputOn s c) s.evu
  obtain ⟨ra, hra, -⟩ := armed_goesOn (inputOn s c) s.evu r hr
  exact fractureMade_maximum hra ((record_eq arm hr hra).trans hrm) ((record_eq aag hr hra).trans hag) htop hr'

/-- The fields that the fracture finds: those that no step before it touches, and ReL while no source check closes
it. -/
theorem brokenOn_fields {s : State} {c : Conversion} {r r' : ResultRecord} (hr : s.evu.result = some r)
    (hr' : (brokenOn s c).evu.result = some r') :
    r'.reh = r.reh ∧ r'.fractureForce = r.fractureForce ∧ r'.a = r.a ∧
    (s.evu.phase ≠ .yielding ∨ (inputOn s c).point.source = .extensometer → r'.rel = r.rel) := by
  obtain ⟨-, -, -, -, -, reh, rel, force, a⟩ := fractureMade_fields (inputOn s c) (armed (inputOn s c) s.evu)
  have before : (armed (inputOn s c) s.evu).evu.result.map (·.reh) = s.evu.result.map (·.reh) ∧
      (armed (inputOn s c) s.evu).evu.result.map (·.fractureForce) = s.evu.result.map (·.fractureForce) ∧
      (armed (inputOn s c) s.evu).evu.result.map (·.a) = s.evu.result.map (·.a) := by simp [armed]
  obtain ⟨areh, aforce, aa⟩ := before
  refine ⟨record_eq (reh.trans areh) hr hr', record_eq (force.trans aforce) hr hr', record_eq (a.trans aa) hr hr',
    fun hsource => record_eq (rel.trans ?_) hr hr'⟩
  rcases hsource with hy | hs
  · obtain ⟨-, -, arel⟩ := armed_elastic (inputOn s c) hy
    exact arel
  · obtain ⟨-, -, -, same⟩ := armed_measured hs s.evu
    rw [same]

/-- The search that a fracture finds OPEN leaves Rp to it: one that stood OPEN, or one that the fracture's fit opens. -/
theorem brokenOn_search {s : State} {c : Conversion} {r r' : ResultRecord} (hr : s.evu.result = some r)
    (hr' : (brokenOn s c).evu.result = some r') (hs : (inputOn s c).point.source = .extensometer)
    (hopen : s.evu.fit ≠ .collecting ∧ s.evu.search = .opened ∨
      s.evu.fit = .collecting ∧ 0 < (inputOn s c).header.offsetStrain ∧ s.evu.line = none ∧
        (brokenOn s c).evu.line ≠ none) :
    (brokenOn s c).evu.search = .opened ∧ r'.rp = r.rp := by
  obtain ⟨-, -, line, search, rp, -⟩ := fractureMade_fields (inputOn s c) (armed (inputOn s c) s.evu)
  have before := armed_search hs s.evu
  have found : (fractureFit (inputOn s c) (armed (inputOn s c) s.evu)).evu.search = .opened ∧
      (fractureFit (inputOn s c) (armed (inputOn s c) s.evu)).evu.result.map (·.rp) =
        (armed (inputOn s c) s.evu).evu.result.map (·.rp) := by
    rcases hopen with ⟨hfit, hopen⟩ | ⟨hfit, hasked, hnone, hline⟩
    · have idle : fractureFit (inputOn s c) (armed (inputOn s c) s.evu) = armed (inputOn s c) s.evu :=
        if_neg (before.fit ▸ hfit)
      rw [idle]
      exact ⟨before.search.trans hopen, rfl⟩
    · exact fractureFit_opens (before.fit.trans hfit) hasked (before.line.trans hnone) (line ▸ hline)
  exact ⟨search.trans found.1, record_eq (rp.trans (found.2.trans before.proof)) hr hr'⟩

section
variable {s : State} {c : Conversion} (h : s.evaluates c) (hphase : s.evu.phase ≠ .fractured)
include h hphase

/-- The point breaks the test (R146). -/
theorem afterPoint_breaks {q top : Point} (hprev : s.evu.prev = some q)
    (htop : (armed (inputOn s c) s.evu).evu.fmax = some top) (htest : (inputOn s c).fractureTested = true) :
    (afterPoint s c).evu.phase = .fractured ↔
      (s.evu.fractureArmed = true ∨ ((inputOn s c).header.fractureArmForce : Int) ≤ (inputOn s c).point.force) ∧
      Falls (inputOn s c) top q := by
  obtain ⟨phase, -⟩ := (afterPoint_left h).stands
  obtain ⟨-, -, prev, -⟩ := armed_maximum (inputOn s c) s.evu
  have unbroken : (armed (inputOn s c) s.evu).evu.phase ≠ .fractured := by
    simpa [armed] using stepSource_unbroken (inputOn s c) hphase
  rw [phase, judgedOn_evaluate h, evaluate_breaks_iff _ hphase,
    isFracture_iff htest unbroken htop (prev.trans hprev), armed_fracture]

variable (hbroken : (afterPoint s c).evu.phase = .fractured)
include hbroken

theorem judgedOn_broken :
    (judgedOn s c).evu = fractureEnd (inputOn s c) (brokenOn s c).evu ∧
    (judgedOn s c).marks =
      (brokenOn s c).marks ++ [(.fracture, (brokenOn s c).evu.prev.getD (inputOn s c).point)] := by
  obtain ⟨phase, -⟩ := (afterPoint_left h).stands
  rw [phase, judgedOn_evaluate h, evaluate_breaks_iff _ hphase] at hbroken
  rw [judgedOn_evaluate h, evaluate_eq _ hphase, if_pos hbroken, fractureEffects_eq]
  exact ⟨rfl, rfl⟩

/-- The fit and the line of a broken test are those that the fracture has made; the tracker is gone, no search is
open, and the point before has its mark. -/
theorem afterPoint_brokenLine {q : Point} (hprev : s.evu.prev = some q) :
    (afterPoint s c).evu.line = (brokenOn s c).evu.line ∧
    (afterPoint s c).evu.fit ≠ .collecting ∧ (afterPoint s c).evu.tracker = none ∧
    (afterPoint s c).evu.search ≠ .opened ∧ s.marked (afterPoint s c) .fracture q := by
  have left := afterPoint_left h
  obtain ⟨evu, marks⟩ := judgedOn_broken h hphase hbroken
  obtain ⟨-, -, fit, line⟩ := fractureEnd_frame (inputOn s c) (brokenOn s c).evu
  obtain ⟨tracker, search⟩ := fractureEnd_tracker (inputOn s c) (brokenOn s c).evu
  obtain ⟨-, prev, settled⟩ := brokenOn_frame s c
  rw [← evu] at fit line tracker search
  rw [← fit] at settled
  rw [prev, hprev, Option.getD_some] at marks
  obtain ⟨kfit, kline, -⟩ := left.fitted settled
  exact ⟨kline.trans line, by rwa [kfit], left.tracker tracker, by rwa [left.search settled search],
    afterPoint_marked h (by simp [marks])⟩

section
variable {r r' : ResultRecord} (hr : s.evu.result = some r) (hr' : (afterPoint s c).evu.result = some r')
include hr hr'

/-- What the fracture closes and fixes, from the record that its fit and its maximum leave. -/
theorem afterPoint_broken {q : Point} (hprev : s.evu.prev = some q) :
    ∃ rm, (brokenOn s c).evu.result = some rm ∧
      Broken (afterPoint s c).evu.line q (brokenOn s c).evu.search (armed (inputOn s c) s.evu).evu.phase rm r' ∧
      r'.sourceOfA = q.source ∧
      (r.fractureForce = .opened → (afterPoint s c).cli.pending.result = true) := by
  have left := afterPoint_left h
  obtain ⟨evu, -⟩ := judgedOn_broken h hphase hbroken
  obtain ⟨line, -⟩ := afterPoint_brokenLine h hphase hbroken hprev
  obtain ⟨phase, prev, -⟩ := brokenOn_frame s c
  obtain ⟨ro, hro, -⟩ := judgedOn_goesOn h r hr
  have made := hro
  rw [evu, fractureEnd_result, prev, hprev, Option.getD_some, phase, ← line] at made
  cases hm : (brokenOn s c).evu.result with
  | none => simp [hm] at made
  | some rm =>
    obtain rfl : _ = ro := by simpa [hm] using made
    have breaks := fractureRecord_broken (afterPoint s c).evu.line q (brokenOn s c).evu.search
      (armed (inputOn s c) s.evu).evu.phase rm
    refine ⟨rm, rfl, breaks.later (left.goesOn.record hro hr'), record_eq left.forces.2 hro hr', fun hforce => ?_⟩
    have unbroken : rm.fractureForce = .opened := (brokenOn_fields hr hm).2.1.trans hforce
    exact afterPoint_raises h (openCount_lt (judgedOn_goesOn h) hr hro 7 (by simp [ResultRecord.fields, hforce])
      (by simp [ResultRecord.fields, breaks.force unbroken]))

/-- Rm and Ag of a test that breaks with both open. -/
theorem afterPoint_brokenMaximum {q top : Point} (hprev : s.evu.prev = some q)
    (htop : (armed (inputOn s c) s.evu).evu.fmax = some top) (hrm : r.rm = .opened) (hag : r.ag = .opened) :
    MaximumFixed s.area top (afterPoint s c).evu.line r' ∧ s.marked (afterPoint s c) .fmax top := by
  obtain ⟨evu, marks⟩ := judgedOn_broken h hphase hbroken
  obtain ⟨line, -⟩ := afterPoint_brokenLine h hphase hbroken hprev
  obtain ⟨rm, hmade, -⟩ := brokenOn_goesOn s c r hr
  obtain ⟨made, mark⟩ := brokenOn_maximum hr hrm hag htop hmade
  obtain ⟨ro, hro, -⟩ := judgedOn_goesOn h r hr
  have ended := hro
  rw [evu] at ended
  have force : ro.fmax = rm.fmax :=
    record_eq (f := (·.fmax)) (by simp [fractureEnd_result, Function.comp_def, fractureRecord, yieldBroken_fields,
      searchBroken_fields]) hmade ended
  have fixed := made.later ((fractureEnd_goesOn (inputOn s c) _).record hmade ended) force
  rw [← line] at fixed
  refine ⟨inputOn_area h ▸ (afterPoint_maximum h hro hr hrm hr' fixed).1, afterPoint_marked h ?_⟩
  rw [marks]
  exact List.mem_append_left _ mark

end

end

end Sys2Proof.Proofs
end

section
/-! The settled statement on the maximum and the fracture (O48; R144 to R147, R124, R152). -/

namespace Sys2Proof.Proofs

open Sys2Proof.Machine Sys2Proof.Laws

/-- Settles O48: the Fmax point and the test for a maximum on the point, and the record that a fracture leaves, whose
lifts the end of the test keeps. -/
theorem maximumAndFractureAreFixed : Obligations.MaximumAndFractureAreFixed := by
  refine ⟨fun s c r h hphase hneck hr hrm hag => ?_, fun s c r q hcalm hq hphase hr hprev hmax hforce ha => ?_⟩
  · obtain ⟨r', hr', -⟩ := afterPoint_goesOn h r hr
    obtain ⟨header, -, -, point⟩ := inputOn_fields h
    have rmOpen : s.evu.rmOpen = true := by simp [Evu.rmOpen, hr, hrm]
    have htop : (armed (inputOn s c) s.evu).evu.fmax = some (peakOf s.evu.fmax (formedOn s c).point) := by
      rw [armed_fmax, if_pos rmOpen, point]
    have fmax := (afterPoint_fmax h hphase).1
    rw [if_pos rmOpen, point] at fmax
    refine ⟨afterPoint s c, (formedOn s c).point, r', peakOf s.evu.fmax (formedOn s c).point, exec_afterPoint h.1.1,
      afterPoint_latest s c, hr', by cases s.evu.fmax <;> rfl, fmax, ?_⟩
    intro rearmed passes rm
    have passing : passes ↔ Passes (inputOn s c) s.evu.maxPassedArmed (afterPoint s c).evu.smax
        (peakOf s.evu.fmax (formedOn s c).point) := by rw [Passes, Drops, header, point]
    have stage := fun hunbroken => afterPoint_stage h hphase hunbroken hneck htop
    refine ⟨fun hn hunbroken hin => ?_, fun hs => ?_, fun hs hoff harmed hpasses => ?_, fun hs hpasses => ?_,
      fun hs => ?_⟩
    · obtain ⟨krm, kag⟩ := afterPoint_maximumWaits h hphase hunbroken hr hr' hn hin
      exact ⟨krm.trans hrm, kag.trans hag⟩
    · by_cases hbroken : (afterPoint s c).evu.phase = .fractured
      · exact .inr (.inr hbroken)
      · obtain ⟨-, -, hardens, -⟩ := stage hbroken
        exact (hardens hs).imp_right .inl
    · by_cases hbroken : (afterPoint s c).evu.phase = .fractured
      · exact .inr hbroken
      · obtain ⟨-, -, -, elastic⟩ := stage hbroken
        exact .inl (elastic hs hoff harmed (passing.1 hpasses).2)
    · obtain ⟨-, hardened, -⟩ := stage (by simp [hs])
      exact hardened hs (passing.1 hpasses)
    · obtain ⟨necks, -⟩ := stage (by simp [hs])
      obtain ⟨fixed, marked, raised⟩ := afterPoint_necks h hphase (by simp [hs]) htop hr hrm hag hr' hs
      exact ⟨passing.2 (necks hs), fixed.rm, fixed.force, marked, raised, fixed.fitted, fixed.unfitted⟩
  · have h : s.evaluates c := ⟨hcalm, hq.imp_right .inl⟩
    obtain ⟨r', hr', -⟩ := afterPoint_goesOn h r hr
    obtain ⟨header, -, -, point⟩ := inputOn_fields h
    have htop := armed_crest (inputOn s c) hr hmax
    have fracture := (afterPoint_fmax h hphase).2
    have breaks := afterPoint_breaks h hphase hprev htop (inputOn_tested h hq)
    rw [Falls, header, point] at breaks
    refine ⟨afterPoint s c, (formedOn s c).point, r', crestOf r.rm s.evu.fmax (formedOn s c).point,
      exec_afterPoint h.1.1, afterPoint_latest s c, hr', by cases s.evu.fmax <;> rfl, ?_⟩
    intro armed broken rm opens
    rw [point] at htop
    refine ⟨by rw [fracture, armed_fracture, header, point], breaks, fun hb => ?_⟩
    have hbroken := breaks.2 hb
    obtain ⟨line, fit, tracker, search, mark⟩ := afterPoint_brokenLine h hphase hbroken hprev
    obtain ⟨rb, hrb, made, source, raised⟩ := afterPoint_broken h hphase hbroken hr hr' hprev
    obtain ⟨breh, bforce, ba, brel⟩ := brokenOn_fields hr hrb
    have extensometer : s.exm.source = .extensometer → (inputOn s c).point.source = .extensometer :=
      (inputOn_source h).trans
    refine ⟨raised hforce, mark, tracker, search, fit, made.force (bforce.trans hforce), source,
      made.fitted (ba.trans ha), made.unfitted (ba.trans ha), fun hrm hag => ?_, fun hrp hs hopen => ?_,
      fun hreh hp => ?_, fun hrel hp hs => ?_, fun k hk => afterPoint_lifts h hphase hbroken k hk,
      fun hruns => afterPoint_freezes h hphase hbroken hruns⟩
    · obtain ⟨fixed, marked⟩ := afterPoint_brokenMaximum h hphase hbroken hr hr' hprev htop hrm hag
      exact ⟨fixed.rm, fixed.force, marked, fixed.fitted, fixed.unfitted⟩
    · obtain ⟨hsearch, brp⟩ := brokenOn_search hr hrb (extensometer hs)
        (hopen.imp_right fun ⟨hfit, hasked, hnone, hl⟩ => ⟨hfit, header ▸ hasked, hnone, line ▸ hl⟩)
      exact made.proof (brp.trans hrp) hsearch
    · obtain ⟨upper, lower⟩ := made.upper (breh.trans hreh)
      exact ⟨upper, fun hrel => lower ((brel (.inl (by simp [hp]))).trans hrel)⟩
    · exact made.lower ((brel (.inr (extensometer hs))).trans hrel)
        ((armed_measured (extensometer hs) s.evu).1.trans hp)

end Sys2Proof.Proofs
end

section
/-! The end of a test that no point's evaluation brings with it (O55): where it stands from the test before (R39, R151),
and the record that it leaves (R138, R150, R151). -/

namespace Sys2Proof.Proofs

open Sys2Proof.Machine Sys2Proof.Laws

/-! ### The walk to the end of a test -/

/-- The kinds of record that an end outside the evaluation brings. -/
def EndKind (k : RecordKind) : Prop := k = .testEnd ∨ k = .handover

/-- `t` goes on in the test of `a` without its evaluation, or is an end of that test. -/
structure EndsFrom (a t : State) : Prop where
  latest : t.latestPoint = a.latestPoint
  program : t.tsq.program = a.tsq.program
  specimen : t.tsq.specimen = a.tsq.specimen
  result : t.cli.pending.result = a.cli.pending.result
  ring : Adds EndKind a t
  recording : t.tsq.state = .ended → t.sms.recording = false
  record : ∃ n,
    t.inTest = true ∧ t.tsq.state.evaluated = a.tsq.state.evaluated ∧ t.evu = withSlips n a.evu ∨
    t.tsq.state = .ended ∧ ∃ why, t.tsq.endReason = some why ∧
      t.evu = endedEvu a.header (a.tsq.specimen.bind (·.nominalModulus)) why a.latest.index (withSlips n a.evu)

theorem EndsFrom.refl {a : State} (h : a.inTest = true) : EndsFrom a a where
  latest := rfl
  program := rfl
  specimen := rfl
  result := rfl
  ring := .of_eq rfl
  recording hended := by simp [State.inTest, hended, SeqState.inTest] at h
  record := ⟨id, .inl ⟨h, rfl, (withSlips_id _).symm⟩⟩

/-- The test that goes on and the test that has ended exclude each other. -/
theorem not_ended_of_inTest {s : State} (h : s.inTest = true) : s.tsq.state ≠ .ended := fun hended => by
  simp [State.inTest, hended, SeqState.inTest] at h

theorem enterEnded_endedEvu (why : EndReason) (cause : Option StartCause) (s : State) :
    (enterEnded why cause s).evu =
      endedEvu s.header (s.tsq.specimen.bind (·.nominalModulus)) why s.latest.index s.evu := by
  simp only [enterEnded, raise_frame, storeMark_frame, extTestEnd_frame, evalTestEnd_evu]
  rfl

theorem enterEnded_adds (why : EndReason) (cause : Option StartCause) (s : State) :
    Adds EndKind s (enterEnded why cause s) := by
  unfold enterEnded
  dsimp only
  refine Adds.trans ?_ (.of_eq (by simp; rfl))
  exact storeRecord_adds (.inl rfl) true none _ (by simp)

theorem endsFrom_walk (a : State) : EventWalk (EndsFrom a) where
  quiet {s t} h hq := by
    obtain ⟨evu, state, latest, reason, program, specimen, result, ring, recording⟩ := hq
    refine ⟨latest.trans h.latest, program.trans h.program, specimen.trans h.specimen, result.trans h.result,
      h.ring.trans (ring.mono fun _ hk => .inr hk), fun hended => ?_, ?_⟩
    · rcases state with hs | ⟨-, ht⟩
      · exact recording.trans (h.recording (hs ▸ hended))
      · simp [hended, SeqState.evaluated] at ht
    · obtain ⟨n, ⟨hin, hev, he⟩ | ⟨hended, why, hwhy, he⟩⟩ := h.record
      · refine ⟨n, .inl ?_⟩
        rcases state with hs | ⟨hs, ht⟩
        · exact ⟨by rwa [State.inTest, hs], by rwa [hs], evu.trans he⟩
        · exact ⟨evaluated_inTest ht, by rw [ht, ← hev, hs], evu.trans he⟩
      · rcases state with hs | ⟨hs, -⟩
        · exact ⟨n, .inr ⟨hs.trans hended, why, reason.trans hwhy, evu.trans he⟩⟩
        · simp [hended, SeqState.evaluated] at hs
  slipped {s} m h hq := by
    refine ⟨h.latest, h.program, h.specimen, h.result, h.ring, h.recording, ?_⟩
    obtain ⟨n, ⟨hin, hev, he⟩ | ⟨hended, -⟩⟩ := h.record
    · refine ⟨m ∘ n, .inl ⟨hin, hev, ?_⟩⟩
      rw [onEvu_evu, he, withSlips_withSlips]
    · simp [hended, SeqState.evaluated] at hq
  ended {s} why cause h hin := by
    refine ⟨by simp [h.latest], by simp [h.program], by simp [h.specimen], (enterEnded_result _ _ _).trans h.result,
      h.ring.trans (enterEnded_adds _ _ _), fun _ => enterEnded_recording _ _ _, ?_⟩
    obtain ⟨n, ⟨-, -, he⟩ | ⟨hended, -⟩⟩ := h.record
    · refine ⟨n, .inr ⟨by rw [enterEnded_tsq], why, by rw [enterEnded_tsq], ?_⟩⟩
      have header : s.header = a.header := header_program h.program
      have index : s.latest.index = a.latest.index := by rw [State.latest, h.latest, State.latest]
      rw [enterEnded_endedEvu, header, index, h.specimen, he]
    · exact absurd hended (not_ended_of_inTest hin)

/-! ### The record that an end leaves (R138, R150, R151) -/

theorem close_closedFor (why : Absence) (f : Field) : f.closedFor why (f.close why) := by
  cases f <;> simp [Field.closedFor, Field.close]

/-- The result record of a test that has ended. -/
def endRecord (why : EndReason) (r : ResultRecord) : ResultRecord :=
  { r.closeAll why.absence with endReason := some why }

/-- The evaluation record of a test that has ended, its fit closed. -/
def testClosed (why : EndReason) (e : Evu) : Evu :=
  { e with tracker := none, search := if e.search = SearchState.opened then .closed else e.search }.onResult
    (endRecord why)

section
variable (hd : PlanHeader) (nominal : Option Nat) (why : EndReason) (i : Nat) (e : Evu)

/-- An end brings no loss of the extensometer. -/
theorem absence_ne (why : EndReason) : why.absence ≠ .extensometerRemoved := by cases why <;> nofun

theorem endedEvu_eq :
    endedEvu hd nominal why i e =
      testClosed why (if e.fit = .collecting then failFit hd nominal why.absence i e else e) := rfl

theorem endedEvu_fit :
    (endedEvu hd nominal why i e).fit = (if e.fit = .collecting then .failed why.absence else e.fit) ∧
    (endedEvu hd nominal why i e).tracker = none ∧ (endedEvu hd nominal why i e).phase = e.phase := by
  unfold endedEvu
  dsimp only
  split
  · simp [failFit_line]
  · simp

/-- Without a fallback every open field closes with the reason of the end. -/
theorem endedEvu_closes (h : e.fit ≠ .collecting ∨ fallbackModulus hd nominal = none) :
    (endedEvu hd nominal why i e).result = e.result.map (endRecord why) ∧
    (endedEvu hd nominal why i e).line = e.line ∧
    (endedEvu hd nominal why i e).search = (if e.search = .opened then .closed else e.search) := by
  have unfit : ∀ r : ResultRecord, endRecord why (unfitRecord hd why.absence r) = endRecord why r := fun r => by
    unfold unfitRecord endRecord ResultRecord.closeAll
    split <;> simp [close_close]
  by_cases hfit : e.fit = .collecting
  · have without := h.resolve_left (not_not_intro hfit)
    have failed : failFit hd nominal why.absence i e =
        { e with fit := .failed why.absence, result := e.result.map (unfitRecord hd why.absence) } := by
      rw [failFit_eq (absence_ne why), without]
    rw [endedEvu_eq, if_pos hfit, failed]
    exact ⟨by simp [testClosed, Function.comp_def, unfit], rfl, rfl⟩
  · rw [endedEvu_eq, if_neg hfit]
    exact ⟨rfl, rfl, rfl⟩

/-- With a fallback a fit still collecting fixes E and x0 from it. -/
theorem endedEvu_fallsBack (hfit : e.fit = .collecting) {m : Nat} (hm : fallbackModulus hd nominal = some m) :
    let l : ElasticLine := ⟨m, fallbackIntercept e.sums m, true⟩
    (endedEvu hd nominal why i e).result = e.result.map (fun r => endRecord why (lineRecord l e.sums.n i r)) ∧
    (endedEvu hd nominal why i e).line = some l ∧
    (endedEvu hd nominal why i e).search =
      (if 0 < hd.offsetStrain ∨ e.search = .opened then .closed else e.search) := by
  intro l
  have failed : failFit hd nominal why.absence i e = { e with
      fit := .failed why.absence
      line := some l
      search := if 0 < hd.offsetStrain then .opened else e.search
      searchPrev := if 0 < hd.offsetStrain then none else e.searchPrev
      result := e.result.map (lineRecord l e.sums.n i) } := by
    rw [failFit_eq (absence_ne why), hm]
    exact openSearch_fixLine hd l i { e with fit := .failed why.absence }
  rw [endedEvu_eq, if_pos hfit, failed]
  refine ⟨by simp [testClosed, Function.comp_def], rfl, ?_⟩
  by_cases hasked : 0 < hd.offsetStrain
  · simp [testClosed, hasked]
  · simp [testClosed, hasked]

end

end Sys2Proof.Proofs
end

section
/-! The commands that end a test without a measured point (O55): a reset ends none, three requests can, and every
event that does walks to the end (R26, R34, R36, R38, R178). -/

namespace Sys2Proof.Proofs

open Sys2Proof.Machine Sys2Proof.Laws

/-! ### Outside a test (R173, R178) -/

/-- A cause found outside a test leaves the sequencer. -/
theorem takeCause_outside (k : TripCause) {s : State} (h : s.inTest = false) : (takeCause k s).tsq = s.tsq := by
  cases htrip : s.lmu.trip with
  | clear => exact ((takeCause_trips htrip).idle h).1
  | latched => exact (takeCause_onward htrip).tsq

theorem resetInput_outside (i : SafetyInput) {s : State} (h : s.inTest = false) : (resetInput i s).tsq = s.tsq := by
  unfold resetInput
  split
  · rw [takeCause_outside _ (by simpa [State.inTest] using h)]
    simp
  · rfl

/-- A reset leaves no program, so no test that has ended. -/
theorem resetPart_empty (raw : SafetyLevels) (s : State) : (resetPart raw s).tsq.state = .empty := by
  have begun : (State.resetValues raw s.pending).tsq.state = .empty := rfl
  have keeps : ∀ (i : SafetyInput) {u : State}, u.tsq.state = .empty → (resetInput i u).tsq.state = .empty :=
    fun i u hu => by rw [resetInput_outside i (by rw [State.inTest, hu]; rfl), hu]
  exact keeps _ (keeps _ (keeps _ (keeps _ begun)))

/-! ### The requests (R8, R32, R34, R36) -/

theorem withEmpty_cases (p : List Byte) (s : State) (a : Answer) :
    (withEmpty p s a).state = a.state ∨ (withEmpty p s a).state = s := by
  cases p with
  | nil => exact .inl rfl
  | cons => exact .inr rfl

/-- Within a test these requests change nothing. -/
theorem decision_locked {s : State} (h : s.inTest = true) (p : List Byte) :
    (decideSetSpecimen p s).state = s ∧ (decideBeginProgram p s).state = s ∧ (decideProgramSegments p s).state = s ∧
    (decideClearVisited p s).state = s := by
  refine ⟨?_, ?_, ?_, ?_⟩
  · unfold decideSetSpecimen
    split <;> rfl
  · unfold decideBeginProgram
    split <;> rfl
  · unfold decideProgramSegments
    split <;> rfl
  · rcases withEmpty_cases p s _ with hs | hs <;> rw [decideClearVisited, hs]
    simp [h, refuse]

/-- Within a test these requests leave it in a test. -/
theorem decision_inTest {s : State} (h : s.inTest = true) (p : List Byte) :
    (decideSetHoldPoints p s).state.inTest = true ∧ (decidePause p s).state.inTest = true := by
  constructor
  · unfold decideSetHoldPoints
    repeat' split
    all_goals exact h
  · rcases withEmpty_cases p s _ with hs | hs <;> rw [decidePause, hs]
    · split
      · exact congrArg SeqState.inTest (congrArg Tsq.state (enterHeld_tsq _ _ _))
      all_goals exact h
    · exact h

namespace EventWalk

variable {I : State → Prop} (W : EventWalk I) {s : State}

include W

theorem abort (h : I s) (p : List Byte) : I (decideAbort p s).state := by
  rcases withEmpty_cases p s _ with hs | hs <;> rw [decideAbort, hs]
  · split
    · rename_i hq
      exact W.ended _ _ h (by rw [State.inTest, hq]; rfl)
    · exact W.enterEnding h (.inl ‹_›) _
    · exact W.enterEnding h (.inr ‹_›) _
    all_goals exact h
  · exact h

theorem stopMove (h : I s) (p : List Byte) : I (decideStopMove p s).state := by
  rcases withEmpty_cases p s _ with hs | hs <;> rw [decideStopMove, hs]
  · split
    · exact W.reportIfIdle (s := s.onDrl _) (W.onDrl h _)
    · split
      · exact h
      · exact h
    all_goals exact h
  · exact h

theorem resume (h : I s) (p : List Byte) : I (decideResume p s).state := by
  rcases withEmpty_cases p s _ with hs | hs <;> rw [decideResume, hs]
  · split
    · rename_i hq _
      have heval : s.tsq.state.evaluated = true := by rw [hq]; rfl
      have into : ∀ i, I (resumeInto i s) := fun i => W.onTsq h ⟨rfl, rfl, rfl, rfl⟩
      have same : I (resumeSegment s) :=
        W.quiet h ⟨rfl, .inr ⟨heval, rfl⟩, rfl, rfl, rfl, rfl, rfl, .of_eq rfl, rfl⟩
      split
      · exact h
      · unfold resumeHeld resumeOnEnd
        dsimp only
        repeat' split
        · exact h
        · exact into _
        · exact W.enterEnding h (.inr hq) _
        · exact W.enterHeld h heval _ _
        · exact into _
        all_goals exact same
    · exact h
  · exact h

end EventWalk

/-- The answer to a request that ends a test is such an end. -/
theorem decide_ends {a : State} : ∀ d ∈ decisions, ∀ p s, EndsFrom a s → s.inTest = true →
    (d p s).state.tsq.state = .ended → EndsFrom a (d p s).state := by
  have W := endsFrom_walk a
  have unchanged : ∀ {s u : State}, EndsFrom a s → u = s → EndsFrom a u := fun h hu => hu.symm ▸ h
  have goesOn : ∀ {u : State}, u.inTest = true → u.tsq.state = .ended → EndsFrom a u := fun hin hended =>
    absurd hended (not_ended_of_inTest hin)
  have stays : ∀ {s u : State}, s.inTest = true → u.tsq.state = s.tsq.state → u.tsq.state = .ended → EndsFrom a u :=
    fun hin hs hended => absurd (hs ▸ hended) (not_ended_of_inTest hin)
  have locked := fun {s : State} (hin : s.inTest = true) (p : List Byte) => decision_locked hin p
  have inTest := fun {s : State} (hin : s.inTest = true) (p : List Byte) => decision_inTest hin p
  rw [forall_decisions]
  refine ⟨?_, ?_, ?_, ?_, ?_, ?_, ?_, ?_, fun p s h hin _ => unchanged h (locked hin p).1,
    fun p s h hin _ => unchanged h (locked hin p).2.1, fun p s h hin _ => unchanged h (locked hin p).2.2.1, ?_,
    fun p s h hin _ => unchanged h (locked hin p).2.2.2, fun p s _ hin hended => goesOn (inTest hin p).1 hended,
    fun p s h hin _ => unchanged h (decideStartTest_inTest hin p),
    fun p s _ hin hended => goesOn (inTest hin p).2 hended,
    fun p s h _ _ => W.resume h p, fun p s h _ _ => W.abort h p, ?_, ?_, ?_, ?_,
    fun p s h _ _ => W.stopMove h p, ?_, ?_, ?_, ?_, ?_, ?_, ?_, ?_, ?_, ?_, ?_, ?_⟩
  all_goals exact fun p s _ hin hended => stays hin (by simp [decideUnknown, refuse]) hended

/-! ### A command that brings no measured point -/

theorem LinkTurn.quiet {s u : State} (h : LinkTurn s u) : Quiet s u := by
  obtain ⟨tsq, evu, -, -, -, sms, latest⟩ := h.blocks
  exact .of_same ⟨evu, tsq, latest, by rw [h.pending], by rw [sms], by rw [sms]⟩

theorem effect_ends {s t : State} (hin : s.inTest = true) (h : Effect s t) (hended : t.tsq.state = .ended) :
    EndsFrom s t := by
  have W := endsFrom_walk s
  have start := EndsFrom.refl hin
  cases h with
  | link hu => exact W.quiet start hu.quiet
  | reset raw u => simp [resetPart_empty] at hended
  | held => exact absurd hended (not_ended_of_inTest hin)
  | answer hd k tag p hu =>
    have turned := W.quiet start hu.quiet
    have inTest : _ := hin
    rw [State.inTest, ← hu.blocks.1] at inTest
    exact W.same (decide_ends _ hd p _ turned inTest hended) (by simp [queueReply])
  | event hf => exact W.event start hf

end Sys2Proof.Proofs
end

section
/-! The measured points that end a test outside its evaluation (O55): a point of a start, a trip that the drive finds,
and a drive that comes to rest in ENDING (R22, R25, R38, R57, R174). -/

namespace Sys2Proof.Proofs

open Sys2Proof.Machine Sys2Proof.Laws

/-! ### A consumer that leaves the sequencer or ends the test -/

/-- The sequencer stands, or the test has ended. -/
def StaysOrEnds (s t : State) : Prop := t.tsq = s.tsq ∨ t.tsq.state = .ended

namespace StaysOrEnds

variable {s t u : State}

theorem trans (a : StaysOrEnds s t) (b : StaysOrEnds t u) : StaysOrEnds s u := by
  rcases b with same | hended
  · rcases a with hs | hended
    · exact .inl (same.trans hs)
    · exact .inr (by rw [same, hended])
  · exact .inr hended

theorem takeCause (k : TripCause) (s : State) : StaysOrEnds s (takeCause k s) := by
  cases htrip : s.lmu.trip with
  | clear =>
    have tripped := takeCause_trips (k := k) htrip
    cases hin : s.inTest with
    | true => exact .inr (tripped.test hin).1
    | false => exact .inl (tripped.idle hin).1
  | latched => exact .inl (takeCause_onward htrip).tsq

theorem reportIfIdle (s : State) : StaysOrEnds s (reportIfIdle s) := by
  unfold Machine.reportIfIdle reportIdle
  repeat' split
  · exact .inl (by simp)
  · exact .inr (by rw [enterEnded_tsq])
  · exact .inl rfl
  · exact .inl rfl

theorem readyPoint (ready : Bool) (s : State) : StaysOrEnds s (readyPoint ready s) := by
  unfold Machine.readyPoint
  dsimp only
  split
  · exact .trans (t := s.onDrl _) (.inl rfl) (takeCause _ _)
  · exact .inl rfl

theorem readbackPoint (code held : Int) (s : State) : StaysOrEnds s (readbackPoint code held s) := by
  unfold Machine.readbackPoint reportReadback
  repeat' split
  · exact .trans (t := s.onDrl _) (.inl rfl) (takeCause _ _)
  · exact .inl rfl
  · exact .inl rfl

/-- Outside RUNNING the work of the drive holds no test. -/
theorem drivePointWork {s : State} (hq : s.tsq.state ≠ .running) (ready first : Bool) (p : Point) :
    StaysOrEnds s (drivePointWork ready first p s) := by
  have stops : ∀ u : State, u.tsq = s.tsq → StaysOrEnds s (Machine.reportIfIdle u) := fun u hu =>
    .trans (.inl hu) (reportIfIdle u)
  unfold Machine.drivePointWork
  split
  · exact .inl (by simp)
  · unfold runningDrive
    split
    · exact .inl rfl
    · dsimp only
      split
      · refine stops _ ?_
        rw [holdCause, if_neg (by simpa using hq)]
        simp
      · exact .inl (by simp)
  · exact stops _ rfl
  · unfold movingDrive
    split
    · exact .inl rfl
    · split
      · exact .inl (by simp)
      · dsimp only
        split
        · exact stops _ (by simp)
        · exact .inl rfl
  all_goals exact .inl rfl

end StaysOrEnds

/-! ### The states of the point -/

/-- Forming the point raises no RESULT and stores nothing. -/
theorem formedOn_result (s : State) (c : Conversion) :
    (formedOn s c).state.cli.pending.result = s.cli.pending.result ∧
    (formedOn s c).state.sms.ring = s.sms.ring := by
  have ranged : ∀ u raw (v : State), (rangeLogic u raw v).cli.pending.result = v.cli.pending.result := fun u raw v => by
    unfold rangeLogic
    dsimp only
    repeat' split
    all_goals simp [rangeChange]
  have waited : ∀ v : State, (tareWaitPoint v).cli.pending.result = v.cli.pending.result := fun v => by
    unfold tareWaitPoint
    repeat' split
    all_goals simp [closeTareWait, tareWaitOut]
  refine ⟨?_, by simp [formedOn]⟩
  rw [formedOn_state, ranged, waited, (signalledOn_records s c).2.2]

section
variable {s : State} {c : Conversion} (hin : s.inTest = true)

/-- The drive leaves a test that is not RUNNING or ends it. -/
theorem drivenOn_stays (hq : s.tsq.state ≠ .running) : StaysOrEnds s (drivenOn s c) := by
  have formed : StaysOrEnds s (pacingPoint (formedOn s c).state) := .inl (by simp [(formedOn_frame s c).1])
  have sampled : StaysOrEnds s (sampledOn s c) :=
    (formed.trans (.readyPoint _ _)).trans (.readbackPoint _ _ _)
  by_cases hended : (sampledOn s c).tsq.state = .ended
  · exact sampled.trans (.drivePointWork (by simp [hended]) _ _ _)
  · exact sampled.trans (.drivePointWork (by rwa [sampled.resolve_right hended]) _ _ _)

include hin

theorem formedOn_inTest : (formedOn s c).state.inTest = true := by rwa [State.inTest, (formedOn_frame s c).1]

theorem drivenOn_endsFrom : EndsFrom (formedOn s c).state (drivenOn s c) := by
  have W := endsFrom_walk (formedOn s c).state
  have paced := W.pacingPoint (.refl (formedOn_inTest hin))
  exact W.drivePointWork (W.readbackPoint (W.readyPoint paced _) _ _) _ _ _

/-- A test that the drive has ended is touched by no later consumer. -/
theorem passedOn_endsFrom (hended : (drivenOn s c).tsq.state = .ended) :
    EndsFrom (formedOn s c).state (passedOn s c) := by
  have idle : passedOn s c = drivenOn s c := passTest_idle (s := drivenOn s c) (by rw [State.inTest, hended]; rfl)
  rw [idle]
  exact drivenOn_endsFrom hin

/-- A point of a start before its entry. -/
theorem passedOn_starting (hq : s.tsq.state = .starting) (hstep : s.tsq.startStep ≠ some .entry) :
    EndsFrom (formedOn s c).state (passedOn s c) := by
  have W := endsFrom_walk (formedOn s c).state
  by_cases hended : (drivenOn s c).tsq.state = .ended
  · exact passedOn_endsFrom hin hended
  · have same := (drivenOn_stays (c := c) (by simp [hq])).resolve_right hended
    have driven := drivenOn_endsFrom (c := c) hin
    have starts : (drivenOn s c).tsq.state = .starting := by rw [same, hq]
    have unevaluated : (drivenOn s c).tsq.state.evaluated = false := by rw [starts]; rfl
    have passed : passedOn s c = startingPoint (formedOn s c).point (drivenOn s c) := by
      rw [passedOn, passTest, ← drivenOn, evaluationPoint_unevaluated unevaluated,
        managerPoint_unevaluated unevaluated, sequencerPoint, starts]
    rw [passed, startingPoint]
    split
    · exact W.beginTare driven
    · exact W.waitTare driven starts
    · exact driven
    · exact absurd ‹_› (by rwa [same])

omit hin in
/-- The end of a test on a point that has brought it no end up to the Limit Monitor, or the one that it has brought. -/
theorem afterPoint_endsFrom (h : EndsFrom (formedOn s c).state (passedOn s c))
    (hended : (afterPoint s c).tsq.state = .ended) : EndsFrom (formedOn s c).state (afterPoint s c) := by
  have loaded : EndsFrom (formedOn s c).state (loadedOn s c) := (endsFrom_walk _).limitPoint h _ _
  have recorded : (loadedOn s c).sms.recording = false := loaded.recording (by simpa [afterPoint] using hended)
  have stored : afterPoint s c = loadedOn s c := by simp [afterPoint, offerPoint, recorded]
  rw [stored]
  exact loaded

end

/-! ### A drive that comes to rest in ENDING (R38, R57) -/

theorem drivenOn_ended {s : State} {c : Conversion} (hcalm : s.calm c) (hq : s.tsq.state = .ending)
    (hended : (afterPoint s c).tsq.state = .ended) : (drivenOn s c).tsq.state = .ended := by
  refine (drivenOn_stays (by simp [hq])).resolve_left fun same => ?_
  have passed : (passedOn s c).tsq = (drivenOn s c).tsq := (passTest_ending (s := drivenOn s c) (by rw [same, hq])).1
  rw [(afterPoint_rest hcalm).1, passed, same, hq] at hended
  cases hended

/-- A point that ends a test as O55 says is such an end. -/
theorem conversion_ends {s : State} {c : Conversion} (hin : s.inTest = true)
    (hended : (afterPoint s c).tsq.state = .ended)
    (h : s.tsq.state = .starting ∧ s.tsq.startStep ≠ some .entry ∨ s.tsq.state = .ending ∧ s.calm c ∨
      s.lmu.trip = .clear ∧ (c.driveReady = false ∧ ¬ s.readyUnwatched ∨ s.misread c ∧ 3 ≤ s.drl.mismatches)) :
    EndsFrom (formedOn s c).state (afterPoint s c) := by
  refine afterPoint_endsFrom ?_ hended
  rcases h with ⟨hq, hstep⟩ | ⟨hq, hcalm⟩ | ⟨hclear, hfound⟩
  · exact passedOn_starting hin hq hstep
  · exact passedOn_endsFrom hin (drivenOn_ended hcalm hq hended)
  · have found : foundOn s c .driveReadyLost = true ∨ foundOn s c .commandReadback = true := by
      refine hfound.imp (fun ⟨hready, hwatch⟩ => ?_) fun ⟨hmis, hmany⟩ => ?_
      · simp [foundOn, (watchesReady_iff s).2 hwatch, hready]
      · simp only [foundOn, Bool.and_eq_true, decide_eq_true_eq]
        exact ⟨hmis, hmany⟩
    have tripped := drive_trips hclear found
    have driven : drivenOn s c = sampledOn s c := drivePointWork_tripped tripped.drive.1
    exact passedOn_endsFrom hin (by rw [driven]; exact (tripped.test hin).1)

end Sys2Proof.Proofs
end

section
/-! What an end outside the evaluation leaves (O55): the fields that it closes, the fallback that it takes (R138, R150,
R151). -/

namespace Sys2Proof.Proofs

open Sys2Proof.Machine Sys2Proof.Laws

/-- The fields that an end closes, those of the fit apart. -/
def ClosedApart (reason : Absence) (r r' : ResultRecord) : Prop :=
  r.rp.closedFor reason r'.rp ∧ r.reh.closedFor reason r'.reh ∧ r.rel.closedFor reason r'.rel ∧
  r.rm.closedFor reason r'.rm ∧ r.ag.closedFor reason r'.ag ∧ r.fractureForce.closedFor reason r'.fractureForce ∧
  r.a.closedFor reason r'.a

theorem endRecord_closes (why : EndReason) (r : ResultRecord) :
    ClosedApart why.absence r (endRecord why r) ∧ r.e.closedFor why.absence (endRecord why r).e ∧
    r.x0.closedFor why.absence (endRecord why r).x0 := by
  have closes := close_closedFor why.absence
  exact ⟨⟨closes _, closes _, closes _, closes _, closes _, closes _, closes _⟩, closes _, closes _⟩

/-- The reason that the fields of a test take that ends outside its evaluation. -/
theorem absence_of_end {why : EndReason} (h : why ≠ .fracture) :
    why.absence = if why = .complete then .notReached else .testAborted := by
  cases why with
  | fracture => exact absurd rfl h
  | _ => rfl

/-- The base that a command ends a test from has the test's evaluation, its sequencer, its ring and RESULT. -/
structure SameTest (s a : State) : Prop where
  evu : a.evu = s.evu
  tsq : a.tsq = s.tsq
  ring : a.sms.ring = s.sms.ring
  result : a.cli.pending.result = s.cli.pending.result

/-- A command that ends a test as O55 says is such an end. -/
theorem command_ends {k : Instr} {s t : State} (hin : s.inTest = true) (hx : exec k s = .next t)
    (hended : t.tsq.state = .ended)
    (h : ∀ c, k = .conversionComplete c →
      s.tsq.state = .starting ∧ s.tsq.startStep ≠ some .entry ∨ s.tsq.state = .ending ∧ s.calm c ∨
      s.lmu.trip = .clear ∧ (c.driveReady = false ∧ ¬ s.readyUnwatched ∨ s.misread c ∧ 3 ≤ s.drl.mismatches)) :
    ∃ a, SameTest s a ∧ EndsFrom a t := by
  rcases exec_effect hx with ⟨c, rfl, hrun, -⟩ | effect
  · have after : t = afterPoint s c := by
      rw [exec_afterPoint hrun] at hx
      injection hx with hx
      exact hx.symm
    subst after
    obtain ⟨htsq, hevu, -⟩ := formedOn_frame s c
    obtain ⟨result, ring⟩ := formedOn_result s c
    exact ⟨_, ⟨hevu, htsq, ring, result⟩, conversion_ends hin hended (h c rfl)⟩
  · exact ⟨s, ⟨rfl, rfl, rfl, rfl⟩, effect_ends hin effect hended⟩

/-- The evaluation record of the test that has ended. -/
theorem EndsFrom.ended_evu {s a t : State} {why : EndReason} (h : EndsFrom a t) (same : SameTest s a)
    (hended : t.tsq.state = .ended) (hwhy : t.tsq.endReason = some why) :
    ∃ n, t.evu =
      endedEvu s.header (s.tsq.specimen.bind (·.nominalModulus)) why t.latest.index (withSlips n s.evu) := by
  obtain ⟨n, ⟨hin, -⟩ | ⟨-, why', hwhy', he⟩⟩ := h.record
  · exact absurd hended (not_ended_of_inTest hin)
  · obtain rfl : why = why' := by simpa [hwhy] using hwhy'
    have header : a.header = s.header := header_congr same.tsq
    have latest : a.latest = t.latest := by rw [State.latest, State.latest, h.latest]
    exact ⟨n, by rw [he, header, same.tsq, same.evu, latest]⟩

/-- The record of a test that ends with no fallback to take. -/
theorem ended_closes {s t : State} {why : EndReason} {r : ResultRecord} {n : Nat → Nat}
    (hevu : t.evu = endedEvu s.header (s.tsq.specimen.bind (·.nominalModulus)) why t.latest.index (withSlips n s.evu))
    (hr : s.evu.result = some r) (h : s.evu.fit ≠ .collecting ∨ s.fallback = none) :
    ∃ r', t.evu.result = some r' ∧ r'.endReason = some why ∧ ClosedApart why.absence r r' ∧
      r.e.closedFor why.absence r'.e ∧ r.x0.closedFor why.absence r'.x0 ∧ t.evu.line = s.evu.line ∧
      t.evu.search = (if s.evu.search = .opened then .closed else s.evu.search) := by
  obtain ⟨-, -, -, -, -, -, -, -, fit, line, search, -⟩ := withSlips_frame n s.evu
  obtain ⟨tresult, tline, tsearch⟩ := endedEvu_closes s.header (s.tsq.specimen.bind (·.nominalModulus)) why
    t.latest.index (withSlips n s.evu) (by rwa [fit])
  rw [← hevu] at tresult tline tsearch
  obtain ⟨apart, e, x0⟩ := endRecord_closes why { r with slipCount := n r.slipCount }
  exact ⟨_, by rw [tresult]; simp [withSlips, hr], rfl, apart, e, x0, tline.trans line, by rw [tsearch, search]⟩

/-- The record of a test that ends with its fit collecting and a fallback. -/
theorem ended_fallsBack {s t : State} {why : EndReason} {r : ResultRecord} {n : Nat → Nat} {m : Nat}
    (hevu : t.evu = endedEvu s.header (s.tsq.specimen.bind (·.nominalModulus)) why t.latest.index (withSlips n s.evu))
    (hr : s.evu.result = some r) (hfit : s.evu.fit = .collecting) (hm : s.fallback = some m) :
    ∃ r', t.evu.result = some r' ∧ r'.endReason = some why ∧ ClosedApart why.absence r r' ∧
      (r.e = .opened → r'.e = .fixed m t.latest.index) ∧
      (r.x0 = .opened → r'.x0 = .fixed (fallbackIntercept s.evu.sums m) t.latest.index) ∧ r'.fallbackUsed = true ∧
      r'.fitCount = s.evu.sums.n ∧ t.evu.line = some ⟨m, fallbackIntercept s.evu.sums m, true⟩ ∧
      t.evu.search = (if 0 < s.header.offsetStrain ∨ s.evu.search = .opened then .closed else s.evu.search) := by
  obtain ⟨-, sums, -, -, -, -, -, -, fit, -, search, -⟩ := withSlips_frame n s.evu
  obtain ⟨tresult, tline, tsearch⟩ := endedEvu_fallsBack s.header (s.tsq.specimen.bind (·.nominalModulus)) why
    t.latest.index (withSlips n s.evu) (fit.trans hfit) (m := m) hm
  rw [← hevu, sums] at tresult tline
  rw [← hevu, search] at tsearch
  obtain ⟨apart, -⟩ := endRecord_closes why (lineRecord ⟨m, fallbackIntercept s.evu.sums m, true⟩ s.evu.sums.n
    t.latest.index { r with slipCount := n r.slipCount })
  refine ⟨_, by rw [tresult]; simp [withSlips, hr], rfl, apart, fun he => ?_, fun hx => ?_, rfl, rfl, tline, tsearch⟩
  · simp [endRecord, ResultRecord.closeAll, lineRecord, he, Field.fix, Field.close]
  · simp [endRecord, ResultRecord.closeAll, lineRecord, hx, Field.fix, Field.close]

end Sys2Proof.Proofs
end

section
/-! The entry point of a test (O55): the evaluation record that it makes, in the state after the point, and that it
raises no RESULT (R24, R117, R134, R138, R152). -/

namespace Sys2Proof.Proofs

open Sys2Proof.Machine Sys2Proof.Laws

/-! ### RESULT at the entry (R152) -/

@[simp] theorem headTestEntry_result (x : Head) (s : State) :
    (headTestEntry x s).cli.pending.result = s.cli.pending.result := by
  unfold headTestEntry
  split <;> simp

@[simp] theorem extTestEntry_result (s : State) : (extTestEntry s).cli.pending.result = s.cli.pending.result := by
  unfold extTestEntry
  dsimp only
  split <;> simp

@[simp] theorem storeRecord_result (guaranteed : Bool) (k : RecordKind) (seg : Option Nat) (p : Point) (s : State) :
    (storeRecord guaranteed k seg p s).cli.pending.result = s.cli.pending.result := by
  simp only [storeRecord, pacingStored, pacingCount]
  repeat' split
  all_goals simp

@[simp] theorem decideThinning_result (s : State) :
    (decideThinning s).cli.pending.result = s.cli.pending.result := by
  unfold decideThinning
  dsimp only
  split <;> simp

@[simp] theorem offerSegmentStart_result (i : Nat) (p : Point) (s : State) :
    (offerSegmentStart i p s).cli.pending.result = s.cli.pending.result := by
  unfold offerSegmentStart
  dsimp only
  repeat' split
  all_goals simp

@[simp] theorem reachSegment_result (i : Nat) (p : Point) (s : State) :
    (reachSegment i p s).cli.pending.result = s.cli.pending.result := by
  unfold reachSegment enterSegment
  dsimp only
  repeat' split
  all_goals simp

@[simp] theorem offerPoint_result (p : Point) (s : State) :
    (offerPoint p s).cli.pending.result = s.cli.pending.result := by
  unfold offerPoint decidePoint
  dsimp only
  repeat' split
  all_goals simp

theorem testEntry_result (p : Point) (s : State) :
    (testEntry p s).cli.pending.result = s.cli.pending.result := by
  simp [testEntry_eq, entryState]

/-- The last consumers of a calm point raise no RESULT. -/
theorem afterPoint_raised {s : State} {c : Conversion} (h : s.calm c) :
    (afterPoint s c).cli.pending.result = (passedOn s c).cli.pending.result := by
  obtain ⟨n, hn⟩ := limitPoint_quiet (p := (formedOn s c).point) (passedOn_unloaded h)
  obtain ⟨-, -, -, hfault, -⟩ := h
  have quiet : loadedOn s c = (passedOn s c).onLmu fun m => { m with driveFault := .inactive, overloadCount := n } := by
    rw [← hn, ← hfault]
    rfl
  simp [afterPoint, quiet]

/-! ### The record at the entry (R134, R138) -/

/-- The result record with the fields closed that are not asked for, those of the fit apart. -/
def notAsked (hd : PlanHeader) (r : ResultRecord) : ResultRecord := yieldNotAsked hd (offsetNotAsked hd r)

theorem notAsked_closes (hd : PlanHeader) (r : ResultRecord) :
    (hd.offsetStrain = 0 → r.rp.closedFor .notRequested (notAsked hd r).rp) ∧
    (0 < hd.offsetStrain → (notAsked hd r).rp = r.rp) ∧
    (hd.yieldDrop = 0 → r.reh.closedFor .notRequested (notAsked hd r).reh ∧
      r.rel.closedFor .notRequested (notAsked hd r).rel) ∧
    (0 < hd.yieldDrop → (notAsked hd r).reh = r.reh ∧ (notAsked hd r).rel = r.rel) := by
  have closes := close_closedFor .notRequested
  unfold notAsked yieldNotAsked offsetNotAsked
  refine ⟨fun h => ?_, fun h => ?_, fun h => ?_, fun h => ?_⟩
  · rw [if_pos h]
    split <;> exact closes _
  · rw [if_neg (Nat.pos_iff_ne_zero.1 h)]
    split <;> rfl
  · rw [if_pos h]
    split <;> exact ⟨closes _, closes _⟩
  · rw [if_neg (Nat.pos_iff_ne_zero.1 h)]
    split <;> exact ⟨rfl, rfl⟩

theorem notAsked_fields (hd : PlanHeader) (r : ResultRecord) :
    (notAsked hd r).e = r.e ∧ (notAsked hd r).x0 = r.x0 ∧ (notAsked hd r).rm = r.rm ∧ (notAsked hd r).ag = r.ag ∧
    (notAsked hd r).fractureForce = r.fractureForce ∧ (notAsked hd r).a = r.a ∧
    (notAsked hd r).slipCount = r.slipCount ∧ (notAsked hd r).endReason = r.endReason := by
  unfold notAsked yieldNotAsked offsetNotAsked
  repeat' split
  all_goals simp

theorem enteredEvu_eq (measuring : Bool) (hd : PlanHeader) (e : Evu) :
    enteredEvu measuring hd e =
      { e with
        phase := .elastic, maxPassedArmed := true, fit := if measuring then .collecting else .notRequested
        result := e.result.map (notAsked hd) } := by
  simp only [enteredEvu, Evu.onResult, Option.map_map]
  rfl

/-- The fit of a test that nothing measures leaves the other fields (R134). -/
theorem fitNotAsked_fields (hd : PlanHeader) (nominal : Option Nat) (i : Nat) (e : Evu) :
    (fitNotAsked hd nominal i e).phase = e.phase ∧ (fitNotAsked hd nominal i e).fit = e.fit ∧
    (fitNotAsked hd nominal i e).maxPassedArmed = e.maxPassedArmed ∧
    (fitNotAsked hd nominal i e).search = e.search ∧ (fitNotAsked hd nominal i e).sums = e.sums ∧
    (fitNotAsked hd nominal i e).result.map (·.rp) = e.result.map (·.rp) ∧
    (fitNotAsked hd nominal i e).result.map (·.reh) = e.result.map (·.reh) ∧
    (fitNotAsked hd nominal i e).result.map (·.rel) = e.result.map (·.rel) ∧
    (fitNotAsked hd nominal i e).result.map (·.rm) = e.result.map (·.rm) ∧
    (fitNotAsked hd nominal i e).result.map (·.ag) = e.result.map (·.ag) ∧
    (fitNotAsked hd nominal i e).result.map (·.fractureForce) = e.result.map (·.fractureForce) ∧
    (fitNotAsked hd nominal i e).result.map (·.a) = e.result.map (·.a) ∧
    (fitNotAsked hd nominal i e).result.map (·.slipCount) = e.result.map (·.slipCount) ∧
    (fitNotAsked hd nominal i e).result.map (·.endReason) = e.result.map (·.endReason) := by
  unfold fitNotAsked
  split <;> simp [Function.comp_def]

/-- Without a fallback E and x0 close; with one they are fixed from it on the point. -/
theorem fitNotAsked_fit (hd : PlanHeader) (nominal : Option Nat) (i : Nat) {e : Evu} {r : ResultRecord}
    (hr : e.result = some r) :
    (fallbackModulus hd nominal = none → (fitNotAsked hd nominal i e).line = e.line ∧
      (fitNotAsked hd nominal i e).result =
        some { r with e := r.e.close .notRequested, x0 := r.x0.close .notRequested }) ∧
    (∀ m, fallbackModulus hd nominal = some m →
      (fitNotAsked hd nominal i e).line = some ⟨m, fallbackIntercept e.sums m, true⟩ ∧
      (fitNotAsked hd nominal i e).result =
        some (lineRecord ⟨m, fallbackIntercept e.sums m, true⟩ e.sums.n i r)) := by
  refine ⟨fun h => ?_, fun m h => ?_⟩
  · rw [fitNotAsked, h]
    simp [hr]
  · have fixed : (fixLine ⟨m, fallbackIntercept e.sums m, true⟩ i e).result =
        e.result.map (lineRecord ⟨m, fallbackIntercept e.sums m, true⟩ e.sums.n i) := rfl
    rw [fitNotAsked, h]
    exact ⟨rfl, fixed.trans (by rw [hr]; rfl)⟩

/-! ### The state after the entry point -/

section
variable {s : State} {c : Conversion} (hcalm : s.calm c) (hidle : s.drl.state = .idle)
include hcalm hidle

/-- A drive that rests IDLE does nothing on the point. -/
theorem drivenOn_idle : drivenOn s c = sampledOn s c := by
  have idle : (sampledOn s c).drl.state = .idle := (sampledOn_of_calm hcalm).motion.state.trans hidle
  simp [drivenOn, drivePointWork, idle]

/-- Up to the Test Sequencer the point leaves the evaluation, RESULT, and the heads but for their readings. -/
theorem drivenOn_entry :
    (drivenOn s c).tsq = s.tsq ∧ (drivenOn s c).evu = s.evu ∧
    (drivenOn s c).cli.pending.result = s.cli.pending.result ∧
    ∀ h, ((drivenOn s c).exm.heads.get h).testHead = (s.exm.heads.get h).testHead ∧
      ((drivenOn s c).exm.heads.get h).state = (s.exm.heads.get h).state := by
  have sampled := sampledOn_of_calm hcalm
  rw [drivenOn_idle hcalm hidle]
  obtain ⟨-, hready, hread, -⟩ := hcalm
  have exm : (sampledOn s c).exm = (formedOn s c).state.exm := by simp [sampledOn_calm hready hread]
  refine ⟨sampled.tsq, sampled.evu, ?_, fun h => ?_⟩
  · simp [sampledOn_calm hready hread, (formedOn_result s c).1]
  · rw [exm, formedOn_heads]
    exact judge_keeps _

end

/-- A head measures once the test is entered: one that did, or one of the test's that was CLAMPED (R117). -/
theorem entry_measures {s u : State} (hheads : ∀ h, (u.exm.heads.get h).testHead = (s.exm.heads.get h).testHead ∧
      (u.exm.heads.get h).state = (s.exm.heads.get h).state) :
    decide (0 < (extTestEntry u).exm.heads.count fun e => e.state = .measuring) = true ↔
      ∃ h, (s.exm.heads.get h).state = .measuring ∨
        (s.exm.heads.get h).testHead = true ∧ (s.exm.heads.get h).state = .clamped := by
  rw [decide_eq_true_iff, perHead_count_pos]
  refine exists_congr fun h => ?_
  obtain ⟨testHead, state⟩ := hheads h
  rw [decide_eq_true_iff, extTestEntry_state, testHead, state]
  by_cases hc : (s.exm.heads.get h).testHead = true ∧ (s.exm.heads.get h).state = .clamped
  · simp [hc]
  · simp [hc]

/-- The entry point of a test leaves the evaluation record that it makes, and RESULT as it was. -/
theorem afterPoint_entered {s : State} {c : Conversion} (hcalm : s.calm c) (hq : s.tsq.state = .starting)
    (hstep : s.tsq.startStep = some .entry) (hidle : s.drl.state = .idle) :
    ∃ measuring : Bool,
      (measuring = true ↔ ∃ h, (s.exm.heads.get h).state = .measuring ∨
        (s.exm.heads.get h).testHead = true ∧ (s.exm.heads.get h).state = .clamped) ∧
      (afterPoint s c).evu =
        (if measuring then enteredEvu measuring s.header s.evu
         else fitNotAsked s.header (s.tsq.specimen.bind (·.nominalModulus)) (formedOn s c).point.index
          (enteredEvu measuring s.header s.evu)) ∧
      (afterPoint s c).cli.pending.result = s.cli.pending.result := by
  obtain ⟨tsq, evu, result, heads⟩ := drivenOn_entry hcalm hidle
  have unevaluated : (drivenOn s c).tsq.state.evaluated = false := by rw [tsq, hq]; rfl
  have passed : passedOn s c = testEntry (formedOn s c).point (drivenOn s c) := by
    rw [passedOn, passTest, ← drivenOn, evaluationPoint_unevaluated unevaluated,
      managerPoint_unevaluated unevaluated, sequencerPoint, tsq, hq]
    exact startingPoint_entry (by rw [tsq, hstep])
  refine ⟨_, entry_measures heads, ?_, ?_⟩
  · have header : (extTestEntry (drivenOn s c)).header = s.header := header_congr (by simp [tsq])
    rw [(afterPoint_rest hcalm).2.1, passed, testEntry_eq]
    simp only [reachSegment_frame, entryState, onTsq_evu, storeMark_frame]
    rw [evalEntry_evu, header]
    simp [tsq, evu]
  · rw [afterPoint_raised hcalm, passed, testEntry_result, result]

end Sys2Proof.Proofs
end

section
/-! The settled statement on the fields that close at the entry and at the end of a test (O55; R134, R138, R150 to
R152). -/

namespace Sys2Proof.Proofs

open Sys2Proof.Machine Sys2Proof.Laws

/-- Settles O55: an end outside the evaluation walks from the test as it was to the record that its end makes of it,
and the entry point leaves the record that the entry makes. -/
theorem resultFieldsCloseAtEntryAndEnd : Obligations.ResultFieldsCloseAtEntryAndEnd := by
  refine ⟨fun s k t r why hin hx hended hwhy hne hr hconv => ?_, fun s c r hcalm hq hstep hidle hr => ?_⟩
  · obtain ⟨a, same, ends⟩ := command_ends hin hx hended hconv
    obtain ⟨n, hevu⟩ := ends.ended_evu same hended hwhy
    obtain ⟨fit, tracker, phase⟩ := endedEvu_fit s.header (s.tsq.specimen.bind (·.nominalModulus)) why t.latest.index
      (withSlips n s.evu)
    obtain ⟨sphase, -, -, -, -, -, -, -, sfit, -⟩ := withSlips_frame n s.evu
    rw [← hevu, sfit] at fit
    rw [← hevu] at tracker phase
    have result := ends.result.trans same.result
    have ring : ∀ x ∈ t.sms.ring.drop s.sms.ring.length, x.kind = .testEnd ∨ x.kind = .handover :=
      same.ring ▸ ends.ring.drop
    have reasoned := absence_of_end hne
    by_cases h : s.evu.fit ≠ .collecting ∨ s.fallback = none
    · obtain ⟨r', hr', reason, apart, he, hx0, line, search⟩ := ended_closes hevu hr h
      rw [reasoned] at apart he hx0 fit
      obtain ⟨rp, reh, rel, rm, ag, force, ha⟩ := apart
      refine ⟨r', hr', reason, rp, reh, rel, rm, ag, force, ha, fun _ => ⟨he, hx0, line, search⟩,
        fun m hcollects hm => ?_, fit, phase.trans sphase, tracker, result, ring⟩
      rcases h with hno | hno
      · exact absurd hcollects hno
      · simp [hno] at hm
    · obtain ⟨hcollects, hsome⟩ := not_or.1 h
      obtain ⟨m, hm⟩ := Option.ne_none_iff_exists'.1 hsome
      obtain ⟨r', hr', reason, apart, he, hx0, used, count, line, search⟩ :=
        ended_fallsBack hevu hr (not_not.1 hcollects) hm
      rw [reasoned] at apart fit
      obtain ⟨rp, reh, rel, rm, ag, force, ha⟩ := apart
      refine ⟨r', hr', reason, rp, reh, rel, rm, ag, force, ha, fun hno => absurd hno h, fun m' _ hm' hre hrx => ?_,
        fit, phase.trans sphase, tracker, result, ring⟩
      obtain rfl : m = m' := Option.some.inj (hm.symm.trans hm')
      exact ⟨he hre, hx0 hrx, used, count, line, search⟩
  · obtain ⟨measuring, measures, hevu, result⟩ := afterPoint_entered hcalm hq hstep hidle
    have entered := enteredEvu_eq measuring s.header s.evu
    have hr1 : (enteredEvu measuring s.header s.evu).result = some (notAsked s.header r) := by rw [entered, hr]; rfl
    obtain ⟨offset, noOffset, yields, noYields⟩ := notAsked_closes s.header r
    obtain ⟨fe, fx0, frm, fag, fforce, fa, fslips, freason⟩ := notAsked_fields s.header r
    cases hm : measuring with
    | true =>
      subst hm
      rw [if_pos rfl] at hevu
      refine ⟨afterPoint s c, (formedOn s c).point, notAsked s.header r, exec_afterPoint hcalm.1, afterPoint_latest s c,
        by rw [hevu, hr1], ?_⟩
      intro measured sums
      rw [hevu, entered]
      refine ⟨rfl, rfl, rfl, rfl, offset, noOffset, yields, noYields, frm, fag, fforce, fa, fslips, freason, result,
        fun _ => ⟨rfl, fe, fx0, rfl⟩, fun hno => absurd (measures.1 rfl) hno⟩
    | false =>
      subst hm
      rw [if_neg Bool.false_ne_true] at hevu
      have unmeasured := fun yes => Bool.false_ne_true (measures.2 yes)
      obtain ⟨phase, fit, armed, search, sums, rp, reh, rel, rm, ag, force, ha, slips, reason⟩ :=
        fitNotAsked_fields s.header (s.tsq.specimen.bind (·.nominalModulus)) (formedOn s c).point.index
          (enteredEvu false s.header s.evu)
      obtain ⟨closes, falls⟩ :=
        fitNotAsked_fit s.header (s.tsq.specimen.bind (·.nominalModulus)) (formedOn s c).point.index hr1
      obtain ⟨r', hr', -⟩ := fitNotAsked_goesOn s.header (s.tsq.specimen.bind (·.nominalModulus))
        (formedOn s c).point.index (enteredEvu false s.header s.evu) _ hr1
      rw [← hevu] at phase fit armed search sums rp reh rel rm ag force ha slips reason closes falls hr'
      have same : ∀ {α : Type} {f : ResultRecord → α},
          (afterPoint s c).evu.result.map f = (enteredEvu false s.header s.evu).result.map f →
          f r' = f (notAsked s.header r) := fun h => record_eq h hr1 hr'
      have krp := same rp
      have kreh := same reh
      have krel := same rel
      rw [entered] at phase fit armed search sums closes falls
      rw [hr'] at closes falls
      refine ⟨afterPoint s c, (formedOn s c).point, r', exec_afterPoint hcalm.1, afterPoint_latest s c, hr', ?_⟩
      intro measured sums0
      rw [krp, kreh, krel]
      refine ⟨phase, armed, search, sums, offset, noOffset, yields, noYields, (same rm).trans frm, (same ag).trans fag,
        (same force).trans fforce, (same ha).trans fa, (same slips).trans fslips, (same reason).trans freason, result,
        fun yes => absurd yes unmeasured, fun _ => ⟨fit, fun hnone => ?_, fun m hm he hx hn => ?_⟩⟩
      · obtain ⟨line, record⟩ := closes hnone
        obtain rfl := Option.some.inj record
        exact ⟨fe ▸ close_closedFor _ _, fx0 ▸ close_closedFor _ _, line⟩
      · obtain ⟨line, record⟩ := falls m hm
        obtain rfl := Option.some.inj record
        have intercept : fallbackIntercept s.evu.sums m = 0 := if_pos hn
        rw [intercept] at line ⊢
        exact ⟨by simp [lineRecord, fe, he, Field.fix], by simp [lineRecord, fx0, hx, Field.fix], rfl, hn, line⟩

end Sys2Proof.Proofs
end
